-- ==== Sys2Proof/Word.lean ====
section
/-! DEFINITION. Words, bytes and the plainest names of the model's numeric types. -/

namespace Sys2Proof

/-- A byte of a descriptor, a register or a memory. -/
abbrev Byte := BitVec 8

/-- A 32-bit register or DWORD. -/
abbrev Word := BitVec 32

/-- A byte string, first byte first. -/
abbrev Bytes := List Byte

end Sys2Proof
end

