-- ==== Sys2Proof/Syntax.lean ====
section
/-! DEFINITION. The commands of the block: commands of the submission routes, register accesses and events on its ports,
each with its operands. Every command carries `t`, the instant on TB0 at which it occurs, in ns (notes/assumptions/1.md). -/

namespace Sys2Proof

/-- The three command routes (04 R105, R111); an Omnar route names its session ID. -/
inductive Route where
  | host
  | omnar (session : Nat)
  | ivpasto
  deriving DecidableEq, Repr

/-- A submission entry without its opcode (04 R97), its route, its ring slot and the parameter block of an `INDIRECT`
command as the module reads it: `none` where the read fails (04 R118);
`writeFails` where the link refuses the write of its completion (04 R99, cause 0x04). -/
structure Cmd where
  route : Route
  slot : Nat
  flags : Nat
  tgtClass : Nat
  tgtIndex : Nat
  tgtSub : Nat
  rsv : Nat
  tag : Nat
  handle : Nat
  params : Bytes
  block : Option Bytes
  writeFails : Bool
  deriving DecidableEq, Repr


/-- A bulk entry as the module reads it (04 R97), and the buffer of a host-to-module entry: `none` where its read fails. -/
structure BulkRead where
  addr : Nat
  len : Nat
  stream : Nat
  flags : Nat
  rsv : Nat
  data : Option Bytes
  deriving DecidableEq, Repr

/-- A 32-bit write of the host as the bus carries it: the value and its byte enables, one bit a byte (04 R88). -/
structure BusWrite where
  value : Nat
  be : Nat
  deriving DecidableEq, Repr

/-- A supply as it is measured, in mV; of VBK, `mv` is the supercapacitor's voltage and `cell` the backup cell's (02 R52). -/
structure SupplyMeas where
  mv : Nat
  cell : Nat
  deriving DecidableEq, Repr

/-- An execution as the cores ran it: its measured time (05 R137), and the entries each task has executed till its end (06 R166). -/
structure ExecRun where
  time : Nat
  steps : List (Nat × Nat)
  deriving DecidableEq, Repr

/-- What an analogue isolated side measures: current (filtered in an AI mode, the output monitor in an AO mode) and
independent readback current in nA, terminal voltage in mV, temperature in 0.1 °C (09 R231, R241). -/
structure AcMeas where
  current : Int
  readback : Int
  term : Int
  temp : Int
  deriving DecidableEq, Repr

/-- The analogue diagnostics of 09 R241 with a detection time of 20 ms. -/
inductive AcDiag where
  | openLoop | openWire | compliance | short | mismatch | readback
  deriving DecidableEq, Repr

/-- What a digital isolated side measures: switch current in mA, terminal and group supply in mV, input current in µA,
switch temperature in 0.1 °C (10 R264 to R272). -/
structure DcMeas where
  current : Int
  term : Int
  supply : Int
  input : Int
  temp : Int
  deriving DecidableEq, Repr

/-- The digital diagnostics of 10 R271. -/
inductive DcDiag where
  | openOutput | openInput | extVoltage | stuckOn | failedOpen
  deriving DecidableEq, Repr

/-- What a safety output's isolated side measures: load current and switch currents in mA. -/
structure SoMeas where
  load : Int
  hs : Int
  ls : Int
  deriving DecidableEq, Repr

/-- What an axis driver measures: phase currents in mA, temperature in 0.1 °C, back-EMF ratio in % (12 R329, R340). -/
structure AxMeasure where
  phaseA : Int
  phaseB : Int
  temp : Int
  ratio : Nat
  deriving DecidableEq, Repr

/-- A point with a coupler (09 R233, 10 R263, 11 R285, 12 R317). -/
inductive FieldPoint where
  | ac (n : Nat)
  | dc (n : Nat)
  | so (n : Nat)
  | axis (n : Nat)
  deriving DecidableEq, Repr

/-- A frame to an isolated side; `bad` where its CRC is wrong (09 R233). -/
structure FrameOut where
  point : FieldPoint
  bad : Bool
  deriving DecidableEq, Repr

/-- A frame from an isolated side. -/
inductive FieldFrame where
  | ac (n : Nat) (m : AcMeas)
  | dc (n : Nat) (m : DcMeas)
  | so (n : Nat) (m : SoMeas)
  | axis (n : Nat) (m : AxMeasure)
  deriving DecidableEq, Repr

/-- How a HART transaction ended (09 R254): `HRES` 0, 1 or 2, response code, device status, reply data, and the four
dynamic variables of a command-3 reply as REAL. -/
structure HartReply where
  res : Nat
  resp : Nat
  dev : Nat
  data : Bytes
  vars : List Nat
  deriving DecidableEq, Repr

/-- A HART burst frame (09 R255). -/
structure HartBurst where
  mode : Nat
  poll : Nat
  uid : Bytes
  cmd : Nat
  resp : Nat
  dev : Nat
  data : Bytes
  deriving DecidableEq, Repr

/-- What a switch test of a safety output shows (11 R293, R295). -/
inductive SoTest where
  | pass | notOpen | notClose
  deriving DecidableEq, Repr

/-- A light test pulse of an energised output (11 R290): the load current it shows, and how each switch answers. -/
structure LightPulse where
  load : Int
  hs : SoTest
  ls : SoTest
  deriving DecidableEq, Repr

/-- What an Announce message tells of a grandmaster (14 R402, R404): the dataset that the best master algorithm compares,
and currentUtcOffset where it is valid. -/
structure Announce where
  prio1 : Nat
  cls : Nat
  acc : Nat
  var : Nat
  prio2 : Nat
  gm : Nat
  utc : Option Int
  deriving DecidableEq, Repr

/-- What a PTP message brings: an Announce; a Sync with the measured offset of the base from the master in ns; a delay
measurement in ns; anything else. -/
inductive PtpBody where
  | announce (a : Announce)
  | sync (offset : Int)
  | delay (d : Int)
  | other
  deriving DecidableEq, Repr

/-- A PTP message as a port receives it; `from` is the sending clock's identity. -/
structure PtpMsg where
  port : Nat
  domain : Nat
  clock : Nat
  body : PtpBody
  /-- correctionField, in 2⁻¹⁶ ns. -/
  corr : Int := 0
  deriving DecidableEq, Repr

/-- An Omnar frame by the fields of its header, and its payload (14 R381). -/
structure OmnarFrame where
  ty : Nat
  ver : Nat
  oflags : Nat
  src : Nat
  dst : Nat
  conn : Nat
  epoch : Nat
  seq : Nat
  txTime : Nat
  corr : Int
  payload : Bytes
  deriving DecidableEq, Repr

/-- What a network frame carries. -/
inductive NetBody where
  | omnar (f : OmnarFrame)
  | ptp (m : PtpMsg)
  | supervision
  | other
  deriving DecidableEq, Repr

/-- A frame at a network port (14 R384, R398): MAC addresses, VLAN ID where tagged, FCS correct, longer than 1,522 bytes,
the redundancy sequence number of an HSR tag or PRP trailer where one is present, the tag's priority. -/
structure NetFrame where
  port : Nat
  srcMac : Nat
  dstMac : Nat
  vid : Option Nat
  fcs : Bool
  long : Bool
  red : Option Nat
  body : NetBody
  /-- Priority of the tag; 0 where untagged. -/
  pcp : Nat := 0
  deriving DecidableEq, Repr

/-- A CAN frame: `XID` as 15 R440 lays it out (identifier, IDE, FDF, BRS), RTR, ESI and data; the data
of a remote frame stand for its DLC, as zeros. -/
structure CanFrame where
  xid : Nat
  rtr : Bool
  esi : Bool
  data : Bytes
  deriving DecidableEq, Repr

/-- A bus error as ISO 11898-1 counts it: a transmission of a buffer fails, fails for want of an acknowledgement; a
reception fails, fails with a dominant bit after the error flag; a recessive res bit (15 R422, R433). -/
inductive CanErr where
  | tx (b : Nat)
  | ack (b : Nat)
  | rx
  | rxDominant
  | exception
  deriving DecidableEq, Repr

/-- What a hedgerow HEARTBEAT, HELLO or presence frame tells of the partner (13 R342, R349, R360): side, state as 14 R383
codes it, pair epoch, pair-timer instant of its last takeover, station ID, `DESIG_PRIMARY`, `LIB_VERSION`, the
state-compatibility codes by component, and digests of the staged containers (19 R500). -/
structure PeerInfo where
  side : Nat
  st : Nat
  epoch : Nat
  takeover : Int
  station : Nat
  primary : Nat
  lib : Nat
  compat : List Nat
  staged : List Nat
  deriving DecidableEq, Repr

/-- One agreed entry of the partner's image (13 R352, R353): value, quality, and for a network variable its sequence number. -/
structure AgreeVal where
  val : Bytes
  qual : Nat
  seq : Nat
  deriving DecidableEq, Repr

/-- The state of a loop as one partner holds it (13 R356): output, process variable, set-point after ramp, the three parts, last
output and measurement, last good set-point, flags, request sequence and refusal, what the next sample still has to set, mode. -/
structure LoopCopy where
  i : Nat
  out : Nat
  pv : Nat
  spr : Nat
  p : Nat
  int : Nat
  d : Nat
  uPrev : Nat
  pvPrev : Nat
  spGood : Option Nat
  flags : Nat
  ack : Nat
  refused : Bool
  first : Bool
  firstAuto : Bool
  wasOos : Bool
  mode : Nat
  deriving DecidableEq, Repr

/-- A STATE frame (13 R349, R356): a loop's latched measurement and set-point source (LREAL), or an axis generator with
position, velocity and acceleration in sub-steps. -/
inductive StateMsg where
  | loop (i pv sp : Nat)
  | axis (n : Nat) (pos vel acc : Int)
  deriving DecidableEq, Repr

/-- A CONTROL frame (13 R349, R357, R360, R369): a posting with its opcode, submission entry and the pair-timer instant of its
boundary; a departure notice; a switchover and its instant, with the cause it has for the partner; a handover confirmation; an
axis whose bridges are off; a program exchange, its command and the instant of each task's switch; the releases of a `VAR.RELEASE_ALL`, task by task; the release
of an expired force (07 R209). -/
inductive CtlMsg where
  | posting (op : Nat) (c : Cmd) (due : Nat)
  | departure
  | switchover (due : Nat) (cause : Nat)
  | confirm
  | axisOff (n : Nat)
  | exchange (c : Cmd) (dues : List (Nat × Nat))
  | releaseAll (c : Cmd) (dues : List (Nat × Nat))
  | release (var : Nat) (due : Nat)
  deriving DecidableEq, Repr

/-- A BULK frame (13 R367, R209): identity; parameters; block table and initial contents; a task's ranges, maps (in their bytes)
and sizes; variables and RETAIN list; a force; instance store; a task's state and committed bank; a loop; error queue;
a safety output's trip latch, cause and budget used; bytes of a program slot; the end of the configuration. -/
inductive BulkMsg where
  | hello (p : PeerInfo)
  | params (l : List (Nat × Nat))
  | table (a : Nat) (b : Bytes)
  | init (a : Nat) (b : Bytes)
  | task (i : Nat) (ranges : List (Nat × Nat)) (inMap outMap : Bytes) (inSize outSize : Nat)
  | vars (l : List (Nat × Nat × Nat × Nat)) (retain : List Nat)
  | force (id value : Nat) (left : Option Nat)
  | configEnd
  | store (a : Nat) (b : Bytes)
  | taskState (i st : Nat) (bank : Bytes)
  | loop (l : LoopCopy)
  | errors (l : List (Nat × Nat))
  | trip (n : Nat) (latched : Bool) (cause used : Nat)
  | alive (c n : Nat)
  | program (id build : Nat)
  | connVars (id : Nat) (vs : List Nat)
  | substitutes (l : List (Nat × Nat × Nat))
  | safeValues (l : List (Nat × Nat))
  | region (k x y w h cls : Nat)
  | panelTable (k : Nat) (b : Bytes)
  | slot (k plen a : Nat) (b : Bytes)
  deriving DecidableEq, Repr

/-- What the memory line of an uncorrectable error served (21 R525): nothing that runs; the cycle of a task that read it; the
image of a task (0 latch, 1 working bank, 2 committed bank), from a byte offset; a loop's partition; the commit of a cocoon
section, by its row of 03 R71 from 0. -/
inductive MemUser where
  | idle
  | task (i : Nat)
  | image (i part off : Nat)
  | loop (i : Nat)
  | commit (k : Nat)
  deriving DecidableEq, Repr


/-- The commands of the block: one constructor per row of spec/opcode_table.json. -/
inductive Instr where
  /-- MOD_RESET (R82) -/
  | modReset (t : Nat) (c : Cmd)
  /-- MOD_COMMIT (R556) -/
  | modCommit (t : Nat) (c : Cmd)
  /-- MOD_FACTORY (R83) -/
  | modFactory (t : Nat) (c : Cmd)
  /-- MOD_POWER_STATUS (R557) -/
  | modPowerStatus (t : Nat) (c : Cmd)
  /-- MOD_SET_POWER (R82) -/
  | modSetPower (t : Nat) (c : Cmd)
  /-- MOD_CONFIG_SAVE (R85) -/
  | modConfigSave (t : Nat) (c : Cmd)
  /-- MOD_CONFIG_LOAD (R86) -/
  | modConfigLoad (t : Nat) (c : Cmd)
  /-- MOD_IDENTIFY (R558) -/
  | modIdentify (t : Nat) (c : Cmd)
  /-- MOD_NOP (R119) -/
  | modNop (t : Nat) (c : Cmd)
  /-- MOD_ABORT (R107) -/
  | modAbort (t : Nat) (c : Cmd)
  /-- MOD_SET_EVENT_FILTER (R119) -/
  | modSetEventFilter (t : Nat) (c : Cmd)
  /-- MOD_SESSION_CLOSE (R115) -/
  | modSessionClose (t : Nat) (c : Cmd)
  /-- MOD_PROVISION_KEY (R120) -/
  | modProvisionKey (t : Nat) (c : Cmd)
  /-- TASK_CONFIGURE (R153) -/
  | taskConfigure (t : Nat) (c : Cmd)
  /-- TASK_START (R150) -/
  | taskStart (t : Nat) (c : Cmd)
  /-- TASK_STOP (R150) -/
  | taskStop (t : Nat) (c : Cmd)
  /-- TASK_STATUS (R559) -/
  | taskStatus (t : Nat) (c : Cmd)
  /-- TASK_SET_IMAGE (R140) -/
  | taskSetImage (t : Nat) (c : Cmd)
  /-- TASK_SET_SUBSTITUTE (R144) -/
  | taskSetSubstitute (t : Nat) (c : Cmd)
  /-- TASK_SET_PAIR (R123) -/
  | taskSetPair (t : Nat) (c : Cmd)
  /-- TASK_SELFTEST (R152) -/
  | taskSelftest (t : Nat) (c : Cmd)
  /-- TASK_BUDGET (R560) -/
  | taskBudget (t : Nat) (c : Cmd)
  /-- TASK_PROG_LOAD (R196) -/
  | taskProgLoad (t : Nat) (c : Cmd)
  /-- TASK_PROG_WRITE (R196) -/
  | taskProgWrite (t : Nat) (c : Cmd)
  /-- TASK_PROG_CHECK (R197) -/
  | taskProgCheck (t : Nat) (c : Cmd)
  /-- TASK_PROG_EXCHANGE (R198) -/
  | taskProgExchange (t : Nat) (c : Cmd)
  /-- TASK_PROG_STATUS (R561) -/
  | taskProgStatus (t : Nat) (c : Cmd)
  /-- TASK_PROG_ERASE (R211) -/
  | taskProgErase (t : Nat) (c : Cmd)
  /-- TASK_PROG_READ (R211) -/
  | taskProgRead (t : Nat) (c : Cmd)
  /-- VAR_FORCE (R203) -/
  | varForce (t : Nat) (c : Cmd)
  /-- VAR_RELEASE (R211) -/
  | varRelease (t : Nat) (c : Cmd)
  /-- VAR_RELEASE_ALL (R562) -/
  | varReleaseAll (t : Nat) (c : Cmd)
  /-- VAR_LIST (R205) -/
  | varList (t : Nat) (c : Cmd)
  /-- VAR_SET_LIMIT (R205) -/
  | varSetLimit (t : Nat) (c : Cmd)
  /-- AC_CONFIGURE (R257) -/
  | acConfigure (t : Nat) (c : Cmd)
  /-- AC_SET_SERVICE (R249) -/
  | acSetService (t : Nat) (c : Cmd)
  /-- AC_TEST_OUTPUT (R259) -/
  | acTestOutput (t : Nat) (c : Cmd)
  /-- AC_CALIBRATE (R247) -/
  | acCalibrate (t : Nat) (c : Cmd)
  /-- AC_SELFTEST (R246) -/
  | acSelftest (t : Nat) (c : Cmd)
  /-- AC_STATUS (R259) -/
  | acStatus (t : Nat) (c : Cmd)
  /-- AC_HART_CONFIG (R253) -/
  | acHartConfig (t : Nat) (c : Cmd)
  /-- AC_HART_PASS (R254) -/
  | acHartPass (t : Nat) (c : Cmd)
  /-- AC_HART_BURST (R255) -/
  | acHartBurst (t : Nat) (c : Cmd)
  /-- DC_CONFIGURE (R280) -/
  | dcConfigure (t : Nat) (c : Cmd)
  /-- DC_SET_SERVICE (R279) -/
  | dcSetService (t : Nat) (c : Cmd)
  /-- DC_TEST_OUTPUT (R282) -/
  | dcTestOutput (t : Nat) (c : Cmd)
  /-- DC_ACK (R270) -/
  | dcAck (t : Nat) (c : Cmd)
  /-- DC_SELFTEST (R278) -/
  | dcSelftest (t : Nat) (c : Cmd)
  /-- DC_STATUS (R564) -/
  | dcStatus (t : Nat) (c : Cmd)
  /-- DC_SET_LEGACY (R273) -/
  | dcSetLegacy (t : Nat) (c : Cmd)
  /-- SAFE_SO_CONFIGURE (R312) -/
  | safeSoConfigure (t : Nat) (c : Cmd)
  /-- SAFE_ACK (R288) -/
  | safeAck (t : Nat) (c : Cmd)
  /-- SAFE_SO_TEST (R293) -/
  | safeSoTest (t : Nat) (c : Cmd)
  /-- SAFE_STATUS (R565) -/
  | safeStatus (t : Nat) (c : Cmd)
  /-- SAFE_SESSION_OPEN (R302) -/
  | safeSessionOpen (t : Nat) (c : Cmd)
  /-- SAFE_SESSION_CLOSE (R302) -/
  | safeSessionClose (t : Nat) (c : Cmd)
  /-- SAFE_SET_PASSWORD (R301) -/
  | safeSetPassword (t : Nat) (c : Cmd)
  /-- SAFE_LOG_READ (R306) -/
  | safeLogRead (t : Nat) (c : Cmd)
  /-- SAFE_LOG_ACK (R306) -/
  | safeLogAck (t : Nat) (c : Cmd)
  /-- SAFE_AI_PAIR (R297) -/
  | safeAiPair (t : Nat) (c : Cmd)
  /-- SAFE_CONN (R307) -/
  | safeConn (t : Nat) (c : Cmd)
  /-- SAFE_BUDGET_RESET (R300) -/
  | safeBudgetReset (t : Nat) (c : Cmd)
  /-- LOOP_CONFIGURE (R226) -/
  | loopConfigure (t : Nat) (c : Cmd)
  /-- LOOP_SET_COEFF (R225) -/
  | loopSetCoeff (t : Nat) (c : Cmd)
  /-- LOOP_SET_MODE (R223) -/
  | loopSetMode (t : Nat) (c : Cmd)
  /-- LOOP_SET_SP (R220) -/
  | loopSetSp (t : Nat) (c : Cmd)
  /-- LOOP_SET_MANUAL (R224) -/
  | loopSetManual (t : Nat) (c : Cmd)
  /-- LOOP_SET_LIMITS (R226) -/
  | loopSetLimits (t : Nat) (c : Cmd)
  /-- LOOP_STATUS (R563) -/
  | loopStatus (t : Nat) (c : Cmd)
  /-- AXIS_CONFIGURE (R337) -/
  | axisConfigure (t : Nat) (c : Cmd)
  /-- AXIS_MOVE (R321) -/
  | axisMove (t : Nat) (c : Cmd)
  /-- AXIS_STOP (R322) -/
  | axisStop (t : Nat) (c : Cmd)
  /-- AXIS_HOME (R336) -/
  | axisHome (t : Nat) (c : Cmd)
  /-- AXIS_PARK (R327) -/
  | axisPark (t : Nat) (c : Cmd)
  /-- AXIS_ENABLE (R340) -/
  | axisEnable (t : Nat) (c : Cmd)
  /-- AXIS_SEG_LOAD (R325) -/
  | axisSegLoad (t : Nat) (c : Cmd)
  /-- AXIS_SEG_START (R325) -/
  | axisSegStart (t : Nat) (c : Cmd)
  /-- AXIS_STATUS (R340) -/
  | axisStatus (t : Nat) (c : Cmd)
  /-- AXIS_TEST (R332) -/
  | axisTest (t : Nat) (c : Cmd)
  /-- AXIS_SET_HOME (R338) -/
  | axisSetHome (t : Nat) (c : Cmd)
  /-- PAIR_CONFIGURE (R343) -/
  | pairConfigure (t : Nat) (c : Cmd)
  /-- PAIR_SET_AGREE (R353) -/
  | pairSetAgree (t : Nat) (c : Cmd)
  /-- PAIR_SWITCHOVER (R369) -/
  | pairSwitchover (t : Nat) (c : Cmd)
  /-- PAIR_JOIN (R373) -/
  | pairJoin (t : Nat) (c : Cmd)
  /-- PAIR_LEAVE (R373) -/
  | pairLeave (t : Nat) (c : Cmd)
  /-- PAIR_STATUS (R373) -/
  | pairStatus (t : Nat) (c : Cmd)
  /-- PAIR_LINK_TEST (R373) -/
  | pairLinkTest (t : Nat) (c : Cmd)
  /-- NET_CONFIGURE (R416) -/
  | netConfigure (t : Nat) (c : Cmd)
  /-- NET_SET_STATION (R378) -/
  | netSetStation (t : Nat) (c : Cmd)
  /-- NET_PRODUCE (R392) -/
  | netProduce (t : Nat) (c : Cmd)
  /-- NET_CONSUME (R394) -/
  | netConsume (t : Nat) (c : Cmd)
  /-- NET_PORT (R418) -/
  | netPort (t : Nat) (c : Cmd)
  /-- NET_STATUS (R418) -/
  | netStatus (t : Nat) (c : Cmd)
  /-- NET_CONN_STATUS (R418) -/
  | netConnStatus (t : Nat) (c : Cmd)
  /-- TIME_READ (R408) -/
  | timeRead (t : Nat) (c : Cmd)
  /-- TIME_CONFIGURE (R409) -/
  | timeConfigure (t : Nat) (c : Cmd)
  /-- TIME_RESTEP (R405) -/
  | timeRestep (t : Nat) (c : Cmd)
  /-- TIME_STATUS (R419) -/
  | timeStatus (t : Nat) (c : Cmd)
  /-- TIME_PG_CONFIGURE (R411) -/
  | timePgConfigure (t : Nat) (c : Cmd)
  /-- TIME_PI_CONFIGURE (R415) -/
  | timePiConfigure (t : Nat) (c : Cmd)
  /-- TIME_PI_SET_COUNT (R415) -/
  | timePiSetCount (t : Nat) (c : Cmd)
  /-- CAN_CONFIGURE (R424) -/
  | canConfigure (t : Nat) (c : Cmd)
  /-- CAN_FILTER (R431) -/
  | canFilter (t : Nat) (c : Cmd)
  /-- CAN_SEND (R429) -/
  | canSend (t : Nat) (c : Cmd)
  /-- CAN_CANCEL (R430) -/
  | canCancel (t : Nat) (c : Cmd)
  /-- CAN_RECOVER (R433) -/
  | canRecover (t : Nat) (c : Cmd)
  /-- CAN_READ (R432) -/
  | canRead (t : Nat) (c : Cmd)
  /-- CAN_STATUS (R445) -/
  | canStatus (t : Nat) (c : Cmd)
  /-- CAN_SELFTEST (R442) -/
  | canSelftest (t : Nat) (c : Cmd)
  /-- CU_CONFIGURE (R456) -/
  | cuConfigure (t : Nat) (c : Cmd)
  /-- CU_READ_VALUE (R451) -/
  | cuReadValue (t : Nat) (c : Cmd)
  /-- CU_WRITE_VALUE (R451) -/
  | cuWriteValue (t : Nat) (c : Cmd)
  /-- CU_STATUS (R458) -/
  | cuStatus (t : Nat) (c : Cmd)
  /-- CU_SELFTEST (R454) -/
  | cuSelftest (t : Nat) (c : Cmd)
  /-- RTC_READ (R474) -/
  | rtcRead (t : Nat) (c : Cmd)
  /-- RTC_SET (R465) -/
  | rtcSet (t : Nat) (c : Cmd)
  /-- RTC_TRIM (R467) -/
  | rtcTrim (t : Nat) (c : Cmd)
  /-- RTC_BE_CONFIGURE (R469) -/
  | rtcBeConfigure (t : Nat) (c : Cmd)
  /-- RTC_BE_READ (R474) -/
  | rtcBeRead (t : Nat) (c : Cmd)
  /-- RTC_BE_CLEAR (R469) -/
  | rtcBeClear (t : Nat) (c : Cmd)
  /-- RTC_STATUS (R474) -/
  | rtcStatus (t : Nat) (c : Cmd)
  /-- REC_READ (R568) -/
  | recRead (t : Nat) (c : Cmd)
  /-- REC_DUMP (R487) -/
  | recDump (t : Nat) (c : Cmd)
  /-- REC_SLOTS (R568) -/
  | recSlots (t : Nat) (c : Cmd)
  /-- REC_CLOSE (R482) -/
  | recClose (t : Nat) (c : Cmd)
  /-- REC_CLEAR (R487) -/
  | recClear (t : Nat) (c : Cmd)
  /-- REC_SET_CODE (R485) -/
  | recSetCode (t : Nat) (c : Cmd)
  /-- REC_SET_CLOSE (R485) -/
  | recSetClose (t : Nat) (c : Cmd)
  /-- REC_STATUS (R568) -/
  | recStatus (t : Nat) (c : Cmd)
  /-- REC_CODES (R568) -/
  | recCodes (t : Nat) (c : Cmd)
  /-- UPD_STAGE (R496) -/
  | updStage (t : Nat) (c : Cmd)
  /-- UPD_LIST (R502) -/
  | updList (t : Nat) (c : Cmd)
  /-- UPD_DISCARD (R502) -/
  | updDiscard (t : Nat) (c : Cmd)
  /-- UPD_ACTIVATE (R497) -/
  | updActivate (t : Nat) (c : Cmd)
  /-- UPD_CANCEL (R502) -/
  | updCancel (t : Nat) (c : Cmd)
  /-- UPD_STATUS (R502) -/
  | updStatus (t : Nat) (c : Cmd)
  /-- UPD_SET_SERVICE (R489) -/
  | updSetService (t : Nat) (c : Cmd)
  /-- PANEL_CONFIGURE (R516) -/
  | panelConfigure (t : Nat) (c : Cmd)
  /-- PANEL_REGION (R506) -/
  | panelRegion (t : Nat) (c : Cmd)
  /-- PANEL_FRAME (R507) -/
  | panelFrame (t : Nat) (c : Cmd)
  /-- PANEL_PATCH (R507) -/
  | panelPatch (t : Nat) (c : Cmd)
  /-- PANEL_LOAD_TABLE (R518) -/
  | panelLoadTable (t : Nat) (c : Cmd)
  /-- PANEL_SET_POWER (R515) -/
  | panelSetPower (t : Nat) (c : Cmd)
  /-- PANEL_CLEAR (R513) -/
  | panelClear (t : Nat) (c : Cmd)
  /-- PANEL_STATUS (R518) -/
  | panelStatus (t : Nat) (c : Cmd)
  /-- FLT_REINSTATE (R527) -/
  | fltReinstate (t : Nat) (c : Cmd)
  /-- FLT_SET_POLICY (R528) -/
  | fltSetPolicy (t : Nat) (c : Cmd)
  /-- FLT_STATUS (R533) -/
  | fltStatus (t : Nat) (c : Cmd)
  /-- MOD_RESET_REG (R94) -/
  | modResetReg (t : Nat) (v : Nat)
  /-- DB_SQ_TAIL (R99) -/
  | dbSqTail (t : Nat) (v : Nat)
  /-- DB_CQ_HEAD (R100) -/
  | dbCqHead (t : Nat) (v : Nat)
  /-- DB_EQ_HEAD (R100) -/
  | dbEqHead (t : Nat) (v : Nat)
  /-- DB_BULK_TAIL (R104) -/
  | dbBulkTail (t : Nat) (k : Nat) (v : Nat)
  /-- SQ_EN (R93) -/
  | sqEn (t : Nat) (on : Bool)
  /-- CQ_EN (R118) -/
  | cqEn (t : Nat) (on : Bool)
  /-- EQ_EN (R118) -/
  | eqEn (t : Nat) (on : Bool)
  /-- BULK_EN (R118) -/
  | bulkEn (t : Nat) (k : Nat) (on : Bool)
  /-- RING_FAULT_CLEAR (R99) -/
  | ringFaultClear (t : Nat) (v : Nat)
  /-- RTC_HALT (R464) -/
  | rtcHalt (t : Nat) (value : Nat)
  /-- RTC_HALT_RELEASE (R465) -/
  | rtcHaltRelease (t : Nat) (value : Nat)
  /-- CAL_SUBSEC_READ (R466) -/
  | calSubsecRead (t : Nat)
  /-- CAL_DATE_READ (R466) -/
  | calDateRead (t : Nat)
  /-- BE_CLEAR_BIT (R463) -/
  | beClearBit (t : Nat) (n : Nat) (value : Nat)
  /-- BE_STAMP_LO_READ (R463) -/
  | beStampLoRead (t : Nat) (n : Nat) (last : Bool)
  /-- REGISTER_WRITE (R88) -/
  | registerWrite (t : Nat) (offset : Nat) (v : BusWrite)
  /-- PERST (R49) -/
  | perst (t : Nat)
  /-- SQ_FETCH (R101) -/
  | sqFetch (t : Nat) (rd : Option Bytes) (block : Option Bytes) (wf : Bool)
  /-- COMMAND_DISPATCH (R105) -/
  | commandDispatch (t : Nat)
  /-- CQ_COALESCE_TIMEOUT (R103) -/
  | cqCoalesceTimeout (t : Nat)
  /-- BULK_ENTRY (R104) -/
  | bulkEntry (t : Nat) (k : Nat) (rd : Option BulkRead) (wf : Bool)
  /-- MGMT_OPEN_REQUEST (R113) -/
  | mgmtOpenRequest (t : Nat)
  /-- MGMT_MESSAGE (R112) -/
  | mgmtMessage (t : Nat)
  /-- MGMT_CLOSE_MESSAGE (R113) -/
  | mgmtCloseMessage (t : Nat)
  /-- MGMT_SESSION_IDLE (R113) -/
  | mgmtSessionIdle (t : Nat) (id : Nat)
  /-- XS_TCP_CONNECT (R489) -/
  | xsTcpConnect (t : Nat) (ip : Nat)
  /-- HELLO (R491) -/
  | hello (t : Nat) (b : Bytes)
  /-- FINISH (R491) -/
  | finish (t : Nat) (b : Bytes)
  /-- IVPASTO_COMMAND_RECORD (R490) -/
  | ivpastoCommandRecord (t : Nat) (b : Bytes)
  /-- IVPASTO_CONTAINER_RECORD (R496) -/
  | ivpastoContainerRecord (t : Nat) (b : Bytes)
  /-- IVPASTO_CLOSE_RECORD (R490) -/
  | ivpastoCloseRecord (t : Nat) (b : Bytes)
  /-- IVPASTO_IDLE_TIMEOUT (R491) -/
  | ivpastoIdleTimeout (t : Nat)
  /-- XS_LINK_DROP (R491) -/
  | xsLinkDrop (t : Nat)
  /-- SUPPLY_WARNING (R60) -/
  | supplyWarning (t : Nat) (k : Nat) (mv : SupplyMeas)
  /-- LOGIC_SUPPLY_FAIL (R61) -/
  | logicSupplyFail (t : Nat) (k : Nat) (mv : Nat)
  /-- LOGIC_SUPPLY_RECOVERY (R60) -/
  | logicSupplyRecovery (t : Nat) (k : Nat) (mv : Nat)
  /-- POWER_FAIL_WARNING (R67) -/
  | powerFailWarning (t : Nat) (cycles : List (Nat × Nat))
  /-- POWER_FAIL_COMMIT_END (R73) -/
  | powerFailCommitEnd (t : Nat)
  /-- FA_FAIL (R245) -/
  | faFail (t : Nat) (mv : Nat)
  /-- FA_RECOVERY (R245) -/
  | faRecovery (t : Nat) (mv : Nat)
  /-- FS_FAIL (R60) -/
  | fsFail (t : Nat) (mv : Nat)
  /-- FS_RECOVERY (R60) -/
  | fsRecovery (t : Nat) (mv : Nat)
  /-- FM_FAIL (R333) -/
  | fmFail (t : Nat) (mv : Nat)
  /-- FM_RECOVERY (R333) -/
  | fmRecovery (t : Nat) (mv : Nat)
  /-- RAIL_BROWN_OUT (R62) -/
  | railBrownOut (t : Nat) (k : Nat)
  /-- VCORE_MARGIN_LOST (R63) -/
  | vcoreMarginLost (t : Nat)
  /-- VCORE_STEP_DOWN (R63) -/
  | vcoreStepDown (t : Nat)
  /-- PLL_LOCK_TIMEOUT (R65) -/
  | pllLockTimeout (t : Nat) (k : Nat)
  /-- SV_CLOCK_FAULT (R66) -/
  | svClockFault (t : Nat)
  /-- SCHEDULER_HEARTBEAT_MISSING (R291) -/
  | schedulerHeartbeatMissing (t : Nat)
  /-- MANAGEMENT_WATCHDOG (R77) -/
  | managementWatchdog (t : Nat)
  /-- MANAGEMENT_LOCKSTEP_ERROR (R77) -/
  | managementLockstepError (t : Nat)
  /-- MODULE_START (R74) -/
  | moduleStart (t : Nat) (gap : Nat) (bad : List Nat) (crc : List (Nat × Bool)) (idMem : Option Bytes) (cut : Option (Nat × Option Nat))
  /-- RESET_BUTTON_RELEASE (R79) -/
  | resetButtonRelease (t : Nat) (ms : Nat)
  /-- RESET_BUTTON_STUCK (R79) -/
  | resetButtonStuck (t : Nat)
  /-- COCOON_COMMIT_END (R70) -/
  | cocoonCommitEnd (t : Nat) (k : Nat) (mism : Bool)
  /-- RETAIN_PERIODIC_COMMIT (R71) -/
  | retainPeriodicCommit (t : Nat)
  /-- TASK_RELEASE (R127) -/
  | taskRelease (t : Nat) (i : Nat)
  /-- EXECUTION_END (R127) -/
  | executionEnd (t : Nat) (i : Nat) (exec : ExecRun) (ranges : List Nat) (mism : Bool)
  /-- TASK_DEADLINE (R138) -/
  | taskDeadline (t : Nat) (i : Nat) (left : Nat)
  /-- TASK_ABANDON (R138) -/
  | taskAbandon (t : Nat) (i : Nat) (left : Nat)
  /-- EVENT_TRIGGER (R133) -/
  | eventTrigger (t : Nat)
  /-- PAIR_SELFTEST_END (R147) -/
  | pairSelftestEnd (t : Nat) (n : Nat) (bad0 : Bool) (bad1 : Bool)
  /-- PAIR_SELFTEST_DUE (R149) -/
  | pairSelftestDue (t : Nat) (n : Nat)
  /-- SELFTEST_SLICE (R149) -/
  | selftestSlice (t : Nat) (n : Nat) (bad0 : Bool) (bad1 : Bool)
  /-- SELFTEST_SKIPPED (R149) -/
  | selftestSkipped (t : Nat) (n : Nat)
  /-- CONN_WATCHDOG_EXPIRY (R143) -/
  | connWatchdogExpiry (t : Nat) (id : Nat)
  /-- EXCHANGE_FINISH (R199) -/
  | exchangeFinish (t : Nat)
  /-- PROG_IMAGE_TRANSFER_END (R209) -/
  | progImageTransferEnd (t : Nat) (same : Bool)
  /-- FORCE_EXPIRY (R205) -/
  | forceExpiry (t : Nat) (id : Nat)
  /-- LOOP_SAMPLE (R217) -/
  | loopSample (t : Nat) (i : Nat) (lat : Nat)
  /-- COUPLER_FRAME_OUT (R233) -/
  | couplerFrameOut (t : Nat) (p : FrameOut)
  /-- COUPLER_FRAME_IN (R233) -/
  | couplerFrameIn (t : Nat) (f : FieldFrame) (bad : Bool)
  /-- AC_MODE_SWITCH_END (R232) -/
  | acModeSwitchEnd (t : Nat) (n : Nat)
  /-- AC_SILENCE_TIMEOUT (R233) -/
  | acSilenceTimeout (t : Nat) (n : Nat)
  /-- AC_DIAGNOSTIC (R241) -/
  | acDiagnostic (t : Nat) (n : Nat) (k : AcDiag) (m : AcMeas)
  /-- AC_THERMAL (R243) -/
  | acThermal (t : Nat) (n : Nat) (temp : Int)
  /-- AC_THERMAL_RECOVERY (R243) -/
  | acThermalRecovery (t : Nat) (n : Nat)
  /-- AC_REFERENCE_CHECK (R246) -/
  | acReferenceCheck (t : Nat) (n : Nat) (ppm : Int) (m : AcMeas)
  /-- AC_READBACK_RECHECK (R248) -/
  | acReadbackRecheck (t : Nat) (n : Nat) (m : AcMeas)
  /-- AC_CALIBRATION_END (R247) -/
  | acCalibrationEnd (t : Nat) (n : Nat) (gain : Int) (offset : Int)
  /-- HART_TRANSACTION_END (R251) -/
  | hartTransactionEnd (t : Nat) (m : Nat) (r : HartReply)
  /-- HART_POLL_DUE (R252) -/
  | hartPollDue (t : Nat) (n : Nat)
  /-- HART_POLL_STALE (R252) -/
  | hartPollStale (t : Nat) (n : Nat)
  /-- HART_BURST_FRAME (R255) -/
  | hartBurstFrame (t : Nat) (n : Nat) (b : HartBurst)
  /-- HART_MODEM_LOOPBACK (R256) -/
  | hartModemLoopback (t : Nat) (m : Nat) (ok : Bool)
  /-- DC_MODE_SWITCH_END (R262) -/
  | dcModeSwitchEnd (t : Nat) (n : Nat)
  /-- DC_LEVEL_ACCEPTED (R264) -/
  | dcLevelAccepted (t : Nat) (n : Nat) (mv : Int)
  /-- DC_SILENCE_TIMEOUT (R265) -/
  | dcSilenceTimeout (t : Nat) (n : Nat)
  /-- DC_OVERLOAD (R266) -/
  | dcOverload (t : Nat) (n : Nat) (peak : Nat)
  /-- DC_OL_RETRY (R266) -/
  | dcOlRetry (t : Nat) (n : Nat)
  /-- DC_THERMAL (R267) -/
  | dcThermal (t : Nat) (n : Nat) (temp : Int)
  /-- DC_THERMAL_RECOVERY (R267) -/
  | dcThermalRecovery (t : Nat) (n : Nat)
  /-- DC_DIAGNOSTIC (R271) -/
  | dcDiagnostic (t : Nat) (n : Nat) (k : DcDiag) (m : DcMeas)
  /-- DC_SWITCH_RETEST (R278) -/
  | dcSwitchRetest (t : Nat) (n : Nat) (m : DcMeas)
  /-- FD_SAG (R272) -/
  | fdSag (t : Nat) (g : Nat) (mv : Nat)
  /-- FD_UNDERVOLTAGE (R272) -/
  | fdUndervoltage (t : Nat) (g : Nat) (mv : Nat)
  /-- FD_RECOVERY (R272) -/
  | fdRecovery (t : Nat) (g : Nat) (mv : Nat)
  /-- DC_INPUT_SELFTEST (R278) -/
  | dcInputSelftest (t : Nat) (n : Nat) (ok : Bool)
  /-- DC_DISCREPANCY (R275) -/
  | dcDiscrepancy (t : Nat) (n : Nat)
  /-- SAFETY_COMMIT_MISSING (R291) -/
  | safetyCommitMissing (t : Nat) (i : Nat)
  /-- SV_OVERTEMP (R291) -/
  | svOvertemp (t : Nat) (temp : Int)
  /-- SV_SELFTEST_FAIL (R291) -/
  | svSelftestFail (t : Nat) (test : Nat)
  /-- SO_OVERLOAD (R287) -/
  | soOverload (t : Nat) (n : Nat) (peak : Nat)
  /-- SO_OVERTEMP (R287) -/
  | soOvertemp (t : Nat) (n : Nat)
  /-- SO_SILENCE_TRIP (R287) -/
  | soSilenceTrip (t : Nat) (n : Nat)
  /-- SO_TEST_DUE (R293) -/
  | soTestDue (t : Nat) (n : Nat) (sw : Nat)
  /-- SO_TEST_END (R293) -/
  | soTestEnd (t : Nat) (n : Nat) (sw : Nat) (r : SoTest)
  /-- SO_TEST_RETRY (R294) -/
  | soTestRetry (t : Nat) (n : Nat) (sw : Nat)
  /-- SO_TEST_OVERDUE (R294) -/
  | soTestOverdue (t : Nat) (n : Nat) (sw : Nat)
  /-- SO_TEST_REPEAT (R295) -/
  | soTestRepeat (t : Nat) (n : Nat) (sw : Nat) (r : SoTest)
  /-- ETT_LIGHT_PULSE (R290) -/
  | ettLightPulse (t : Nat) (n : Nat) (load : LightPulse)
  /-- SO_OPEN_CHECK (R311) -/
  | soOpenCheck (t : Nat) (n : Nat) (load : Int)
  /-- DEGRADED_BUDGET_EXPIRY (R300) -/
  | degradedBudgetExpiry (t : Nat) (n : Nat)
  /-- BUDGET_PERIODIC_COMMIT (R300) -/
  | budgetPeriodicCommit (t : Nat)
  /-- AI_PAIR_DISCREPANCY (R297) -/
  | aiPairDiscrepancy (t : Nat) (n : Nat)
  /-- SAFETY_SESSION_TIMEOUT (R302) -/
  | safetySessionTimeout (t : Nat)
  /-- SAFETY_LOCKOUT_END (R303) -/
  | safetyLockoutEnd (t : Nat)
  /-- AXIS_PROFILE_UPDATE (R317) -/
  | axisProfileUpdate (t : Nat) (n : Nat) (m : AxMeasure) (bad : Option Nat)
  /-- AXIS_STALL (R329): by the following error, or by the back-EMF ratios in % of the last full steps, newest first -/
  | axisStall (t : Nat) (n : Nat) (follow : Bool) (ratios : List Nat)
  /-- AXIS_HOLD_DELAY (R319) -/
  | axisHoldDelay (t : Nat) (n : Nat)
  /-- AXIS_PARK_DELAY (R327) -/
  | axisParkDelay (t : Nat) (n : Nat)
  /-- AXIS_SILENCE (R331) -/
  | axisSilence (t : Nat) (n : Nat)
  /-- AXIS_BRIDGE_FAULT (R332) -/
  | axisBridgeFault (t : Nat) (n : Nat) (phase : Nat) (ma : Nat)
  /-- AXIS_THERMAL (R332) -/
  | axisThermal (t : Nat) (n : Nat) (temp : Int)
  /-- AXIS_FAULT_RETRY (R332) -/
  | axisFaultRetry (t : Nat) (n : Nat) (bad : Option Nat)
  /-- AXIS_OPEN_PHASE (R332) -/
  | axisOpenPhase (t : Nat) (n : Nat) (phase : Nat)
  /-- AXIS_CHOPPER_CHANGE (R326) -/
  | axisChopperChange (t : Nat) (n : Nat)
  /-- AXIS_SEG_START_TIME (R325) -/
  | axisSegStartTime (t : Nat) (n : Nat)
  /-- PAIR_SEARCH_TIMEOUT (R345) -/
  | pairSearchTimeout (t : Nat)
  /-- HEARTBEAT (R349) -/
  | heartbeat (t : Nat) (p : PeerInfo)
  /-- TIME_FRAME (R351) -/
  | timeFrame (t : Nat) (v : Int)
  /-- AGREE_WINDOW_END (R352) -/
  | agreeWindowEnd (t : Nat) (i : Nat) (peer : Option (List AgreeVal))
  /-- COMPARE_WINDOW_END (R355) -/
  | compareWindowEnd (t : Nat) (i : Nat) (sig : Option Nat)
  /-- MISMATCH_SELFTEST_END (R366) -/
  | mismatchSelftestEnd (t : Nat) (part : Nat) (bad0 : Bool) (bad1 : Bool) (peerOk : Bool)
  /-- STATE_FRAME (R356) -/
  | stateFrame (t : Nat) (m : StateMsg)
  /-- CONTROL_FRAME (R357) -/
  | controlFrame (t : Nat) (m : CtlMsg)
  /-- BULK_FRAME (R367) -/
  | bulkFrame (t : Nat) (m : BulkMsg)
  /-- LANE_FAILURE (R350) -/
  | laneFailure (t : Nat) (k : Nat)
  /-- LANE_RETRY (R350) -/
  | laneRetry (t : Nat) (k : Nat) (ok : Bool)
  /-- HEDGEROW_LINK_LOST (R350) -/
  | hedgerowLinkLost (t : Nat)
  /-- HDET_CHANGE (R350) -/
  | hdetChange (t : Nat) (level : Bool)
  /-- PAIR_PRESENCE_FRAME (R364) -/
  | pairPresenceFrame (t : Nat)
  /-- PARTNER_SILENT (R360) -/
  | partnerSilent (t : Nat)
  /-- STATION_ISOLATED (R364) -/
  | stationIsolated (t : Nat)
  /-- PAIR_SILENCE_TIMEOUT (R348) -/
  | pairSilenceTimeout (t : Nat) (cls : Nat) (n : Nat)
  /-- RESYNC_PASS_END (R367) -/
  | resyncPassEnd (t : Nat) (dirty : Nat)
  /-- RESYNC_JOIN (R367) -/
  | resyncJoin (t : Nat)
  /-- RESYNC_SLOW (R367) -/
  | resyncSlow (t : Nat)
  /-- SWITCHOVER_INSTANT (R369) -/
  | switchoverInstant (t : Nat)
  /-- LOOP_PARTITION_CHECK (R356) -/
  | loopPartitionCheck (t : Nat) (l : List LoopCopy)
  /-- NET_LINK_CHANGE (R401) -/
  | netLinkChange (t : Nat) (k : Nat) (linkUp : Bool)
  /-- NETWORK_FRAME_RECEIVED (R398) -/
  | networkFrameReceived (t : Nat) (f : NetFrame)
  /-- NETWORK_CYCLE_START (R386) -/
  | networkCycleStart (t : Nat)
  /-- NETWORK_SEND_SLOT (R388) -/
  | networkSendSlot (t : Nat)
  /-- STATION_PRESENCE_SEND (R380) -/
  | stationPresenceSend (t : Nat)
  /-- SUPERVISION_SEND (R376) -/
  | supervisionSend (t : Nat)
  /-- NET_STORM (R399) -/
  | netStorm (t : Nat) (k : Nat) (cls : Nat) (src : Nat)
  /-- NET_PATH_SINGLE (R397) -/
  | netPathSingle (t : Nat) (id : Nat)
  /-- PORT_SELFTEST (R401) -/
  | portSelftest (t : Nat) (k : Nat) (ok : Bool)
  /-- PORT_RETRAIN (R401) -/
  | portRetrain (t : Nat) (k : Nat)
  /-- PTP_MESSAGE_RECEIVED (R404) -/
  | ptpMessageReceived (t : Nat)
  /-- PTP_ANNOUNCE_TIMEOUT (R404) -/
  | ptpAnnounceTimeout (t : Nat) (b : Nat)
  /-- HOLDOVER_EXPIRY (R404) -/
  | holdoverExpiry (t : Nat) (b : Nat)
  /-- PTP_SYNC_SEND (R402) -/
  | ptpSyncSend (t : Nat) (b : Nat)
  /-- TB3_LEAP_SECOND (R407) -/
  | tb3LeapSecond (t : Nat) (inserted : Bool)
  /-- TB3_RTC_WRITE (R407) -/
  | tb3RtcWrite (t : Nat)
  /-- PG_FIRE (R410) -/
  | pgFire (t : Nat) (k : Nat)
  /-- PG_PULSE_END (R410) -/
  | pgPulseEnd (t : Nat) (k : Nat)
  /-- PI_EDGE (R414) -/
  | piEdge (t : Nat) (n : Nat) (onB : Bool) (level : Bool)
  /-- CAN_FRAME_RECEIVED (R432) -/
  | canFrameReceived (t : Nat) (n : Nat) (f : CanFrame) (sof : Nat)
  /-- CAN_FRAME_TRANSMITTED (R430) -/
  | canFrameTransmitted (t : Nat) (n : Nat) (b : Nat) (sof : Nat)
  /-- CAN_ARBITRATION_LOST (R428) -/
  | canArbitrationLost (t : Nat) (n : Nat) (b : Nat)
  /-- CAN_BUS_ERROR (R433) -/
  | canBusError (t : Nat) (n : Nat) (e : CanErr)
  /-- CAN_INTEGRATION_END (R433) -/
  | canIntegrationEnd (t : Nat) (n : Nat)
  /-- CAN_RECOVERY_END (R433) -/
  | canRecoveryEnd (t : Nat) (n : Nat)
  /-- CAN_REFERENCE_DUE (R435) -/
  | canReferenceDue (t : Nat) (n : Nat)
  /-- CAN_REFERENCE_LOST (R436) -/
  | canReferenceLost (t : Nat) (n : Nat)
  /-- CAN_SKIPPER_RESUME (R437) -/
  | canSkipperResume (t : Nat) (n : Nat)
  /-- CAN_DOMINANT_TIMEOUT (R442) -/
  | canDominantTimeout (t : Nat) (n : Nat)
  /-- CU_STREAM_END (R447) -/
  | cuStreamEnd (t : Nat) (k : Nat) (sel : Nat) (sent : Bool) (bs : Bytes) (busy : List Nat)
  /-- CU_PERIODIC_SELFTEST (R454) -/
  | cuPeriodicSelftest (t : Nat) (u : Nat) (bad : Option Nat)
  /-- BE_EDGE (R469) -/
  | beEdge (t : Nat) (n : Nat) (closed : Bool)
  /-- RTC_HALT_TIMEOUT (R464) -/
  | rtcHaltTimeout (t : Nat)
  /-- FREEZE_TIMEOUT (R466) -/
  | freezeTimeout (t : Nat)
  /-- RTC_OSC_STOP (R468) -/
  | rtcOscStop (t : Nat)
  /-- RTC_RATE_COMPARE (R468) -/
  | rtcRateCompare (t : Nat) (dev : Int)
  /-- RTC_TEMP_MEASURE (R467) -/
  | rtcTempMeasure (t : Nat) (temp : Int)
  /-- RTC_RANGE_END (R462) -/
  | rtcRangeEnd (t : Nat)
  /-- VBD_BELOW_RETENTION (R471) -/
  | vbdBelowRetention (t : Nat)
  /-- RECORDER_DRAIN (R476) -/
  | recorderDrain (t : Nat) (wf : Bool)
  /-- REC_PERIODIC_CLOSE (R482) -/
  | recPeriodicClose (t : Nat)
  /-- FAULT_MANAGER_DECISION (R522) -/
  | faultManagerDecision (t : Nat)
  /-- REINSTATE_SELFTEST_END (R527) -/
  | reinstateSelftestEnd (t : Nat) (cls : Nat) (index : Nat) (sub : Nat) (ok : Bool)
  /-- MEMORY_ECC_ERROR (R525) -/
  | memoryEccError (t : Nat) (b : Nat) (line : Nat) (user : MemUser)
  /-- MEMORY_ECC_CORRECTED (R525) -/
  | memoryEccCorrected (t : Nat) (b : Nat)
  /-- UPD_ACTIVATION_INSTANT (R498) -/
  | updActivationInstant (t : Nat)
  /-- UPD_TRIAL_CONFIRM (R499) -/
  | updTrialConfirm (t : Nat)
  /-- PANEL_FIRST_FRAME (R505) -/
  | panelFirstFrame (t : Nat)
  /-- PANEL_VERTICAL_BLANK (R511) -/
  | panelVerticalBlank (t : Nat) (temp : Int)
  /-- WAVEFORM_END (R511) -/
  | waveformEnd (t : Nat) (i : Nat)
  /-- PANEL_IDLE_TIMEOUT (R515) -/
  | panelIdleTimeout (t : Nat)
  /-- BASEPLATE_HOT (R538) -/
  | baseplateHot (t : Nat) (temp : Int)
  /-- PERST_RELEASE (R89) -/
  | perstRelease (t : Nat)
  /-- MANAGEMENT_RESET_END (R89) -/
  | managementResetEnd (t : Nat)
  /-- HEARTBEAT_MISSING_FRAMES_STOP (R348) -/
  | heartbeatMissingFramesStop (t : Nat)
  /-- AC_ISOLATED_SAMPLE (R234) -/
  | acIsolatedSample (t : Nat) (n : Nat) (m : AcMeas)
  /-- DC_DIAGNOSTIC_CHECK (R271) -/
  | dcDiagnosticCheck (t : Nat) (n : Nat) (m : DcMeas) (normal : Bool)
  /-- CU_SELFTEST_RETRY (R454) -/
  | cuSelftestRetry (t : Nat) (u : Nat) (bad : Option Nat)
  /-- CAN_TRANSCEIVER_RETEST (R442) -/
  | canTransceiverRetest (t : Nat) (n : Nat) (ok : Bool)
  /-- MEMORY_MARCH_TEST_END (R525) -/
  | memoryMarchTestEnd (t : Nat) (b : Nat) (ok : Bool)
  /-- BURST_DWELL_END (R251) -/
  | burstDwellEnd (t : Nat) (m : Nat)
  /-- PTP_ANNOUNCE_SEND (R402) -/
  | ptpAnnounceSend (t : Nat) (b : Nat)
  /-- PTP_DELAY_REQ_SEND (R402) -/
  | ptpDelayReqSend (t : Nat) (b : Nat)
  deriving DecidableEq, Repr

end Sys2Proof
end

