-- ==== Sys2Proof/Machine/Bits.lean ====
section
/-! DEFINITION. Byte order, bit fields and sign of the descriptors and memories (00 R3, R4). -/

namespace Sys2Proof.Machine

/-- The little-endian number a byte string spells (00 R3). -/
def leNat : Bytes → Nat
  | [] => 0
  | b :: r => b.toNat + 256 * leNat r

/-- The number `v` as `n` bytes, little-endian; higher bits are dropped. -/
def leBytes : Nat → Nat → Bytes
  | 0, _ => []
  | n + 1, v => BitVec.ofNat 8 v :: leBytes n (v / 256)

/-- The big-endian number a byte string spells. -/
def beNat (b : Bytes) : Nat := leNat b.reverse

/-- The number `v` as `n` bytes, big-endian. -/
def beBytes (n v : Nat) : Bytes := (leBytes n v).reverse

/-- `len` bytes from offset `off`; bytes beyond the end read 0. -/
def slice (b : Bytes) (off len : Nat) : Bytes :=
  let r := (b.drop off).take len
  r ++ List.replicate (len - r.length) 0

/-- Every byte is 0. -/
def allZero (b : Bytes) : Bool := b.all (fun x => x == 0)

/-- Bits `hi` down to `lo` of `v`. -/
def bitsOf (v hi lo : Nat) : Nat := (v / 2 ^ lo) % 2 ^ (hi + 1 - lo)

/-- Bit `k` of `v`. -/
def bitOf (v k : Nat) : Bool := v.testBit k

/-- `v` with bits `hi` down to `lo` replaced by `x`. -/
def setBits (v hi lo x : Nat) : Nat :=
  v % 2 ^ lo + (x % 2 ^ (hi + 1 - lo)) * 2 ^ lo + (v / 2 ^ (hi + 1)) * 2 ^ (hi + 1)

/-- The two's complement value of the low `w` bits of `v`. -/
def signed (w v : Nat) : Int :=
  let m := v % 2 ^ w
  if m < 2 ^ (w - 1) then (m : Int) else (m : Int) - (2 ^ w : Nat)

/-- The low `w` bits of an integer, as an unsigned number. -/
def wrapInt (w : Nat) (i : Int) : Nat := (i % (2 ^ w : Nat)).toNat

/-- An integer held between `lo` and `hi`. -/
def clampInt (lo hi i : Int) : Int := if i < lo then lo else if hi < i then hi else i

/-- A flag as a bit. -/
def b2n (b : Bool) : Nat := if b then 1 else 0

/-- Saturating difference, as an integer step count. -/
def absDiff (a b : Nat) : Nat := (a - b) + (b - a)

/-- Set element `k` of a list (unchanged where there is no such element). -/
def setAt {α : Type} : List α → Nat → α → List α
  | [], _, _ => []
  | _ :: r, 0, v => v :: r
  | x :: r, k + 1, v => x :: setAt r k v

/-- Element `k` of a list, or `d`. -/
def getAt {α : Type} (d : α) : List α → Nat → α
  | [], _ => d
  | x :: _, 0 => x
  | _ :: r, k + 1 => getAt d r k

end Sys2Proof.Machine
end

