-- ==== Sys2Proof/Machine/Crc.lean ====
section
/-! DEFINITION. CRC arithmetic, bit by bit (16 R448; 06 R187; 03 R70, R85). -/

namespace Sys2Proof.Machine

/-- The low `w` bits of `v` in reverse order. -/
def reflect : Nat → Nat → Nat
  | 0, _ => 0
  | w + 1, v => (v % 2) * 2 ^ w + reflect w (v / 2)

/-- `n` shifts of a `w`-bit register through polynomial `poly`, most significant bit first. -/
def crcShift (w poly : Nat) : Nat → Nat → Nat
  | 0, r => r
  | n + 1, r =>
    crcShift w poly n (if bitOf r (w - 1) then ((r * 2) % 2 ^ w) ^^^ poly else (r * 2) % 2 ^ w)

/-- The register after one byte. -/
def crcByte (w poly : Nat) (refin : Bool) (r : Nat) (b : Byte) : Nat :=
  let x := if refin then reflect 8 b.toNat else b.toNat
  crcShift w poly 8 (r ^^^ (x * 2 ^ (w - 8)))

/-- The register after a byte string (the running value, before reflection and the final XOR). -/
def crcRun (w poly : Nat) (refin : Bool) (r : Nat) (bs : Bytes) : Nat := bs.foldl (crcByte w poly refin) r

/-- The result of a register: reflected where asked, with the final XOR. -/
def crcFinish (w : Nat) (refout : Bool) (xorout r : Nat) : Nat :=
  (if refout then reflect w r else r) ^^^ (xorout % 2 ^ w)

/-- CRC-32 of IEEE 802.3. -/
def crc32 (bs : Bytes) : Nat := crcFinish 32 true 0xFFFFFFFF (crcRun 32 0x04C11DB7 true 0xFFFFFFFF bs)

/-- CRC-32C (06 R187). -/
def crc32c (bs : Bytes) : Nat := crcFinish 32 true 0xFFFFFFFF (crcRun 32 0x1EDC6F41 true 0xFFFFFFFF bs)

end Sys2Proof.Machine
end

