-- ==== Sys2Proof/Config.lean ====
section
/-! DEFINITION. What an implementation fixes and the free values: constants with no body, so that no proof can rest on
a particular value (notes/assumptions/3.md, 4.md). -/

namespace Sys2Proof.Config

/-- A fresh value the spec leaves open, for the n-th time one is drawn (State.free counts the draws). -/
opaque freeValue : Nat → BitVec 64

/-- Sign (bit 0) and payload (the bits above) of a NaN result: operation, width of the fraction, operands; the spec states neither
(06 R169; notes/assumptions/9.md). -/
opaque nanBits : Nat → Nat → List Nat → Nat

/-- AES-GMAC tag of a message: key, initialisation vector, message (04 R112, R113); the cipher is uninterpreted. -/
opaque gmac : Bytes → Bytes → Bytes → Bytes

/-- First bytes of the AES-256-CTR keystream: key, initial counter block (04 R113). -/
opaque ctrKeystream : Bytes → Bytes → Bytes

/-- AES-GCM keystream under a key and iv, as many bytes as asked for (19 R490); the block cipher is uninterpreted. -/
opaque gcmStream : Bytes → Bytes → Nat → Bytes

/-- AES-GCM tag of a ciphertext: key, iv, additional data, ciphertext (19 R490). -/
opaque gcmTag : Bytes → Bytes → Bytes → Bytes → Bytes

/-- SHA-256 digest; uninterpreted. -/
opaque sha256 : Bytes → Bytes

/-- Signature check: public key, message, signature; uninterpreted. -/
opaque verifySignature : Bytes → Bytes → Bytes → Bool

/-- The bytes of a status result whose layout the spec does not give: opcode, the values it names in their order
(notes/assumptions/21.md). -/
opaque resultLayout : Nat → List Int → Bytes

/-- The verifier the module keeps of a safety password (11 R301); uninterpreted. -/
opaque passwordVerifier : Bytes → Bytes

/-- What the profile generator proposes for its next update, which 12 R321 only bounds: from the limits, the present motion
and the goal, the acceleration (0), the velocity (1) and the position (2); the model holds it inside the bounds
(notes/assumptions/30.md). -/
opaque profile : List Int → Nat → Int

/-- The oscillator's deviation curve in 0.01 ppm at −40 + 2 i °C, written at manufacture (17 R467). -/
opaque rtcCurve : Nat → Int

/-- The module's own PTP dataset where the spec gives no value: clockIdentity of a station ID and side, and variance
(14 R402). -/
opaque clockIdentity : Nat → Nat → Nat
opaque clockVariance : Nat

/-- The transmit buffer that a `CAN.SEND` with a BUF record in its block names: the spec places no buffer number in the
block (15 R445; notes/assumptions/36.md). -/
opaque indirectSendBuffer : Bytes → Nat


/-- The declared safe values of a program image's section 0x08, by key of connection variable: the spec gives the section no
layout (07 R194; notes/assumptions/59.md). -/
opaque safeValues : Bytes → List (Nat × Nat)

/-- The content of such a section for one task, from its variables' keys and safe values (notes/assumptions/59.md). -/
opaque safeValuesBytes : List (Nat × Nat) → Bytes

/-- Keys fixed at manufacture (19 R492 to R495): product image key, the module's own key, image-signing key, service authority key. -/
opaque productImageKey : Bytes
opaque moduleKey : Bytes
opaque imageSigningKey : Bytes
opaque serviceAuthorityKey : Bytes

/-- What is fixed per module (04 R91; 19 R491): serial number (ten BCD digits), hardware issue code, module identity certificate. -/
opaque serialNumber : Nat
opaque hwIssue : Nat
opaque identityCertificate : Bytes

/-- Ephemeral key and signature that a HELLO_REPLY carries, for the nonces and the client's key (19 R491). -/
opaque helloKey : Bytes → Bytes
opaque helloSignature : Bytes → Bytes

/-- The 64 bytes of HKDF-SHA-256 over the shared secret of the client's and the module's ephemeral keys, with the nonces as
salt (19 R491). -/
opaque ivpastoKeys : Bytes → Bytes → Bytes → Bytes

/-- The container header of a component as manufactured (19 R494). -/
opaque manufactured : Nat → Bytes

/-- `LIB_VERSION` of a scan library container that an update installed: the spec gives the value of the library it describes
alone (06 R157). -/
opaque libVersionOf : Bytes → Nat

/-- Where the implementation places what the spec does not: whether image bank `b` (10 to 13) holds an image of task `i`, or
the partition of loop `i` (21 R525); the MRAM bank of a section's buffer (03 R70; 21 R525). -/
opaque imageIn : Nat → Nat → Bool
opaque loopIn : Nat → Nat → Bool
opaque bufferBank : Nat → Bool → Nat

/-- The unique ID of the HART device at a polling address of a channel, with which a long frame addresses it (09 R251, R252). -/
opaque hartUid : Nat → Nat → Nat

/-- What the privet strip draws into a pixel: the spec gives what the strip shows, not its drawing (20 R514): panel kind, station,
role, side, state word, x, y. -/
opaque stripPixel : List Nat → Nat

end Sys2Proof.Config
end

