-- ==== Sys2Proof/Machine/Cipher.lean ====
section
/-! DEFINITION. Authenticated encryption as the routes use it (04 R112, R113; 19 R490): the uninterpreted block cipher of Config in
the shape that AES-GCM and AES-GMAC give it, a keystream of the text's length and a tag of 16 bytes (notes/assumptions/99.md). -/

namespace Sys2Proof.Machine

/-- The first `n` bytes, filled up with zeros. -/
def fixLen (n : Nat) (b : Bytes) : Bytes := (b ++ List.replicate n 0).take n

/-- The 16-byte AES-GMAC tag of a message. -/
def gmacTag (key iv m : Bytes) : Bytes := fixLen 16 (Config.gmac key iv m)

/-- A text under the keystream, which gives it back when applied again. -/
def gcmXor (key iv b : Bytes) : Bytes := List.zipWith (fun x y => x ^^^ y) b (fixLen b.length (Config.gcmStream key iv b.length))

/-- The 16-byte AES-GCM tag of a ciphertext. -/
def gcmTag (key iv aad c : Bytes) : Bytes := fixLen 16 (Config.gcmTag key iv aad c)

/-- AES-GCM sealing: the ciphertext and its tag. -/
def gcmSeal (key iv aad p : Bytes) : Bytes :=
  let c := gcmXor key iv p
  c ++ gcmTag key iv aad c

/-- AES-GCM opening: none where the tag fails. -/
def gcmOpen (key iv aad r : Bytes) : Option Bytes :=
  let c := r.take (r.length - 16)
  if 16 ≤ r.length ∧ r.drop (r.length - 16) = gcmTag key iv aad c then some (gcmXor key iv c) else none

end Sys2Proof.Machine
end

