-- ==== Sys2Proof/Machine/Codes.lean ====
section
/-! DEFINITION. Recorder codes with their severities (04 R110, R121; 03 R84; the code tables of each chapter; 21 R531), and status codes (04 R108). -/

namespace Sys2Proof.Machine

/-- The status codes of 04 R108. -/
inductive Status where
  | sOk | sMalformed | sUnknownOpcode | sBadTarget | sBadParam | sTagInUse
  | sRoute | sRouteFull | sAborted | sNotSupported | sAuthFailed | sNoCredentials
  | sSafetySessionRequired | sBadPassword | sSessionLocked | sLogFull | sSessionLimit | sBusy
  | sBusySafety | sState | sRetired | sNotRetired | sLoopClosed | sUnreferenced
  | sTooLate | sNotActive | sNoPartner | sMailboxFull | sNoSpace | sOwnerConflict
  | sNotFound | sForceTableFull | sLoopCapacity | sBudget | sRetainTooLarge | sForceOnRemoved
  | sForceSafetyOutput | sImpossibleDate | sTimeUnsynced | sTimeInvalid | sImageRejected | sRollback
  | sIncompatible
  deriving DecidableEq, Repr

/-- The value of a status in a completion entry (04 R108). -/
def Status.code : Status → Nat
  | .sOk => 0x0000
  | .sMalformed => 0x0001
  | .sUnknownOpcode => 0x0002
  | .sBadTarget => 0x0003
  | .sBadParam => 0x0004
  | .sTagInUse => 0x0005
  | .sRoute => 0x0006
  | .sRouteFull => 0x0007
  | .sAborted => 0x0008
  | .sNotSupported => 0x0009
  | .sAuthFailed => 0x0010
  | .sNoCredentials => 0x0011
  | .sSafetySessionRequired => 0x0012
  | .sBadPassword => 0x0013
  | .sSessionLocked => 0x0014
  | .sLogFull => 0x0015
  | .sSessionLimit => 0x0016
  | .sBusy => 0x0020
  | .sBusySafety => 0x0021
  | .sState => 0x0022
  | .sRetired => 0x0023
  | .sNotRetired => 0x0024
  | .sLoopClosed => 0x0025
  | .sUnreferenced => 0x0026
  | .sTooLate => 0x0027
  | .sNotActive => 0x0028
  | .sNoPartner => 0x0029
  | .sMailboxFull => 0x0030
  | .sNoSpace => 0x0031
  | .sOwnerConflict => 0x0032
  | .sNotFound => 0x0033
  | .sForceTableFull => 0x0034
  | .sLoopCapacity => 0x0035
  | .sBudget => 0x0036
  | .sRetainTooLarge => 0x0037
  | .sForceOnRemoved => 0x0040
  | .sForceSafetyOutput => 0x0041
  | .sImpossibleDate => 0x0050
  | .sTimeUnsynced => 0x0051
  | .sTimeInvalid => 0x0052
  | .sImageRejected => 0x0060
  | .sRollback => 0x0061
  | .sIncompatible => 0x0062

/-- The allocated recorder codes. -/
inductive Code where
  | eLogicSupplyRange | eLogicSupplySingle | eReset | eResetButtonShort | eResetButtonLong
  | eConfigSaved | eConfigLoaded | eRingFault | eCompletionDiscarded | eAuthFailed
  | eSessionOpened | eSessionClosed | eKeyProvisioned | eBaseplateHot | fSupplyLaLost
  | fSupplyLbLost | fVcoreMargin | fPllLock | fCocoonInvalid | fResetButtonStuck
  | fRetainLost | eTaskStarted | eTaskStopped | eTaskOverrun | eConnTimeout
  | eConnRestored | eEventTriggerLost | eErrorQueueFull | eTaskRealigned | eCoreMismatch
  | eCoreSelftestSkipped | eProgLoaded | eProgExchanged | eProgRefused | eProgPairAbort
  | fTaskHalted | fTaskAbandoned | fTaskMigrated | fCorePairRetired | fNoSparePair
  | eForceSet | eForceReleased | eForceExpired | eForcesCleared | eAcOpen
  | eAcCompliance | eAcShort | eAcNe43 | eAcMismatch | eAcMode
  | eAcCalibrated | eAcSilence | eAcCouplerCrc | eFaLow | eHartNoReply
  | eHartBurst | fAcReference | fAcReadback | fAcThermal | fAcCoupler
  | fAcRetired | fHartModem | fHartModemRetired | fFaUndervoltage | eDcOpen
  | eDcOverload | eDcExtVoltage | eDcSag | eDcSilence | eDcCouplerCrc
  | eDcDiscrepancy | eDcMode | fDcSwitch | fDcThermal | fDcCoupler
  | fDcInputTest | fDcRetired | fFieldUndervoltage | eSoTrip | eSoAck
  | eSoOpen | eSoOverload | eSoTestAbandoned | eSafeSessionOpened | eSafeSessionFailed
  | eSafeLogArchived | eSafeMsgReject | eSafeConnRestored | eSafeAiDisc | eSafeDegradedEnd
  | eFsLow | eSafeLogNearFull | fSoSwitch | fSoSwitchRetired | fSoRetired
  | fSafeDegraded | fSafeBudgetExpired | fSafeSvTrip | fFsUndervoltage | fSafeSessionLocked
  | fSoEttLost | fSoCannotTrip | fSvSelftest | fSafeOvertemp | fSoTestOverdue
  | fSafeLogOverflow | eLoopMode | eLoopPvBad | eLoopLate | eLoopRealigned
  | eLoopRefused | fLoopMemory | eAxisStall | eAxisFollow | eAxisUnreferenced
  | eAxisHomed | eAxisHomeFail | eAxisParked | eAxisLimit | eAxisSilence
  | eAxisOpenPhase | eFmRange | fAxisBridge | fAxisThermal | fAxisCoupler
  | fAxisSelftest | fAxisRetired | fFmUndervoltage | fFmOvervoltage | ePairLinkUp
  | ePairLinkLost | ePairLane | ePairTakeover | ePairSigLate | ePairSplitAvoided
  | ePairSynced | ePairSyncSlow | ePairLoopResync | ePairHdet | fPairMismatch
  | fPairSelftest | fPairIncompatible | fPairIsolated | fPairDualActive | fPairMismatchRepeated
  | eNetLink | eNetStorm | eNetFrameLate | eNetPathSingle | eNetStationSet
  | eNetCycleRealigned | eNetLenMismatch | fNetPort | fNetPortRetired | fNetDupStation
  | eTimeLocked | eTimeUnlocked | eTimeHoldover | eTimeJumpNeeded | eTimeStepped
  | eTimeMaster | eTimeLeap | ePgLate | ePgMissed | ePiOverrange
  | eCanErrorPassive | eCanBusOff | eCanRecovered | eCanRxOverflow | eCanProtocolException
  | eCanSkipperDefer | eCanRefLost | fCanTransceiver | fCanMemory | fCanRetired
  | eCuMismatch | eCuAlive | eCuReassigned | fCuSelftest | fCuRetired
  | eVbkLow | eRtcSet | eRtcBadDate | eRtcLost | eRtcHaltTimeout
  | eRtcBeEdge | fRtcOsc | eIntakeOverflow | eRecSeqMark | eRecSlotEvicted
  | eRecCleared | fRecHistoryLost | eUpdStaged | eUpdRejected | eUpdScheduled
  | eUpdActivated | eUpdCancelled | fUpdActivationFailed | fBootSlot | ePanelMismatch
  | ePanelSuperseded | ePanelCleared | ePanelLowPower | eMemCorrected | eFltReinstated
  | fMemEcc | fMemRetired | fReinstateFailed
  deriving DecidableEq, Repr

/-- The code value: the high byte is the class (04 R109, R110). -/
def Code.num : Code → Nat
  | .eLogicSupplyRange => 0x0100
  | .eLogicSupplySingle => 0x0101
  | .eReset => 0x0102
  | .eResetButtonShort => 0x0103
  | .eResetButtonLong => 0x0104
  | .eConfigSaved => 0x0105
  | .eConfigLoaded => 0x0106
  | .eRingFault => 0x0140
  | .eCompletionDiscarded => 0x0141
  | .eAuthFailed => 0x0142
  | .eSessionOpened => 0x0143
  | .eSessionClosed => 0x0144
  | .eKeyProvisioned => 0x0145
  | .eBaseplateHot => 0x0150
  | .fSupplyLaLost => 0x0180
  | .fSupplyLbLost => 0x0181
  | .fVcoreMargin => 0x0182
  | .fPllLock => 0x0183
  | .fCocoonInvalid => 0x0184
  | .fResetButtonStuck => 0x0185
  | .fRetainLost => 0x0186
  | .eTaskStarted => 0x0200
  | .eTaskStopped => 0x0201
  | .eTaskOverrun => 0x0202
  | .eConnTimeout => 0x0203
  | .eConnRestored => 0x0204
  | .eEventTriggerLost => 0x0205
  | .eErrorQueueFull => 0x0206
  | .eTaskRealigned => 0x0207
  | .eCoreMismatch => 0x0208
  | .eCoreSelftestSkipped => 0x0209
  | .eProgLoaded => 0x0210
  | .eProgExchanged => 0x0211
  | .eProgRefused => 0x0212
  | .eProgPairAbort => 0x0213
  | .fTaskHalted => 0x0280
  | .fTaskAbandoned => 0x0281
  | .fTaskMigrated => 0x0282
  | .fCorePairRetired => 0x0283
  | .fNoSparePair => 0x0284
  | .eForceSet => 0x0300
  | .eForceReleased => 0x0301
  | .eForceExpired => 0x0302
  | .eForcesCleared => 0x0303
  | .eAcOpen => 0x0400
  | .eAcCompliance => 0x0401
  | .eAcShort => 0x0402
  | .eAcNe43 => 0x0403
  | .eAcMismatch => 0x0404
  | .eAcMode => 0x0405
  | .eAcCalibrated => 0x0406
  | .eAcSilence => 0x0407
  | .eAcCouplerCrc => 0x0408
  | .eFaLow => 0x0409
  | .eHartNoReply => 0x0410
  | .eHartBurst => 0x0411
  | .fAcReference => 0x0480
  | .fAcReadback => 0x0481
  | .fAcThermal => 0x0482
  | .fAcCoupler => 0x0483
  | .fAcRetired => 0x0484
  | .fHartModem => 0x0485
  | .fHartModemRetired => 0x0486
  | .fFaUndervoltage => 0x0487
  | .eDcOpen => 0x0500
  | .eDcOverload => 0x0501
  | .eDcExtVoltage => 0x0502
  | .eDcSag => 0x0503
  | .eDcSilence => 0x0504
  | .eDcCouplerCrc => 0x0505
  | .eDcDiscrepancy => 0x0506
  | .eDcMode => 0x0507
  | .fDcSwitch => 0x0580
  | .fDcThermal => 0x0581
  | .fDcCoupler => 0x0582
  | .fDcInputTest => 0x0583
  | .fDcRetired => 0x0584
  | .fFieldUndervoltage => 0x0585
  | .eSoTrip => 0x0600
  | .eSoAck => 0x0601
  | .eSoOpen => 0x0602
  | .eSoOverload => 0x0603
  | .eSoTestAbandoned => 0x0604
  | .eSafeSessionOpened => 0x0605
  | .eSafeSessionFailed => 0x0606
  | .eSafeLogArchived => 0x0607
  | .eSafeMsgReject => 0x0608
  | .eSafeConnRestored => 0x0609
  | .eSafeAiDisc => 0x060A
  | .eSafeDegradedEnd => 0x060B
  | .eFsLow => 0x060C
  | .eSafeLogNearFull => 0x060D
  | .fSoSwitch => 0x0680
  | .fSoSwitchRetired => 0x0681
  | .fSoRetired => 0x0682
  | .fSafeDegraded => 0x0683
  | .fSafeBudgetExpired => 0x0684
  | .fSafeSvTrip => 0x0685
  | .fFsUndervoltage => 0x0686
  | .fSafeSessionLocked => 0x0687
  | .fSoEttLost => 0x0688
  | .fSoCannotTrip => 0x0689
  | .fSvSelftest => 0x068A
  | .fSafeOvertemp => 0x068B
  | .fSoTestOverdue => 0x068C
  | .fSafeLogOverflow => 0x068D
  | .eLoopMode => 0x0700
  | .eLoopPvBad => 0x0701
  | .eLoopLate => 0x0702
  | .eLoopRealigned => 0x0703
  | .eLoopRefused => 0x0704
  | .fLoopMemory => 0x0780
  | .eAxisStall => 0x0800
  | .eAxisFollow => 0x0801
  | .eAxisUnreferenced => 0x0802
  | .eAxisHomed => 0x0803
  | .eAxisHomeFail => 0x0804
  | .eAxisParked => 0x0805
  | .eAxisLimit => 0x0806
  | .eAxisSilence => 0x0807
  | .eAxisOpenPhase => 0x0808
  | .eFmRange => 0x0809
  | .fAxisBridge => 0x0880
  | .fAxisThermal => 0x0881
  | .fAxisCoupler => 0x0882
  | .fAxisSelftest => 0x0883
  | .fAxisRetired => 0x0884
  | .fFmUndervoltage => 0x0885
  | .fFmOvervoltage => 0x0886
  | .ePairLinkUp => 0x0900
  | .ePairLinkLost => 0x0901
  | .ePairLane => 0x0902
  | .ePairTakeover => 0x0903
  | .ePairSigLate => 0x0904
  | .ePairSplitAvoided => 0x0905
  | .ePairSynced => 0x0906
  | .ePairSyncSlow => 0x0907
  | .ePairLoopResync => 0x0908
  | .ePairHdet => 0x0909
  | .fPairMismatch => 0x0980
  | .fPairSelftest => 0x0981
  | .fPairIncompatible => 0x0982
  | .fPairIsolated => 0x0983
  | .fPairDualActive => 0x0984
  | .fPairMismatchRepeated => 0x0985
  | .eNetLink => 0x0A00
  | .eNetStorm => 0x0A01
  | .eNetFrameLate => 0x0A02
  | .eNetPathSingle => 0x0A03
  | .eNetStationSet => 0x0A04
  | .eNetCycleRealigned => 0x0A05
  | .eNetLenMismatch => 0x0A06
  | .fNetPort => 0x0A80
  | .fNetPortRetired => 0x0A81
  | .fNetDupStation => 0x0A82
  | .eTimeLocked => 0x0B00
  | .eTimeUnlocked => 0x0B01
  | .eTimeHoldover => 0x0B02
  | .eTimeJumpNeeded => 0x0B03
  | .eTimeStepped => 0x0B04
  | .eTimeMaster => 0x0B05
  | .eTimeLeap => 0x0B06
  | .ePgLate => 0x0B07
  | .ePgMissed => 0x0B08
  | .ePiOverrange => 0x0B09
  | .eCanErrorPassive => 0x0C00
  | .eCanBusOff => 0x0C01
  | .eCanRecovered => 0x0C02
  | .eCanRxOverflow => 0x0C03
  | .eCanProtocolException => 0x0C04
  | .eCanSkipperDefer => 0x0C05
  | .eCanRefLost => 0x0C06
  | .fCanTransceiver => 0x0C80
  | .fCanMemory => 0x0C81
  | .fCanRetired => 0x0C82
  | .eCuMismatch => 0x0D00
  | .eCuAlive => 0x0D01
  | .eCuReassigned => 0x0D02
  | .fCuSelftest => 0x0D80
  | .fCuRetired => 0x0D81
  | .eVbkLow => 0x0E00
  | .eRtcSet => 0x0E01
  | .eRtcBadDate => 0x0E02
  | .eRtcLost => 0x0E03
  | .eRtcHaltTimeout => 0x0E04
  | .eRtcBeEdge => 0x0E05
  | .fRtcOsc => 0x0E80
  | .eIntakeOverflow => 0x0F00
  | .eRecSeqMark => 0x0F01
  | .eRecSlotEvicted => 0x0F02
  | .eRecCleared => 0x0F03
  | .fRecHistoryLost => 0x0F80
  | .eUpdStaged => 0x1000
  | .eUpdRejected => 0x1001
  | .eUpdScheduled => 0x1002
  | .eUpdActivated => 0x1003
  | .eUpdCancelled => 0x1004
  | .fUpdActivationFailed => 0x1080
  | .fBootSlot => 0x1081
  | .ePanelMismatch => 0x1100
  | .ePanelSuperseded => 0x1101
  | .ePanelCleared => 0x1102
  | .ePanelLowPower => 0x1103
  | .eMemCorrected => 0x1200
  | .eFltReinstated => 0x1201
  | .fMemEcc => 0x1280
  | .fMemRetired => 0x1281
  | .fReinstateFailed => 0x1282

/-- The fixed severity of each code (04 R110, 18 R478). -/
def Code.sev : Code → Nat
  | .eLogicSupplyRange => 3
  | .eLogicSupplySingle => 2
  | .eReset => 2
  | .eResetButtonShort => 1
  | .eResetButtonLong => 2
  | .eConfigSaved => 1
  | .eConfigLoaded => 2
  | .eRingFault => 3
  | .eCompletionDiscarded => 2
  | .eAuthFailed => 3
  | .eSessionOpened => 1
  | .eSessionClosed => 1
  | .eKeyProvisioned => 2
  | .eBaseplateHot => 3
  | .fSupplyLaLost => 4
  | .fSupplyLbLost => 4
  | .fVcoreMargin => 4
  | .fPllLock => 7
  | .fCocoonInvalid => 4
  | .fResetButtonStuck => 4
  | .fRetainLost => 4
  | .eTaskStarted => 1
  | .eTaskStopped => 1
  | .eTaskOverrun => 3
  | .eConnTimeout => 3
  | .eConnRestored => 2
  | .eEventTriggerLost => 3
  | .eErrorQueueFull => 3
  | .eTaskRealigned => 2
  | .eCoreMismatch => 3
  | .eCoreSelftestSkipped => 1
  | .eProgLoaded => 1
  | .eProgExchanged => 2
  | .eProgRefused => 2
  | .eProgPairAbort => 3
  | .fTaskHalted => 4
  | .fTaskAbandoned => 4
  | .fTaskMigrated => 4
  | .fCorePairRetired => 5
  | .fNoSparePair => 6
  | .eForceSet => 2
  | .eForceReleased => 2
  | .eForceExpired => 2
  | .eForcesCleared => 2
  | .eAcOpen => 3
  | .eAcCompliance => 3
  | .eAcShort => 3
  | .eAcNe43 => 3
  | .eAcMismatch => 3
  | .eAcMode => 1
  | .eAcCalibrated => 2
  | .eAcSilence => 3
  | .eAcCouplerCrc => 2
  | .eFaLow => 3
  | .eHartNoReply => 2
  | .eHartBurst => 1
  | .fAcReference => 4
  | .fAcReadback => 4
  | .fAcThermal => 4
  | .fAcCoupler => 4
  | .fAcRetired => 5
  | .fHartModem => 4
  | .fHartModemRetired => 5
  | .fFaUndervoltage => 4
  | .eDcOpen => 3
  | .eDcOverload => 3
  | .eDcExtVoltage => 3
  | .eDcSag => 3
  | .eDcSilence => 3
  | .eDcCouplerCrc => 2
  | .eDcDiscrepancy => 3
  | .eDcMode => 1
  | .fDcSwitch => 4
  | .fDcThermal => 4
  | .fDcCoupler => 4
  | .fDcInputTest => 4
  | .fDcRetired => 5
  | .fFieldUndervoltage => 4
  | .eSoTrip => 3
  | .eSoAck => 2
  | .eSoOpen => 3
  | .eSoOverload => 3
  | .eSoTestAbandoned => 1
  | .eSafeSessionOpened => 2
  | .eSafeSessionFailed => 3
  | .eSafeLogArchived => 2
  | .eSafeMsgReject => 3
  | .eSafeConnRestored => 2
  | .eSafeAiDisc => 3
  | .eSafeDegradedEnd => 2
  | .eFsLow => 3
  | .eSafeLogNearFull => 3
  | .fSoSwitch => 4
  | .fSoSwitchRetired => 5
  | .fSoRetired => 5
  | .fSafeDegraded => 6
  | .fSafeBudgetExpired => 6
  | .fSafeSvTrip => 6
  | .fFsUndervoltage => 6
  | .fSafeSessionLocked => 4
  | .fSoEttLost => 6
  | .fSoCannotTrip => 7
  | .fSvSelftest => 7
  | .fSafeOvertemp => 6
  | .fSoTestOverdue => 4
  | .fSafeLogOverflow => 4
  | .eLoopMode => 1
  | .eLoopPvBad => 3
  | .eLoopLate => 3
  | .eLoopRealigned => 2
  | .eLoopRefused => 2
  | .fLoopMemory => 4
  | .eAxisStall => 3
  | .eAxisFollow => 3
  | .eAxisUnreferenced => 2
  | .eAxisHomed => 1
  | .eAxisHomeFail => 3
  | .eAxisParked => 1
  | .eAxisLimit => 2
  | .eAxisSilence => 3
  | .eAxisOpenPhase => 3
  | .eFmRange => 3
  | .fAxisBridge => 4
  | .fAxisThermal => 4
  | .fAxisCoupler => 4
  | .fAxisSelftest => 4
  | .fAxisRetired => 5
  | .fFmUndervoltage => 4
  | .fFmOvervoltage => 4
  | .ePairLinkUp => 1
  | .ePairLinkLost => 3
  | .ePairLane => 3
  | .ePairTakeover => 3
  | .ePairSigLate => 3
  | .ePairSplitAvoided => 3
  | .ePairSynced => 2
  | .ePairSyncSlow => 3
  | .ePairLoopResync => 2
  | .ePairHdet => 1
  | .fPairMismatch => 4
  | .fPairSelftest => 4
  | .fPairIncompatible => 4
  | .fPairIsolated => 4
  | .fPairDualActive => 4
  | .fPairMismatchRepeated => 4
  | .eNetLink => 2
  | .eNetStorm => 3
  | .eNetFrameLate => 2
  | .eNetPathSingle => 3
  | .eNetStationSet => 2
  | .eNetCycleRealigned => 2
  | .eNetLenMismatch => 3
  | .fNetPort => 4
  | .fNetPortRetired => 5
  | .fNetDupStation => 4
  | .eTimeLocked => 1
  | .eTimeUnlocked => 3
  | .eTimeHoldover => 3
  | .eTimeJumpNeeded => 3
  | .eTimeStepped => 3
  | .eTimeMaster => 2
  | .eTimeLeap => 2
  | .ePgLate => 2
  | .ePgMissed => 2
  | .ePiOverrange => 3
  | .eCanErrorPassive => 3
  | .eCanBusOff => 3
  | .eCanRecovered => 2
  | .eCanRxOverflow => 3
  | .eCanProtocolException => 2
  | .eCanSkipperDefer => 2
  | .eCanRefLost => 3
  | .fCanTransceiver => 4
  | .fCanMemory => 4
  | .fCanRetired => 5
  | .eCuMismatch => 3
  | .eCuAlive => 3
  | .eCuReassigned => 2
  | .fCuSelftest => 4
  | .fCuRetired => 5
  | .eVbkLow => 3
  | .eRtcSet => 2
  | .eRtcBadDate => 2
  | .eRtcLost => 3
  | .eRtcHaltTimeout => 3
  | .eRtcBeEdge => 2
  | .fRtcOsc => 4
  | .eIntakeOverflow => 3
  | .eRecSeqMark => 0
  | .eRecSlotEvicted => 1
  | .eRecCleared => 2
  | .fRecHistoryLost => 4
  | .eUpdStaged => 2
  | .eUpdRejected => 3
  | .eUpdScheduled => 2
  | .eUpdActivated => 2
  | .eUpdCancelled => 2
  | .fUpdActivationFailed => 4
  | .fBootSlot => 7
  | .ePanelMismatch => 3
  | .ePanelSuperseded => 0
  | .ePanelCleared => 2
  | .ePanelLowPower => 1
  | .eMemCorrected => 1
  | .eFltReinstated => 2
  | .fMemEcc => 4
  | .fMemRetired => 5
  | .fReinstateFailed => 4

/-- Every allocated code in ascending order (18 R568). -/
def Code.all : List Code :=
  [.eLogicSupplyRange, .eLogicSupplySingle, .eReset, .eResetButtonShort, .eResetButtonLong, .eConfigSaved, .eConfigLoaded, .eRingFault, .eCompletionDiscarded, .eAuthFailed, .eSessionOpened, .eSessionClosed, .eKeyProvisioned, .eBaseplateHot, .fSupplyLaLost, .fSupplyLbLost, .fVcoreMargin, .fPllLock, .fCocoonInvalid, .fResetButtonStuck, .fRetainLost, .eTaskStarted, .eTaskStopped, .eTaskOverrun, .eConnTimeout, .eConnRestored, .eEventTriggerLost, .eErrorQueueFull, .eTaskRealigned, .eCoreMismatch, .eCoreSelftestSkipped, .eProgLoaded, .eProgExchanged, .eProgRefused, .eProgPairAbort, .fTaskHalted, .fTaskAbandoned, .fTaskMigrated, .fCorePairRetired, .fNoSparePair, .eForceSet, .eForceReleased, .eForceExpired, .eForcesCleared, .eAcOpen, .eAcCompliance, .eAcShort, .eAcNe43, .eAcMismatch, .eAcMode, .eAcCalibrated, .eAcSilence, .eAcCouplerCrc, .eFaLow, .eHartNoReply, .eHartBurst, .fAcReference, .fAcReadback, .fAcThermal, .fAcCoupler, .fAcRetired, .fHartModem, .fHartModemRetired, .fFaUndervoltage, .eDcOpen, .eDcOverload, .eDcExtVoltage, .eDcSag, .eDcSilence, .eDcCouplerCrc] ++
  [.eDcDiscrepancy, .eDcMode, .fDcSwitch, .fDcThermal, .fDcCoupler, .fDcInputTest, .fDcRetired, .fFieldUndervoltage, .eSoTrip, .eSoAck, .eSoOpen, .eSoOverload, .eSoTestAbandoned, .eSafeSessionOpened, .eSafeSessionFailed, .eSafeLogArchived, .eSafeMsgReject, .eSafeConnRestored, .eSafeAiDisc, .eSafeDegradedEnd, .eFsLow, .eSafeLogNearFull, .fSoSwitch, .fSoSwitchRetired, .fSoRetired, .fSafeDegraded, .fSafeBudgetExpired, .fSafeSvTrip, .fFsUndervoltage, .fSafeSessionLocked, .fSoEttLost, .fSoCannotTrip, .fSvSelftest, .fSafeOvertemp, .fSoTestOverdue, .fSafeLogOverflow, .eLoopMode, .eLoopPvBad, .eLoopLate, .eLoopRealigned, .eLoopRefused, .fLoopMemory, .eAxisStall, .eAxisFollow, .eAxisUnreferenced, .eAxisHomed, .eAxisHomeFail, .eAxisParked, .eAxisLimit, .eAxisSilence, .eAxisOpenPhase, .eFmRange, .fAxisBridge, .fAxisThermal, .fAxisCoupler, .fAxisSelftest, .fAxisRetired, .fFmUndervoltage, .fFmOvervoltage, .ePairLinkUp, .ePairLinkLost, .ePairLane, .ePairTakeover, .ePairSigLate, .ePairSplitAvoided, .ePairSynced, .ePairSyncSlow, .ePairLoopResync, .ePairHdet, .fPairMismatch] ++
  [.fPairSelftest, .fPairIncompatible, .fPairIsolated, .fPairDualActive, .fPairMismatchRepeated, .eNetLink, .eNetStorm, .eNetFrameLate, .eNetPathSingle, .eNetStationSet, .eNetCycleRealigned, .eNetLenMismatch, .fNetPort, .fNetPortRetired, .fNetDupStation, .eTimeLocked, .eTimeUnlocked, .eTimeHoldover, .eTimeJumpNeeded, .eTimeStepped, .eTimeMaster, .eTimeLeap, .ePgLate, .ePgMissed, .ePiOverrange, .eCanErrorPassive, .eCanBusOff, .eCanRecovered, .eCanRxOverflow, .eCanProtocolException, .eCanSkipperDefer, .eCanRefLost, .fCanTransceiver, .fCanMemory, .fCanRetired, .eCuMismatch, .eCuAlive, .eCuReassigned, .fCuSelftest, .fCuRetired, .eVbkLow, .eRtcSet, .eRtcBadDate, .eRtcLost, .eRtcHaltTimeout, .eRtcBeEdge, .fRtcOsc, .eIntakeOverflow, .eRecSeqMark, .eRecSlotEvicted, .eRecCleared, .fRecHistoryLost, .eUpdStaged, .eUpdRejected, .eUpdScheduled, .eUpdActivated, .eUpdCancelled, .fUpdActivationFailed, .fBootSlot, .ePanelMismatch, .ePanelSuperseded, .ePanelCleared, .ePanelLowPower, .eMemCorrected, .eFltReinstated, .fMemEcc, .fMemRetired, .fReinstateFailed]

/-- The code with a given value. -/
def Code.ofNum (n : Nat) : Option Code := Code.all.find? (fun c => c.num == n)

/-- Factory `REC_RATE` of a code (18 R485). -/
def recRateFactory (code : Nat) : Nat :=
  match Code.ofNum code with
  | some c => if c.sev ≤ 3 then 10 else 0
  | none => 10

/-- Factory `HIST_LO` of a code; the spec gives no value (DESIGN CHOICE, notes/assumptions/5.md). -/
def histLoFactory (_code : Nat) : Nat := 0

/-- Factory `HIST_STEP` of a code; the spec gives no value (DESIGN CHOICE, notes/assumptions/5.md). -/
def histStepFactory (_code : Nat) : Nat := 1

/-- The measure form of a code (18 R480): 0 whole quantity, 1 signed 24-bit, 2 unsigned 16-bit. -/
def measureForm (code : Nat) : Nat :=
  let cls := code / 256
  if cls = 0x10 then 2
  else if cls = 0x04 ∨ cls = 0x05 ∨ cls = 0x06 ∨ cls = 0x08 ∨ cls = 0x0A ∨ cls = 0x0B ∨ cls = 0x0C ∨ cls = 0x0D ∨ cls = 0x0E ∨ cls = 0x12
      ∨ code = 0x0100 ∨ code = 0x0102 ∨ code = 0x0F00 then 1
  else 0

end Sys2Proof.Machine
end

