-- ==== Sys2Proof/Machine/Params.lean ====
section
/-! DEFINITION. The parameters marked Restored Y in the parameter tables (00 R7): names, factory values, ranges.
A REAL parameter is held as its 32-bit pattern; a signed one as its two's complement pattern. -/

namespace Sys2Proof.Machine

/-- Every parameter that the Configuration section restores (03 R71). -/
inductive Param where
  -- power (03 R61)
  | logicDualFeed | retainCommitPeriod
  -- core pairs (05 R123)
  | pairMode | selftestPeriod
  -- tasks (05 R126)
  | taskKind | taskPair | taskCore | taskTimeBase | taskCycle | taskPhase | taskSyncMult | taskTrigger
  | taskOverrunLimit | taskRunState
  -- consumed connections (05 R144)
  | wdCycles
  -- forcing (07 R205)
  | forceLimit
  -- loops (08 R226)
  | loopEn | loopAction | loopModeLock | loopSpTrack | loopManSrc | loopPvFail | loopTs | loopPhase
  | loopTimeBase | loopPvSrc | loopSpSrc | loopOutDest | loopKp | loopKi | loopKd | loopN
  | loopSpConst | loopSpLo | loopSpHi | loopSpRate | loopOutLo | loopOutHi | loopOutRate | loopOutSafe
  | loopManValue | loopMode
  -- analogue channels (09 R257)
  | acMode | acNe43En | acSafeMode | acHartEn | acFilter | acEu4 | acEu20 | acSafeMa
  | acSilenceTo | acTxLiftoff | acLoopR | hartMultidrop | hartRetries | hartPollAddr | hartPollMs | burstDwell
  | acService | acCalGain | acCalOffset
  -- digital channels (10 R280)
  | dcMode | dcDiType | dcSafeState | dcOwEn | dcUvReturn | dcOlLatch | dcFilter | dcSilenceTo
  | dcOlRetry | dcPairSense | dcDiscTime | dcLegacyFault | dcService
  -- safety (11 R312)
  | soTripMode | soAckSource | soRestartAck | soOpenCheck | soTestInterval | soDiagInterval | soTestWidth | soDegradedBudget
  | aiPairEn | aiTrip | aiDev | aiDiscTime | scRole | aliveGap | smKey | scPeer
  | scPlen
  -- axes (12 R337, R338)
  | axEn | axDirInv | axStandstill | axSafe | axStepsPerUnit | axIRun | axIHold | axVmax
  | axAmax | axDmax | axJmax | axDstop | axSoftLo | axSoftHi | axToff | axFastPct
  | axHystBand | axStallThr | axFbSrc | axFbScale | axFbDev | axInPosWin | homeMode | homeDir
  | homeDc | homeVel | homePos | homeRange | holdDelay | parkDelay
  -- pair (13 R343)
  | pairEn | pairSide | desigPrimary | releaseBase | autoJoin | agreeRule
  -- connections (14 R394); produced ones by number, consumed ones by number
  | pcEn | pcMult | pcPhase | pcLen | ccEn | ccMult | ccSrc | ccConn
  | ccLen
  -- time bases (14 R409), by base 1 to 3
  | ptpDomain | ptpRole | ptpDelay | tbSrc | ptpPrio1 | ptpPrio2 | logSync | logAnnounce
  | syncThr | holdoverS | tb2Can | portFailover
  -- pulse generators (14 R413)
  | pgMode | pgTb | pgDest | pgPol | pgPeriod | pgWidth | pgStart
  -- pulse inputs (14 R415)
  | piMode | piCapture | piFilter | piGate
  -- network (14 R416)
  | netMode | netHops | vlanId | netCycle | sendSlot | rxClose | mgmtSrcRate | fwdSrcRate
  | portEn | stationId
  -- CAN (15 R443); filters by 64 n + f
  | canEn | canMode | canFdEn | canTxOrder | canPexEn | canTdcEn | canSkipper | canSkipFollow
  | canNbrp | canNsjw | canNtseg1 | canNtseg2 | canDbrp | canDtseg1 | canDtseg2 | canDsjw
  | canTdco | canRefId | canRefPeriod | canRefDelay | fAction | fKind | fId | fMask
  -- check units (16 R456)
  | cuStream | cuPreset | cuSel | cuWidth | cuRefin | cuRefout | cuCmpMode | cuAcEn
  | cuAcOffset | cuPoly | cuInit | cuXorout | cuExpect | cuAcWidth | cuAcGap
  -- recorder (18 R485); the first four by code
  | recRate | recBurst | histLo | histStep | recClosePeriod | recCloseSev
  -- service port (19 R489)
  | svcIp | svcMask | svcIdle
  -- panel (20 R516)
  | pnlKind | privetLines | pnlBl | privetBl | pnlWidth | pnlHeight | pnlHblank | pnlVblank
  | pnlPclk | pnlIdle
  -- fault manager (21 R528), by class
  | fltN | fltW
  deriving DecidableEq, Repr

/-- The factory value of a parameter of resource `i`. -/
def Param.factory (p : Param) (i : Nat) : Nat :=
  match p with
  | .logicDualFeed => 1
  | .retainCommitPeriod => 60
  | .pairMode => 0
  | .selftestPeriod => 10
  | .taskKind => 0
  | .taskPair => i / 2
  | .taskCore => i % 2
  | .taskTimeBase => 0
  | .taskCycle => 10000000
  | .taskPhase => 0
  | .taskSyncMult => 1
  | .taskTrigger => 0
  | .taskOverrunLimit => 3
  | .taskRunState => 0
  | .wdCycles => 3
  | .forceLimit => 0
  | .loopEn => 0
  | .loopAction => 0
  | .loopModeLock => 0
  | .loopSpTrack => 1
  | .loopManSrc => 0
  | .loopPvFail => 0
  | .loopTs => 10000
  | .loopPhase => 0
  | .loopTimeBase => 0
  | .loopPvSrc => 0
  | .loopSpSrc => 0
  | .loopOutDest => 0
  | .loopKp => 1065353216
  | .loopKi => 0
  | .loopKd => 0
  | .loopN => 1092616192
  | .loopSpConst => 0
  | .loopSpLo => 3379831808
  | .loopSpHi => 1232348160
  | .loopSpRate => 0
  | .loopOutLo => 0
  | .loopOutHi => 1120403456
  | .loopOutRate => 0
  | .loopOutSafe => 0
  | .loopManValue => 0
  | .loopMode => 3
  | .acMode => 0
  | .acNe43En => 1
  | .acSafeMode => 2
  | .acHartEn => 0
  | .acFilter => 100000
  | .acEu4 => 1082130432
  | .acEu20 => 1101004800
  | .acSafeMa => 1082130432
  | .acSilenceTo => 50
  | .acTxLiftoff => 1094713344
  | .acLoopR => 1120403456
  | .hartMultidrop => 0
  | .hartRetries => 3
  | .hartPollAddr => 0
  | .hartPollMs => 0
  | .burstDwell => 1000
  | .acService => 0
  | .acCalGain => 0
  | .acCalOffset => 0
  | .dcMode => 0
  | .dcDiType => 1
  | .dcSafeState => 0
  | .dcOwEn => 0
  | .dcUvReturn => 0
  | .dcOlLatch => 0
  | .dcFilter => 5000
  | .dcSilenceTo => 50
  | .dcOlRetry => 1000
  | .dcPairSense => 0
  | .dcDiscTime => 100
  | .dcLegacyFault => 0
  | .dcService => 0
  | .soTripMode => 0
  | .soAckSource => 0
  | .soRestartAck => 1
  | .soOpenCheck => 1
  | .soTestInterval => 60
  | .soDiagInterval => 3600
  | .soTestWidth => 200
  | .soDegradedBudget => 28800
  | .aiPairEn => 0
  | .aiTrip => 1
  | .aiDev => 1065353216
  | .aiDiscTime => 500
  | .scRole => 0
  | .aliveGap => 1
  | .smKey => 0
  | .scPeer => 0
  | .scPlen => 0
  | .axEn => 0
  | .axDirInv => 0
  | .axStandstill => 0
  | .axSafe => 1
  | .axStepsPerUnit => 1128792064
  | .axIRun => 1065353216
  | .axIHold => 1056964608
  | .axVmax => 1084227584
  | .axAmax => 1103626240
  | .axDmax => 1103626240
  | .axJmax => 1132068864
  | .axDstop => 1112014848
  | .axSoftLo => 3379831808
  | .axSoftHi => 1232348160
  | .axToff => 10
  | .axFastPct => 25
  | .axHystBand => 15
  | .axStallThr => 30
  | .axFbSrc => 0
  | .axFbScale => 1065353216
  | .axFbDev => 0
  | .axInPosWin => 1008981770
  | .homeMode => 0
  | .homeDir => 1
  | .homeDc => 0
  | .homeVel => 1056964608
  | .homePos => 0
  | .homeRange => 1120403456
  | .holdDelay => 500
  | .parkDelay => 10
  | .pairEn => 0
  | .pairSide => 0
  | .desigPrimary => 0
  | .releaseBase => 1
  | .autoJoin => 1
  | .agreeRule => 0
  | .pcEn => 0
  | .pcMult => 1
  | .pcPhase => 0
  | .pcLen => 0
  | .ccEn => 0
  | .ccMult => 1
  | .ccSrc => 0
  | .ccConn => 0
  | .ccLen => 0
  | .ptpDomain => if i = 2 then 1 else 0
  | .ptpRole => 0
  | .ptpDelay => 0
  | .tbSrc => 0
  | .ptpPrio1 => 128
  | .ptpPrio2 => 128
  | .logSync => 253
  | .logAnnounce => 0
  | .syncThr => 1000
  | .holdoverS => 10
  | .tb2Can => 0
  | .portFailover => 1
  | .pgMode => 0
  | .pgTb => 0
  | .pgDest => 1
  | .pgPol => 0
  | .pgPeriod => 1000
  | .pgWidth => 10
  | .pgStart => 0
  | .piMode => 0
  | .piCapture => 255
  | .piFilter => 20
  | .piGate => 100
  | .netMode => 0
  | .netHops => 16
  | .vlanId => 0
  | .netCycle => 1000
  | .sendSlot => 0
  | .rxClose => 800
  | .mgmtSrcRate => 2000
  | .fwdSrcRate => 250
  | .portEn => 1
  | .stationId => 0
  | .canEn => 0
  | .canMode => 0
  | .canFdEn => 0
  | .canTxOrder => 0
  | .canPexEn => 1
  | .canTdcEn => 1
  | .canSkipper => 0
  | .canSkipFollow => 0
  | .canNbrp => 2
  | .canNsjw => 16
  | .canNtseg1 => 63
  | .canNtseg2 => 16
  | .canDbrp => 1
  | .canDtseg1 => 29
  | .canDtseg2 => 10
  | .canDsjw => 10
  | .canTdco => 30
  | .canRefId => 1
  | .canRefPeriod => 10000
  | .canRefDelay => 0
  | .fAction => 0
  | .fKind => 3
  | .fId => 0
  | .fMask => 1073741823
  | .cuStream => 0
  | .cuPreset => 2
  | .cuSel => 0
  | .cuWidth => 32
  | .cuRefin => 1
  | .cuRefout => 1
  | .cuCmpMode => 0
  | .cuAcEn => 0
  | .cuAcOffset => 0
  | .cuPoly => 517762881
  | .cuInit => 4294967295
  | .cuXorout => 4294967295
  | .cuExpect => 0
  | .cuAcWidth => 2
  | .cuAcGap => 1
  | .recRate => recRateFactory i
  | .recBurst => 20
  | .histLo => histLoFactory i
  | .histStep => histStepFactory i
  | .recClosePeriod => 3600
  | .recCloseSev => 4
  | .svcIp => 3232300608
  | .svcMask => 24
  | .svcIdle => 300
  | .pnlKind => 0
  | .privetLines => 32
  | .pnlBl => 80
  | .privetBl => 10
  | .pnlWidth => 0
  | .pnlHeight => 0
  | .pnlHblank => 160
  | .pnlVblank => 35
  | .pnlPclk => 45000
  | .pnlIdle => 600
  | .fltN => 3
  | .fltW => 600

/-- The plain range of a parameter: lowest and highest raw value. -/
def Param.range (p : Param) : Nat × Nat :=
  match p with
  | .logicDualFeed => (0, 1)
  | .retainCommitPeriod => (1, 3600)
  | .pairMode => (0, 2)
  | .selftestPeriod => (1, 3600)
  | .taskKind => (0, 5)
  | .taskPair => (0, 7)
  | .taskCore => (0, 1)
  | .taskTimeBase => (0, 1)
  | .taskCycle => (100000, 10000000000)
  | .taskPhase => (0, 9999990000)
  | .taskSyncMult => (1, 16)
  | .taskTrigger => (0, 4294967295)
  | .taskOverrunLimit => (1, 16)
  | .taskRunState => (0, 1)
  | .wdCycles => (2, 255)
  | .forceLimit => (0, 259200)
  | .loopEn => (0, 1)
  | .loopAction => (0, 1)
  | .loopModeLock => (0, 2)
  | .loopSpTrack => (0, 1)
  | .loopManSrc => (0, 1)
  | .loopPvFail => (0, 1)
  | .loopTs => (5, 6000000)
  | .loopPhase => (0, 5999999)
  | .loopTimeBase => (0, 1)
  | .loopPvSrc => (0, 4294967295)
  | .loopSpSrc => (0, 4294967295)
  | .loopOutDest => (0, 4294967295)
  | .loopKp => (0, 4294967295)
  | .loopKi => (0, 4294967295)
  | .loopKd => (0, 4294967295)
  | .loopN => (0, 4294967295)
  | .loopSpConst => (0, 4294967295)
  | .loopSpLo => (0, 4294967295)
  | .loopSpHi => (0, 4294967295)
  | .loopSpRate => (0, 4294967295)
  | .loopOutLo => (0, 4294967295)
  | .loopOutHi => (0, 4294967295)
  | .loopOutRate => (0, 4294967295)
  | .loopOutSafe => (0, 4294967295)
  | .loopManValue => (0, 4294967295)
  | .loopMode => (1, 3)
  | .acMode => (0, 3)
  | .acNe43En => (0, 1)
  | .acSafeMode => (0, 4)
  | .acHartEn => (0, 1)
  | .acFilter => (0, 4294967295)
  | .acEu4 => (0, 4294967295)
  | .acEu20 => (0, 4294967295)
  | .acSafeMa => (0, 4294967295)
  | .acSilenceTo => (1, 1000)
  | .acTxLiftoff => (0, 4294967295)
  | .acLoopR => (0, 4294967295)
  | .hartMultidrop => (0, 1)
  | .hartRetries => (0, 5)
  | .hartPollAddr => (0, 15)
  | .hartPollMs => (0, 60000)
  | .burstDwell => (100, 10000)
  | .acService => (0, 1)
  | .acCalGain => (0, 4294967295)
  | .acCalOffset => (0, 4294967295)
  | .dcMode => (0, 3)
  | .dcDiType => (1, 3)
  | .dcSafeState => (0, 2)
  | .dcOwEn => (0, 1)
  | .dcUvReturn => (0, 1)
  | .dcOlLatch => (0, 1)
  | .dcFilter => (0, 4294967295)
  | .dcSilenceTo => (1, 1000)
  | .dcOlRetry => (100, 60000)
  | .dcPairSense => (0, 1)
  | .dcDiscTime => (10, 10000)
  | .dcLegacyFault => (0, 1)
  | .dcService => (0, 1)
  | .soTripMode => (0, 1)
  | .soAckSource => (0, 1)
  | .soRestartAck => (0, 1)
  | .soOpenCheck => (0, 1)
  | .soTestInterval => (1, 3600)
  | .soDiagInterval => (1, 86400)
  | .soTestWidth => (100, 1000)
  | .soDegradedBudget => (60, 259200)
  | .aiPairEn => (0, 1)
  | .aiTrip => (0, 1)
  | .aiDev => (0, 4294967295)
  | .aiDiscTime => (10, 10000)
  | .scRole => (0, 2)
  | .aliveGap => (1, 15)
  | .smKey => (0, 4294967295)
  | .scPeer => (0, 65535)
  | .scPlen => (0, 64)
  | .axEn => (0, 1)
  | .axDirInv => (0, 1)
  | .axStandstill => (0, 1)
  | .axSafe => (0, 1)
  | .axStepsPerUnit => (0, 4294967295)
  | .axIRun => (0, 4294967295)
  | .axIHold => (0, 4294967295)
  | .axVmax => (0, 4294967295)
  | .axAmax => (0, 4294967295)
  | .axDmax => (0, 4294967295)
  | .axJmax => (0, 4294967295)
  | .axDstop => (0, 4294967295)
  | .axSoftLo => (0, 4294967295)
  | .axSoftHi => (0, 4294967295)
  | .axToff => (2, 30)
  | .axFastPct => (0, 100)
  | .axHystBand => (5, 30)
  | .axStallThr => (0, 90)
  | .axFbSrc => (0, 4294967295)
  | .axFbScale => (0, 4294967295)
  | .axFbDev => (0, 4294967295)
  | .axInPosWin => (0, 4294967295)
  | .homeMode => (0, 3)
  | .homeDir => (0, 1)
  | .homeDc => (0, 31)
  | .homeVel => (0, 4294967295)
  | .homePos => (0, 4294967295)
  | .homeRange => (0, 4294967295)
  | .holdDelay => (0, 10000)
  | .parkDelay => (0, 3600)
  | .pairEn => (0, 1)
  | .pairSide => (0, 1)
  | .desigPrimary => (0, 1)
  | .releaseBase => (0, 1)
  | .autoJoin => (0, 1)
  | .agreeRule => (0, 5)
  | .pcEn => (0, 1)
  | .pcMult => (1, 255)
  | .pcPhase => (0, 254)
  | .pcLen => (0, 1400)
  | .ccEn => (0, 1)
  | .ccMult => (1, 255)
  | .ccSrc => (0, 65535)
  | .ccConn => (0, 1023)
  | .ccLen => (0, 1400)
  | .ptpDomain => (0, 127)
  | .ptpRole => (0, 1)
  | .ptpDelay => (0, 1)
  | .tbSrc => (0, 2)
  | .ptpPrio1 => (0, 255)
  | .ptpPrio2 => (0, 255)
  | .logSync => (0, 255)
  | .logAnnounce => (0, 255)
  | .syncThr => (100, 100000)
  | .holdoverS => (0, 3600)
  | .tb2Can => (0, 3)
  | .portFailover => (0, 1)
  | .pgMode => (0, 2)
  | .pgTb => (0, 3)
  | .pgDest => (0, 7)
  | .pgPol => (0, 1)
  | .pgPeriod => (10, 1000000000)
  | .pgWidth => (1, 1000000)
  | .pgStart => (0, 18446744073709551615)
  | .piMode => (0, 3)
  | .piCapture => (0, 255)
  | .piFilter => (5, 10000)
  | .piGate => (1, 10000)
  | .netMode => (0, 1)
  | .netHops => (1, 16)
  | .vlanId => (0, 4094)
  | .netCycle => (125, 100000)
  | .sendSlot => (0, 99998)
  | .rxClose => (1, 99999)
  | .mgmtSrcRate => (64, 50000)
  | .fwdSrcRate => (10, 1000)
  | .portEn => (0, 1)
  | .stationId => (0, 65535)
  | .canEn => (0, 1)
  | .canMode => (0, 2)
  | .canFdEn => (0, 1)
  | .canTxOrder => (0, 1)
  | .canPexEn => (0, 1)
  | .canTdcEn => (0, 1)
  | .canSkipper => (0, 1)
  | .canSkipFollow => (0, 1)
  | .canNbrp => (1, 32)
  | .canNsjw => (1, 128)
  | .canNtseg1 => (2, 256)
  | .canNtseg2 => (2, 128)
  | .canDbrp => (1, 32)
  | .canDtseg1 => (1, 32)
  | .canDtseg2 => (1, 16)
  | .canDsjw => (1, 16)
  | .canTdco => (0, 127)
  | .canRefId => (0, 1073741823)
  | .canRefPeriod => (1000, 10000000)
  | .canRefDelay => (0, 10000)
  | .fAction => (0, 4)
  | .fKind => (1, 7)
  | .fId => (0, 1073741823)
  | .fMask => (0, 1073741823)
  | .cuStream => (0, 5)
  | .cuPreset => (0, 4)
  | .cuSel => (0, 65535)
  | .cuWidth => (8, 32)
  | .cuRefin => (0, 1)
  | .cuRefout => (0, 1)
  | .cuCmpMode => (0, 2)
  | .cuAcEn => (0, 1)
  | .cuAcOffset => (0, 1399)
  | .cuPoly => (0, 4294967295)
  | .cuInit => (0, 4294967295)
  | .cuXorout => (0, 4294967295)
  | .cuExpect => (0, 4294967295)
  | .cuAcWidth => (1, 4)
  | .cuAcGap => (1, 255)
  | .recRate => (0, 10000)
  | .recBurst => (1, 1000)
  | .histLo => (0, 4294967295)
  | .histStep => (1, 2147483647)
  | .recClosePeriod => (60, 86400)
  | .recCloseSev => (0, 8)
  | .svcIp => (0, 4294967295)
  | .svcMask => (8, 30)
  | .svcIdle => (60, 3600)
  | .pnlKind => (0, 2)
  | .privetLines => (0, 64)
  | .pnlBl => (0, 100)
  | .privetBl => (0, 100)
  | .pnlWidth => (0, 65535)
  | .pnlHeight => (0, 65535)
  | .pnlHblank => (8, 1024)
  | .pnlVblank => (2, 255)
  | .pnlPclk => (10000, 75000)
  | .pnlIdle => (0, 86400)
  | .fltN => (1, 15)
  | .fltW => (60, 604800)

/-- The key of parameter `p` of resource `i` in the parameter table. -/
def Param.key (p : Param) (i : Nat) : Nat := p.ctorIdx + 512 * i

/-- A parameter value inside its plain range. -/
def Param.inRange (p : Param) (v : Nat) : Bool := decide (p.range.1 ≤ v) && decide (v ≤ p.range.2)

/-- The parameter a table key names: the constructors in order. -/
def Param.all : List Param :=
  [.logicDualFeed, .retainCommitPeriod, .pairMode, .selftestPeriod, .taskKind, .taskPair, .taskCore, .taskTimeBase, .taskCycle, .taskPhase,
   .taskSyncMult, .taskTrigger, .taskOverrunLimit, .taskRunState, .wdCycles, .forceLimit, .loopEn, .loopAction, .loopModeLock, .loopSpTrack,
   .loopManSrc, .loopPvFail, .loopTs, .loopPhase, .loopTimeBase, .loopPvSrc, .loopSpSrc, .loopOutDest, .loopKp, .loopKi,
   .loopKd, .loopN, .loopSpConst, .loopSpLo, .loopSpHi, .loopSpRate, .loopOutLo, .loopOutHi, .loopOutRate, .loopOutSafe,
   .loopManValue, .loopMode, .acMode, .acNe43En, .acSafeMode, .acHartEn, .acFilter, .acEu4, .acEu20, .acSafeMa,
   .acSilenceTo, .acTxLiftoff, .acLoopR, .hartMultidrop, .hartRetries, .hartPollAddr, .hartPollMs, .burstDwell, .acService, .acCalGain,
   .acCalOffset, .dcMode, .dcDiType, .dcSafeState, .dcOwEn, .dcUvReturn, .dcOlLatch, .dcFilter, .dcSilenceTo, .dcOlRetry,
   .dcPairSense, .dcDiscTime, .dcLegacyFault, .dcService, .soTripMode, .soAckSource, .soRestartAck, .soOpenCheck, .soTestInterval, .soDiagInterval,
   .soTestWidth, .soDegradedBudget, .aiPairEn, .aiTrip, .aiDev, .aiDiscTime, .scRole, .aliveGap, .smKey, .scPeer] ++
  [.scPlen, .axEn, .axDirInv, .axStandstill, .axSafe, .axStepsPerUnit, .axIRun, .axIHold, .axVmax, .axAmax,
   .axDmax, .axJmax, .axDstop, .axSoftLo, .axSoftHi, .axToff, .axFastPct, .axHystBand, .axStallThr, .axFbSrc,
   .axFbScale, .axFbDev, .axInPosWin, .homeMode, .homeDir, .homeDc, .homeVel, .homePos, .homeRange, .holdDelay,
   .parkDelay, .pairEn, .pairSide, .desigPrimary, .releaseBase, .autoJoin, .agreeRule, .pcEn, .pcMult, .pcPhase,
   .pcLen, .ccEn, .ccMult, .ccSrc, .ccConn, .ccLen, .ptpDomain, .ptpRole, .ptpDelay, .tbSrc,
   .ptpPrio1, .ptpPrio2, .logSync, .logAnnounce, .syncThr, .holdoverS, .tb2Can, .portFailover, .pgMode, .pgTb,
   .pgDest, .pgPol, .pgPeriod, .pgWidth, .pgStart, .piMode, .piCapture, .piFilter, .piGate, .netMode,
   .netHops, .vlanId, .netCycle, .sendSlot, .rxClose, .mgmtSrcRate, .fwdSrcRate, .portEn, .stationId, .canEn,
   .canMode, .canFdEn, .canTxOrder, .canPexEn, .canTdcEn, .canSkipper, .canSkipFollow, .canNbrp, .canNsjw, .canNtseg1] ++
  [.canNtseg2, .canDbrp, .canDtseg1, .canDtseg2, .canDsjw, .canTdco, .canRefId, .canRefPeriod, .canRefDelay, .fAction,
   .fKind, .fId, .fMask, .cuStream, .cuPreset, .cuSel, .cuWidth, .cuRefin, .cuRefout, .cuCmpMode,
   .cuAcEn, .cuAcOffset, .cuPoly, .cuInit, .cuXorout, .cuExpect, .cuAcWidth, .cuAcGap, .recRate, .recBurst,
   .histLo, .histStep, .recClosePeriod, .recCloseSev, .svcIp, .svcMask, .svcIdle, .pnlKind, .privetLines,
   .pnlBl, .privetBl, .pnlWidth, .pnlHeight, .pnlHblank, .pnlVblank, .pnlPclk, .pnlIdle, .fltN, .fltW]

/-- What an unlisted key of the parameter table reads as: the factory value (00 R7). -/
def Param.unlisted (k : Nat) : Nat :=
  match Param.all[k % 512]? with
  | some p => p.factory (k / 512)
  | none => 0

end Sys2Proof.Machine
end

