-- ==== Sys2Proof/Machine/Tab.lean ====
section
/-! DEFINITION. Sparse tables in one canonical form: keys strictly rising, and no entry equal to what an unlisted key
reads as. Memories (unlisted byte 0) and the tables of like resources (unlisted resource as at reset) are such tables. -/

namespace Sys2Proof.Machine

/-- A sparse table from numbers to values. -/
abbrev Tab (α : Type) := List (Nat × α)

variable {α : Type}

/-- The value at key `k`; an unlisted key reads as `d k`. -/
def Tab.get (d : Nat → α) : Tab α → Nat → α
  | [], k => d k
  | (k', v) :: r, k => if k = k' then v else if k < k' then d k else Tab.get d r k

/-- Writes `v` at key `k`, keeping the canonical form. -/
def Tab.put [DecidableEq α] (d : Nat → α) : Tab α → Nat → α → Tab α
  | [], k, v => if v = d k then [] else [(k, v)]
  | (k', v') :: r, k, v =>
    if k < k' then (if v = d k then (k', v') :: r else (k, v) :: (k', v') :: r)
    else if k = k' then (if v = d k then r else (k, v) :: r)
    else (k', v') :: Tab.put d r k v

/-- Canonical from key `lo` up: keys strictly rising and at least `lo`, no entry equal to its default. -/
def Tab.wfFrom [DecidableEq α] (d : Nat → α) : Nat → Tab α → Bool
  | _, [] => true
  | lo, (k, v) :: r => decide (lo ≤ k) && decide (v ≠ d k) && Tab.wfFrom d (k + 1) r

/-- The canonical form. -/
def Tab.wf [DecidableEq α] (d : Nat → α) (t : Tab α) : Bool := Tab.wfFrom d 0 t

/-- Changes the entry at key `k` by `f`. -/
def Tab.upd [DecidableEq α] (d : Nat → α) (t : Tab α) (k : Nat) (f : α → α) : Tab α :=
  Tab.put d t k (f (Tab.get d t k))

/-- Changes every listed entry, keeping the canonical form. -/
def Tab.mapVals [DecidableEq α] (d : Nat → α) (f : α → α) (t : Tab α) : Tab α :=
  (t.map (fun x => (x.1, f x.2))).filter (fun x => decide (x.2 ≠ d x.1))

/-- Writes the bytes `bs` at `a`, `a + 1`, …; an unlisted byte reads 0. -/
def Tab.putBytes : Tab Byte → Nat → Bytes → Tab Byte
  | m, _, [] => m
  | m, a, b :: r => Tab.putBytes (Tab.put (fun _ => 0) m a b) (a + 1) r

/-- Reads `n` bytes from `a` up. -/
def Tab.getBytes (m : Tab Byte) (a : Nat) : Nat → Bytes
  | 0 => []
  | n + 1 => Tab.get (fun _ => 0) m a :: Tab.getBytes m (a + 1) n

end Sys2Proof.Machine
end

