-- ==== Sys2Proof/Machine/TypesHost.lean ====
section
/-! DEFINITION. Types of the management plane: events and the recorder (18), routes, rings and sessions (04),
power, clocks and the cocoon (03). -/

namespace Sys2Proof.Machine

/-- A resource: class, index, sub-index (04 R97). -/
structure Res where
  cls : Nat
  index : Nat
  sub : Nat := 0
  deriving DecidableEq, Repr

/-- The planes that post events (01 R11, R21). -/
inductive Plane where
  | control
  | data
  | management
  deriving DecidableEq, Repr

/-- An event in an intake FIFO (04 R97, 18 R479). -/
structure Event where
  code : Code
  src : Res
  quantity : Nat
  detail : Nat
  time : Nat
  epoch : Nat
  deriving DecidableEq, Repr

/-- One intake FIFO (01 R21): entries oldest first, the wrapping lost counter, and the losses since it was last empty. -/
structure Intake where
  queue : List Event := []
  lost : Nat := 0
  lossSince : Nat := 0
  deriving DecidableEq, Repr

/-- A code slot with its two side values (18 R479); `hist` counts events, of which the bins show `HIST` in units of
2^`HSCALE` (notes/assumptions/66.md). -/
structure Slot where
  code : Nat
  hscale : Nat
  src : Res
  count : Nat
  firstSeq : Nat
  lastSeq : Nat
  least : Int
  most : Int
  hist : List Nat
  detail : Nat
  limited : Nat
  deriving DecidableEq, Repr

/-- A history record (18 R483). -/
structure HistRec where
  slot : Slot
  reason : Nat
  recSeq : Nat
  deriving DecidableEq, Repr

/-- The rate-limit bucket of a code (18 R481): level in 1e-9 events and the instant of the last refill. -/
structure Bucket where
  level : Nat
  since : Nat
  deriving DecidableEq, Repr

/-- The Recorder section's payload (03 R71, 18 R477, R484). -/
structure RecStore where
  seq : Nat := 0
  slots : List Slot := []
  history : List HistRec := []
  drops : List Nat := [0, 0, 0, 0, 0, 0, 0, 0]
  /-- The power epoch in which the copy was made by the power-fail commit or before a reset with commit first (18 R477). -/
  orderly : Option Nat := none
  deriving DecidableEq, Repr

/-- The event recorder (18). -/
structure Recorder where
  store : RecStore := {}
  buckets : List (Nat × Bucket) := []
  committedSeq : Nat := 0
  drainNext : Nat := 0
  lastPeriodic : Nat := 0
  deriving DecidableEq, Repr

/-- One host ring (04 R92, R96, R99, R100): `db` is the last doorbell value. -/
structure Ring where
  base : Nat := 0
  log2 : Nat := 0
  dir : Bool := false
  en : Bool := false
  run : Bool := false
  fault : Bool := false
  db : Nat := 0
  head : Nat := 0
  tail : Nat := 0
  phase : Bool := true
  deriving DecidableEq, Repr

/-- The set-up registers and ring engine of the PCIe endpoint (04 R87 to R104): of the MSI-X table in BAR2 the mask bit of each
vector, and the pending-bit array; `d3hot` where the host has left D0. No row writes BAR2 or the power state
(notes/assumptions/96.md). -/
structure HostIf where
  endpointUp : Bool := false
  msixMasked : Tab Bool := []
  msixPending : Tab Bool := []
  d3hot : Bool := false
  ready : Bool := false
  rings : Tab Ring := []
  coalesceCount : Nat := 1
  coalesceDelayUs : Nat := 0
  eqMinSev : Nat := 2
  faultCause : Nat := 0
  faultRing : Nat := 0
  lostCompletions : Nat := 0
  eventLost : Nat := 0
  vectors : Tab Nat := []
  irqs : Tab Nat := []
  eqLostSince : Nat := 0
  unsignalled : Nat := 0
  unsignalledAt : Nat := 0
  mem : Tab Byte := []
  dispatched : Nat := 0
  refused : Nat := 0
  deriving DecidableEq, Repr

/-- The event filter of a session (04 R119). -/
structure EvFilter where
  minSev : Nat
  lo : Nat
  hi : Nat
  deriving DecidableEq, Repr

/-- An Omnar management session (04 R111 to R115). -/
structure OmnarSession where
  id : Nat
  key : Bytes := []
  station : Nat := 0
  /-- The requester's source MAC address, to which replies go (14 R382). -/
  mac : Nat := 0
  highest : Nat := 0
  seen : List Nat := []
  outCounter : Nat := 0
  lastAt : Nat := 0
  filter : Option EvFilter := none
  dispatched : Nat := 0
  refused : Nat := 0
  deriving DecidableEq, Repr

/-- The Ivpasto session and its handshake (19 R489 to R491). -/
structure IvpastoSession where
  connected : Bool := false
  helloDone : Bool := false
  isOpen : Bool := false
  roles : Nat := 0
  serial : Nat := 0
  /-- Keys from the client and to the client. -/
  key : Bytes := []
  keyOut : Bytes := []
  inCounter : Nat := 0
  outCounter : Nat := 0
  lastAt : Nat := 0
  filter : Option EvFilter := none
  dispatched : Nat := 0
  refused : Nat := 0
  deriving DecidableEq, Repr

/-- A fetched command: its fetch number, opcode and submission entry. -/
structure Entry where
  id : Nat
  op : Nat
  cmd : Cmd
  deriving DecidableEq, Repr

/-- A command in flight (04 R101): fetched, its completion not yet written; `orphan` once its session has closed or its
rings were reset, so that its completion is discarded (04 R115, R118). -/
structure Flight where
  entry : Entry
  dispatched : Bool
  orphan : Bool := false
  deriving DecidableEq, Repr

/-- A bulk stream open on a command (04 R104). -/
structure Stream where
  ring : Nat
  stream : Nat
  toHost : Bool
  entry : Entry
  bytes : Nat := 0
  consumed : Nat := 0
  closing : Bool := false
  /-- What a stream to the host still carries, taken at its opening; what one to the module has gathered. -/
  data : Bytes := []
  /-- Bulk entries consumed (04 R108). -/
  entries : Nat := 0
  deriving DecidableEq, Repr

/-- What leaves the module for its neighbours, in the order sent (the model's own record of it). -/
inductive Msg where
  /-- An Ivpasto record on XS (19 R490). -/
  | ivpasto (bytes : Bytes)
  /-- A frame as it leaves a network port (14 R381), an Omnar management message (04 R112) in a frame of type 2 among them. -/
  | frame (port : Nat) (f : NetFrame)
  /-- A PTP message of time base `b` on a port: 0 Sync with its origin timestamp, 1 Announce, 2 Delay_Req, 3 Pdelay_Req; tagged with
  PCP 7 on `VLAN_ID` (14 R402). -/
  | ptp (port b kind : Nat) (value : Int)
  /-- A pulse pin: driven to its active level, or back. -/
  | pin (k : Nat) (active : Bool)
  /-- A frame on CAN channel `n`. -/
  | can (n : Nat) (f : CanFrame)
  /-- A hedgerow frame of the module: 1 posting (opcode, instant), 2 departure notice, 3 switchover (instant, cause),
  4 confirmation, 5 mismatch self-test result (task, failing part), 6 signature (task, value), 7 program image (slot),
  8 program switch (slot, task, instant), 9 release of a task's forces (task, instant), 10 release of a force (VAR_ID, instant),
  11 an axis's bridges are off (axis). -/
  | hedgerow (kind : Nat) (values : List Nat)
  /-- A STATE frame of an axis generator: position, velocity, acceleration (13 R356). -/
  | axisState (n : Nat) (pos vel acc : Int)
  /-- A STATE frame of a loop: its latched measurement and set-point source, LREAL (13 R356). -/
  | loopState (i pv sp : Nat)
  /-- An AGREE frame: the agreed entries of a task's input image, value and quality, in map order (13 R352). -/
  | agree (i : Nat) (entries : List (Bytes × Nat))
  /-- A register value that a read returns (17 R463, R466). -/
  | regRead (offset value : Nat)
  deriving DecidableEq, Repr

/-- The dispatcher (04 R105): held commands in fetch order, commands in flight, and the route last served. -/
structure Dispatcher where
  nextId : Nat := 1
  queue : List Entry := []
  flights : List Flight := []
  lastRoute : Nat := 2
  streams : List Stream := []
  omnar : List OmnarSession := []
  nextSession : Nat := 1
  /-- One more than the instant of the last reply that refused an open unauthenticated, by station (04 R114). -/
  authReplyAt : Tab Nat := []
  ivpasto : IvpastoSession := {}
  deriving DecidableEq, Repr

/-- Where the module stands between power-on and operation (03 R67, R74, R65). -/
inductive Phase where
  | heldReset   -- in module reset, waiting for the start condition
  | running     -- step 8 of the start has been reached
  | holdUp      -- power-fail warning asserted
  | pllHeld     -- held in reset after the third PLL failure
  deriving DecidableEq, Repr

/-- Power manager, clock and reset unit (03 R60 to R79). -/
structure Power where
  phase : Phase := .heldReset
  mgmtUp : Bool := false
  restoreDone : Bool := false
  cocoonValid : Bool := true
  epoch : Nat := 0
  lastCause : Nat := 0
  lastCauseEpoch : Nat := 0
  /-- What was last told of each supply, in mV. -/
  supplies : Tab (Option Nat) := []
  failFlags : Tab Bool := []
  warnFlags : Tab Bool := []
  railsOk : Tab Bool := []
  vcore : Nat := 1050
  vcoreStepAt : Nat := 0
  pllAttempts : Tab Nat := []
  buttonStuck : Bool := false
  marginLost : Bool := false
  /-- The PLL of the last failed start (03 R65). -/
  pllFailed : Nat := 0
  /-- After a stuck button: presses act again from this instant (03 R79). -/
  buttonFree : Nat := 0
  /-- The last instant of the RETAIN grid (03 R71). -/
  retainCommitAt : Nat := 0
  /-- Step 8 of the start, on TB0. -/
  startedAt : Nat := 0
  /-- The baseplate stands hot: E_BASEPLATE_HOT was recorded at this instant (22 R538). -/
  hotAt : Option Nat := none
  /-- A `MOD.COMMIT` waits for the two commit marks (03 R556). -/
  commitCmd : Option Entry := none
  /-- A configuration file being gathered in DRAM: its length, its bytes, the byte intervals received (03 R86). -/
  gather : Option (Nat × List (Nat × Byte) × List (Nat × Nat)) := none
  /-- `CFG_SEQ` of a loaded file whose E_CONFIG_LOADED the next start records. -/
  loaded : Option Nat := none
  deriving DecidableEq, Repr

/-- One buffer of a cocoon section (03 R70). -/
structure Copy (α : Type) where
  payload : α
  seqHdr : Nat
  seqMark : Option Nat
  crcOk : Bool := true
  deriving DecidableEq, Repr

/-- A cocoon section: two buffers, the buffer being written (`some true` is buffer b), and whether another commit was
asked for meanwhile. -/
structure Sec (α : Type) where
  a : Option (Copy α) := none
  b : Option (Copy α) := none
  busy : Option Bool := none
  again : Bool := false
  /-- The buffer that commits use alone, because the other lies in a RETIRED bank (21 R525). -/
  only : Option Bool := none
  /-- The copy in progress is written for the second time after a mismatch (16 R453). -/
  second : Bool := false
  deriving DecidableEq, Repr

/-- The Header section's payload (03 R71). -/
structure HeaderData where
  format : Nat := 1
  serial : Nat := 0
  epoch : Nat := 0
  recSeq : Nat := 0
  deriving DecidableEq, Repr

/-- The owners of setting mailboxes (01 R17). -/
inductive OwnerKind where
  | task | loop | ac | dc | so | aiPair | axis | produced | consumed | network | port | can | cu | pg | pi | pair | corePair
  | modem | memory
  deriving DecidableEq, Repr

/-- One owner: its kind and number. -/
structure Owner where
  kind : OwnerKind
  index : Nat
  deriving DecidableEq, Repr

/-- A posting: a command, or one the module makes of its own, which is never refused and does not count (01 R18). -/
inductive PostBody where
  /-- A command of a route. -/
  | cmd (e : Entry)
  /-- A retirement decided by the fault manager (21 R522): the resource and the last fault code. -/
  | retire (res : Res) (code : Nat)
  /-- The release of a force whose time ran out (07 R205). -/
  | forceRelease (var : Nat)
  /-- The release of every force of one task by a `VAR.RELEASE_ALL` (07 R562). -/
  | releaseTask (e : Entry) (task : Nat)
  /-- The switch of a program exchange (07 R198). -/
  | progSwitch (slot : Nat)
  /-- A posting that a STANDBY received from its ACTIVE partner (13 R357): opcode and entry. -/
  | pairCmd (e : Entry)
  /-- The release of a force that ran out on the ACTIVE partner (07 R209). -/
  | pairRelease (var : Nat)
  /-- A `PAIR.SWITCHOVER` or `PAIR.LEAVE` of an ACTIVE partner (13 R369, R373). -/
  | pairSwitch (e : Entry)
  deriving DecidableEq, Repr

/-- A posting in a mailbox, in posting order over the whole module; `due` is the pair-timer instant a hedgerow pair
names for its application (13 R357), 0 where none is named. -/
structure Posting where
  owner : Owner
  body : PostBody
  due : Nat := 0
  deriving DecidableEq, Repr

end Sys2Proof.Machine
end

