-- ==== Sys2Proof/Machine/TypesAxis.lean ====
section
/-! DEFINITION. Types of the stepper axes (12) and of the pulse inputs they read (14 R414). -/

namespace Sys2Proof.Machine

/-- States of an axis (12 R319), in the order of their codes (R335). -/
inductive AxState where
  | disabled | standstill | moving | stopping | segment | homing | parked | retired
  deriving DecidableEq, Repr

/-- A segment (12 R324): end time in µs, end position LREAL, end velocity REAL. -/
structure Seg where
  t : Nat
  p : Nat
  v : Nat
  deriving DecidableEq, Repr

/-- What the generator runs towards: nothing; a position; a velocity; standstill, with `DSTOP` where `fast`. -/
inductive AxGoal where
  | none
  | target (x : Int)
  | velocity (v : Int)
  | stop (fast : Bool)
  deriving DecidableEq, Repr

/-- Where a request comes from: the owner's CMD record with its `REQSEQ`, a command, or a loop. -/
inductive AxSource where
  | record (seq : Nat)
  | command
  | loop
  deriving DecidableEq, Repr

/-- A request: `CMDC` of R335, target (LREAL), speed limit (REAL), abort flag, source. -/
structure AxReq where
  kind : Nat
  tgt : Nat := 0
  vlim : Nat := 0
  abort : Bool := false
  src : AxSource
  deriving DecidableEq, Repr

/-- A stepper axis. Positions are in 2^-32 microsteps, velocities and accelerations per s and per s² of the same. -/
structure AxisChan where
  st : AxState := .disabled
  unref : Bool := true
  stalled : Bool := false
  limited : Bool := false
  hyst : Bool := false
  hystTill : Nat := 0
  /-- The parked flag; the sequencer has the coils on, at `I_HOLD` where `hold`. -/
  parked : Bool := false
  energised : Bool := false
  hold : Bool := false
  pos : Int := 0
  vel : Int := 0
  acc : Int := 0
  goal : AxGoal := .none
  /-- Speed limit of the move as a REAL; 0 is `VMAX`. -/
  vlim : Nat := 0
  /-- The move stops because the owner was lost (R334). -/
  ownerLost : Bool := false
  /-- A move to the nearest full step: its start, from, to, and whether to de-energise after it. -/
  parking : Option (Nat × Int × Int × Bool) := none
  standAt : Nat := 0
  /-- The owner has committed since the start, or a command enabled the axis (R328). -/
  started : Bool := false
  cmdRec : Option Bytes := none
  loopTgt : Option Nat := none
  lastSeq : Nat := 0
  lastLoop : Option Nat := none
  ackSeq : Nat := 0
  result : Nat := 0
  running : Option AxSource := none
  reqPos : Int := 0
  queued : Option AxReq := none
  segs : List Seg := []
  segIdx : Nat := 0
  segT0 : Nat := 0
  segP0 : Nat := 0
  /-- A start time given: time base (0 TB0, 1 TB1) and ns. -/
  segAt : Option (Nat × Nat) := none
  homeFrom : Int := 0
  /-- PI feedback: count and position (LREAL) at the last homing completion. -/
  fbCount : Int := 0
  fbPos : Nat := 0
  /-- Driver: set-point, coil current (REAL, A peak), silent since, last frame, waiting for standstill after a silence. -/
  drvSet : Int := 0
  drvCur : Nat := 0
  silent : Option Nat := none
  lastFrame : Nat := 0
  waitStand : Bool := false
  /-- Frames discarded in a row, from and to the driver. -/
  crcRun : Nat := 0
  crcOut : Nat := 0
  /-- Monitor mode (13 R346): bridges off and isolation switches open, whatever the sequencer asks. -/
  monitor : Bool := false
  /-- A coordinated handover of the axis: the partner's bridges are not off yet, or this module's are off before its
  confirmation (13 R363). -/
  handover : Bool := false
  /-- A takeover at this instant holds the set-point until the driver has started (13 R363). -/
  paused : Option Nat := none
  /-- Generator and feedback have differed by more than `FB_DEV` at every update since. -/
  deviates : Option Nat := none
  /-- The fault that waits for its retry: 0 bridge, 1 thermal, 2 self-test; since when; the sensor below 135 °C since. -/
  faultWait : Option Nat := none
  faultAt : Nat := 0
  coolAt : Option Nat := none
  /-- The bridge test in progress since, and the command that asked for it. -/
  testAt : Option Nat := none
  testCmd : Option Entry := none
  meas : AxMeasure := { phaseA := 0, phaseB := 0, temp := 0, ratio := 0 }
  updT : Nat := 0
  /-- The STAT record last written to the snapshot. -/
  stat : Bytes := []
  deriving DecidableEq, Repr

/-- The Axis state section (03 R71): microstep counters and parked flags. -/
structure AxStore where
  axes : List (Int × Bool) := []
  deriving DecidableEq, Repr

end Sys2Proof.Machine
end

