-- ==== Sys2Proof/Machine/TypesCan.lean ====
section
/-! DEFINITION. Types of the CAN FD channels (15) and the check units (16). -/

namespace Sys2Proof.Machine

/-- Channel states (15 R433). -/
inductive CanState where
  | disabled | integrating | errorActive | errorPassive | busOff | recovering | retired
  deriving DecidableEq, Repr

/-- A transmit request, as a BUF record holds it (15 R440); bit 8 of the flags marks a reference message of the skipper. -/
structure CanReq where
  xid : Nat
  len : Nat
  flags : Nat
  seq : Nat
  data : Bytes
  deriving DecidableEq, Repr

/-- A transmit buffer (15 R427 to R430, R441): its unsent frame, `XRES`, `ACKSEQ`, the last sequence acted on and the
sequence of the unsent frame; SOF sent; a cancel that waits with the commands that asked for it; a request that waits. -/
structure CanBuf where
  frame : Option CanFrame := none
  res : Nat := 0
  ack : Nat := 0
  acted : Nat := 0
  seq : Nat := 0
  sof : Bool := false
  withdraw : Bool := false
  cmds : List Entry := []
  next : Option CanReq := none
  /-- The unsent frame is a reference message, stamped at its own SOF (15 R435). -/
  isRef : Bool := false
  deriving DecidableEq, Repr

/-- A received frame with its `FSEQ` and `RX_TIME`. -/
structure CanRec where
  frame : CanFrame
  fseq : Nat
  time : Nat
  deriving DecidableEq, Repr

/-- A CAN FD channel. -/
structure CanChan where
  st : CanState := .disabled
  tec : Nat := 0
  rerr : Nat := 0
  bufs : Tab CanBuf := []
  recAck : Nat := 0
  rxLost : Nat := 0
  lastOverflow : Option Nat := none
  fifo : List CanRec := []
  recs : Tab (Option CanRec) := []
  /-- Frames accepted by each filter: its `FSEQ`. -/
  hits : Tab Nat := []
  dropped : Nat := 0
  busOffAt : Nat := 0
  recoverAt : Nat := 0
  /-- Measured transmitter delay in 12.5 ns units (15 R425). -/
  tdc : Nat := 0
  /-- The transceiver waits for its re-test (15 R442). -/
  retest : Bool := false
  retestAt : Nat := 0
  /-- Skipper: cycle count of the next reference, deferred, and the last reference of higher priority; follower: the last
  reference. -/
  cycle : Nat := 0
  deferred : Bool := false
  lastHigher : Nat := 0
  lastRef : Option Nat := none
  /-- The last instant at which a reference fell due. -/
  refAt : Option Nat := none
  deriving DecidableEq, Repr

/-- A check unit as it runs (16 R449 to R455). -/
structure CuRun where
  result : Nat := 0
  streams : Nat := 0
  mismatches : Nat := 0
  aliveFails : Nat := 0
  missed : Nat := 0
  /-- The register after the last stream, or as `CU.WRITE_VALUE` loaded it; whether the next stream starts from it. -/
  running : Nat := 0
  loaded : Bool := false
  /-- The alive base. -/
  base : Option Nat := none
  lastMismatch : Option Nat := none
  retired : Bool := false
  /-- The re-test of a failed self-test is due, from this instant on (16 R454). -/
  retest : Bool := false
  retestAt : Nat := 0
  /-- The role of CU0, CU1 or CU2 that a user unit has taken, and the roles it has taken so far. -/
  role : Option Nat := none
  taken : List Nat := []
  deriving DecidableEq, Repr

end Sys2Proof.Machine
end

