-- ==== Sys2Proof/Machine/TypesCtl.lean ====
section
/-! DEFINITION. Types of the control plane: tasks, core pairs and images (05), programs, slots and forces (07), loops (08). -/

namespace Sys2Proof.Machine

/-- An image map entry (05 R140): source or destination, place in the image, data type, quality byte. -/
structure MapEntry where
  cls : Nat
  index : Nat
  sub : Nat
  off : Nat
  bit : Nat
  ty : Nat
  qual : Bool
  deriving DecidableEq, Repr

/-- The program part of a task that the Configuration section restores (05 R126): ranges and image maps. -/
structure TaskProg where
  ranges : List (Nat × Nat) := []
  inMap : List MapEntry := []
  outMap : List MapEntry := []
  inSize : Nat := 0
  outSize : Nat := 0
  deriving DecidableEq, Repr

/-- A variable table entry (07 R195). -/
structure VarDef where
  id : Nat
  ref : Nat
  task : Nat
  flags : Nat
  deriving DecidableEq, Repr

/-- The running program as the cocoon keeps it: block table, initial contents of K, M and the instance area, variable
table, RETAIN list, declared safe values and substitutes of connection variables (07 R192, R194; 05 R144). -/
structure Program where
  progId : Nat := 0
  build : Nat := 0
  table : Tab Byte := []
  init : Tab Byte := []
  tasks : Tab TaskProg := []
  vars : List VarDef := []
  retain : List Nat := []
  safeVals : Tab Nat := []
  subst : Tab (Nat × Nat) := []
  deriving DecidableEq, Repr

/-- Task states (05 R150), coded as in 06 R187. -/
inductive TaskState where
  | stopped | starting | running | held | halted
  deriving DecidableEq, Repr

/-- A task as it runs (05 R127 to R150). -/
structure Task where
  state : TaskState := .stopped
  executing : Bool := false
  release : Nat := 0
  deadline : Nat := 0
  overran : Bool := false
  lastRelease : Option Nat := none
  notBefore : Nat := 0
  /-- The latch values of this release. -/
  inImg : Tab Byte := []
  /-- The bank of the current cycle. -/
  outImg : Tab Byte := []
  /-- The bank last committed. -/
  committed : Tab Byte := []
  /-- A commit has been made since the task last started, so its outputs are forwarded. -/
  forwarded : Bool := false
  /-- The distributor forwards safe values (05 R138, R147). -/
  safeOut : Bool := true
  cycleCount : Nat := 0
  overruns : Nat := 0
  consecutive : Nat := 0
  longest : Nat := 0
  lastExec : Nat := 0
  rangeExec : List Nat := []
  late : Bool := false
  firstScan : Bool := true
  matchCount : Nat := 0
  trigger : Bool := false
  triggersLost : Nat := 0
  sys : Bytes := []
  taskStat : List (Nat × Nat) := []
  bases : List (Nat × Bool) := []
  /-- In a pair: the bank closed and waiting for the compare window (13 R355). -/
  awaiting : Bool := false
  /-- Instance-store writes of a safety cycle, kept back until its commit (05 R130). -/
  writes : List (Nat × Byte) := []
  /-- In a pair: the input image of this cycle is agreed; consecutive compares without the partner's signature; late
  frames and mismatches counted for `PAIR.STATUS` (13 R354, R355, R373). -/
  agreed : Bool := false
  misses : Nat := 0
  /-- Where the next signature starts: the one that the previous cycle matched (16 R453). -/
  sigBase : Nat := 0xFFFFFFFF
  sigLate : Nat := 0
  mismatches : Nat := 0
  /-- Qualities of the input entries of this release, in map order. -/
  quals : List Nat := []
  /-- Where the walk of the cycle stands, from the range inwards: position in the network, frame base; `[]` at its start
  (06 R163, R166). -/
  place : List (Nat × Nat) := []
  /-- The last cycle that ended was committed (07 R202). -/
  wasCommitted : Bool := false
  /-- Outputs that an exchange has unmapped: they go safe at the first commit after the switch (07 R200). -/
  gone : List MapEntry := []
  deriving DecidableEq, Repr

/-- A core pair (05 R122, R147 to R149). -/
structure CorePair where
  retired : Bool := false
  /-- The passing core on which tasks continue after a retirement without a spare (05 R148). -/
  single : Option Nat := none
  /-- The start of a 60 µs self-test in progress, and the command whose self-test runs in idle time. -/
  testing : Option Nat := none
  testCmd : Option Entry := none
  /-- Slices of the commanded self-test that `testCmd` waits for. -/
  cmdSlices : Nat := 0
  /-- The last or next periodic self-test: when it fell due, slices done, skipped once recorded. -/
  due : Option Nat := none
  lastDone : Nat := 0
  slices : Nat := 0
  skipped : Bool := false
  deriving DecidableEq, Repr

/-- Program slot states (07 R192). -/
inductive SlotState where
  | empty | loading | valid | invalid
  deriving DecidableEq, Repr

/-- A program slot in the serial NOR (07 R192, R196, R561): contents, the named length, the byte intervals received. -/
structure ProgSlot where
  state : SlotState := .empty
  data : Tab Byte := []
  plen : Nat := 0
  got : List (Nat × Nat) := []
  switched : List Nat := []
  deriving DecidableEq, Repr

/-- A program exchange between its acceptance and its completion (07 R198): the tasks that have yet to switch and those that
have, the program it leads to with the parameter block of each task it changes, and the program and parameters that a
module reset before the commit mark restores (R199). -/
structure Exchange where
  slot : Nat
  mask : Nat
  entry : Option Entry
  pending : List Nat
  switched : List Nat := []
  releaseForces : Bool
  startNew : Bool
  new : Program
  blocks : List (Nat × Bytes)
  old : Program
  oldParams : Tab Nat
  deriving DecidableEq, Repr

/-- A force (07 R203): the value, its end on TB0, and whether its release is posted. -/
structure Force where
  value : Nat
  till : Option Nat
  releasing : Bool := false
  deriving DecidableEq, Repr

/-- The control plane's program and forces. -/
structure ProgState where
  /-- The instance store: M, K and the instance area (06 R155). -/
  store : Tab Byte := []
  slots : Tab ProgSlot := []
  exchange : Option Exchange := none
  forces : Tab (Option Force) := []
  /-- A `VAR.RELEASE_ALL` waiting for the last of its postings: tasks still to go. -/
  releaseAll : List (Entry × List Nat) := []
  /-- Instances of an exchange whose first scan takes `EDGE_INIT` as 0 (07 R201). -/
  noEdge : List Nat := []
  /-- The request that an interface block keeps writing, by its instance's address (06 R186). -/
  requests : Tab Bytes := []
  /-- RETAIN values by VAR_ID, each plus 1, as their tasks last committed them (01 R22). -/
  retained : Tab Nat := []
  /-- Forces in effect at the last module reset (07 R212). -/
  lostForces : Nat := 0
  /-- The error-cause queue, oldest first: cause and source (05 R135). -/
  errors : List (Nat × Nat) := []
  deriving DecidableEq, Repr

/-- A loop as it runs (08 R213 to R230); REAL and LREAL values are bit patterns. -/
structure LoopRun where
  /-- The CMD record that the owning task last committed. -/
  cmd : Bytes := []
  out : Nat := 0
  pv : Nat := 0
  spr : Nat := 0
  ackSeq : Nat := 0
  refused : Bool := false
  lflags : Nat := 0
  sampleT : Nat := 0
  p : Nat := 0
  i : Nat := 0
  d : Nat := 0
  /-- `sp_t` of the last sample, LREAL: the last good one while the source is bad (08 R221). -/
  spGood : Option Nat := none
  /-- In a STANDBY partner: measurement and set-point source of this sample from the ACTIVE partner's STATE frame (13 R356). -/
  peer : Option (Nat × Nat) := none
  pvPrev : Nat := 0
  uPrev : Nat := 0
  firstAuto : Bool := true
  /-- No complete sample since the start: pv_prev, d and spr are still to be set (08 R219, R224). -/
  first : Bool := true
  wasOos : Bool := false
  lastSample : Option Nat := none
  notBefore : Nat := 0
  /-- The output has been committed once, so the destination is driven (03 R75). -/
  driven : Bool := false
  memFault : Bool := false
  longest : Nat := 0
  deriving DecidableEq, Repr

end Sys2Proof.Machine
end

