-- ==== Sys2Proof/Machine/TypesField.lean ====
section
/-! DEFINITION. Types of the field side: analogue channels and HART modems (09), digital channels (10), safety outputs,
the safety supervisor and safety pairs (11). Currents are in nA, voltages in mV, temperatures in 0.1 °C unless said. -/

namespace Sys2Proof.Machine

/-- States of an analogue channel (09 R249). -/
inductive AcState where
  | powerOn | safe | inService | held | switching | outOfService | retired
  deriving DecidableEq, Repr

/-- What the logic side last accepted from the isolated side: current, status flags as reported, temperatures and
voltages for the status command. -/
structure AcRx where
  current : Int := 0
  flags : Nat := 0
  supply : Nat := 0
  term : Int := 0
  temp : Int := 0
  deriving DecidableEq, Repr

/-- A HART pass-through request (09 R254): its record as received, and the number of the command that opened its streams. -/
structure HartReq where
  record : Bytes
  pass : Nat
  deriving DecidableEq, Repr

/-- The HART part of a channel (09 R251, R252): queued requests, a due poll, the polled variables. -/
structure HartChan where
  queue : List HartReq := []
  pollDue : Bool := false
  vars : List Nat := [0, 0, 0, 0]
  varsGood : Bool := false
  lastGood : Nat := 0
  resp : Nat := 0
  fail : Bool := false
  deriving DecidableEq, Repr

/-- A calibration in progress (09 R247): the command, and whether the channel is in service with its value held. -/
structure AcCal where
  entry : Entry
  inService : Bool
  /-- It still waits for the end of a HART transaction; the wait began at this instant. -/
  waiting : Option Nat
  deriving DecidableEq, Repr

/-- An analogue channel. Logic side: the forwarded command (`true`: engineering units) or none, which is the safe state;
isolated side: the current it is commanded to, its flags, its loop supply in µV. -/
structure AcChan where
  st : AcState := .powerOn
  target : Option (Bool × Nat) := none
  powered : Bool := false
  /-- Commanded current as a REAL in mA; the last current commanded by an owner. -/
  iCmd : Nat := 0
  lastCmd : Option Nat := none
  /-- The current that the output stage is set to, REAL in mA: the commanded one but for a ramp, a fold-back or a mismatch. -/
  drive : Nat := 0
  /-- The fold-back (09 R243): the 65,536ths of its current, or of its limit, that the channel still carries. -/
  fold : Option Nat := none
  /-- The sensor fell below 125 °C at this instant, with the fold-back still in effect. -/
  coolAt : Option Nat := none
  /-- Samples in the filter window, newest first, in nA; a held value that stands for those not yet taken (09 R235, R247). -/
  window : List Int := []
  base : Option Int := none
  /-- Configuration sequence number of the logic side, and the one of the last valid frame (09 R233). -/
  cfgSeq : Nat := 0
  isoSeq : Nat := 0
  /-- In its safe state. -/
  safe : Bool := true
  /-- Flags of R240 decided on the isolated side: OPEN, COMPLIANCE, THERMAL, SHORT, MISMATCH, OVERRANGE of a command,
  CMD_BAD, NE43_LOW, NE43_HIGH, LIMIT, by their bit numbers. -/
  flags : Nat := 0
  supply : Nat := 0
  /-- The output stage or the supply is off for a mismatch. -/
  cut : Bool := false
  /-- The output stage can no longer regulate. -/
  dead : Bool := false
  /-- Silent since: no valid frame for the silence timeout. -/
  silent : Option Nat := none
  lastFrame : Nat := 0
  /-- In monitor mode (13 R347). -/
  monitor : Bool := false
  /-- Start of the present mode, and whether its first value has come. -/
  modeAt : Nat := 0
  delivered : Bool := false
  /-- The first value to come is that of a mode change. -/
  changed : Bool := false
  rx : AcRx := {}
  /-- Frames discarded in a row, from and to the isolated side. -/
  crcRun : Nat := 0
  crcOut : Nat := 0
  test : Option Nat := none
  cal : Option AcCal := none
  /-- The self-test that `AC.SELFTEST` asked for. -/
  testCmd : Option Entry := none
  /-- A readback discrepancy waits for its re-check; when it came. -/
  recheck : Bool := false
  recheckAt : Nat := 0
  hart : HartChan := {}
  deriving DecidableEq, Repr

/-- What a HART modem does (09 R251). -/
inductive HartJob where
  /-- A queued request; a poll; a burst listen window. -/
  | pass (r : HartReq)
  | poll
  | dwell
  deriving DecidableEq, Repr

/-- A HART modem (09 R251, R256). -/
structure HartModem where
  retired : Bool := false
  /-- The channel it serves now, and with what. -/
  job : Option (Nat × HartJob) := none
  last : Nat := 31
  failed : Bool := false
  /-- The HART frame of its last transaction, from the delimiter to the check byte (09 R250). -/
  tx : Bytes := []
  /-- The loopback asked for by `AC.SELFTEST`. -/
  testCmd : Option Entry := none
  deriving DecidableEq, Repr

/-- An open pass-through (09 R254): its command, the end of its requests, the replies that wait for a bulk entry, and the
requests read whose reply has not been written. -/
structure HartPass where
  entry : Entry
  ended : Bool := false
  replies : List Bytes := []
  outstanding : Nat := 0
  deriving DecidableEq, Repr

/-- HART streams of the module (09 R254, R255): pass-throughs, and burst records waiting for a bulk entry. -/
structure HartStreams where
  passes : List HartPass := []
  /-- Open burst streams: the opening command, the channel or none for all, the records waiting. -/
  bursts : List (Entry × Option Nat × List Bytes) := []
  deriving DecidableEq, Repr

/-- A trigger formed for the event tasks (05 R133): source 1 pulse generator, 2 DC edge, 3 PI A edge; its index; a rising
edge or instant. -/
structure Trigger where
  src : Nat
  index : Nat
  rising : Bool
  deriving DecidableEq, Repr

/-- States of a digital channel (10 R279). -/
inductive DcState where
  | powerOn | safe | inService | switching | outOfService | retired
  deriving DecidableEq, Repr

/-- What the logic side last accepted of a digital channel. -/
structure DcRx where
  level : Bool := false
  flags : Nat := 0
  current : Int := 0
  term : Int := 0
  supply : Int := 0
  temp : Int := 0
  deriving DecidableEq, Repr

/-- A digital channel. -/
structure DcChan where
  st : DcState := .powerOn
  /-- The forwarded command, or none: the safe state. -/
  target : Option Bool := none
  /-- Acknowledge output of the owner (rising edge) and acknowledgement for the next frame. -/
  ackOut : Bool := false
  ack : Bool := false
  /-- Isolated side: the commanded level, the last one commanded, the switch. -/
  cmd : Bool := false
  lastCmd : Option Bool := none
  on : Bool := false
  safe : Bool := true
  /-- Accepted level of the terminal (10 R264). -/
  level : Bool := false
  /-- Flags of R277 by bit number: OPEN, OVERLOAD, THERMAL, EXT_VOLTAGE, SWITCH. -/
  flags : Nat := 0
  /-- Held off by an overload latch; by an undervoltage that returns latched; waiting for the overload re-try. -/
  olLatched : Bool := false
  uvLatched : Bool := false
  retry : Bool := false
  offAt : Nat := 0
  silent : Option Nat := none
  lastFrame : Nat := 0
  monitor : Bool := false
  modeAt : Nat := 0
  delivered : Bool := false
  /-- The first value to come is that of a mode change. -/
  changed : Bool := false
  rx : DcRx := {}
  /-- Frames discarded in a row, from and to the isolated side. -/
  crcRun : Nat := 0
  crcOut : Nat := 0
  /-- Configuration sequence number of the logic side, and the one of the last valid frame (10 R263). -/
  cfgSeq : Nat := 0
  isoSeq : Nat := 0
  test : Option Bool := none
  /-- The switch is off for a switch fault until its re-test; when the fault came. -/
  faultOff : Bool := false
  faultAt : Nat := 0
  /-- When the last overload switched it off; when its sensor fell below 135 °C after a THERMAL. -/
  overAt : Nat := 0
  coolAt : Option Nat := none
  /-- Retired for a switch fault or THERMAL, so it drives OFF (10 R269). -/
  switchRetired : Bool := false
  testCmd : Option Entry := none
  overloads : Nat := 0
  silences : Nat := 0
  /-- Safety pair, kept at the even channel: value, disagreeing since, both demands seen since the discrepancy. -/
  pairVal : Bool := false
  disagree : Option Nat := none
  disc : Bool := false
  discDemand : Bool := false
  deriving DecidableEq, Repr

/-- A digital group (10 R272). -/
structure DcGroup where
  sag : Bool := false
  uv : Bool := false
  deriving DecidableEq, Repr

/-- A switch of a safety output: index 0 the high side, 1 the low side (11 R284, R293 to R295). -/
structure SoSwitch where
  closed : Bool := false
  current : Int := 0
  /-- RETIRED as stuck closed, or as failed open. -/
  stuck : Bool := false
  failedOpen : Bool := false
  /-- A test runs: `true` a dark pulse, `false` an off-state test; a real demand has come meanwhile. -/
  testing : Option Bool := none
  demanded : Bool := false
  /-- A test has failed once and waits for its repetition; when it failed. -/
  failedOnce : Bool := false
  failedAt : Nat := 0
  /-- The test interval whose slot has been used (11 R293). -/
  slot : Option Nat := none
  /-- A command or reinstatement test is wanted at the next slot. -/
  wanted : Bool := false
  overdue : Bool := false
  lastPass : Nat := 0
  lastEpoch : Nat := 0
  /-- Untested since: the last pass or the start. -/
  since : Nat := 0
  /-- A test that was abandoned or could not run is retried 1 s after this (11 R294). -/
  retry : Bool := false
  retryAt : Nat := 0
  deriving DecidableEq, Repr

/-- A safety output (11 R284 to R300, R311). -/
structure SafeOut where
  /-- Committed command of the owner; none before its first commit. -/
  cmd : Option Bool := none
  tripped : Bool := false
  cause : Nat := 0
  /-- The SV holds the low side open, and its condition rows that hold (bit k − 1). -/
  svHold : Bool := false
  svConds : Nat := 0
  /-- Isolated side: commanded closed, silent, lost its power (the module is starting). -/
  hsCmd : Bool := false
  silent : Bool := false
  lastFrame : Nat := 0
  energised : Bool := false
  load : Int := 0
  hs : SoSwitch := {}
  ls : SoSwitch := {}
  isOpen : Bool := false
  /-- The isolated side holds the high side off after an overload or at 150 °C (trip causes 3 and 4). -/
  localOff : Bool := false
  /-- The command is a safe value that the distributor forwards. -/
  fromSafe : Bool := false
  /-- A `SAFE.ACK` deferred past a test pulse. -/
  ackCmd : Option Entry := none
  /-- A `SAFE.SO_TEST` in progress. -/
  testCmd : Option Entry := none
  ackOut : Bool := false
  /-- An acknowledgement (0 program, 1 command) waits for the boundary. -/
  ackSrc : Option Nat := none
  /-- Degraded causes by row of R299 (bit row − 1); budget used in ns up to `budgetAt`, while running. -/
  causes : Nat := 0
  budgetUsed : Nat := 0
  budgetAt : Option Nat := none
  budgetOut : Bool := false
  retired : Bool := false
  monitor : Bool := false
  deriving DecidableEq, Repr

/-- The safety supervisor (11 R291) and the state common to the safety outputs. -/
structure Supervisor where
  selftestFailed : Bool := false
  overtemp : Bool := false
  /-- FS below 16.0 V; FS below 18.0 V; FS above 18.0 V for 50 ms. -/
  fsFail : Bool := false
  fsLow : Bool := false
  heartbeat : Bool := true
  deriving DecidableEq, Repr

/-- An analogue safety pair (11 R297). -/
structure AiPair where
  value : Nat := 0
  bad : Bool := true
  /-- Beyond `AI_DEV` since; within it since the flag was set. -/
  beyond : Option Nat := none
  within : Option Nat := none
  disc : Bool := false
  status : Nat := 0
  deriving DecidableEq, Repr

/-- The payload of the Safety state section (03 R71): per safety output tripped, cause, budget used in ns
and whether it was running. -/
structure SafeStore where
  outs : List (Bool × Nat × Nat × Bool) := []
  deriving DecidableEq, Repr

end Sys2Proof.Machine
end

