-- ==== Sys2Proof/Machine/TypesNet.lean ====
section
/-! DEFINITION. Types of the backup domain (17), the time bases, pulse generators and inputs, and the network (14). -/

namespace Sys2Proof.Machine

/-- An event input BEn (17 R463, R469): settings, accepted level, edges, stamps in ticks, the count last seen by the
recorder in an earlier epoch, and the latched HI halves of the two stamps. -/
structure BeInput where
  edge : Nat := 3
  filter : Nat := 3
  level : Bool := false
  count : Nat := 0
  invalid : Bool := false
  first : Nat := 0
  last : Nat := 0
  seen : Nat := 0
  latchFirst : Option Nat := none
  latchLast : Option Nat := none
  deriving DecidableEq, Repr

/-- Calendar registers as a window reads and writes them: `CAL_SUBSEC`, `CAL_TIME`, `CAL_DATE`. -/
structure CalRegs where
  sub : Nat := 0
  time : Nat := 0
  date : Nat := 0
  deriving DecidableEq, Repr

/-- The backup domain (17). The calendar is the tick count `tick0` since 2000-01-01 at the instant `at0` of TB0, and runs
on from there; a halt holds the instant it began on TB0, negative where an earlier run saw it, and the registers written since. -/
structure Rtc where
  tick0 : Nat := 0
  at0 : Nat := 0
  halt : Option (Int × CalRegs) := none
  /-- Read shadows, and when the freeze began. -/
  frozen : Option (Int × CalRegs) := none
  trimEn : Bool := true
  lost : Bool := true
  /-- E_RTC_LOST has been recorded of this setting of LOST. -/
  lostTold : Bool := false
  badDate : Bool := false
  haltTimeout : Bool := false
  rangeEnd : Bool := false
  oscFail : Bool := false
  /-- The oscillator was last found stopped or out of limits (R468). -/
  oscBad : Bool := false
  offset : Int := 0
  temp : Int := 0
  corr : Int := 0
  /-- What the supercapacitor and the cell were last measured at, in mV (02 R52; 17 R460). -/
  capMv : Nat := 0
  cellMv : Nat := 0
  be : Tab BeInput := []
  deriving DecidableEq, Repr

/-- Servo states of a time base (14 R404). -/
inductive Servo where
  | free | slewing | locked | jumpNeeded | holdover | master
  deriving DecidableEq, Repr

/-- A time base TB1, TB2 or TB3 (14 R404 to R408): its value `v0` at the instant `at0` of TB0 and its rate against the
crystal in ppb. -/
structure TimeBase where
  at0 : Nat := 0
  v0 : Int := 0
  rate : Int := 0
  servo : Servo := .free
  stepped : Bool := false
  everSynced : Bool := false
  disc : Nat := 0
  offset : Option Int := none
  delay : Option Int := none
  /-- Valid offset and delay measurements from the selected master; consecutive Syncs inside and above `SYNC_THR`. -/
  valid : Nat := 0
  inside : Nat := 0
  above : Nat := 0
  /-- HOLDOVER began LOCKED, at this instant; it has expired. -/
  wasLocked : Bool := false
  holdAt : Nat := 0
  holdOut : Bool := false
  master : Option Announce := none
  port : Nat := 0
  /-- As master, the next Sync and the next Announce are due from here on. -/
  syncAt : Nat := 0
  announceAt : Nat := 0
  /-- The end of an inserted leap second, through which TB3 stands; the next hourly write of the RTC (R407). -/
  standTill : Nat := 0
  rtcAt : Nat := 0
  lastAnnounce : Nat := 0
  offsets : List Int := []
  deriving DecidableEq, Repr

/-- A pulse generator (14 R410 to R412): armed, the next instant on its base, the last firing on its base, a pulse in
progress; restored and still waiting for its base. -/
structure PgRun where
  armed : Bool := false
  next : Int := 0
  last : Option Int := none
  pulse : Bool := false
  pulseAt : Nat := 0
  waiting : Bool := false
  deriving DecidableEq, Repr

/-- A pulse input (14 R414, R415): count, frequency REAL, last capture, status, edges of the gate. -/
structure PiRun where
  count : Int := 0
  capCount : Int := 0
  capTime : Int := 0
  overrange : Bool := false
  captured : Bool := false
  levelA : Bool := false
  levelB : Bool := false
  /-- When the level of A and of B last changed. -/
  changeA : Option Nat := none
  changeB : Option Nat := none
  /-- Accepted edges of the last two gates: instant and sense. -/
  edges : List (Nat × Bool) := []
  deriving DecidableEq, Repr

/-- A produced connection (14 R388, R392): the payload and `PRODUCE` bit of the owner's latest commit, the commit before
it, and the instant of the latest. -/
structure ProdRun where
  payload : Bytes := []
  produce : Bool := true
  prev : Bytes := []
  prevProduce : Bool := true
  at0 : Nat := 0
  /-- The alive counter of a safety producer (11 R307). -/
  alive : Nat := 0
  deriving DecidableEq, Repr

/-- `CSTATE` (14 R393). -/
inductive ConnState where
  | waiting | valid | expired
  deriving DecidableEq, Repr

/-- A consumed connection (14 R393, R396, R397; 11 R308, R309). -/
structure ConsRun where
  st : ConnState := .waiting
  /-- `CSTATE` of the discard entry: a frame has been accepted since start, expiry or a station change. -/
  known : Bool := false
  epoch : Nat := 0
  seq : Nat := 0
  srcTime : Int := 0
  /-- Snapshot write of the last accepted frame; `none` before the first. -/
  lastAt : Option Nat := none
  /-- Where the watchdog counts from. -/
  wdAt : Nat := 0
  data : Bytes := []
  /-- Copies accepted and dropped by 2 port + side; late frames; length mismatches. -/
  accepted : Tab Nat := []
  dropped : Tab Nat := []
  late : Nat := 0
  lenBad : Nat := 0
  /-- Last copy on each port; the single path has been recorded. -/
  heardA : Nat := 0
  heardB : Nat := 0
  single : Bool := false
  /-- Safety: alive base and the accepted run of a restore. -/
  alive : Option Nat := none
  restore : Nat := 0
  deriving DecidableEq, Repr

/-- A policing bucket (14 R399): its level scaled by 10^12, its last refill, and its storm. -/
structure NetBucket where
  level : Nat
  at0 : Nat
  dropSince : Option Nat := none
  lastStorm : Option Nat := none
  drops : Nat := 0
  /-- Source of the last dropped frame. -/
  last : Nat := 0
  deriving DecidableEq, Repr

/-- A bucket's key: port, class (R420 numbering; 7 management of all sources), source station. -/
structure NetBucketKey where
  port : Nat
  cls : Nat
  src : Nat
  deriving DecidableEq, Repr

/-- A network port (14 R375, R401). -/
structure NetPort where
  link : Bool := false
  /-- Since when the link is up; of the last fault. -/
  linkAt : Nat := 0
  faultAt : Nat := 0
  retired : Bool := false
  fault : Bool := false
  /-- Drops by 16 × stage + class. -/
  drops : Tab Nat := []
  heard : Nat := 0
  supervision : Nat := 0
  deriving DecidableEq, Repr

/-- The network part of the module (14 R378 to R400). -/
structure NetRun where
  cycle : Nat := 0
  cycleAt : Nat := 0
  /-- The grid of the network cycle: 0 TB0, 1 TB1, 2 pair timer. -/
  grid : Nat := 0
  realign : Nat := 0
  realignDue : Bool := false
  dup : Bool := false
  station : Nat := 0
  sent : Bool := false
  /-- A `NET.SET_STATION` that the next cycle start takes (R378, R380). -/
  stationSet : Bool := false
  prod : Tab ProdRun := []
  cons : Tab ConsRun := []
  buckets : List (NetBucketKey × NetBucket) := []
  ports : Tab NetPort := []
  /-- The HSR forward filter: source MAC, sequence number, instant. -/
  forwarded : List (Nat × Nat × Nat) := []
  lastPresence : Nat := 0
  /-- The next supervision frame is due from here on (14 R376). -/
  supervisionAt : Nat := 0
  /-- Management messages that wait: source station, source MAC, message. -/
  mgmtIn : List (Nat × Nat × Bytes) := []
  /-- Presence frames for the redundancy unit: port, source MAC, frame; PTP messages for the time unit. -/
  presIn : List (Nat × Nat × OmnarFrame) := []
  ptpIn : List PtpMsg := []
  deriving DecidableEq, Repr

/-- What waits at a port: a frame, or a PTP message of the module's time base `b` with its kind and value. -/
inductive TxBody where
  | frame (f : NetFrame)
  | ptp (b kind : Nat) (v : Int)
  deriving DecidableEq, Repr

/-- A frame in the egress queues of a port (14 R400): when it was queued, its class (1 PTP, 2 own management, 3 process, presence and
supervision, 4 forwarded management), its bytes on the wire with preamble and gap, whether the module itself produced it. -/
structure TxItem where
  at0 : Nat
  cls : Nat
  bytes : Nat
  own : Bool
  body : TxBody
  deriving DecidableEq, Repr

/-- The sending side of a port (14 R400): its queues as one list in order of arrival, the end of the frame in progress, the level of the
management reservation scaled by 10^12, full with one longest frame, and when a frame last came or went (02 R51). -/
structure TxPort where
  queue : List TxItem := []
  busyTill : Nat := 0
  tokens : Nat := 1542 * 1000000000000
  tokensAt : Nat := 0
  trafficAt : Option Nat := none
  deriving DecidableEq, Repr

/-- The two ports' sending sides, and the redundancy sequence number of the next sent frame (HSR tag or PRP trailer). -/
structure Egress where
  red : Nat := 0
  ports : Tab TxPort := []
  deriving DecidableEq, Repr

end Sys2Proof.Machine
end

