-- ==== Sys2Proof/Machine/TypesPair.lean ====
section
/-! DEFINITION. Types of the hedgerow pair (13). -/

namespace Sys2Proof.Machine

/-- States of a pair member (13 R344). -/
inductive PairState where
  | unpaired | searching | active | syncing | standby | unlinked | isolated | dropped | incompatible
  deriving DecidableEq, Repr

/-- The redundancy unit. -/
structure PairRun where
  st : PairState := .unpaired
  /-- The pair timer less TB0, in ns, and the pair epoch (13 R351). -/
  timerOff : Int := 0
  epoch : Nat := 0
  /-- Pair-timer instant of the last takeover. -/
  takeover : Int := 0
  /-- UNLINKED: the partner's presence frames have been heard (13 R364). -/
  hears : Bool := false
  /-- SEARCHING since (13 R345). -/
  searchAt : Nat := 0
  /-- The link is up, its last valid frame, and whether it was lost since it was last up (13 R350). -/
  link : Bool := false
  linkAt : Nat := 0
  lost : Bool := false
  /-- Lanes out of use, with the instant of the failure or last retry. -/
  lanesOut : List (Nat × Nat) := []
  hdet : Bool := false
  /-- What the partner last told, on any path, and when. -/
  peer : Option PeerInfo := none
  heardAt : Nat := 0
  /-- Cause and TB0 of the last takeover (13 R373). -/
  lastCause : Nat := 0
  lastAt : Nat := 0
  /-- A program check or exchange whose image is on its way to the partner (07 R209). -/
  image : Option Entry := none
  /-- A switchover named: the command, if any, its instant on the pair timer and its cause (13 R369, R371). -/
  switch : Option (Option Entry × Nat × Nat) := none
  /-- What the module becomes when the partner confirms that it drives: 0 STANDBY, 1 SYNCING, 2 DROPPED (13 R366, R373). -/
  next : Nat := 0
  /-- Core pairs that retired before a handover, with the core that passed: what 05 R148 does follows the handover (13 R371). -/
  late : List (Nat × Option Nat) := []
  /-- Resynchronisation (13 R367): stage 0 to 7, its start, slow recorded, bytes copied, bytes still dirty. -/
  stage : Nat := 0
  syncAt : Nat := 0
  slow : Bool := false
  bulk : Nat := 0
  dirty : Nat := 0
  /-- A signature mismatch whose self-tests run (13 R366): task and instant. -/
  mismatch : Option (Nat × Nat) := none
  /-- Mismatches that counted, in powered time. -/
  mismatches : List Nat := []
  /-- Both partners found ACTIVE since. -/
  dualAt : Option Nat := none
  /-- State-compatibility codes of the running images, by component (13 R342). -/
  compat : List Nat := []
  deriving DecidableEq, Repr

end Sys2Proof.Machine
end

