-- ==== Sys2Proof/Machine/TypesSafe.lean ====
section
/-! DEFINITION. Types of the management plane's safety records and of the fault manager: change log, credentials,
safety session (11 R301 to R306), fault histories and retirements (21). -/

namespace Sys2Proof.Machine

/-- A change-log entry (11 R305). -/
structure LogEntry where
  lseq : Nat
  cls : Nat
  sub : Nat
  index : Nat
  old : Nat
  new : Nat
  route : Nat
  session : Nat
  epoch : Nat
  deriving DecidableEq, Repr

/-- The safety change log with its holding area (11 R306); `lost` where the section had no valid copy, so that it counts
as full until archived and acknowledged (03 R71). -/
structure SafetyLog where
  entries : List LogEntry := []
  held : List LogEntry := []
  notKept : Nat := 0
  lastBefore : Nat := 0
  nextSeq : Nat := 1
  lost : Bool := false
  deriving DecidableEq, Repr

/-- The Credentials section (03 R71; 04 R119; 11 R301, R303; 19 R489): station key, password verifier, failed checks, lockout,
fleet ID. -/
structure Credentials where
  stationKey : Option Bytes := none
  password : Option Bytes := none
  fails : Nat := 0
  locked : Bool := false
  /-- `SVC_FLEET` (19 R489). -/
  fleet : Nat := 0
  deriving DecidableEq, Repr

/-- The safety session (11 R302, R303): its handle, 0 where none is open, the route it is bound to, its last use,
and the end of a lockout on TB0. -/
structure SafeSession where
  handle : Nat := 0
  route : Route := .host
  lastUse : Nat := 0
  lockUntil : Nat := 0
  deriving DecidableEq, Repr

/-- A retirable resource: its class code of 21 R524, index and sub-index. -/
structure FaultKey where
  cls : Nat
  index : Nat
  sub : Nat := 0
  deriving DecidableEq, Repr

/-- A RETIRED resource with its retirement code, the last fault code and the powered time of its retirement (21 R533). -/
structure Retired where
  key : FaultKey
  code : Nat
  last : Nat
  time : Nat
  deriving DecidableEq, Repr

/-- A fault history: the last 15 instants in powered time, oldest first (21 R521). -/
structure History where
  key : FaultKey
  times : List Nat
  deriving DecidableEq, Repr

/-- The Retirement section (03 R71, 21 R521, R526). -/
structure RetireStore where
  retired : List Retired := []
  hist : List History := []
  deriving DecidableEq, Repr

/-- A reinstatement whose self-test runs (21 R527), and whether a fault has come meanwhile. -/
structure Reinstating where
  key : FaultKey
  entry : Entry
  failed : Bool := false
  deriving DecidableEq, Repr

/-- The fault manager (21): `seqs` are the fault sequence numbers of the resources, `seen` those it last saw, `base` the
powered time at which TB0 was 0, `inbox` the drained fault events not yet counted. -/
structure FaultMgr where
  store : RetireStore := {}
  seqs : List (FaultKey × Nat) := []
  seen : List (FaultKey × Nat) := []
  base : Nat := 0
  inbox : List Event := []
  testing : List Reinstating := []
  /-- Memory lines whose retry waits for a march test of their bank: bank, line, what it served (21 R525). -/
  march : List (Nat × Nat × MemUser) := []
  /-- The first event of severity 7 since the start (02 R51, 19 R499). -/
  sev7 : Option Nat := none
  deriving DecidableEq, Repr

end Sys2Proof.Machine
end

