-- ==== Sys2Proof/Machine/TypesUpd.lean ====
section
/-! DEFINITION. Types of firmware update (19) and of the local panel (20). -/

namespace Sys2Proof.Machine

/-- A container transfer that `UPD.STAGE` opened (19 R496): its command, its length, the bytes received. -/
structure Transfer where
  entry : Entry
  length : Nat
  got : Bytes := []
  deriving DecidableEq, Repr

/-- The boot record's content (19 R499): state 0 none, 1 SCHEDULED, 2 VERIFY, 3 INSTALL, 4 SWITCH, 5 TRIAL, 6 CONFIRMED; target
slot, component mask, trial count; the scheduled instant with its base, whether it is due at once, and whether the module
takes over as STANDBY once it has resynchronised (13 R370). -/
structure BootRecord where
  state : Nat := 0
  slot : Nat := 0
  mask : Nat := 0
  trials : Nat := 0
  base : Nat := 0
  instant : Int := 0
  immediate : Bool := false
  takes : Bool := false
  deriving DecidableEq, Repr

/-- Firmware storage and update (19 R495 to R499): staged containers by component; the components of boot slots A and B that
are not as manufactured; the active slot; the stored anti-rollback counters; the boot record; the transfer in progress; the
last outcome: code (0 none), component, reason, power epoch; the throttle of HELLO_REPLY refusals, as one more than the
instant of the last one; the XS address in force. -/
structure Update where
  chrysalis : List (Nat × Bytes) := []
  slotA : List (Nat × Bytes) := []
  slotB : List (Nat × Bytes) := []
  active : Nat := 0
  arb : Tab Nat := []
  boot : Sec BootRecord := {}
  transfer : Option Transfer := none
  outcome : Nat × Nat × Nat × Nat := (0, 0, 0, 0)
  helloReplyAt : Nat := 0
  ip : Nat := 0xC0A8FE40
  deriving DecidableEq, Repr

/-- A panel region (20 R506): class 0 static, 1 live. -/
structure Region where
  x : Nat
  y : Nat
  w : Nat
  h : Nat
  cls : Nat
  deriving DecidableEq, Repr

/-- The panel layout that the Configuration section restores (20 R506): regions and correction tables. -/
structure PanelLayout where
  regions : Tab (Option Region) := []
  gamma : Tab Byte := []
  overdrive : Tab Byte := []
  grey : Tab Byte := []
  select : Tab Byte := []
  waves : Tab Byte := []
  deriving DecidableEq, Repr

/-- What the privet strip shows (20 R514): station ID, role as the ROLE LED has it, side, state word 0 TRIP, 1 FAULT,
2 DEGRADED, 3 OK. -/
structure Strip where
  station : Nat
  role : Nat
  side : Nat
  word : Nat
  deriving DecidableEq, Repr

/-- A running e-paper waveform (20 R510, R511): its region (32 the strip, 33 the full clear), each pixel with its row and column of
the selection table, the temperature band, phases driven, phases in all, and the selection table and waveform set in force when it
started, which a later `PANEL.LOAD_TABLE` leaves alone (R517). -/
structure Wave where
  region : Nat
  cells : List (Nat × Nat × Nat)
  band : Nat
  phase : Nat := 0
  len : Nat
  select : Tab Byte := []
  set : Tab Byte := []
  deriving DecidableEq, Repr

/-- The panel controller (20): the identity memory on XP, PEN with the instant it rose, whether frames are driven, low-power mode,
the last update, the image in DRAM by pixel (256 where DRAM holds none), the LCD's last driven levels, the previous-level
memory, the regions whose update waits, the running waveforms, the full clear in progress with its cause and commands, and
the strip as last drawn. -/
structure PanelRun where
  idMem : Option Bytes := none
  pen : Bool := false
  penAt : Nat := 0
  on : Bool := false
  low : Bool := false
  lastUpdate : Nat := 0
  image : Tab Nat := []
  driven : Tab Nat := []
  prev : Tab Nat := []
  waiting : List Nat := []
  waves : List Wave := []
  clearing : Option (Nat × List Entry) := none
  strip : Option Strip := none
  band : Nat := 0
  deriving DecidableEq, Repr

end Sys2Proof.Machine
end

