-- ==== Sys2Proof/Machine/State.lean ====
section
/-! DEFINITION. The state of the module as plain data, its stops, and the state after reset. -/

namespace Sys2Proof.Machine

/-- A command's meaning ends here where the row cannot exist. -/
inductive Fault where
  /-- Raised by an event row that names a resource the module does not have (a 33rd analogue channel): no such event
  can occur on the hardware. Safe: the model stops where the hardware has nothing to do. -/
  | noSuchResource
  deriving DecidableEq, Repr

/-- A command without a meaning. -/
inductive Refusal where
  /-- The row has no meaning in the model yet. Safe: nothing is claimed of it. -/
  | notModelled (mnemonic : String)
  deriving DecidableEq, Repr

/-- Everything the Configuration section restores (03 R71). -/
structure Settings where
  /-- The format code of the section (03 R72, R85); 1 is the one that the firmware writes and accepts (notes/assumptions/72.md). -/
  format : Nat := 1
  params : Tab Nat := []
  prog : Program := {}
  /-- Variable descriptors of the connections, by connection ID (14 R391). -/
  connVars : Tab (List Nat) := []
  /-- The pair epoch, which 13 R351 commits (notes/assumptions/62.md). -/
  pairEpoch : Nat := 0
  panel : PanelLayout := {}
  deriving DecidableEq, Repr

/-- The cocoon's sections (03 R71). -/
structure Cocoon where
  header : Sec HeaderData := {}
  config : Sec Settings := {}
  retirement : Sec RetireStore := {}
  credentials : Sec Credentials := {}
  safetyLog : Sec SafetyLog := {}
  retain : Sec (Tab Nat) := {}
  recorder : Sec RecStore := {}
  /-- The update-in-progress mark (20 R512). -/
  panel : Sec Bool := {}
  safety : Sec SafeStore := {}
  axisState : Sec AxStore := {}
  deriving DecidableEq, Repr

/-- The whole module. -/
structure State where
  tb0 : Nat := 0
  free : Nat := 0
  cfg : Settings := {}
  power : Power := {}
  cocoon : Cocoon := {}
  host : HostIf := {}
  disp : Dispatcher := {}
  mail : List Posting := []
  inControl : Intake := {}
  inData : Intake := {}
  inManagement : Intake := {}
  recorder : Recorder := {}
  session : SafeSession := {}
  cred : Credentials := {}
  safeLog : SafetyLog := {}
  faults : FaultMgr := {}
  tasks : Tab Task := []
  cores : Tab CorePair := []
  prog : ProgState := {}
  loops : Tab LoopRun := []
  ac : Tab AcChan := []
  modems : Tab HartModem := []
  hart : HartStreams := {}
  dc : Tab DcChan := []
  dcGroups : Tab DcGroup := []
  dcCommon : Bool := false
  dcCommonAck : Bool := false
  so : Tab SafeOut := []
  sv : Supervisor := {}
  aiPairs : Tab AiPair := []
  triggers : List Trigger := []
  axes : Tab AxisChan := []
  rtc : Rtc := {}
  bases : Tab TimeBase := []
  pgs : Tab PgRun := []
  pis : Tab PiRun := []
  net : NetRun := {}
  tx : Egress := {}
  cans : Tab CanChan := []
  cus : Tab CuRun := []
  pair : PairRun := {}
  upd : Update := {}
  panel : PanelRun := {}
  sent : List Msg := []
  pending : List Instr := []
  deriving DecidableEq, Repr

/-- The module right after reset: held in reset, before its start sequence (03 R74). -/
def State.reset : State := {}

end Sys2Proof.Machine
end

