-- ==== Sys2Proof/Machine/Ops.lean ====
section
/-! DEFINITION. The named operations over the module's state: time, parameters, free values, events, host memory,
interrupts, ring faults and cocoon sections. -/

namespace Sys2Proof.Machine

/-- TB0 at the instant `t` of a command; TB0 never runs back (03 R64). -/
def State.advance (t : Nat) (s : State) : State := { s with tb0 := max s.tb0 t }

/-- The value in force of parameter `p` of resource `i` (00 R7). -/
def State.param (s : State) (p : Param) (i : Nat) : Nat := Tab.get Param.unlisted s.cfg.params (p.key i)

/-- Sets parameter `p` of resource `i`. -/
def State.setParam (p : Param) (i v : Nat) (s : State) : State :=
  { s with cfg := { s.cfg with params := Tab.put Param.unlisted s.cfg.params (p.key i) v } }

/-- Sets several parameters of resource `i`. -/
def State.setParams (i : Nat) : List (Param × Nat) → State → State
  | [], s => s
  | (p, v) :: r, s => State.setParams i r (s.setParam p i v)

/-- A fresh free value (notes/assumptions/3.md). -/
def State.drawn (s : State) : BitVec 64 := Config.freeValue s.free

/-- The state after a free value has been drawn. -/
def State.afterDraw (s : State) : State := { s with free := s.free + 1 }

/-! ## Events (01 R21) -/

/-- An event enters the FIFO of 256, or is counted as lost. -/
def Intake.push (e : Event) (q : Intake) : Intake :=
  if q.queue.length < 256 then { q with queue := q.queue ++ [e] }
  else { q with lost := (q.lost + 1) % 2 ^ 32, lossSince := q.lossSince + 1 }

/-- The intake of a plane. -/
def State.intake (s : State) : Plane → Intake
  | .control => s.inControl
  | .data => s.inData
  | .management => s.inManagement

/-- Replaces the intake of a plane. -/
def State.setIntake (p : Plane) (q : Intake) (s : State) : State :=
  match p with
  | .control => { s with inControl := q }
  | .data => { s with inData := q }
  | .management => { s with inManagement := q }

/-- Posts an event of a plane; posting never waits (01 R21). -/
def State.post (p : Plane) (c : Code) (src : Res) (quantity : Nat) (s : State) (detail : Nat := 0) : State :=
  let s : State := { s with faults := { s.faults with sev7 := if c.sev = 7 ∧ s.faults.sev7.isNone then some s.tb0 else s.faults.sev7 } }
  s.setIntake p ((s.intake p).push
    { code := c, src := src, quantity := quantity % 2 ^ 32, detail := detail % 2 ^ 64, time := s.tb0, epoch := s.power.epoch })

/-- Posts an event where a condition holds. -/
def State.postIf (b : Bool) (p : Plane) (c : Code) (src : Res) (quantity : Nat) (s : State) : State :=
  if b then s.post p c src quantity else s

/-- A quantity with a resource number in [31:24] and a 24-bit measure (18 R480). -/
def q24 (n : Nat) (v : Int) : Nat := (n % 256) * 2 ^ 24 + wrapInt 24 v

/-! ## Host memory, interrupts and ring faults (04 R94, R99) -/

/-- The module itself as an event source. -/
def modRes : Res := { cls := 0x01, index := 0 }

/-- A message leaves the module. -/
def State.send (m : Msg) (s : State) : State := { s with sent := s.sent ++ [m] }

/-- The module writes host memory. -/
def State.hostWrite (a : Nat) (b : Bytes) (s : State) : State :=
  { s with host := { s.host with mem := Tab.putBytes s.host.mem a b } }

/-- The value of vector register `k` (0 CQ, 1 EQ, 2 FAULT, 3+k bulk) at reset: its own number (04 R94). -/
def vectorUnlisted (k : Nat) : Nat := k

/-- Raises the MSI-X vector that vector register `k` maps to, where it is enabled (04 R94); a vector that the MSI-X table masks
sets its pending bit instead (R87). -/
def State.raiseVector (k : Nat) (s : State) : State :=
  let v := Tab.get vectorUnlisted s.host.vectors k
  if ¬ bitOf v 31 then s
  else if Tab.get (fun _ => false) s.host.msixMasked (v % 32) then
    { s with host := { s.host with msixPending := Tab.put (fun _ => false) s.host.msixPending (v % 32) true } }
  else { s with host := { s.host with irqs := Tab.upd (fun _ => 0) s.host.irqs (v % 32) (fun n => n + 1) } }

/-- A ring by its number: 0 SQ, 1 CQ, 2 EQ, 8+k bulk ring k (04 R92). -/
def State.ring (s : State) (k : Nat) : Ring := Tab.get (fun _ => {}) s.host.rings k

/-- Replaces ring `k`. -/
def State.setRing (k : Nat) (r : Ring) (s : State) : State :=
  { s with host := { s.host with rings := Tab.put (fun _ => {}) s.host.rings k r } }

/-- Entries of a ring. -/
def Ring.size (r : Ring) : Nat := 2 ^ r.log2

/-- A ring fault (04 R99): the ring stops, its fault bit and the cause are set, the fault vector fires, E_RING_FAULT. -/
def State.ringFault (k cause : Nat) (s : State) : State :=
  let s := s.setRing k { s.ring k with run := false, fault := true }
  let s := if s.host.faultCause = 0 then { s with host := { s.host with faultCause := cause, faultRing := k } } else s
  (s.raiseVector 2).post .management .eRingFault modRes (k * 256 + cause)

/-! ## Cocoon sections (03 R70) -/

/-- A valid copy: CRC matches, commit mark present, the two sequence numbers equal. -/
def Copy.valid {α : Type} (c : Copy α) : Bool := c.crcOk && c.seqMark == some c.seqHdr

/-- The sequence number of a buffer's valid copy. -/
def validSeq {α : Type} (c : Option (Copy α)) : Option Nat :=
  match c with
  | some x => if x.valid then some x.seqHdr else none
  | none => none

/-- The valid copy with the higher sequence number, which a restore uses. -/
def Sec.newest {α : Type} (x : Sec α) : Option (Copy α) :=
  match validSeq x.a, validSeq x.b with
  | some m, some n => if m < n then x.b else x.a
  | some _, none => x.a
  | none, some _ => x.b
  | none, none => none

/-- The section's highest sequence number. -/
def Sec.highest {α : Type} (x : Sec α) : Nat :=
  max (match x.a with | some c => c.seqHdr | none => 0) (match x.b with | some c => c.seqHdr | none => 0)

/-- The buffer a commit writes: the one whose copy is invalid or lower (`true` is b). -/
def Sec.target {α : Type} (x : Sec α) : Bool :=
  match x.only with
  | some b => b
  | none =>
    match validSeq x.a, validSeq x.b with
    | none, _ => false
    | some _, none => true
    | some m, some n => decide (n < m)

/-- Steps 1 and 2 of a commit: the copy is written without its mark. A buffer in a RETIRED bank counts no longer
(21 R525; notes/assumptions/70.md). -/
def Sec.begin {α : Type} (p : α) (x : Sec α) : Sec α :=
  let c : Copy α := { payload := p, seqHdr := x.highest + 1, seqMark := none }
  if x.target then { x with a := if x.only.isSome then none else x.a, b := some c, busy := some true }
  else { x with a := some c, b := if x.only.isSome then none else x.b, busy := some false }

/-- Writes the commit mark of a copy. -/
def Copy.mark {α : Type} (c : Copy α) : Copy α := { c with seqMark := some c.seqHdr }

/-- Step 3 of a commit: the mark of the copy in progress. -/
def Sec.finish {α : Type} (x : Sec α) : Sec α :=
  match x.busy with
  | some true => { x with b := x.b.map Copy.mark, busy := none, second := false }
  | some false => { x with a := x.a.map Copy.mark, busy := none, second := false }
  | none => x

/-- A commit is asked for: it begins, or waits for the one in progress. -/
def Sec.request {α : Type} (p : α) (x : Sec α) : Sec α :=
  match x.busy with
  | some _ => { x with again := true }
  | none => x.begin p

/-- A commit's end; a waiting one then begins with the payload of now. -/
def Sec.ended {α : Type} (p : α) (x : Sec α) : Sec α :=
  let y := x.finish
  if x.again then { y.begin p with again := false } else y

/-- A whole commit, from its beginning to its mark, before anything else happens. -/
def Sec.now {α : Type} (p : α) (x : Sec α) : Sec α := ((x.finish.begin p).finish)

/-- A commit in progress is lost and written once more (21 R525). -/
def Sec.retry {α : Type} (x : Sec α) : Sec α :=
  match x.busy, x.a, x.b with
  | some true, _, some c => { x with busy := none }.begin c.payload
  | some false, some c, _ => { x with busy := none }.begin c.payload
  | _, _, _ => x

/-- A commit whose copy a check unit found different (16 R453): it is written once more, or given up at the second mismatch,
so that the previous copy stands. -/
def Sec.mismatch {α : Type} (p : α) (x : Sec α) : Sec α :=
  if x.second then (if x.again then { x with busy := none, second := false, again := false }.begin p else { x with busy := none, second := false })
  else { x.retry with second := true }

/-- The buffers that `f` names lie in RETIRED banks. -/
def Sec.avoid {α : Type} (f : Bool → Bool) (x : Sec α) : Sec α :=
  { x with only := if f false then some true else if f true then some false else none }

/-- A reset in the middle of commits: they are lost, the previous copies stand. -/
def Sec.cut {α : Type} (x : Sec α) : Sec α := { x with busy := none, again := false, second := false }

end Sys2Proof.Machine
end

