-- ==== Sys2Proof/Machine/Operands.lean ====
section
/-! DEFINITION. The operand forms of a command: flags, the parameter area or the indirect block, fields by entry offset,
and the reserved bytes (04 R97, R98). -/

namespace Sys2Proof

open Machine

/-- Expert form (00 R9). -/
def Cmd.expert (c : Cmd) : Bool := bitOf c.flags 0
/-- `FENCE`. -/
def Cmd.fence (c : Cmd) : Bool := bitOf c.flags 1
/-- `INDIRECT`. -/
def Cmd.indirect (c : Cmd) : Bool := bitOf c.flags 2
/-- The indirect block; empty where there is none. -/
def Cmd.blockBytes (c : Cmd) : Bytes := match c.block with | some b => b | none => []
/-- Address of the indirect area (entry bytes 16–23). -/
def Cmd.blockAddr (c : Cmd) : Nat := leNat (slice c.params 0 8)
/-- Length of the indirect area (entry bytes 24–27). -/
def Cmd.blockLen (c : Cmd) : Nat := leNat (slice c.params 8 4)
/-- Where the fields lie: the block with `INDIRECT`, at their entry offset less 16, or the parameter area (R98). -/
def Cmd.body (c : Cmd) : Bytes := if c.indirect then c.blockBytes else c.params
/-- The field of `len` bytes at entry offset `off`. -/
def Cmd.field (c : Cmd) (off len : Nat) : Nat := leNat (slice c.body (off - 16) len)
/-- The field of `len` bytes at byte `off` of the block. -/
def Cmd.blk (c : Cmd) (off len : Nat) : Nat := leNat (slice c.body off len)
/-- The host rings. -/
def Cmd.onHost (c : Cmd) : Bool := c.route == .host
/-- The Ivpasto session. -/
def Cmd.onXs (c : Cmd) : Bool := c.route == .ivpasto

end Sys2Proof

namespace Sys2Proof.Machine

/-- The bytes a command uses, by entry offset: whole ranges and single bytes with the mask of the bits in use. -/
structure Layout where
  ranges : List (Nat × Nat) := []
  masks : List (Nat × Nat) := []
  deriving DecidableEq, Repr

/-- Byte `k` (entry offset) of a layout may hold value `v`. -/
def Layout.allows (l : Layout) (k : Nat) (v : Nat) : Bool :=
  l.ranges.any (fun r => decide (r.1 ≤ k ∧ k < r.1 + r.2))
    || (match l.masks.find? (fun m => m.1 == k) with | some m => v &&& m.2 == v | none => v == 0)

/-- Every reserved bit of a body is 0: bytes from entry offset `k` on. -/
def Layout.reservedZero (l : Layout) : Nat → Bytes → Bool
  | _, [] => true
  | k, b :: r => l.allows k b.toNat && l.reservedZero (k + 1) r

end Sys2Proof.Machine

namespace Sys2Proof

open Machine

/-- The kind of a route: the dispatcher serves the three kinds in turn (04 R105). -/
def Route.kind : Route → Nat
  | .host => 0
  | .omnar _ => 1
  | .ivpasto => 2

/-- Reserved fields of the entry itself, and the range of an `INDIRECT` length (04 R97, R98, R105 check 1); the block's address is
aligned to 8 bytes on the host rings, and 0 on the routes whose messages carry the block (R111). -/
def Cmd.entryWellFormed (c : Cmd) : Bool :=
  decide (c.flags < 8) && c.rsv == 0 &&
    (if c.indirect then
      allZero (c.params.drop 12) && decide (1 ≤ c.blockLen ∧ c.blockLen ≤ 4096) && c.block.isSome
        && (if c.onHost then c.blockAddr % 8 == 0 else c.blockAddr == 0)
     else true)

/-- Check 1 over the command's layout: the fields that a layout covers carry nothing in their reserved bits; what the
block holds beyond the 48 bytes of a parameter area belongs to the command's own block layout. -/
def Cmd.reservedOk (c : Cmd) (l : Layout) : Bool := l.reservedZero 16 (c.body.take 48)

end Sys2Proof
end

