-- ==== Sys2Proof/Machine/Frames.lean ====
section
/-! DEFINITION. The ports of the Omnar network and what the module queues there: frames and PTP messages (14 R376, R379 to R382,
R400). -/

namespace Sys2Proof.Machine

/-- A member of a hedgerow pair. -/
def State.paired (s : State) : Bool := s.pair.st != .unpaired

/-- Port `k`: 0 NA, 1 NB. -/
def State.port (s : State) (k : Nat) : NetPort := Tab.get (fun _ => {}) s.net.ports k
/-- Replaces port `k`. -/
def State.setPort (k : Nat) (x : NetPort) (s : State) : State :=
  { s with net := { s.net with ports := Tab.put (fun _ => {}) s.net.ports k x } }

/-- The port carries traffic: enabled, link up, not RETIRED, no retry in progress (14 R375, R401). -/
def State.portUp (s : State) (k : Nat) : Bool :=
  (s.port k).link && !(s.port k).retired && !(s.port k).fault && s.param .portEn k == 1

/-- A module's unicast MAC address by side and station. -/
def unicastMac (side station : Nat) : Nat := 0x0A4E50000000 + side * 65536 + station
/-- The multicast MAC address of connection `c` of a station. -/
def connMac (station c : Nat) : Nat := 0x0B4E00000000 + station * 65536 + c
/-- The broadcast address. -/
def bcastMac : Nat := 0xFFFFFFFFFFFF

/-- The side this module sends as; side A where it is unpaired. -/
def State.side (s : State) : Nat := if s.param .pairEn 0 = 1 then s.param .pairSide 0 else 0
/-- This module's address. -/
def State.ownMac (s : State) : Nat := unicastMac s.side s.net.station

/-- `EPOCH` (14 R381). -/
def State.netEpoch (s : State) : Nat := ((if s.paired then s.pair.epoch else s.power.epoch) % 4096) * 16 + s.net.realign % 16

/-- `OFLAGS` (14 R381) but for `TS_VALID`, which the port sets with the time stamp. -/
def State.oflags (s : State) (bcast safety : Bool) : Nat :=
  b2n bcast + 2 * b2n safety + 4 * b2n s.paired + 8 * (if s.paired then s.side else 0)

/-- An Omnar frame of this module; the port inserts `TX_TIME` as it leaves (14 R381). -/
def State.omnarFrame (s : State) (ty : Nat) (bcast safety : Bool) (dst conn : Nat) (payload : Bytes) : OmnarFrame :=
  { ty := ty, ver := 1, oflags := s.oflags bcast safety, src := s.net.station, dst := dst, conn := conn, epoch := s.netEpoch,
    seq := s.net.cycle % 2 ^ 32, txTime := 0, corr := 0, payload := payload }

/-- One frame, or one byte, in the scale of a bucket. -/
def bucketUnit : Nat := 1000000000000

/-- Bytes of a frame on the wire that the byte buckets count (14 R387). -/
def wireBytes (f : OmnarFrame) : Nat := max f.payload.length 4 + 80

/-- kbit/s as scaled bytes per ns. -/
def kbitRate (k : Nat) : Nat := k * 125000

/-- Bytes on the wire of what a frame carries; of PTP messages and supervision frames by their standards (PRESUMED,
notes/assumptions/113.md). -/
def bodyBytes : NetBody → Nat
  | .omnar f => wireBytes f
  | .ptp m => (match m.body with | .announce _ => 106 | .sync _ => 88 | _ => 96)
  | _ => 88

/-! ## Egress queues (14 R400) -/

/-- The sending side of port `k`, and its change. -/
def State.txPort (s : State) (k : Nat) : TxPort := Tab.get (fun _ => {}) s.tx.ports k
def State.setTxPort (k : Nat) (x : TxPort) (s : State) : State :=
  { s with tx := { s.tx with ports := Tab.put (fun _ => {}) s.tx.ports k x } }

/-- A frame came or went at port `k` (02 R51). -/
def State.portSeen (k : Nat) (s : State) : State := s.setTxPort k { s.txPort k with trafficAt := some s.tb0 }

/-- Something enters the queues of a port that carries traffic. -/
def State.txPut (k : Nat) (i : TxItem) (s : State) : State :=
  if ¬ s.portUp k then s
  else s.setTxPort k { s.txPort k with queue := (s.txPort k).queue ++ [i], trafficAt := some s.tb0 }

/-- The priority of the tag of the module's frames (14 R382). -/
def bodyPcp : NetBody → Nat
  | .omnar f => if f.ty = 2 then 7 else 6
  | _ => 6

/-- Queues a frame on both ports, with one redundancy sequence number (14 R376). -/
def State.sendBoth (dst : Nat) (body : NetBody) (s : State) : State :=
  let f : Nat → NetFrame := fun k =>
    { port := k, srcMac := s.ownMac, dstMac := dst, vid := some (s.param .vlanId 0), fcs := true, long := false,
      red := some s.tx.red, body := body, pcp := bodyPcp body }
  let cls := match body with | .omnar o => if o.ty = 2 then 2 else 3 | _ => 3
  let item : Nat → TxItem := fun k => { at0 := s.tb0, cls := cls, bytes := bodyBytes body, own := true, body := .frame (f k) }
  let s := (s.txPut 0 (item 0)).txPut 1 (item 1)
  { s with tx := { s.tx with red := (s.tx.red + 1) % 65536 } }

/-- A management message of the module to the station and the MAC address it answers (04 R112; 14 R382). -/
def State.sendMgmt (station mac : Nat) (m : Bytes) (s : State) : State :=
  s.sendBoth mac (.omnar (s.omnarFrame 2 false false station 0 m))

/-- A full management reservation: one longest frame (14 R400; notes/assumptions/113.md). -/
def reservationFull : Nat := 1542 * bucketUnit

/-- The level of the reservation at the instant `t`: 50 Mbit/s flow in. -/
def TxPort.level (p : TxPort) (t : Nat) : Nat := min reservationFull (p.tokens + kbitRate 50000 * (t - p.tokensAt))

/-- The queue of an item at the instant `t`, in the order of R400: management beyond the reservation is in the last. -/
def TxPort.rank (p : TxPort) (t : Nat) (i : TxItem) : Nat :=
  if i.cls = 2 ∧ p.level t < i.bytes * bucketUnit then 4 else i.cls

/-- When the next frame leaves: at once, or at the end of the one in progress, which is never preempted. -/
def TxPort.start (p : TxPort) : Nat := match p.queue with | [] => p.busyTill | i :: _ => max p.busyTill i.at0

/-- What leaves next: of what has arrived by then, the first of the highest queue. -/
def TxPort.pick (p : TxPort) : Option TxItem :=
  let t := p.start
  (p.queue.filter (fun i => decide (i.at0 ≤ t))).foldl (fun best i =>
    match best with
    | none => some i
    | some b => if p.rank t i < p.rank t b then some i else some b) none

/-- The port after `i` begins to leave. -/
def TxPort.after (p : TxPort) (i : TxItem) : TxPort :=
  let t := p.start
  { p with
    queue := p.queue.erase i, busyTill := t + 8 * i.bytes, tokensAt := t,
    tokens := if p.rank t i = 2 then p.level t - i.bytes * bucketUnit else p.level t }

end Sys2Proof.Machine
end

