-- ==== Sys2Proof/Machine/Driver.lean ====
section
/-! DEFINITION. The dispatcher: checks, mailboxes, completions (01 R17 to R20; 04 R98, R100, R101, R103, R105 to R108,
R115, R116). -/

namespace Sys2Proof.Machine

/-- What a command's action gives: a completion with its status, `RESULT` and result block, or a later completion. -/
inductive Reply where
  | done (st : Status) (result : Nat) (block : Bytes) (s : State)
  | later (s : State)

/-- A command that did what it asked, without a result. -/
def Reply.ok (s : State) : Reply := .done .sOk 0 [] s
/-- A refusal: the command changes nothing. -/
def Reply.refuse (st : Status) (s : State) : Reply := .done st 0 [] s
/-- A `LONG` result: `RESULT` is its full length (04 R98). -/
def Reply.long (b : Bytes) (s : State) : Reply := .done .sOk b.length b s

/-- A command: its opcode and what each check of 04 R105 and its action depend on. -/
structure CmdSpec where
  op : Nat
  layout : Cmd → Layout := fun _ => {}
  long : Cmd → Bool := fun _ => false
  form : State → Cmd → Bool := fun _ _ => true
  route : Cmd → Bool := fun _ => true
  target : State → Cmd → Bool
  needsSession : State → Cmd → Bool := fun _ _ => false
  params : State → Cmd → Bool := fun _ _ => true
  check : State → Cmd → Status := fun _ _ => .sOk
  owner : State → Cmd → Option Owner := fun _ _ => none
  running : State → Cmd → Bool := fun _ _ => true
  run : Entry → State → Reply

/-- A target of class `cls` with index below `n` and sub-index 0. -/
def targetBelow (cls n : Nat) (_ : State) (c : Cmd) : Bool :=
  c.tgtClass == cls && decide (c.tgtIndex < n) && c.tgtSub == 0

/-- The module as target of a class: index 0, sub-index 0. -/
def targetZero (cls : Nat) (_ : State) (c : Cmd) : Bool := c.tgtClass == cls && c.tgtIndex == 0 && c.tgtSub == 0

/-! ## Completions -/

/-- The 16-byte completion entry (04 R97). -/
def completionBytes (tag st sqHead result slot : Nat) (phase long : Bool) : Bytes :=
  leBytes 4 tag ++ leBytes 2 st ++ leBytes 2 sqHead ++ leBytes 4 result ++ leBytes 2 slot ++ leBytes 1 0
    ++ leBytes 1 (b2n phase + 2 * b2n long)

/-- A completion that cannot be delivered (04 R101, R115). -/
def State.discardCompletion (e : Entry) (st : Status) (s : State) : State :=
  { s with host := { s.host with lostCompletions := (s.host.lostCompletions + 1) % 2 ^ 32 } }.post .management
    .eCompletionDiscarded modRes (st.code * 65536 + e.op) e.cmd.tag

/-- The entry that the module would write next in an event or completion ring has not been released (04 R100). -/
def Ring.full (r : Ring) : Bool := (r.tail + 1) % r.size == r.head % r.size

/-- Writes a completion to the completion ring (04 R100, R103). Where the ring has no released entry, or the write of the entry or
of the result block fails, the completion is discarded; a failed write faults the completion ring, that of a result block too
(DESIGN CHOICE, notes/assumptions/97.md). -/
def State.completeHost (e : Entry) (st : Status) (result : Nat) (block : Bytes) (s : State) : State :=
  let r := s.ring 1
  if ¬ r.run ∨ r.full then s.discardCompletion e st
  else if e.cmd.writeFails then (s.ringFault 1 0x04).discardCompletion e st
  else
    let long := e.cmd.indirect && !block.isEmpty
    let s := if long then s.hostWrite e.cmd.blockAddr (block.take e.cmd.blockLen) else s
    let s := s.hostWrite (r.base + 16 * r.tail)
      (completionBytes e.cmd.tag st.code (s.ring 0).head result e.cmd.slot r.phase long)
    let next := (r.tail + 1) % r.size
    let s := s.setRing 1 { r with tail := next, phase := if next = 0 then !r.phase else r.phase }
    let at0 := if s.host.unsignalled = 0 then s.tb0 else s.host.unsignalledAt
    let n := s.host.unsignalled + 1
    if max 1 s.host.coalesceCount ≤ n then
      { s with host := { s.host with unsignalled := 0, unsignalledAt := at0 } }.raiseVector 0
    else { s with host := { s.host with unsignalled := n, unsignalledAt := at0 } }

/-- An Omnar management message of the module with its GMAC tag (04 R112, R113). -/
def omnarMessage (key : Bytes) (session counter type count : Nat) (body : Bytes) : Bytes :=
  let iv := beBytes 4 session ++ beBytes 8 (2 ^ 63 + counter)
  let m := iv ++ beBytes 1 type ++ beBytes 1 count ++ beBytes 2 body.length ++ body
  m ++ gmacTag key iv m

/-- The open Omnar session of an ID. -/
def State.omnarOf (s : State) (id : Nat) : Option OmnarSession := s.disp.omnar.find? (fun x => x.id == id)

/-- Replaces an Omnar session. -/
def State.setOmnar (x : OmnarSession) (s : State) : State :=
  { s with disp := { s.disp with omnar := s.disp.omnar.map (fun y => if y.id = x.id then x else y) } }

/-- A message of the module on an open session: sealed with its next counter. -/
def State.sendOmnar (x : OmnarSession) (type count : Nat) (body : Bytes) (s : State) : State :=
  (s.sendMgmt x.station x.mac (omnarMessage x.key x.id x.outCounter type count body)).setOmnar
    { x with outCounter := x.outCounter + 1 }

/-- The 4-byte header of a record (19 R490). -/
def ivHeader (type len : Nat) : Bytes := beBytes 2 len ++ beBytes 1 type ++ beBytes 1 0

/-- The IV of a record: direction (1 client to module, 2 module to client) and record counter (19 R490). -/
def ivIv (dir counter : Nat) : Bytes := beBytes 1 dir ++ beBytes 3 0 ++ beBytes 8 counter

/-- An encrypted record of the module on the Ivpasto session (19 R490), sealed with its next counter. -/
def State.sendIvpasto (type : Nat) (body : Bytes) (s : State) : State :=
  let v := s.disp.ivpasto
  let h := ivHeader type body.length
  let s := s.send (.ivpasto (h ++ gcmSeal v.keyOut (ivIv 2 v.outCounter) h body))
  { s with disp := { s.disp with ivpasto := { v with outCounter := v.outCounter + 1 } } }

/-- Counts a completion other than S_OK for its route (04 R558). -/
def State.countRefused (r : Route) (st : Status) (s : State) : State :=
  if st = .sOk then s else
  match r with
  | .host => { s with host := { s.host with refused := s.host.refused + 1 } }
  | .omnar id => match s.omnarOf id with | some x => s.setOmnar { x with refused := x.refused + 1 } | none => s
  | .ivpasto => { s with disp := { s.disp with ivpasto := { s.disp.ivpasto with refused := s.disp.ivpasto.refused + 1 } } }

/-- Counts a dispatch for its route (04 R558). -/
def State.countDispatched (r : Route) (s : State) : State :=
  match r with
  | .host => { s with host := { s.host with dispatched := s.host.dispatched + 1 } }
  | .omnar id => match s.omnarOf id with | some x => s.setOmnar { x with dispatched := x.dispatched + 1 } | none => s
  | .ivpasto =>
    { s with disp := { s.disp with ivpasto := { s.disp.ivpasto with dispatched := s.disp.ivpasto.dispatched + 1 } } }

/-- The flight of a command. -/
def State.flightOf (s : State) (id : Nat) : Option Flight := s.disp.flights.find? (fun f => f.entry.id == id)

/-- The command is in flight no longer. -/
def State.dropFlight (id : Nat) (s : State) : State :=
  { s with disp := { s.disp with flights := s.disp.flights.filter (fun f => f.entry.id != id) } }

/-- Posts the completion of a command to the route and session that submitted it, or discards it (04 R101, R115).
A command lost at a module reset is in flight no longer and leaves no record (04 R118). -/
def State.complete (e : Entry) (st : Status) (result : Nat) (block : Bytes) (s : State) : State :=
  match s.flightOf e.id with
  | none => s
  | some f =>
    let s := s.dropFlight e.id
    if f.orphan then s.discardCompletion e st
    else
    let s := s.countRefused e.cmd.route st
    match e.cmd.route with
    | .host => s.completeHost e st result block
    | .omnar id =>
      match s.omnarOf id with
      | some x => s.sendOmnar x 0x02 1 (completionBytes e.cmd.tag st.code 0 result e.cmd.slot false (!block.isEmpty) ++ block)
      | none => s.discardCompletion e st
    | .ivpasto =>
      if s.disp.ivpasto.isOpen then
        s.sendIvpasto 0x11 (completionBytes e.cmd.tag st.code 0 result e.cmd.slot false (!block.isEmpty) ++ block)
      else s.discardCompletion e st

/-- Finishes a command with its reply; a refusal leaves the state the command found (04 R105). -/
def State.finish (e : Entry) (before : State) (r : Reply) : State :=
  match r with
  | .done .sOk result block s => s.complete e .sOk result block
  | .done st result _ _ => before.complete e st result []
  | .later s => s

/-! ## Checks 1 to 8 (04 R105) -/

/-- A safety session handle is valid on the route that opened it (04 R116, 11 R302). -/
def State.sessionValid (s : State) (c : Cmd) : Bool :=
  s.session.handle != 0 && c.handle == s.session.handle && c.route == s.session.route

/-- The tag is held by a command fetched earlier on the same route or session. -/
def State.tagInUse (s : State) (e : Entry) : Bool :=
  s.disp.flights.any (fun f =>
    decide (f.entry.id < e.id) && f.entry.cmd.route == e.cmd.route && f.entry.cmd.tag == e.cmd.tag)

/-- The module has the STANDBY role, in which it refuses commands that change running work (13 R344, R357). -/
def State.standbyRole (s : State) : Bool :=
  match s.pair.st with
  | .unpaired => false
  | .searching => false
  | .active => false
  | _ => true

/-- The roles of the session's certificate allow the command (19 R492). -/
def State.rolesAllow (s : State) (op : Nat) (c : Cmd) : Bool :=
  !c.onXs || bitOf s.disp.ivpasto.roles
    (if op = 0x0105 ∨ op = 0x0606 ∨ op = 0x1006 then 1 else if op / 256 = 0x10 then 0 else 2)

/-- A linked partner takes every posting too (13 R357). -/
def State.postsToPartner (s : State) : Bool := s.pair.st == .active && s.pair.link

/-- The cycle of an owner in ns: a task's, a loop's, 50 µs of an axis, else the network's (13 R357;
notes/assumptions/65.md). -/
def State.ownerCycle (s : State) (o : Owner) : Nat :=
  let net := s.param .netCycle 0 * 1000
  match o.kind with
  | .task => if s.param .taskKind o.index = 3 then net * s.param .taskSyncMult o.index else s.param .taskCycle o.index
  | .loop => s.param .loopTs o.index * 10000
  | .axis => 50000
  | _ => net

/-- The first check that fails, or `none`. -/
def CmdSpec.refusal (k : CmdSpec) (e : Entry) (s : State) : Option Status :=
  let c := e.cmd
  if ¬ (c.entryWellFormed && c.reservedOk (k.layout c) && k.form s c && !(k.long c && c.onHost && !c.indirect))
  then some .sMalformed
  else if s.tagInUse e then some .sTagInUse
  else if ¬ (k.route c && s.rolesAllow k.op c) then some .sRoute
  else if ¬ k.target s c then some .sBadTarget
  else if k.needsSession s c && !(s.sessionValid c) then some .sSafetySessionRequired
  else if ¬ k.params s c then some .sBadParam
  else if s.standbyRole && ((k.owner s c).isSome || (c.tgtClass == 0x03 && k.op != 0x0303)) then some .sNotActive
  else if k.check s c ≠ .sOk then some (k.check s c)
  else none

/-- Command postings an owner's mailbox holds; the module's own do not count (01 R18). -/
def State.mailCount (s : State) (o : Owner) : Nat :=
  (s.mail.filter (fun p => p.owner == o && (match p.body with | .cmd _ => true | .releaseTask _ _ => true | .pairSwitch _ => true | _ => false))).length

/-- A posting enters its owner's mailbox. -/
def State.postMail (p : Posting) (s : State) : State := { s with mail := s.mail ++ [p] }

/-- The owner has postings that wait: a later one goes behind them (01 R18). -/
def State.mailWaits (s : State) (o : Owner) : Bool := s.mail.any (fun p => p.owner == o)

/-- The latest instant that is named for a posting of an owner: a later posting is not applied before it (01 R18; 13 R357). -/
def State.lastDue (s : State) (o : Owner) : Nat := s.mail.foldl (fun m p => if p.owner = o then max m p.due else m) 0

/-- The pair-timer instant that an ACTIVE partner names for a posting, `n` or more of the owner's cycles ahead: which is free
(13 R357; 07 R209). -/
def State.pairDue (s : State) (o : Owner) (n : Nat) : Nat :=
  max (s.lastDue o) (s.tb0 + s.pair.timerOff + ((n + s.drawn.toNat % 16) * s.ownerCycle o : Nat) : Int).toNat

/-- Acts on a command that passed its checks: an owner that runs, or whose earlier postings wait, takes it at its boundary,
everything else acts now (01 R17 to R20). -/
def CmdSpec.act (k : CmdSpec) (e : Entry) (s : State) : State :=
  match k.owner s e.cmd with
  | some o =>
    if s.postsToPartner then
      let due := s.pairDue o 4
      (if 8 ≤ s.mailCount o then s.complete e .sMailboxFull 0 []
       else (s.afterDraw.postMail { owner := o, body := .cmd e, due := due }).send (.hedgerow 1 [e.op, due]))
    else if k.running s e.cmd || s.mailWaits o then
      (if 8 ≤ s.mailCount o then s.complete e .sMailboxFull 0 [] else s.postMail { owner := o, body := .cmd e })
    else s.finish e (k.run e s)
  | none => s.finish e (k.run e s)

/-- A command carrying the session's handle keeps the session open (11 R302). -/
def State.touchSession (c : Cmd) (s : State) : State :=
  if s.sessionValid c then { s with session := { s.session with lastUse := s.tb0 } } else s

/-- The read of an indirect block failed (04 R118). -/
def State.indirectFault (c : Cmd) (s : State) : State :=
  if c.indirect && c.onHost && c.block.isNone then s.ringFault 0 0x03 else s

/-- Dispatches a command that is in flight. -/
def CmdSpec.dispatch (k : CmdSpec) (e : Entry) (s : State) : State :=
  let s := (((s.countDispatched e.cmd.route).touchSession e.cmd).indirectFault e.cmd)
  match k.refusal e s with
  | some st => s.complete e st 0 []
  | none => k.act e s

/-- The route can bring commands to the dispatcher: the module runs, outside a hold-up, the management plane is up and the
session open. -/
def State.routeOpen (s : State) (r : Route) : Bool :=
  s.power.phase == .running && s.power.mgmtUp && (match r with
    | .host => s.host.ready
    | .omnar id => (s.omnarOf id).isSome
    | .ivpasto => s.disp.ivpasto.isOpen)

/-- The command must wait: an earlier one of its route is held, or it carries `FENCE` and one is in flight. `MOD.ABORT`
is never held back (04 R98). -/
def State.heldBack (e : Entry) (s : State) : Bool :=
  e.op != 0x0102 &&
    (s.disp.queue.any (fun q => decide (q.id < e.id) && q.cmd.route.kind == e.cmd.route.kind)
      || (e.cmd.fence && s.disp.flights.any (fun f => decide (f.entry.id < e.id) && f.entry.cmd.route.kind == e.cmd.route.kind)))

/-- The entry a submitted command becomes. -/
def State.entryFor (s : State) (op : Nat) (c : Cmd) : Entry := { id := s.disp.nextId, op := op, cmd := c }

/-- A command is fetched: it is in flight, not yet dispatched (04 R101). -/
def State.fetched (e : Entry) (s : State) : State :=
  { s with disp := { s.disp with nextId := e.id + 1, flights := s.disp.flights ++ [{ entry := e, dispatched := false }] } }

/-- A command is held behind others. -/
def State.enqueue (e : Entry) (s : State) : State := { s with disp := { s.disp with queue := s.disp.queue ++ [e] } }

/-- A command leaves the queue and counts as dispatched. -/
def State.started (e : Entry) (s : State) : State :=
  { s with disp := { s.disp with
      queue := s.disp.queue.filter (fun q => q.id != e.id),
      flights := s.disp.flights.map (fun f => if f.entry.id = e.id then { f with dispatched := true } else f),
      lastRoute := e.cmd.route.kind } }

/-- Commands in flight on a route or session. -/
def State.inFlight (s : State) (r : Route) : Nat := (s.disp.flights.filter (fun f => f.entry.cmd.route == r)).length

/-- The completion ring has room for one more command in flight, and fewer than 128 are in flight (R101). -/
def State.fetchRoom (s : State) : Bool :=
  let q := s.ring 1
  decide (s.inFlight .host < 128) && decide (s.inFlight .host + (q.tail + q.size - q.head) % q.size + 1 < q.size)

/-- The route or session has as many commands in flight as it may (R101, R111). -/
def State.routeFull (s : State) (r : Route) : Bool :=
  match r with
  | .host => !s.fetchRoom
  | _ => decide (16 ≤ s.inFlight r)

/-- A command beyond the limit of its session is answered with S_ROUTE_FULL and never dispatched (R117); one beyond the limit
of the host rings stays in the submission ring (R101). -/
def State.answerFull (r : Route) (tag : Nat) (s : State) : State :=
  let b := completionBytes tag Status.sRouteFull.code 0 0 0 false false
  let s := if r = .host then s else s.countRefused r .sRouteFull
  match r with
  | .host => s
  | .omnar id => match s.omnarOf id with | some y => s.sendOmnar y 0x02 1 b | none => s
  | .ivpasto => s.sendIvpasto 0x11 b

/-! ## The dispatcher's turn (04 R105, R107) -/

/-- The next command of a route, where the route is open: a waiting `MOD.ABORT`, which overtakes the commands that the turn holds
back as well as those behind a fence (DEDUCED from R107, notes/assumptions/98.md), or else the first that is not held back. -/
def State.candidate (s : State) (r : Nat) : Option Entry :=
  let q := s.disp.queue.filter (fun e => e.cmd.route.kind == r && s.routeOpen e.cmd.route)
  match q.find? (fun e => e.op == 0x0102) with
  | some e => some e
  | none => q.find? (fun e => !(s.heldBack e))

/-- The next command in turn after the route served last. -/
def State.inTurn (s : State) : Option Entry :=
  let r := s.disp.lastRoute
  match s.candidate ((r + 1) % 3) with
  | some e => some e
  | none =>
    match s.candidate ((r + 2) % 3) with
    | some e => some e
    | none => s.candidate (r % 3)

/-- The command as it has just arrived: fetched and waiting for its turn. -/
def State.queued (op : Nat) (c : Cmd) (s : State) : State := (s.fetched (s.entryFor op c)).enqueue (s.entryFor op c)

/-- A command row: the command arrives on its route, and the dispatcher takes it where it is the next in turn; else it waits for a
COMMAND_DISPATCH. -/
def CmdSpec.submit (k : CmdSpec) (c : Cmd) (s : State) : State :=
  if ¬ s.routeOpen c.route then s
  else if s.routeFull c.route then s.answerFull c.route c.tag
  else
    let e := s.entryFor k.op c
    let s1 := s.queued k.op c
    if s1.inTurn = some e then k.dispatch e (s1.started e) else s1

/-! ## Owner boundaries (01 R17 to R19) -/

/-- Applies one posting: a command by its specification, one of the module's own by `own`. -/
def applyPosting (specOf : Nat → Option CmdSpec) (own : PostBody → State → State) (p : Posting) (s : State) : State :=
  match p.body with
  | .cmd e =>
    match specOf e.op with
    | some k => s.finish e (k.run e s)
    | none => s
  | .pairCmd e =>
    match specOf e.op with
    | some k => (match k.run e s with | .done _ _ _ s' => s' | .later s' => s')
    | none => s
  | b => own b s

/-- A posting is due: at the next boundary, or in a pair at the named instant of the pair timer (13 R357). -/
def State.isDue (s : State) (p : Posting) : Bool :=
  s.pair.st == .unpaired || decide ((p.due : Int) ≤ s.tb0 + s.pair.timerOff) || p.due == 0

/-- The postings of an owner that are due. -/
def State.duePostings (s : State) (o : Owner) : List Posting := s.mail.filter (fun p => p.owner == o && s.isDue p)

/-- At its boundary an owner applies its postings in posting order (01 R18). -/
def State.boundary (specOf : Nat → Option CmdSpec) (own : PostBody → State → State) (o : Owner) (s : State) : State :=
  let due := s.duePostings o
  let s : State := { s with mail := s.mail.filter (fun p => !(p.owner == o && s.isDue p)) }
  due.foldl (fun s p => applyPosting specOf own p s) s

end Sys2Proof.Machine
end

