-- ==== Sys2Proof/Machine/Float.lean ====
section
/-! DEFINITION. REAL and LREAL arithmetic (06 R169, R170): IEEE 754 binary32 and binary64, round to nearest, ties to
even, subnormal operands and results replaced by zero of the same sign after rounding to the type. Values are bit
patterns; the exact result is an integer or a ratio, narrowed once by `roundRat`. -/

namespace Sys2Proof.Machine

/-- A binary format: exponent bits and fraction bits. -/
structure Fmt where
  eb : Nat
  mb : Nat
  /-- Subnormal operands and results are kept (the loop engine, 08 R213); without it they read and round as zero (R169). -/
  subnormal : Bool := false
  deriving DecidableEq, Repr

/-- REAL. -/
def f32 : Fmt := { eb := 8, mb := 23 }

/-- LREAL. -/
def f64 : Fmt := { eb := 11, mb := 52 }

/-- REAL as the loop engine widens and narrows it: IEEE 754 binary32 with its subnormals. -/
def g32 : Fmt := { eb := 8, mb := 23, subnormal := true }

/-- The loop engine's arithmetic: IEEE 754 binary64 with its subnormals (08 R213). -/
def g64 : Fmt := { eb := 11, mb := 52, subnormal := true }

/-- Width in bits. -/
def Fmt.width (f : Fmt) : Nat := f.eb + f.mb + 1

/-- Exponent bias. -/
def Fmt.bias (f : Fmt) : Nat := 2 ^ (f.eb - 1) - 1

/-- A decoded value; a finite one is `± m * 2 ^ e`. -/
inductive FVal where
  | nan
  | inf (neg : Bool)
  | fin (neg : Bool) (m : Nat) (e : Int)
  deriving DecidableEq, Repr

/-- A result pattern and whether it came about without an exceptional case of R169. -/
structure FRes where
  bits : Nat
  ok : Bool
  deriving DecidableEq, Repr

/-- Sign bit in place. -/
def Fmt.sign (f : Fmt) (neg : Bool) : Nat := if neg then 2 ^ (f.eb + f.mb) else 0

/-- The infinity of a sign. -/
def Fmt.inf (f : Fmt) (neg : Bool) : Nat := f.sign neg + (2 ^ f.eb - 1) * 2 ^ f.mb

/-- The NaN that operation `k` gives on the operands `xs`: the spec says NaN and states neither its sign nor its payload, which are
free (notes/assumptions/9.md); the fraction is never 0. -/
def Fmt.nanOf (f : Fmt) (k : Nat) (xs : List Nat) : Nat :=
  let v := Config.nanBits k f.mb xs
  f.sign (v % 2 == 1) + (2 ^ f.eb - 1) * 2 ^ f.mb + 1 + v / 2 % (2 ^ f.mb - 1)

/-- Decodes a pattern; a subnormal operand reads as zero of its sign in a format that keeps none (R169). -/
def Fmt.decode (f : Fmt) (b : Nat) : FVal :=
  let neg := bitOf b (f.eb + f.mb)
  let e := bitsOf b (f.eb + f.mb - 1) f.mb
  let m := b % 2 ^ f.mb
  if e = 2 ^ f.eb - 1 then (if m = 0 then .inf neg else .nan)
  else if e = 0 then (if f.subnormal then .fin neg m (1 - (f.bias : Int) - f.mb) else .fin neg 0 0)
  else .fin neg (2 ^ f.mb + m) ((e : Int) - f.bias - f.mb)

/-- `n / 2 ^ k` rounded to nearest, ties to even; `sticky` where a non-zero rest lies below `n`. -/
def roundShift (n k : Nat) (sticky : Bool) : Nat :=
  let q := n / 2 ^ k
  let r := n % 2 ^ k
  let half := 2 ^ k / 2
  if k = 0 then q
  else if half < r ∨ (r = half ∧ (sticky ∨ q % 2 = 1)) then q + 1 else q

/-- Rounds `± (n / d) * 2 ^ e` to the format (R169). -/
def Fmt.roundRat (f : Fmt) (neg : Bool) (n d : Nat) (e : Int) : FRes :=
  if n = 0 ∨ d = 0 then { bits := f.sign neg, ok := true } else
  let k : Int := (f.mb + 4 : Nat) + (d.log2 : Int) - n.log2
  let num := if 0 ≤ k then n * 2 ^ k.toNat else n
  let den := if 0 ≤ k then d else d * 2 ^ (-k).toNat
  let q := num / den
  let sticky := decide (num % den ≠ 0)
  let l := q.log2
  -- exponent of the leading bit of the exact value
  let top : Int := l + e - k
  let emin : Int := 1 - (f.bias : Int)
  let drop : Int := (l : Int) - f.mb + (if top < emin then emin - top else 0)
  let m := if drop ≤ (l + 2 : Nat) then roundShift q drop.toNat sticky else 0
  -- m counts units of 2 ^ (e - k + drop)
  if m < 2 ^ f.mb then { bits := f.sign neg + (if f.subnormal then m else 0), ok := true }
  else
    let carry := decide (2 ^ (f.mb + 1) ≤ m)
    let ex : Int := (e - k + drop) + f.mb + (if carry then 1 else 0) + f.bias
    let frac := (if carry then m / 2 else m) - 2 ^ f.mb
    if ex ≥ (2 ^ f.eb - 1 : Nat) then { bits := f.inf neg, ok := false }
    else { bits := f.sign neg + ex.toNat * 2 ^ f.mb + frac, ok := true }

/-- Rounds an integer times a power of two. -/
def Fmt.roundInt (f : Fmt) (i : Int) (e : Int) : FRes := f.roundRat (decide (i < 0)) i.natAbs 1 e

/-- Signed significand. -/
def sm (neg : Bool) (m : Nat) : Int := if neg then -(m : Int) else m

/-- Addition. -/
def Fmt.add (f : Fmt) (a b : Nat) : FRes :=
  match f.decode a, f.decode b with
  | .nan, _ => { bits := f.nanOf 0x0300 [a, b], ok := false }
  | _, .nan => { bits := f.nanOf 0x0300 [a, b], ok := false }
  | .inf x, .inf y => if x = y then { bits := f.inf x, ok := true } else { bits := f.nanOf 0x0300 [a, b], ok := false }
  | .inf x, _ => { bits := f.inf x, ok := true }
  | _, .inf y => { bits := f.inf y, ok := true }
  | .fin x m e, .fin y n g =>
    if m = 0 ∧ n = 0 then { bits := f.sign (x && y), ok := true }
    else if m = 0 then f.roundRat y n 1 g
    else if n = 0 then f.roundRat x m 1 e
    else
      let lo := min e g
      f.roundInt (sm x m * 2 ^ (e - lo).toNat + sm y n * 2 ^ (g - lo).toNat) lo

/-- The pattern with the opposite sign. -/
def Fmt.neg (f : Fmt) (a : Nat) : Nat := if bitOf a (f.eb + f.mb) then a % 2 ^ (f.eb + f.mb) else a + 2 ^ (f.eb + f.mb)

/-- Subtraction. -/
def Fmt.sub (f : Fmt) (a b : Nat) : FRes := f.add a (f.neg b)

/-- Multiplication. -/
def Fmt.mul (f : Fmt) (a b : Nat) : FRes :=
  match f.decode a, f.decode b with
  | .nan, _ => { bits := f.nanOf 0x0302 [a, b], ok := false }
  | _, .nan => { bits := f.nanOf 0x0302 [a, b], ok := false }
  | .inf x, .inf y => { bits := f.inf (x != y), ok := true }
  | .inf x, .fin y n _ => if n = 0 then { bits := f.nanOf 0x0302 [a, b], ok := false } else { bits := f.inf (x != y), ok := true }
  | .fin x m _, .inf y => if m = 0 then { bits := f.nanOf 0x0302 [a, b], ok := false } else { bits := f.inf (x != y), ok := true }
  | .fin x m e, .fin y n g => f.roundRat (x != y) (m * n) 1 (e + g)

/-- Division; by zero as R169 gives. -/
def Fmt.div (f : Fmt) (a b : Nat) : FRes :=
  match f.decode a, f.decode b with
  | .nan, _ => { bits := f.nanOf 0x0303 [a, b], ok := false }
  | _, .nan => { bits := f.nanOf 0x0303 [a, b], ok := false }
  | .inf _, .inf _ => { bits := f.nanOf 0x0303 [a, b], ok := false }
  | .inf x, .fin y _ _ => { bits := f.inf (x != y), ok := true }
  | .fin x _ _, .inf y => { bits := f.sign (x != y), ok := true }
  | .fin x m e, .fin y n g =>
    if n = 0 then (if m = 0 then { bits := f.nanOf 0x0303 [a, b], ok := false } else { bits := f.inf (x != y), ok := false })
    else f.roundRat (x != y) m n (e - g)

/-- A NaN pattern. -/
def Fmt.isNan (f : Fmt) (a : Nat) : Bool := match f.decode a with | .nan => true | _ => false

/-- An infinite pattern. -/
def Fmt.isInf (f : Fmt) (a : Nat) : Bool := match f.decode a with | .inf _ => true | _ => false

/-- Neither NaN nor infinite. -/
def Fmt.isFinite (f : Fmt) (a : Nat) : Bool := !(f.isNan a) && !(f.isInf a)

/-- Zero of either sign, subnormals included (R169). -/
def Fmt.isZero (f : Fmt) (a : Nat) : Bool := match f.decode a with | .fin _ 0 _ => true | _ => false

/-- Order of two patterns; `none` where either is NaN (R170). -/
def Fmt.cmp (f : Fmt) (a b : Nat) : Option Ordering :=
  match f.decode a, f.decode b with
  | .nan, _ => none
  | _, .nan => none
  | .inf x, .inf y => some (compare (b2n (!x)) (b2n (!y)))
  | .inf x, _ => some (if x then .lt else .gt)
  | _, .inf y => some (if y then .gt else .lt)
  | .fin x m e, .fin y n g =>
    let lo := min e g
    some (compare (sm x m * 2 ^ (e - lo).toNat) (sm y n * 2 ^ (g - lo).toNat))

/-- `a < b`. -/
def Fmt.lt (f : Fmt) (a b : Nat) : Bool := f.cmp a b == some .lt

/-- `a ≤ b`. -/
def Fmt.le (f : Fmt) (a b : Nat) : Bool := f.cmp a b == some .lt || f.cmp a b == some .eq

/-- Equal values. -/
def Fmt.eq (f : Fmt) (a b : Nat) : Bool := f.cmp a b == some .eq

/-- Larger of two ordered values (the first where they are equal). -/
def Fmt.max (f : Fmt) (a b : Nat) : Nat := if f.lt a b then b else a

/-- Smaller of two ordered values (the first where they are equal). -/
def Fmt.min (f : Fmt) (a b : Nat) : Nat := if f.lt b a then b else a

/-- Magnitude. -/
def Fmt.abs (f : Fmt) (a : Nat) : Nat := a % 2 ^ (f.eb + f.mb)

/-- Zero of its sign in place of a subnormal operand (R169). -/
def Fmt.flush (f : Fmt) (a : Nat) : Nat := match f.decode a with | .fin s 0 _ => f.sign s | _ => a % 2 ^ f.width

/-- From one format to another. -/
def Fmt.convert (f g : Fmt) (a : Nat) : FRes :=
  match f.decode a with
  | .nan => { bits := g.nanOf 0x0500 [a], ok := false }
  | .inf s => { bits := g.inf s, ok := true }
  | .fin s m e => g.roundRat s m 1 e

/-- REAL to LREAL. -/
def toF64 (a : Nat) : Nat := (Fmt.convert f32 f64 a).bits

/-- LREAL to REAL. -/
def toF32 (a : Nat) : Nat := (Fmt.convert f64 f32 a).bits

/-- REAL widened as the loop engine does (08 R213). -/
def widen (a : Nat) : Nat := (Fmt.convert g32 g64 a).bits

/-- LREAL narrowed as the loop engine does. -/
def narrow (a : Nat) : Nat := (Fmt.convert g64 g32 a).bits

/-- An integer as a value of the format. -/
def Fmt.ofInt (f : Fmt) (i : Int) : Nat := (f.roundInt i 0).bits

/-- The ratio of two integers as a value of the format. -/
def Fmt.ofRat (f : Fmt) (i : Int) (d : Nat) : Nat := (f.roundRat (decide (i < 0)) i.natAbs d 0).bits

/-- Rounding of a finite value to an integer: to nearest, ties to even. -/
def roundFin (neg : Bool) (m : Nat) (e : Int) : Int :=
  if 0 ≤ e then sm neg (m * 2 ^ e.toNat)
  else if (-e).toNat ≤ m.log2 + 2 then sm neg (roundShift m (-e).toNat false) else 0

/-- Rounding of a finite value towards zero. -/
def truncFin (neg : Bool) (m : Nat) (e : Int) : Int :=
  if 0 ≤ e then sm neg (m * 2 ^ e.toNat)
  else if (-e).toNat ≤ m.log2 then sm neg (m / 2 ^ (-e).toNat) else 0

/-- The floor of a finite value. -/
def floorFin (neg : Bool) (m : Nat) (e : Int) : Int :=
  let t := truncFin neg m e
  if neg && decide (0 > e) && (decide ((-e).toNat > m.log2) && decide (m ≠ 0) || decide ((-e).toNat ≤ m.log2) && decide (m % 2 ^ (-e).toNat ≠ 0))
  then t - 1 else t

/-- The value of a finite pattern, rounded to nearest integer; 0 for the others. -/
def Fmt.toInt (f : Fmt) (a : Nat) : Int := match f.decode a with | .fin s m e => roundFin s m e | _ => 0

/-- Real to integer between `lo` and `hi` (R169): the integer and whether no exceptional case came about. -/
def Fmt.toIntSat (f : Fmt) (round : Bool → Nat → Int → Int) (lo hi : Int) (a : Nat) : Int × Bool :=
  match f.decode a with
  | .nan => (0, false)
  | .inf s => (if s then lo else hi, false)
  | .fin s m e =>
    let i := round s m e
    if i < lo then (lo, false) else if hi < i then (hi, false) else (i, true)

/-! ## Functions with a tolerance (06 R177): the exact value is bracketed, the free value picks among the results that
the tolerance allows -/

/-- Steps a finite, non-zero pattern by `k` units in the last place of its magnitude. -/
def stepUlp (b : Nat) (k : Int) : Nat := ((b : Int) + k).toNat

/-- Among the patterns within `w` units in the last place of the exact value, whose floor pattern is `lo`, the one the
free value `c` picks. -/
def pickUlp (lo : Nat) (exact : Bool) (w c : Nat) : Nat :=
  if exact then stepUlp lo ((c % (2 * w + 1) : Nat) - (w : Int))
  else stepUlp lo ((c % (2 * w) : Nat) - (w : Int) + 1)

/-- Integer square root by bits, from bit `k` down. -/
def isqrtGo (n : Nat) : Nat → Nat → Nat
  | 0, r => if (r + 1) * (r + 1) ≤ n then r + 1 else r
  | k + 1, r => if (r + 2 ^ (k + 1)) * (r + 2 ^ (k + 1)) ≤ n then isqrtGo n k (r + 2 ^ (k + 1)) else isqrtGo n k r

/-- Integer square root. -/
def isqrt (n : Nat) : Nat := isqrtGo n (n.log2 / 2 + 1) 0

/-- Truncated (towards zero) positive pattern of `n * 2 ^ e`, and whether it is exact; `n` has more than `mb + 1` bits. -/
def Fmt.truncPos (f : Fmt) (n : Nat) (e : Int) : Nat × Bool :=
  let l := n.log2
  let m := n / 2 ^ (l - f.mb)
  let ex : Int := l + e + f.bias
  (ex.toNat * 2 ^ f.mb + (m - 2 ^ f.mb), n % 2 ^ (l - f.mb) == 0)

/-- `SQRT`; `c` is the free value. -/
def Fmt.sqrt (f : Fmt) (a c : Nat) : FRes :=
  match f.decode a with
  | .nan => { bits := f.nanOf 0x0307 [a], ok := false }
  | .inf s => if s then { bits := f.nanOf 0x0307 [a], ok := false } else { bits := f.inf false, ok := true }
  | .fin s m e =>
    if m = 0 then { bits := f.sign s, ok := true }
    else if s then { bits := f.nanOf 0x0307 [a], ok := false }
    else
      -- an even exponent with enough bits below
      let e1 : Int := if e % 2 = 0 then e else e - 1
      let m1 := if e % 2 = 0 then m else 2 * m
      let n := m1 * 2 ^ (2 * (f.mb + 4))
      let r := isqrt n
      let exact := decide (r * r = n)
      let (lo, cut) := f.truncPos (if exact then r * 2 else r * 2 + 1) (e1 / 2 - (f.mb + 4) - 1)
      { bits := pickUlp lo (exact && cut) 1 c, ok := true }

/-- ln 2 times 2^256, rounded down. -/
def ln2Fix : Nat := 80260960185991308862233904206310070533990667611589946606122867505419956976171

/-- Fixed-point one: 2^256. -/
def fixOne : Nat := 2 ^ 256

/-- Taylor sum of e^r for fixed-point `r` in [0, ln 2): terms from `k` on, the current term being `term`. -/
def expSeries (r : Nat) : Nat → Nat → Nat → Nat
  | 0, _, _ => 0
  | n + 1, k, term => term + expSeries r n (k + 1) (term * r / fixOne / (k + 1))

/-- `EXP` of the exact value `± m * 2 ^ e`; `c` is the free value. -/
def Fmt.expFin (f : Fmt) (s : Bool) (m : Nat) (e : Int) (c : Nat) : FRes :=
  if m = 0 then { bits := pickUlp (f.bias * 2 ^ f.mb) true 1 c, ok := true }
  else if (m.log2 : Int) + e ≥ 12 then
    (if s then { bits := 0, ok := true } else { bits := f.inf false, ok := false })
  else if (m.log2 : Int) + e < -(f.mb + 4 : Nat) then
    -- within a fraction of a unit in the last place of 1
    { bits := if s then f.bias * 2 ^ f.mb - c % 2 else f.bias * 2 ^ f.mb + c % 2, ok := true }
  else
    -- x in fixed point, k = floor (x / ln 2), r = x - k ln 2
    let xa := if 0 ≤ e then m * 2 ^ e.toNat * fixOne else m * fixOne / 2 ^ (-e).toNat
    let x : Int := sm s xa
    let k : Int := x / (ln2Fix : Int)
    let r := (x - k * ln2Fix).toNat
    let y := expSeries r 60 0 fixOne
    -- value y * 2 ^ (k - 256), y in [2^256, 2^257)
    if k > (f.bias : Int) then { bits := f.inf false, ok := false }
    else if k < 1 - (f.bias : Int) then { bits := 0, ok := true }
    else
      let (lo, _) := f.truncPos y (k - 256)
      let b := pickUlp lo false 1 c
      { bits := b, ok := decide (b < f.inf false) }

/-- `EXP`. -/
def Fmt.exp (f : Fmt) (a c : Nat) : FRes :=
  match f.decode a with
  | .nan => { bits := f.nanOf 0x0308 [a], ok := false }
  | .inf s => { bits := if s then 0 else f.inf false, ok := true }
  | .fin s m e => f.expFin s m e c

/-- Series of 2 atanh z for fixed-point `z`: terms from `k` on, `p` being z^k. -/
def atanhSeries (z2 : Int) : Nat → Nat → Int → Int
  | 0, _, _ => 0
  | n + 1, k, p => 2 * p / (k : Int) + atanhSeries z2 n (k + 2) (p * z2 / (fixOne : Int))

/-- `LN`; `c` is the free value. -/
def Fmt.ln (f : Fmt) (a c : Nat) : FRes :=
  match f.decode a with
  | .nan => { bits := f.nanOf 0x0309 [a], ok := false }
  | .inf s => if s then { bits := f.nanOf 0x0309 [a], ok := false } else { bits := f.inf false, ok := true }
  | .fin s m e =>
    if m = 0 then { bits := f.inf true, ok := false }
    else if s then { bits := f.nanOf 0x0309 [a], ok := false }
    else
      let l := m.log2
      -- x = q * 2 ^ t with q in [3/4, 3/2)
      let big := decide (3 * 2 ^ l ≤ 2 * m)
      let t : Int := l + e + (if big then 1 else 0)
      let q : Int := ((if big then m * fixOne / 2 ^ (l + 1) else m * fixOne / 2 ^ l) : Nat)
      let z : Int := (q - fixOne) * fixOne / (q + fixOne)
      let y : Int := t * ln2Fix + atanhSeries (z * z / (fixOne : Int)) 90 1 z
      if y = 0 then { bits := 0, ok := true }
      else
        let (lo, _) := f.truncPos (y.natAbs * 2 ^ 64) (-320)
        { bits := f.sign (decide (y < 0)) + pickUlp lo false 2 c, ok := true }

end Sys2Proof.Machine
end

