-- ==== Sys2Proof/Machine/Rational.lean ====
section
/-! DEFINITION. Exact ratios, for the quantities that the spec gives by a formula: computed exactly and narrowed once. -/

namespace Sys2Proof.Machine

/-- A ratio of integers; a denominator of 0 stands for no value. -/
structure Q where
  num : Int
  den : Nat
  deriving DecidableEq, Repr

/-- An integer. -/
def Q.ofInt (i : Int) : Q := { num := i, den := 1 }
/-- Sum. -/
def Q.add (a b : Q) : Q := { num := a.num * b.den + b.num * a.den, den := a.den * b.den }
/-- Difference. -/
def Q.sub (a b : Q) : Q := { num := a.num * b.den - b.num * a.den, den := a.den * b.den }
/-- Product. -/
def Q.mul (a b : Q) : Q := { num := a.num * b.num, den := a.den * b.den }
/-- Quotient; by zero there is no value. -/
def Q.div (a b : Q) : Q :=
  if b.num = 0 then { num := 0, den := 0 }
  else { num := (if b.num < 0 then -a.num else a.num) * b.den, den := a.den * b.num.natAbs }
/-- `a < b`. -/
def Q.lt (a b : Q) : Bool := decide (a.num * b.den < b.num * a.den)
/-- `a ≤ b`. -/
def Q.le (a b : Q) : Bool := decide (a.num * b.den ≤ b.num * a.den)
/-- Magnitude. -/
def Q.abs (a : Q) : Q := { num := a.num.natAbs, den := a.den }
/-- Opposite. -/
def Q.neg (a : Q) : Q := { num := -a.num, den := a.den }
/-- Held between two values. -/
def Q.clamp (lo hi x : Q) : Q := if x.lt lo then lo else if hi.lt x then hi else x
/-- The smaller of two. -/
def Q.min (a b : Q) : Q := if b.lt a then b else a
/-- The larger of two. -/
def Q.max (a b : Q) : Q := if a.lt b then b else a
/-- Greatest integer not above. -/
def Q.floor (a : Q) : Int := a.num / (a.den : Int)
/-- Nearest integer, halves up. -/
def Q.round (a : Q) : Int := (2 * a.num + a.den) / (2 * (a.den : Int))
/-- The exact value of a finite REAL or LREAL; the others read 0. -/
def Fmt.toQ (f : Fmt) (b : Nat) : Q :=
  match f.decode b with
  | .fin s m e => if 0 ≤ e then { num := sm s m * 2 ^ e.toNat, den := 1 } else { num := sm s m, den := 2 ^ (-e).toNat }
  | _ => { num := 0, den := 1 }
/-- The value of a REAL pattern. -/
def realQ (b : Nat) : Q := f32.toQ b
/-- The REAL nearest to a ratio (06 R169). -/
def Q.toReal (a : Q) : Nat := f32.ofRat a.num a.den
/-- The LREAL nearest to a ratio. -/
def Q.toLreal (a : Q) : Nat := f64.ofRat a.num a.den

end Sys2Proof.Machine
end

