-- ==== Sys2Proof/Machine/Common.lean ====
section
/-! DEFINITION. Operations that the families share: commits of the cocoon's sections (03 R71), faults and retirements
(21 R522, R526), error causes (05 R135, R146), the change log (11 R305, R306), and what the image maps name (05 R140). -/

namespace Sys2Proof.Machine

/-! ## Commits (03 R71) -/

/-- The task parameters of 05 R126. -/
def taskParams : List Param :=
  [.taskKind, .taskPair, .taskCore, .taskTimeBase, .taskCycle, .taskPhase, .taskSyncMult, .taskTrigger, .taskOverrunLimit]

/-- What a commit of the Configuration section writes: while an exchange is not committed, the program and the parameters
of its tasks that a module reset restores (07 R199). -/
def State.settings (s : State) : Settings :=
  match s.prog.exchange with
  | none => s.cfg
  | some x =>
    let keys := x.blocks.flatMap (fun b => taskParams.map (fun p => p.key b.1))
    let p := s.cfg.prog
    { s.cfg with
      prog := { p with
        table := x.old.table, init := x.old.init, vars := x.old.vars, retain := x.old.retain, safeVals := x.old.safeVals,
        tasks := x.blocks.foldl (fun t b => Tab.put (fun _ => {}) t b.1 (Tab.get (fun _ => {}) x.old.tasks b.1)) p.tasks },
      params := keys.foldl (fun t k => Tab.put Param.unlisted t k (Tab.get Param.unlisted x.oldParams k)) s.cfg.params }

/-- The Configuration section is committed as a change takes effect. -/
def State.commitConfig (s : State) : State :=
  { s with cocoon := { s.cocoon with config := s.cocoon.config.request s.settings } }

/-- A parameter takes effect and is committed. -/
def State.setCommit (i : Nat) (l : List (Param × Nat)) (s : State) : State := (s.setParams i l).commitConfig

/-- The change log is committed, whole, before anything else happens. -/
def State.commitLog (s : State) : State :=
  { s with cocoon := { s.cocoon with safetyLog := s.cocoon.safetyLog.now s.safeLog } }

/-- The Credentials section is committed. -/
def State.commitCred (s : State) : State :=
  { s with cocoon := { s.cocoon with credentials := s.cocoon.credentials.now s.cred } }

/-- The Retirement section is committed, whole. -/
def State.commitRetire (s : State) : State :=
  { s with cocoon := { s.cocoon with retirement := s.cocoon.retirement.now s.faults.store } }

/-- A safety output's entry in the Safety state section. -/
def safeUnlisted : Nat → SafeOut := fun _ => {}

/-- Safety output `n`. -/
def State.soOf (s : State) (n : Nat) : SafeOut := Tab.get safeUnlisted s.so n

/-- Changes safety output `n`. -/
def State.setSo (n : Nat) (x : SafeOut) (s : State) : State := { s with so := Tab.put safeUnlisted s.so n x }

/-- Budget used by a safety output up to now, in ns (11 R300). -/
def SafeOut.used (x : SafeOut) (now : Nat) : Nat :=
  x.budgetUsed + (match x.budgetAt with | some a => now - a | none => 0)

/-- What the Safety state section holds now. -/
def State.safetyStore (s : State) : SafeStore :=
  { outs := (List.range 8).map (fun n => ((s.soOf n).tripped, (s.soOf n).cause, (s.soOf n).used s.tb0, (s.soOf n).budgetAt.isSome)) }

/-- The Safety state section is committed. -/
def State.commitSafety (s : State) : State :=
  { s with cocoon := { s.cocoon with safety := s.cocoon.safety.request s.safetyStore } }

/-! ## Error causes (05 R135, R146) -/

/-- An error cause enters the queue of 32, or is dropped with a record. -/
def State.errorCause (cause source : Nat) (s : State) : State :=
  if s.prog.errors.length < 32 then { s with prog := { s.prog with errors := s.prog.errors ++ [(cause, source)] } }
  else s.post .control .eErrorQueueFull { cls := 0x02, index := 0 } cause

/-! ## Faults and retirements -/

/-- The value of a key in a short list. -/
def assoc {α : Type} [DecidableEq α] (d : Nat) (k : α) : List (α × Nat) → Nat
  | [] => d
  | (k', v) :: r => if k' = k then v else assoc d k r

/-- Sets the value of a key in a short list. -/
def assocSet {α : Type} [DecidableEq α] (k : α) (v : Nat) : List (α × Nat) → List (α × Nat)
  | [] => [(k, v)]
  | (k', v') :: r => if k' = k then (k, v) :: r else (k', v') :: assocSet k v r

/-- The resource is RETIRED. -/
def State.isRetired (s : State) (k : FaultKey) : Bool := s.faults.store.retired.any (fun r => r.key == k)

/-- Powered time (21 R521). -/
def State.powered (s : State) : Nat := s.faults.base + s.tb0

/-- Fault instants in a resource's history. -/
def State.faultCount (s : State) (k : FaultKey) : Nat :=
  match s.faults.store.hist.find? (fun h => h.key == k) with
  | some h => h.times.length
  | none => 0

/-- A fault of a retirable resource: its F_ event carries the next fault sequence number in its detail (21 R522); a
reinstatement test of the resource fails by it (21 R532). -/
def State.fault (p : Plane) (c : Code) (src : Res) (quantity : Nat) (k : FaultKey) (s : State) : State :=
  let n := (assoc 0 k s.faults.seqs + 1) % 256
  let f := s.faults
  ({ s with faults := { f with
      seqs := assocSet k n f.seqs,
      testing := f.testing.map (fun (t : Reinstating) => if t.key = k then { t with failed := true } else t) } } : State).post p c src quantity n

/-- An F_ event of a retirable resource that does not count: it repeats the last fault sequence number
(notes/assumptions/20.md). -/
def State.faultUncounted (p : Plane) (c : Code) (src : Res) (quantity : Nat) (k : FaultKey) (s : State) : State :=
  s.post p c src quantity (assoc 0 k s.faults.seqs)

/-- A retirement is committed to the Retirement section (21 R526): its code and the last fault code. -/
def State.markRetired (k : FaultKey) (code last : Nat) (s : State) : State :=
  if s.isRetired k then s else
  let f := s.faults
  ({ s with faults := { f with store := { f.store with
      retired := f.store.retired ++ [{ key := k, code := code, last := last, time := s.powered }] } } } : State).commitRetire

/-- The error cause of a retired field or communication resource: class and index of the resource (05 R146). -/
def State.causeRetired (cls index : Nat) (s : State) : State := s.errorCause 0x07 (cls * 2 ^ 24 + index)

/-! ## The change log (11 R305, R306) -/

/-- No further change that needs an entry is accepted: the log is full, or held entries must enter first. -/
def State.logFull (s : State) : Bool :=
  s.safeLog.lost || !s.safeLog.held.isEmpty || s.safeLog.notKept != 0 || decide (1024 ≤ s.safeLog.entries.length)

/-- `LROUTE`. -/
def routeCode : Route → Nat
  | .host => 0
  | .omnar _ => 1
  | .ivpasto => 2

/-- `LSESSION`. -/
def State.logSession (s : State) : Route → Nat
  | .host => 0
  | .omnar id => id
  | .ivpasto => s.disp.ivpasto.serial

/-- The next log entry; its sequence number is given as it enters the log. -/
def State.logEntry (s : State) (r : Route) (cls sub index old new : Nat) : LogEntry :=
  { lseq := s.safeLog.nextSeq, cls := cls, sub := sub, index := index, old := old, new := new, route := routeCode r,
    session := s.logSession r, epoch := s.power.epoch }

/-- An entry enters the log. -/
def State.logAppend (e : LogEntry) (s : State) : State :=
  let g := s.safeLog
  let n := g.entries.length + 1
  let s := { s with safeLog := { g with
    entries := g.entries ++ [{ e with lseq := g.nextSeq }], nextSeq := (g.nextSeq + 1) % 2 ^ 32 } }
  s.postIf (n == 960) .management .eSafeLogNearFull { cls := 0x06, index := 0x0200 } n

/-- The CRC-32 of a block (11 R305). -/
def blockCrc (b : Bytes) : Nat := crc32 b

/-- One change is logged and committed before it takes effect. -/
def State.logChange (r : Route) (cls sub index : Nat) (old new : Bytes) (s : State) : State :=
  (s.logAppend (s.logEntry r cls sub index (blockCrc old) (blockCrc new))).commitLog

/-- A force release or expiry is logged, held, or counted (11 R306). -/
def State.logRelease (r : Route) (cls sub index : Nat) (old new : Bytes) (s : State) : State :=
  let e := s.logEntry r cls sub index (blockCrc old) (blockCrc new)
  (if ¬ s.logFull then s.logAppend e
   else if s.safeLog.held.length < 512 then { s with safeLog := { s.safeLog with held := s.safeLog.held ++ [e] } }
   else
     let g := s.safeLog
     let last := (g.entries.map (·.lseq)).getLastD 0
     let s1 := { s with safeLog := { g with
       notKept := g.notKept + 1, lastBefore := if g.notKept = 0 then last else g.lastBefore } }
     s1.postIf (g.notKept == 0) .management .fSafeLogOverflow { cls := 0x06, index := 0x0200 } 1).commitLog

/-! ## What the images name (05 R140; 11 R567) -/

/-- The program part of task `i`. -/
def State.taskProg (s : State) (i : Nat) : TaskProg := Tab.get (fun _ => {}) s.cfg.prog.tasks i

/-- Task `i` as it runs. -/
def State.taskOf (s : State) (i : Nat) : Task := Tab.get (fun _ => {}) s.tasks i

/-- Replaces task `i`. -/
def State.setTask (i : Nat) (x : Task) (s : State) : State := { s with tasks := Tab.put (fun _ => {}) s.tasks i x }

/-- Task `i` is a safety task. -/
def State.isSafetyTask (s : State) (i : Nat) : Bool := s.param .taskKind i == 5

/-- Task `i` exists: its kind is not 0. -/
def State.taskExists (s : State) (i : Nat) : Bool := s.param .taskKind i != 0

/-- Some safety task maps a source or destination that satisfies `p`, in either image. -/
def State.safetyMaps (s : State) (p : MapEntry → Bool) : Bool :=
  (List.range 16).any (fun i => s.isSafetyTask i && ((s.taskProg i).inMap.any p || (s.taskProg i).outMap.any p))

/-- Some task maps a destination that satisfies `p`. -/
def State.outMaps (s : State) (p : MapEntry → Bool) : Bool :=
  (List.range 16).any (fun i => s.taskExists i && (s.taskProg i).outMap.any p)

/-- The entry names class, index (any sub-index). -/
def MapEntry.names (cls index : Nat) (e : MapEntry) : Bool := e.cls == cls && e.index == index

/-- An analogue channel lies in the image of a safety task; both channels of an enabled pair do where either or the pair
value is mapped (11 R567). -/
def State.acInSafety (s : State) (n : Nat) : Bool :=
  let pair := n / 2
  if s.param .aiPairEn pair = 1 then
    s.safetyMaps (fun e => e.names 0x04 (2 * pair) || e.names 0x04 (2 * pair + 1) || e.names 0x06 (0x0100 + pair))
  else s.safetyMaps (MapEntry.names 0x04 n)

/-- A digital channel lies in the image of a safety task; both channels of a safety pair do where either or the pair
value is mapped (11 R567). -/
def State.dcInSafety (s : State) (n : Nat) : Bool :=
  let even := n - n % 2
  if s.param .dcMode even = 3 then s.safetyMaps (fun e => e.names 0x05 even || e.names 0x05 (even + 1))
  else s.safetyMaps (MapEntry.names 0x05 n)

/-- The tasks, in order, that satisfy `p`. -/
def tasksWhere (p : Nat → Bool) : List Nat := (List.range 16).filter p

/-- The task that owns the safety output `n` (05 R140, 11 R286). -/
def State.soOwner (s : State) (n : Nat) : Option Nat :=
  (List.range 16).find? (fun i => s.taskExists i && (s.taskProg i).outMap.any (fun e => e.names 0x06 n && e.sub == 0))

/-- The safety outputs that task `i` owns. -/
def State.soOwnedBy (s : State) (i : Nat) : List Nat := (List.range 8).filter (fun n => s.soOwner n == some i)

/-- Folds an action over numbers. -/
def State.each (f : Nat → State → State) (l : List Nat) (s : State) : State := l.foldl (fun s n => f n s) s

/-- A supply's measured value, with its warning and fail bits (03 R60): 0 LA, 1 LB, 2 FA, 3 FD0, 4 FD1, 5 FS, 6 FM, 7 VBK. -/
def State.setSupply (k mv : Nat) (warn fail : Bool) (s : State) : State :=
  { s with power := { s.power with
      supplies := Tab.put (fun _ => none) s.power.supplies k (some mv),
      warnFlags := Tab.put (fun _ => false) s.power.warnFlags k warn,
      failFlags := Tab.put (fun _ => false) s.power.failFlags k fail } }

/-- The measured voltage of supply `k` in mV: what a row last told of it, else a free value (notes/assumptions/74.md). -/
def State.supplyMv (s : State) (k : Nat) : Nat :=
  match Tab.get (fun _ => none) s.power.supplies k with
  | some v => v
  | none => (Config.freeValue (s.free + k)).toNat % 2 ^ 32

/-- The event of a supply whose fail condition holds (03 R60, R61): with `dual` off, the loss of LA or LB is no fault. The field
supplies of the digital groups have their own (10 R272). -/
def supplyLost (dual : Bool) (k mv : Nat) : Option (Code × Res × Nat) :=
  match k with
  | 0 => some (if dual then (.fSupplyLaLost, modRes, mv) else (.eLogicSupplySingle, modRes, 0))
  | 1 => some (if dual then (.fSupplyLbLost, modRes, mv) else (.eLogicSupplySingle, modRes, 1))
  | 2 => some (.fFaUndervoltage, { cls := 0x04, index := 0 }, q24 0xFF mv)
  | 5 => some (.fFsUndervoltage, { cls := 0x06, index := 0x0200 }, mv)
  | 6 => some (if mv < 20000 then .fFmUndervoltage else .fFmOvervoltage, { cls := 0x08, index := 0xFF }, 0xFF * 2 ^ 24 + mv % 2 ^ 24)
  | _ => none

/-- The event of a supply beyond its warning threshold (03 R60). -/
def supplyWarning (k mv : Nat) : Option (Code × Res × Nat) :=
  match k with
  | 0 => some (.eLogicSupplyRange, modRes, mv % 2 ^ 24)
  | 1 => some (.eLogicSupplyRange, modRes, 2 ^ 24 + mv % 2 ^ 24)
  | 2 => some (.eFaLow, { cls := 0x04, index := 0 }, q24 0xFF mv)
  | 5 => some (.eFsLow, { cls := 0x06, index := 0x0200 }, mv)
  | 6 => some (.eFmRange, { cls := 0x08, index := 0xFF }, 0xFF * 2 ^ 24 + mv % 2 ^ 24)
  | 7 => some (.eVbkLow, { cls := 0x0E, index := 0 }, mv)
  | _ => none

/-- The module's work runs: step 8 of the start has been reached (03 R74). -/
def State.up (s : State) : Bool := s.power.phase == .running

/-- The power manager's event of a supply, while the module runs (01 R11, R21); one that stands across a start is recorded there. -/
def State.tellSupply (e : Option (Code × Res × Nat)) (s : State) : State :=
  match e with
  | some (c, r, q) => s.postIf s.up .management c r q
  | none => s

/-- The module drives the field (13 R344, R347). -/
def State.fieldActive (s : State) : Bool := s.pair.st == .unpaired || s.pair.st == .active

/-- The components of a boot slot that are not as manufactured (19 R495). -/
def State.slotSet (s : State) (k : Nat) : List (Nat × Bytes) := if k = 0 then s.upd.slotA else s.upd.slotB

/-- The container of a component in a boot slot, where an update installed it. -/
def State.installed (s : State) (k comp : Nat) : Option Bytes := ((s.slotSet k).find? (fun x => x.1 == comp)).map (fun x => x.2)

/-- `LIB_VERSION` (06 R157): of the library that the spec describes, or of the one that an update installed
(notes/assumptions/67.md). -/
def State.libVersion (s : State) : Nat :=
  match s.installed s.upd.active 4 with
  | some b => Config.libVersionOf b
  | none => 0x00010000

/-- The boot record's valid copy with the higher number (19 R499). -/
def State.bootRec (s : State) : BootRecord := match s.upd.boot.newest with | some c => c.payload | none => {}

/-- Writes the boot record. -/
def State.setBoot (b : BootRecord) (s : State) : State := { s with upd := { s.upd with boot := s.upd.boot.now b } }

/-- The value of a parameter in a Configuration payload. -/
def Settings.value (c : Settings) (p : Param) (i : Nat) : Nat := Tab.get Param.unlisted c.params (p.key i)

/-- A Configuration payload holds safety configuration (11 R566). -/
def Settings.safety (c : Settings) : Bool :=
  let so := [Param.soTripMode, .soAckSource, .soRestartAck, .soOpenCheck, .soTestInterval, .soDiagInterval, .soTestWidth, .soDegradedBudget]
  (List.range 16).any (fun i => c.value .taskKind i == 5) || (List.range 8).any (fun n => c.value .pairMode n != 0)
    || (List.range 8).any (fun n => so.any (fun p => c.value p n != p.factory n))
    || (List.range 32).any (fun n => c.value .dcMode n == 3) || (List.range 16).any (fun n => c.value .aiPairEn n == 1)
    || c.params.any (fun x => x.1 % 512 == Param.scRole.ctorIdx && x.2 != 0)

/-- Safety configuration exists on the module. -/
def State.safetyConfig (s : State) : Bool := s.cfg.safety

/-! ## Shapes of commands -/

/-- A settings list: what `p` becomes, or its present value. -/
def newValue (s : State) (n : Nat) (l : List (Param × Nat)) (p : Param) : Nat :=
  match l.find? (fun x => x.1 == p) with
  | some x => x.2
  | none => s.param p n

/-- A mailbox command whose owner decides at its boundary (01 R18): conditions first, then the effect. -/
def guarded (chk : State → Cmd → Status) (f : Entry → State → Reply) (e : Entry) (s : State) : Reply :=
  if chk s e.cmd = .sOk then f e s else .refuse (chk s e.cmd) s

/-- The first of several conditions that is not S_OK. -/
def firstOf : List Status → Status
  | [] => .sOk
  | .sOk :: r => firstOf r
  | x :: _ => x

/-- A status where a condition holds. -/
def whenS (b : Bool) (x : Status) : Status := if b then x else .sOk

/-- A stream ID is open, on whichever ring: it is open on at most one command at a time (04 R104). -/
def State.streamOpen (s : State) (stream : Nat) : Bool := s.disp.streams.any (fun x => x.stream == stream)

/-- A panel layout with correction table `k` (20 R508 to R510): 1 gamma, 2 overdrive, 3 grey, 4 selection, 5 waveforms. -/
def PanelLayout.withTable (k : Nat) (t : Tab Byte) (p : PanelLayout) : PanelLayout :=
  match k with
  | 1 => { p with gamma := t }
  | 2 => { p with overdrive := t }
  | 3 => { p with grey := t }
  | 4 => { p with select := t }
  | _ => { p with waves := t }

end Sys2Proof.Machine
end

