-- ==== Sys2Proof/Machine/Hart.lean ====
section
/-! DEFINITION. HART modems, transactions, polls, pass-through and burst records (09 R250 to R256). -/

namespace Sys2Proof.Machine

/-- Analogue channel `n`. -/
def State.acOf (s : State) (n : Nat) : AcChan := Tab.get (fun _ => {}) s.ac n
/-- Replaces analogue channel `n`. -/
def State.setAc (n : Nat) (c : AcChan) (s : State) : State := { s with ac := Tab.put (fun _ => {}) s.ac n c }
/-- Modem `m`; at reset each modem last served its last channel, so that it begins with its first. -/
def State.modemOf (s : State) (m : Nat) : HartModem := Tab.get (fun _ => {}) s.modems m
/-- Replaces modem `m`. -/
def State.setModem (m : Nat) (x : HartModem) (s : State) : State := { s with modems := Tab.put (fun _ => {}) s.modems m x }
/-- The HART part of a channel. -/
def State.setHart (n : Nat) (h : HartChan) (s : State) : State := s.setAc n { s.acOf n with hart := h }

/-- An analogue channel as event source. -/
def acRes (n : Nat) : Res := { cls := 0x04, index := n }
/-- An analogue channel as a retirable resource. -/
def acKey (n : Nat) : FaultKey := { cls := 1, index := n }
/-- A modem as event source (09 R259) and as a retirable resource. -/
def modemRes (m : Nat) : Res := { cls := 0x04, index := 0x0100 + m }
def modemKey (m : Nat) : FaultKey := { cls := 6, index := m }

/-- The modem that serves modem `m`'s channels: itself, or the next in ascending order that is not RETIRED (R256). -/
def State.modemFor (s : State) (m : Nat) : Option Nat :=
  ((List.range 8).map (fun k => (m + k) % 8)).find? (fun x => !(s.modemOf x).retired)

/-- The channels that modem `m` serves, in ascending order. -/
def State.modemServes (s : State) (m : Nat) : List Nat := (List.range 32).filter (fun n => s.modemFor (n / 4) == some m)

/-- A channel takes part in HART: powered, in service as far as HART goes, and `HART_EN` 1. -/
def State.hartOn (s : State) (n : Nat) : Bool :=
  let c := s.acOf n
  s.param .acHartEn n == 1 && c.powered && c.st != .retired && c.st != .outOfService && c.st != .powerOn && c.st != .switching

/-- A channel refuses pass-through requests: RETIRED, OUT OF SERVICE or `HART_EN` 0 (R254, `HRES` 3). -/
def State.hartRefuses (s : State) (n : Nat) : Bool :=
  let c := s.acOf n
  c.st == .retired || c.st == .outOfService || s.param .acHartEn n == 0

/-- A master's request on the wire (R250; notes/assumptions/107.md): delimiter, address, command, byte count, data, check byte. -/
def hartFrame (long : Bool) (poll : Nat) (uid : Bytes) (cmd : Nat) (data : Bytes) : Bytes :=
  let addr := if long then (uid.take 1).map (fun b => BitVec.ofNat 8 (b.toNat % 64 + 128)) ++ uid.drop 1 else leBytes 1 (poll % 64 + 128)
  let head := leBytes 1 (if long then 0x82 else 0x02) ++ addr ++ leBytes 1 cmd ++ leBytes 1 data.length ++ data
  head ++ [head.foldl (fun a b => a ^^^ b) 0]

/-- The frame of a job on channel `n`: a request as its record asks, numbers above 253 through command 31 (R254); a poll of
command 3 in the long format (R251, R252); nothing in a listen window. -/
def State.hartTx (s : State) (n : Nat) : HartJob → Bytes
  | .pass r =>
    let f := fun o len => leNat (slice r.record o len)
    let cmd := f 10 2
    let data := slice r.record 16 (f 12 1)
    hartFrame (f 1 1 == 1) (f 2 1) (slice r.record 4 5) (if 253 < cmd then 31 else cmd) (if 253 < cmd then beBytes 2 cmd ++ data else data)
  | .poll => hartFrame true 0 (leBytes 5 (Config.hartUid n (s.param .hartPollAddr n))) 3 []
  | .dwell => []

/-- The work of a channel, in order of precedence (R251). -/
def State.hartWork (s : State) (n : Nat) : Option HartJob :=
  let h := (s.acOf n).hart
  match h.queue with
  | r :: _ => if s.hartOn n then some (.pass r) else none
  | [] => if ¬ s.hartOn n then none else if h.pollDue then some .poll else some .dwell

/-- A channel's request queue without its first request. -/
def HartChan.taken (h : HartChan) : HartJob → HartChan
  | .pass _ => { h with queue := h.queue.drop 1 }
  | .poll => { h with pollDue := false }
  | .dwell => h

/-- An idle modem takes the next channel in rotation that has work (R251). -/
def State.modemNext (m : Nat) (s : State) : State :=
  let x := s.modemOf m
  if x.job.isSome || x.retired || x.failed then s else
  let l := s.modemServes m
  let order := l.filter (fun n => decide (x.last < n)) ++ l.filter (fun n => decide (n ≤ x.last))
  match order.find? (fun n => (s.hartWork n).isSome) with
  | none => s
  | some n =>
    match s.hartWork n with
    | none => s
    | some j => (s.setHart n ((s.acOf n).hart.taken j)).setModem m { x with job := some (n, j), last := n, tx := s.hartTx n j }

/-- Every idle modem looks for work. -/
def State.modemsNext (s : State) : State := s.each State.modemNext (List.range 8)

/-- A reply record (R254): the request's first 16 bytes with the reply length and `HRES`, then the reply. -/
def hartRecord (req : Bytes) (hres resp dev : Nat) (data : Bytes) : Bytes :=
  slice req 0 12 ++ leBytes 1 data.length ++ leBytes 1 hres ++ slice req 14 2 ++ leBytes 1 resp ++ leBytes 1 dev ++ [0, 0] ++ data

/-- Changes the open pass-through that command `id` opened. -/
def State.setPass (id : Nat) (f : HartPass → HartPass) (s : State) : State :=
  { s with hart := { s.hart with passes := s.hart.passes.map (fun p => if p.entry.id = id then f p else p) } }

/-- A request ends with a reply record for the reply stream of its pass-through; where that is closed there is none. -/
def State.hartAnswer (q : HartReq) (hres resp dev : Nat) (data : Bytes) (s : State) : State :=
  s.setPass q.pass (fun p => { p with replies := p.replies ++ [hartRecord q.record hres resp dev data] })

/-- The requests that wait in a channel's queue are refused (R254, `HRES` 3). -/
def State.hartFlush (n : Nat) (s : State) : State :=
  let h := (s.acOf n).hart
  h.queue.foldl (fun s q => s.hartAnswer q 3 0 0 []) (s.setHart n { h with queue := [] })

/-- A calibration that waited for the end of a transaction goes on (R247): an input in service holds its value. -/
def State.calProceed (n : Nat) (s : State) : State :=
  let c := s.acOf n
  match c.cal with
  | some k =>
    if k.waiting.isSome then s.setAc n { c with st := if c.st = .inService then .held else c.st, cal := some { k with waiting := none } } else s
  | none => s

/-- The transaction or listen window on channel `n` ends because its FSK path is cut: `HRES` 5 (R232, R245, R250). -/
def State.hartAbort (n : Nat) (s : State) : State :=
  (List.range 8).foldl (fun (s : State) m =>
    let x := s.modemOf m
    match x.job with
    | some (k, j) =>
      if k = n then
        let s := s.setModem m { x with job := none }
        let s := match j with
          | .pass r => s.hartAnswer r 5 0 0 []
          | _ => s
        (s.calProceed n).modemNext m
      else s
    | none => s) s

/-- A transaction runs on channel `n`. -/
def State.hartBusy (s : State) (n : Nat) : Bool :=
  (List.range 8).any (fun m => match (s.modemOf m).job with
    | some (k, .pass _) => k == n
    | some (k, .poll) => k == n
    | _ => false)

/-- A request record of the request stream of command `id` enters its channel's queue, or is answered at once (R254). -/
def State.hartRequest (id : Nat) (rec : Bytes) (s : State) : State :=
  let n := leNat (slice rec 0 1)
  let q : HartReq := { record := rec, pass := id }
  let s := s.setPass id (fun p => { p with outstanding := p.outstanding + 1 })
  if 32 ≤ n ∨ s.hartRefuses n then s.hartAnswer q 3 0 0 []
  else
    let h := (s.acOf n).hart
    if 8 ≤ h.queue.length then s.hartAnswer q 4 0 0 []
    else (s.setHart n { h with queue := h.queue ++ [q] }).modemsNext

/-- A poll's end: the variables are good, or the poll failed (R252). -/
def State.pollEnd (n : Nat) (r : HartReply) (s : State) : State :=
  let h := (s.acOf n).hart
  if r.res = 0 then
    s.setHart n { h with vars := r.vars, varsGood := true, lastGood := s.tb0, resp := r.resp % 256 * 256 + r.dev % 256, fail := false }
  else
    (s.setHart n { h with fail := true }).post .data .eHartNoReply (acRes n)
      (n * 2 ^ 24 + s.param .hartPollAddr n * 2 ^ 16 + 3)

/-- A HART transaction ends and the modem moves on (R251, R252, R254). -/
def State.hartEnd (m : Nat) (r : HartReply) (s : State) : State :=
  let x := s.modemOf m
  match x.job with
  | some (n, .pass q) =>
    ((((s.setModem m { x with job := none }).hartAnswer q (if r.res < 3 then r.res else 1) r.resp r.dev r.data)).calProceed n).modemNext m
  | some (n, .poll) => (((s.setModem m { x with job := none }).pollEnd n r).calProceed n).modemNext m
  | _ => s

/-- A burst listen window ends (R251). -/
def State.dwellEnd (m : Nat) (s : State) : State :=
  let x := s.modemOf m
  match x.job with
  | some (_, .dwell) => (s.setModem m { x with job := none }).modemNext m
  | _ => s

/-- The record of a burst frame (R255). -/
def burstRecord (n : Nat) (b : HartBurst) : Bytes :=
  hartRecord (leBytes 1 n ++ leBytes 1 b.mode ++ leBytes 1 b.poll ++ [0] ++ slice b.uid 0 5 ++ [0] ++ leBytes 2 b.cmd ++ [0, 0, 0, 0])
    6 b.resp b.dev b.data

/-- A burst frame is received only while a modem dwells on the channel; it is posted and goes to the open streams. -/
def State.hartBurst (n : Nat) (b : HartBurst) (s : State) : State :=
  if (List.range 8).any (fun m => (s.modemOf m).job == some (n, HartJob.dwell)) then
    let s := s.post .data .eHartBurst (acRes n) (n * 2 ^ 24 + b.poll % 256 * 2 ^ 16 + b.cmd % 65536)
    { s with hart := { s.hart with bursts := s.hart.bursts.map (fun x =>
        match x.2.1 with
        | none => (x.1, x.2.1, x.2.2 ++ [burstRecord n b])
        | some k => if k = n then (x.1, x.2.1, x.2.2 ++ [burstRecord n b]) else x) } }
  else s

/-- The loopback test of a modem between transactions (R256): a failure is a fault, retried after 10 s. -/
def State.modemLoopback (m : Nat) (ok : Bool) (s : State) : State :=
  let x := s.modemOf m
  if x.retired then s else
  let testing := match x.job with | some (_, .pass _) => true | some (_, .poll) => true | _ => false
  if testing then s else
  let s := s.setModem m { x with failed := !ok, testCmd := none, job := if ok then x.job else none }
  let s := if ok then s else s.fault .data .fHartModem (modemRes m) (m * 2 ^ 24) (modemKey m)
  let s := match x.testCmd with
    | some e => s.complete e .sOk 0 []
    | none => s
  s.modemNext m

/-- A modem is retired (R256): its channels go to the next modem that is not. -/
def State.modemRetire (m code : Nat) (s : State) : State :=
  let x := s.modemOf m
  if x.retired then s else
  let s := s.markRetired (modemKey m) Code.fHartModemRetired.num code
  let s := match x.job with
    | some (_, .pass r) => s.hartAnswer r 5 0 0 []
    | _ => s
  let s := s.setModem m { x with retired := true, job := none }
  let taker := match s.modemFor m with | some k => k | none => m
  ((s.faultUncounted .data .fHartModemRetired (modemRes m) (m * 2 ^ 24 + taker) (modemKey m)).causeRetired 0x04 (0x0100 + m)).modemsNext

/-! ## Events -/

/-- A channel number the module has not. -/
def bounded (n k : Nat) (s : State) : Host.Outcome State Fault Refusal :=
  if n < k then .next s else .fault .noSuchResource

/-- Runs an event on resource `n` of `k`. -/
def onResource (n k : Nat) (s : State) (f : State → State) : Host.Outcome State Fault Refusal :=
  if n < k then .next (f s) else .fault .noSuchResource

/-- HART_TRANSACTION_END (R251). -/
def execHartTransactionEnd (t m : Nat) (r : HartReply) (s : State) : Host.Outcome State Fault Refusal :=
  onResource m 8 s (fun s => (s.advance t).hartEnd m r)

/-- HART_POLL_DUE (R252). -/
def execHartPollDue (t n : Nat) (s : State) : Host.Outcome State Fault Refusal :=
  onResource n 32 s (fun s =>
    let s := s.advance t
    if s.hartOn n && s.param .hartPollMs n != 0 then (s.setHart n { (s.acOf n).hart with pollDue := true }).modemsNext else s)

/-- HART_POLL_STALE (R252): the variables are BAD from three poll intervals after the last good reply. -/
def execHartPollStale (t n : Nat) (s : State) : Host.Outcome State Fault Refusal :=
  onResource n 32 s (fun s =>
    let s := s.advance t
    let h := (s.acOf n).hart
    if h.lastGood + 3 * s.param .hartPollMs n * 1000000 ≤ s.tb0 then s.setHart n { h with varsGood := false } else s)

/-- HART_BURST_FRAME (R255). -/
def execHartBurstFrame (t n : Nat) (b : HartBurst) (s : State) : Host.Outcome State Fault Refusal :=
  onResource n 32 s (fun s => (s.advance t).hartBurst n b)

/-- HART_MODEM_LOOPBACK (R256). -/
def execHartModemLoopback (t m : Nat) (ok : Bool) (s : State) : Host.Outcome State Fault Refusal :=
  onResource m 8 s (fun s => (s.advance t).modemLoopback m ok)

/-- BURST_DWELL_END (R251). -/
def execBurstDwellEnd (t m : Nat) (s : State) : Host.Outcome State Fault Refusal :=
  onResource m 8 s (fun s => (s.advance t).dwellEnd m)

end Sys2Proof.Machine
end

