-- ==== Sys2Proof/Machine/Analogue.lean ====
section
/-! DEFINITION. Analogue channels: frames, scaling, safe states, diagnostics, calibration, retirement (09 R231 to R249,
R257, R258). -/

namespace Sys2Proof.Machine

/-- 1 mA in nA. -/
def mA : Int := 1000000

/-- An output mode; AI active; an input mode. -/
def acIsAo (m : Nat) : Bool := decide (2 ≤ m)

/-- The mode of channel `n` in effect. -/
def State.acMode (s : State) (n : Nat) : Nat := s.param .acMode n

/-- The measured current of a channel: in AO with readback, the readback converter (R231). -/
def acCurrent (mode : Nat) (m : AcMeas) : Int := if mode = 3 then m.readback else m.current

/-- A current in nA as a value in mA. -/
def nAQ (i : Int) : Q := { num := i, den := 1000000 }

/-- The scaled value of a current (R236): EU = EU_4 + (I − 4 mA) × (EU_20 − EU_4) ÷ 16 mA, narrowed once to REAL. -/
def acScaled (eu4 eu20 : Nat) (i : Int) : Nat :=
  let a := realQ eu4
  (a.add (((nAQ i).sub (Q.ofInt 4)).mul ((realQ eu20).sub a) |>.div (Q.ofInt 16))).toReal

/-- The current of a command in engineering units (R236), in mA. -/
def acCommandOf (eu4 eu20 v : Nat) : Q :=
  let a := realQ eu4
  (Q.ofInt 4).add (((Q.ofInt 16).mul ((realQ v).sub a)).div ((realQ eu20).sub a))

/-- The limits of a commanded current (R236). -/
def acLimits (ne43 : Bool) : Q × Q :=
  if ne43 then ({ num := 38, den := 10 }, { num := 205, den := 10 }) else (Q.ofInt 0, Q.ofInt 23)

/-- A flag of the status word (R240). -/
def AcChan.flag (c : AcChan) (k : Nat) : Bool := bitOf c.flags k
/-- Sets or clears a flag. -/
def AcChan.setFlag (k : Nat) (b : Bool) (c : AcChan) : AcChan := { c with flags := setBits c.flags k k (b2n b) }

/-- The safe current of an output (R244), in mA as REAL. -/
def State.acSafeCurrent (s : State) (n : Nat) : Nat :=
  let c := s.acOf n
  if c.dead then 0 else
  match s.param .acSafeMode n with
  | 0 => 0
  | 1 => (match c.lastCmd with | some v => v | none => s.param .acSafeMa n)
  | 2 => s.param .acSafeMa n
  | 3 => 0x40600000
  | _ => 0x41AC0000

/-- Coupler frames to the isolated sides are sent: the module runs, or is in its hold-up, and the scheduler heartbeat is
not missing (03 R67, 13 R348). -/
def State.framesSent (s : State) : Bool :=
  s.power.restoreDone && s.sv.heartbeat && (s.power.phase == .running || s.power.phase == .holdUp)

/-- FA stands below 18.0 V, but supplies the channels (R245): number 2 in the order of 03 R60. -/
def State.faSag (s : State) : Bool := Tab.get (fun _ => false) s.power.warnFlags 2

/-- The channel is a member of multidrop (R253). -/
def State.multidrop (s : State) (n : Nat) : Bool := s.param .hartMultidrop n == 1

/-! ## Status and quality (R240) -/

/-- Conditions that the logic side knows at once: HELD, SWITCHING, RETIRED. -/
def AcChan.logicFlags (c : AcChan) : Nat :=
  2 ^ 8 * b2n (c.st == .held) + 2 ^ 14 * b2n (c.st == .switching || c.st == .outOfService || (c.changed && !c.delivered))
    + 2 ^ 15 * b2n (c.st == .retired)

/-- The flags an isolated side reports (R240). -/
def State.acReported (s : State) (n : Nat) : Nat :=
  let c := s.acOf n
  c.flags + 2 ^ 9 * b2n (c.safe && acIsAo (s.acMode n)) + 2 ^ 10 * b2n s.faSag

/-- The status word. -/
def State.acStatusWord (s : State) (n : Nat) : Nat :=
  let c := s.acOf n
  c.rx.flags + c.logicFlags + 2 ^ 12 * b2n c.hart.fail

/-- The quality of channel `n`'s input values by its status word (R240, 05 R141). -/
def State.acQuality (s : State) (n : Nat) : Nat :=
  let c := s.acOf n
  let w := s.acStatusWord n
  let f := fun k => bitOf w k
  if ¬ c.powered || !c.delivered || c.st == .powerOn || f 0 || f 3 || f 4 || f 5 || (f 7 && !acIsAo (s.acMode n)) || f 13 || f 14 || f 15
  then 0x80
  else if f 8 then 0x02 else 0x00

/-- Every input value of the channel is BAD: no power, no first value yet, a mode change, out of service, RETIRED (R232, R245). -/
def State.acDown (s : State) (n : Nat) : Bool :=
  let c := s.acOf n
  !c.powered || !c.delivered || c.st == .powerOn || bitOf (s.acStatusWord n) 14 || bitOf (s.acStatusWord n) 15

/-- The value and quality that channel `n` supplies at an input sub-index (R239). -/
def State.acSource (s : State) (n sub : Nat) : Nat × Nat :=
  let c := s.acOf n
  let i := c.rx.current
  match sub with
  | 0 => (acScaled (s.param .acEu4 n) (s.param .acEu20 n) i, if s.multidrop n then 0x80 else s.acQuality n)
  | 1 => ((nAQ i).toReal, s.acQuality n)
  | 2 => (s.acStatusWord n, s.acQuality n)
  | 12 => (c.hart.resp, if c.hart.varsGood && !s.acDown n then 0 else 0x80)
  | k => (getAt 0 c.hart.vars (k - 8), if c.hart.varsGood && !s.acDown n then 0 else 0x80)

/-! ## Frames to the isolated side (R233, R236, R244) -/

/-- The commanded current of a command of an owner: none where it is not finite; whether it was limited. -/
def State.acWanted (s : State) (n : Nat) (eu : Bool) (v : Nat) : Option (Nat × Bool) :=
  if ¬ f32.isFinite v then none
  else
    let q := if eu then acCommandOf (s.param .acEu4 n) (s.param .acEu20 n) v else realQ v
    let (lo, hi) := acLimits (s.param .acNe43En n == 1)
    some ((q.clamp lo hi).toReal, q.lt lo || hi.lt q)

/-- The isolated side takes its safe state. -/
def State.acToSafe (n : Nat) (s : State) : State :=
  let c := s.acOf n
  let st := if c.st = .inService then .safe else c.st
  s.setAc n { c with st := st, safe := true, iCmd := if acIsAo (s.acMode n) && s.fieldActive then s.acSafeCurrent n else 0 }

/-- What a valid frame makes the isolated side do. -/
def State.acDrive (n : Nat) (s : State) : State :=
  let c := s.acOf n
  let mode := s.acMode n
  if ¬ s.fieldActive && acIsAo mode then s.setAc n { c with monitor := true, safe := true, iCmd := 0 }
  else
    let s := s.setAc n { c with monitor := !s.fieldActive }
    let c := s.acOf n
    match c.st with
    | .retired => s.acToSafe n
    | .powerOn => s
    | .switching => s.setAc n { c with safe := true, iCmd := 0 }
    | .outOfService =>
      (match c.test with
       | some v => if s.power.phase == .holdUp then s.acToSafe n else s.setAc n { c with safe := false, iCmd := v }
       | none => s.acToSafe n)
    | .held => s
    | _ =>
      if ¬ acIsAo mode then s.setAc n { c with st := .inService, safe := false, iCmd := 0 }
      else if s.power.phase == .holdUp then s.acToSafe n
      else
        match c.target with
        | none => s.acToSafe n
        | some (eu, v) =>
          match s.acWanted n eu v with
          | none => (s.setAc n (c.setFlag 11 true)).acToSafe n
          | some (i, lim) =>
            s.setAc n { ((c.setFlag 11 false).setFlag 7 lim) with st := .inService, safe := false, iCmd := i, lastCmd := some i }

/-- A valid frame ends a silence (R233). -/
def State.acHeard (n : Nat) (s : State) : State :=
  let c := s.acOf n
  let s' := s.setAc n { c with silent := none, lastFrame := s.tb0 }
  match c.silent with
  | some _ => s'.post .data .eAcSilence (acRes n) (q24 n ((s.tb0 - c.lastFrame) / 1000000 : Nat))
  | none => s'

/-- The current that the output stage carries: the commanded one; less in a fold-back; none with a mismatch; while the mode
changes it ramps from what it was to 0, which it has reached 3 ms after the boundary (R232, R241, R243). -/
def State.acStage (n : Nat) (s : State) : State :=
  let c := s.acOf n
  if c.st = .switching then
    if c.drive = 0 then s
    else if c.modeAt ≤ s.tb0 + 2000000 then s.setAc n { c with drive := 0 }
    else (s.setAc n { c with drive := ((realQ c.drive).mul { num := s.drawn.toNat % 65536, den := 65536 }).toReal }).afterDraw
  else
    let full := if c.cut || !c.powered || !acIsAo (s.acMode n) then 0 else c.iCmd
    s.setAc n { c with drive := match c.fold with
      | some k => ((realQ full).mul { num := k, den := 65536 }).toReal
      | none => full }

/-- A frame with a CRC error: discarded and recorded; ten in a row are one channel fault (R233, R248). `outward`: the frame
was for the isolated side. -/
def State.acBadFrame (n : Nat) (outward : Bool) (s : State) : State :=
  let c := s.acOf n
  let k := (if outward then c.crcOut else c.crcRun) + 1
  let kept := if 10 ≤ k then 0 else k
  let s := (s.setAc n (if outward then { c with crcOut := kept } else { c with crcRun := kept })).post .data .eAcCouplerCrc (acRes n) (q24 n k)
  if 10 ≤ k then s.fault .data .fAcCoupler (acRes n) (n * 2 ^ 24) (acKey n) else s

/-- A frame reaches the isolated side of channel `n`; `bad` where its CRC is wrong. -/
def State.acFrame (n : Nat) (bad : Bool) (s : State) : State :=
  if ¬ (s.acOf n).powered then s
  else if bad then s.acBadFrame n true
  else ((((s.setAc n { s.acOf n with crcOut := 0, isoSeq := (s.acOf n).cfgSeq }).acHeard n).acDrive n)).acStage n

/-! ## Frames from the isolated side (R233, R235, R237) -/

/-- NE 43 bands from low to high: failure low, limit, measuring, limit, failure high (R237). -/
def ne43Raw (i : Int) : Nat :=
  if i < 3600000 then 0 else if i < 3800000 then 1 else if i ≤ 20500000 then 2 else if i ≤ 21000000 then 3 else 4

/-- The current stays in band `b`: between its limits, widened by the 0.05 mA of hysteresis on leaving it. -/
def ne43Stays (b : Nat) (i : Int) : Bool :=
  match b with
  | 0 => decide (i < 3650000)
  | 1 => decide (3550000 ≤ i ∧ i < 3850000)
  | 2 => decide (3750000 ≤ i ∧ i ≤ 20550000)
  | 3 => decide (20450000 < i ∧ i ≤ 21050000)
  | _ => decide (20950000 < i)

/-- The band of a current after band `prev` (notes/assumptions/22.md); the first value of a mode has none before it. -/
def ne43Band (prev : Option Nat) (i : Int) : Nat :=
  match prev with
  | some b => if ne43Stays b i then b else ne43Raw i
  | none => ne43Raw i

/-- The band that the flags spell; `LIMIT` alone belongs to the side on which the current lies. -/
def AcChan.band (c : AcChan) (i : Int) : Nat :=
  if c.flag 4 then 0 else if c.flag 5 then 4 else if c.flag 6 then (if i < 12000000 then 1 else 3) else 2

/-- Classifies a filtered input current (R237). -/
def State.acClassify (n : Nat) (i : Int) (s : State) : State :=
  let c := s.acOf n
  if acIsAo (s.acMode n) then s
  else
    let c1 := c.setFlag 7 (decide (24 * mA < i))
    if s.param .acNe43En n ≠ 1 then s.setAc n (((c1.setFlag 4 false).setFlag 5 false).setFlag 6 false)
    else
      let b := ne43Band (if c.delivered then some (c.band i) else none) i
      let c2 := ((c1.setFlag 4 (b == 0)).setFlag 5 (b == 4)).setFlag 6 (b == 1 || b == 3)
      let fresh := (b == 0 && !c.flag 4) || (b == 4 && !c.flag 5) || ((b == 1 || b == 3) && !c.flag 6)
      (s.setAc n c2).postIf fresh .data .eAcNe43 (acRes n) (q24 n (i / 1000))

/-- Samples in the filter window: one every 50 µs (R235). -/
def State.acTaps (s : State) (n : Nat) : Nat := max 1 (s.param .acFilter n / 50)

/-- The moving average over `FILTER`; a held value stands for the samples not yet taken since (R235, R247). -/
def State.acAverage (s : State) (n : Nat) : Int :=
  let c := s.acOf n
  let taps := s.acTaps n
  let w := c.window.take taps
  let sum := w.foldl (fun a b => a + b) (0 : Int)
  match c.base with
  | some b => (sum + (taps - w.length : Nat) * b) / (taps : Int)
  | none => sum / (max 1 w.length : Nat)

/-- A filtered value exists: an input's window is full, or its filter restarted from a held value (R232, R235). -/
def State.acFiltered (s : State) (n : Nat) : Bool :=
  let c := s.acOf n
  c.delivered || c.base.isSome || (if acIsAo (s.acMode n) then !c.window.isEmpty else decide (s.acTaps n ≤ c.window.length))

/-- A good frame of the isolated side. -/
def State.acGoodFrame (n : Nat) (m : AcMeas) (s : State) : State :=
  let c := s.acOf n
  let i := s.acAverage n
  if c.st == .switching || !(s.acFiltered n) then s.setAc n { c with crcRun := 0 }
  else
    let s := (s.setAc n { c with crcRun := 0 }).acClassify n i
    let c := s.acOf n
    let rx : AcRx := { current := if c.st = .held then c.rx.current else i, flags := s.acReported n, supply := c.supply, term := m.term, temp := m.temp }
    s.setAc n { c with delivered := true, rx := rx }

/-- A frame from the isolated side of channel `n`. -/
def State.acFrameIn (n : Nat) (bad : Bool) (m : AcMeas) (s : State) : State :=
  if ¬ (s.acOf n).powered then s else if bad then s.acBadFrame n false else s.acGoodFrame n m

/-! ## The loop supply (R234) -/

/-- Sense resistance of an input in Ω. -/
def State.acSense (s : State) (n : Nat) : Nat := if s.param .acHartEn n = 1 then 250 else 50

/-- The target of the loop supply in µV: needed voltage plus 1.5 V within 5 V to 30 V; 0 is off (R234). With `COMPLIANCE` set it
stays at 30 V (R242, R258). -/
def State.acSupplyTarget (s : State) (n : Nat) (m : AcMeas) : Nat :=
  let c := s.acOf n
  let lim := fun (v : Q) => ((v.add { num := 3, den := 2 }).clamp (Q.ofInt 5) (Q.ofInt 30)).mul (Q.ofInt 1000000) |>.floor.toNat
  if ¬ c.powered || c.st == .powerOn || c.st == .switching || c.monitor || c.cut then 0
  else match s.acMode n with
  | 0 => 0
  | 1 =>
    if c.st = .retired then 0 else
    let i := if m.current < 4 * mA then 4 * mA else m.current
    -- I × (LOOP_R + sense): nA × Ω = nV
    lim ((realQ (s.param .acTxLiftoff n)).add
      (({ num := i, den := 1000000000 } : Q).mul ((realQ (s.param .acLoopR n)).add (Q.ofInt (s.acSense n)))))
  | k =>
    let cmd := realQ c.iCmd
    let i := acCurrent k m
    if cmd.lt (Q.ofInt 1) then 5000000
    else if c.flag 1 then 30000000
    else if i < mA then 30000000
    else lim ((cmd.mul { num := m.term, den := 1000 }).div (nAQ i))

/-- The supply moves by at most 30 V/ms up and 3 V/ms down in 50 µs. -/
def slew (now target : Nat) : Nat :=
  if now < target then min target (now + 1500000) else max target (now - 150000)

/-! ## Diagnostics (R241 to R243) -/

/-- The supply stands at 30 V. -/
def AcChan.atTop (c : AcChan) : Bool := c.supply == 30000000

/-- The current limit of an AI-active channel (R231), lowered by a fold-back (R243). -/
def State.acLimit (s : State) (n : Nat) : Int :=
  let full := if s.multidrop n then 64 * mA else 25 * mA
  match (s.acOf n).fold with
  | some k => full * (k : Int) / 65536
  | none => full

/-- The mode that the isolated side works in: in monitor mode an AI-active channel runs as AI passive (13 R346). -/
def State.acWorks (s : State) (n : Nat) : Nat := if (s.acOf n).monitor && s.acMode n == 1 then 0 else s.acMode n

/-- The condition of a diagnostic (R241). -/
def State.acCondition (s : State) (n : Nat) (k : AcDiag) (m : AcMeas) : Bool :=
  let c := s.acOf n
  let mode := s.acWorks n
  let i := acCurrent mode m
  let cmd := realQ c.iCmd
  match k with
  | .openLoop => acIsAo mode && (Q.ofInt 1).le cmd && decide (i < 500000) && c.atTop
  | .openWire => !acIsAo mode && decide (s.acAverage n < 500000)
  | .compliance => acIsAo mode && Q.lt { num := 1, den := 10 } (cmd.sub (nAQ i)) && c.atTop
  | .short => mode == 1 && decide (s.acLimit n ≤ m.current)
  | .mismatch =>
    if mode = 0 then decide (m.current < -500000)
    else if mode = 1 then decide ((c.supply : Int) < m.term * 1000)
    else (Q.ofInt 1).lt ((nAQ i).sub cmd)
  | .readback => mode == 3 && decide (200000 < (m.current - m.readback).natAbs)

/-- The flag of a diagnostic, and its record. -/
def acDiagBit : Sys2Proof.AcDiag → Nat
  | .openLoop => 0 | .openWire => 0 | .compliance => 1 | .short => 3 | .mismatch => 13 | .readback => 16

/-- The diagnostic runs: powered, not RETIRED; but for the comparison of R246, which runs in every state, not while the mode changes
nor in the bypass of an output in monitor mode (13 R346). -/
def State.acDiagnoses (s : State) (n : Nat) (k : AcDiag) : Bool :=
  let c := s.acOf n
  c.powered && c.st != .retired && c.st != .powerOn && (k == .readback || (c.st != .switching && !(c.monitor && acIsAo (s.acMode n))))

/-- A diagnostic has persisted for its detection time (R241). -/
def State.acDiagnosed (n : Nat) (k : AcDiag) (m : AcMeas) (s : State) : State :=
  let c := s.acOf n
  if ¬ (s.acDiagnoses n k && s.acCondition n k m) || c.flag (acDiagBit k) then s
  else
    let i := acCurrent (s.acMode n) m
    match k with
    | .openLoop => (s.setAc n (c.setFlag 0 true)).post .data .eAcOpen (acRes n) (n * 2 ^ 24)
    | .openWire => (s.setAc n (c.setFlag 0 true)).post .data .eAcOpen (acRes n) (n * 2 ^ 24)
    | .compliance => (s.setAc n (c.setFlag 1 true)).post .data .eAcCompliance (acRes n) (q24 n (i / 1000))
    | .short => (s.setAc n (c.setFlag 3 true)).post .data .eAcShort (acRes n) (n * 2 ^ 24)
    | .mismatch =>
      (s.setAc n { c.setFlag 13 true with cut := s.acMode n != 0 }).post .data .eAcMismatch (acRes n) (n * 2 ^ 24)
    | .readback =>
      (s.setAc n { c with recheck := true, recheckAt := s.tb0 }).fault .data .fAcReadback (acRes n) (q24 n ((m.current - m.readback).natAbs / 1000 : Nat)) (acKey n)

/-- A flag clears at the first sample at which its condition no longer holds (R241, R242). -/
def State.acClearing (n : Nat) (m : AcMeas) (s : State) : State :=
  let c := s.acOf n
  let i := acCurrent (s.acMode n) m
  let still := fun (k : AcDiag) => c.flag (acDiagBit k) && s.acCondition n k m
  let opened := c.flag 0 && (s.acCondition n .openLoop m || s.acCondition n .openWire m)
  let comp := c.flag 1 && !((((realQ c.iCmd).sub (nAQ i)).abs).le { num := 1, den := 10 })
  let mism := still .mismatch
  s.setAc n { (((c.setFlag 0 opened).setFlag 1 comp).setFlag 3 (still .short)).setFlag 13 mism with cut := c.cut && mism }

/-- The sensor at a sample of a channel in fold-back (R243): what it still carries is open, and its 5 s begin below 125 °C. -/
def State.acCooling (n : Nat) (temp : Int) (s : State) : State :=
  let c := s.acOf n
  if ¬ c.flag 2 then s.setAc n { c with fold := none, coolAt := none }
  else (s.setAc n { c with
    fold := some (s.drawn.toNat % 65537)
    coolAt := if c.coolAt.isNone && decide (temp < 1250) then some s.tb0 else c.coolAt }).afterDraw

/-- A calibration has waited 3 s for a HART transaction, and goes on (R247). -/
def State.acCalWait (n : Nat) (s : State) : State :=
  match (s.acOf n).cal with
  | some k => (match k.waiting with | some a => if a + 3000000000 ≤ s.tb0 then s.calProceed n else s | none => s)
  | none => s

/-- A 50 µs sample of the isolated side (R234, R235, R241): the filter takes it, but for a held value or a change of mode; supply,
stage and flags follow. -/
def State.acSample (n : Nat) (m : AcMeas) (s : State) : State :=
  if ¬ (s.acOf n).powered then s
  else
    let s := s.acCalWait n
    let c := s.acOf n
    let w := if c.st == .switching || c.st == .held then c.window else (acCurrent (s.acMode n) m :: c.window).take (s.acTaps n)
    let s := s.setAc n { c with window := w, supply := slew c.supply (s.acSupplyTarget n m) }
    ((s.acClearing n m).acCooling n m.temp).acStage n

/-- The silence timeout of the isolated side of channel `n` has passed (R233). -/
def State.acSilence (n : Nat) (s : State) : State :=
  let c := s.acOf n
  if c.powered && c.silent.isNone && !(s.pair.st != .unpaired && acIsAo (s.acMode n)) && decide (c.lastFrame + s.param .acSilenceTo n * 1000000 ≤ s.tb0) then
    let s := s.setAc n { c with silent := some s.tb0 }
    ((if acIsAo (s.acMode n) then s.acToSafe n else s.setAc n { s.acOf n with st := if c.st = .inService then .safe else c.st }).hartAbort n).acStage n
  else s

/-- The sensor reaches 140 °C (R243): fold-back, and a fault unless `SHORT` is set; again once it has been below 125 °C. -/
def State.acThermal (n : Nat) (temp : Int) (s : State) : State :=
  let c := s.acOf n
  if ¬ (c.powered && c.st != .retired) || decide (temp < 1400) || (c.flag 2 && c.coolAt.isNone) then s
  else
    let s := s.setAc n { c.setFlag 2 true with coolAt := none }
    if c.flag 3 then s.faultUncounted .data .fAcThermal (acRes n) (q24 n temp) (acKey n)
    else s.fault .data .fAcThermal (acRes n) (q24 n temp) (acKey n)

/-- The reference check (R246): ±0.1 % of 24 mA; with `AC.SELFTEST` also the comparison of R241. -/
def State.acReference (n : Nat) (ppm : Int) (m : AcMeas) (s : State) : State :=
  let c := s.acOf n
  if ¬ c.powered || c.st == .retired then s
  else
    let s := if 1000 < ppm.natAbs then s.fault .data .fAcReference (acRes n) (q24 n ppm) (acKey n) else s
    match c.testCmd with
    | none => s
    | some e =>
      let s := s.setAc n { s.acOf n with testCmd := none }
      let s := if s.acMode n == 3 && s.acCondition n .readback m then
          (s.setAc n { s.acOf n with recheck := true, recheckAt := s.tb0 }).fault .data .fAcReadback (acRes n)
            (q24 n ((m.current - m.readback).natAbs / 1000 : Nat)) (acKey n)
        else s
      s.complete e .sOk 0 []

/-- The re-check 100 ms after a readback discrepancy: a failure is a further fault (R248, 21 R520). -/
def State.acRecheck (n : Nat) (m : AcMeas) (s : State) : State :=
  let c := s.acOf n
  if ¬ c.recheck ∨ s.tb0 < c.recheckAt + 100000000 then s
  else if s.acCondition n .readback m && s.acDiagnoses n .readback then
    (s.setAc n { c with recheckAt := s.tb0 }).fault .data .fAcReadback (acRes n) (q24 n ((m.current - m.readback).natAbs / 1000 : Nat)) (acKey n)
  else s.setAc n { c with recheck := false }

/-! ## Mode, power, service and retirement -/

/-- The new mode starts (R232, step 3). -/
def State.acModeEnd (n : Nat) (s : State) : State :=
  let c := s.acOf n
  if c.st ≠ .switching ∨ s.tb0 < c.modeAt then s
  else
    let s := s.setAc n { c with
      st := .safe, modeAt := s.tb0, delivered := false, changed := true, flags := 0, cut := false, window := [], base := none,
      fold := none, coolAt := none }
    ((s.acToSafe n).acStage n).post .data .eAcMode (acRes n) (n * 2 ^ 24 + s.acMode n)

/-- An isolated side starts from its configuration (R245, R249; 03 R74, step 8). -/
def State.acStart (n : Nat) (s : State) : State :=
  let c := s.acOf n
  let st : AcState := (if s.isRetired (acKey n) then .retired
    else if s.param .acService n = 0 then .outOfService else .safe)
  let s := s.setAc n { c with
      st := st, powered := true, target := none, flags := 0, cut := false, silent := none, lastFrame := s.tb0,
      modeAt := s.tb0, delivered := false, changed := false, safe := true, iCmd := 0, supply := 0, test := none, window := [], base := none,
      fold := none, coolAt := none, dead := false }
  (s.acToSafe n).acStage n

/-- The 5 s below 125 °C are over (R243): the channel returns to its full command. -/
def State.acCooled (n : Nat) (s : State) : State :=
  let c := s.acOf n
  match c.coolAt with
  | some a => if a + 5000000000 ≤ s.tb0 then (s.setAc n { c.setFlag 2 false with fold := none, coolAt := none }).acStage n else s
  | none => s

/-- A calibration is abandoned (R258). -/
def State.acCalAbandon (n : Nat) (s : State) : State :=
  match (s.acOf n).cal with
  | some k => (s.setAc n { s.acOf n with cal := none }).complete k.entry .sState 0 []
  | none => s

/-- The isolated side of channel `n` loses its power (R245). -/
def State.acPowerLoss (n : Nat) (s : State) : State :=
  let s := (s.acCalAbandon n).hartAbort n
  let c := s.acOf n
  s.setAc n { c with
    st := if c.st = .retired then .retired else .powerOn, powered := false, target := none, iCmd := 0, supply := 0,
    safe := true, delivered := false, test := none, drive := 0, window := [], base := none, fold := none, coolAt := none }

/-- Channel `n` is RETIRED (R248, R249): a self-test asked for and queued HART requests are answered; whether its output stage can still
regulate is open (R244). -/
def State.acRetire (n : Nat) (code : Nat) (s : State) : State :=
  if (s.acOf n).st = .retired then s else
  let s := ((s.markRetired (acKey n) Code.fAcRetired.num code).acCalAbandon n).hartAbort n
  let c := s.acOf n
  let s := (s.setAc n { c with st := .retired, test := none, testCmd := none, dead := acIsAo (s.acMode n) && s.drawn.toNat % 2 == 1 }).afterDraw
  let s := match c.testCmd with
    | some e => s.complete e .sRetired 0 []
    | none => s
  let s := ((s.acToSafe n).acStage n).hartFlush n
  (s.faultUncounted .data .fAcRetired (acRes n) (n * 2 ^ 24 + code) (acKey n)).causeRetired 0x04 n

/-- The result of a calibration measurement (R247): within ±1 % of the factory coefficients it is committed, else rejected
as a channel fault. -/
def State.acCalEnd (n : Nat) (gain offset : Int) (s : State) : State :=
  let c := s.acOf n
  match c.cal with
  | none => s
  | some k =>
    if k.waiting.isSome then s
    else
      let st := if c.st = .held then .inService else c.st
      let base := if k.inService then some c.rx.current else none
      let s := s.setAc n { c with
        cal := none, st := st, modeAt := (if k.inService then c.modeAt else s.tb0), window := [], base := base }
      if gain.natAbs ≤ 10000 ∧ offset.natAbs ≤ 10000 then
        ((s.setCommit n [(.acCalGain, wrapInt 32 gain), (.acCalOffset, wrapInt 32 offset)]).post .data .eAcCalibrated (acRes n)
          (n * 2 ^ 24 + b2n k.inService)).complete k.entry .sOk 0 []
      else
        (s.fault .data .fAcReference (acRes n) (q24 n (if offset.natAbs ≤ gain.natAbs then gain else offset)) (acKey n)).complete
          k.entry .sState 0 []

end Sys2Proof.Machine
end

