-- ==== Sys2Proof/Machine/AnalogueCmd.lean ====
section
/-! DEFINITION. The commands of class 0x04 (09 R259) and the events of the analogue channels. -/

namespace Sys2Proof.Machine

/-- The owner of a channel's settings. -/
def acOwner (n : Nat) : Owner := { kind := .ac, index := n }

/-- The channel runs, so that its settings wait for its boundary (01 R19). -/
def State.acRuns (s : State) (c : Cmd) : Bool :=
  let st := (s.acOf c.tgtIndex).st
  st != .outOfService && st != .retired

/-- The filter windows of R235, in µs. -/
def acFilters : List Nat :=
  [100, 200, 500, 1000, 2000, 5000, 10000, 20000, 50000, 100000, 200000, 500000, 1000000, 2000000, 5000000, 10000000]

/-- The parameters that `AC.CONFIGURE` and `AC.HART_CONFIG` set, in the order of the expert block (R257). -/
def acParams : List Param :=
  [.acMode, .acNe43En, .acSafeMode, .acHartEn, .acFilter, .acEu4, .acEu20, .acSafeMa, .acSilenceTo, .acTxLiftoff, .acLoopR,
   .hartMultidrop, .hartRetries, .hartPollAddr, .hartPollMs, .burstDwell]

/-- The 64-byte block of R257 of a channel with settings `l` put in. -/
def acBlock (s : State) (n : Nat) (l : List (Param × Nat)) : Bytes :=
  let v := newValue s n l
  leBytes 1 (v .acMode) ++ leBytes 1 (v .acNe43En) ++ leBytes 1 (v .acSafeMode) ++ leBytes 1 (v .acHartEn) ++ leBytes 4 (v .acFilter)
    ++ leBytes 4 (v .acEu4) ++ leBytes 4 (v .acEu20) ++ leBytes 4 (v .acSafeMa) ++ leBytes 4 (v .acSilenceTo)
    ++ leBytes 4 (v .acTxLiftoff) ++ leBytes 4 (v .acLoopR) ++ leBytes 1 (v .hartMultidrop) ++ leBytes 1 (v .hartRetries)
    ++ leBytes 1 (v .hartPollAddr) ++ [0] ++ leBytes 4 (v .hartPollMs) ++ leBytes 4 (v .burstDwell) ++ leBytes 20 0

/-- The settings an `AC.CONFIGURE` carries. -/
def acSettings (c : Cmd) : List (Param × Nat) :=
  if c.expert then
    [(.acMode, c.blk 0 1), (.acNe43En, c.blk 1 1), (.acSafeMode, c.blk 2 1), (.acHartEn, c.blk 3 1), (.acFilter, c.blk 4 4),
     (.acEu4, c.blk 8 4), (.acEu20, c.blk 12 4), (.acSafeMa, c.blk 16 4), (.acSilenceTo, c.blk 20 4), (.acTxLiftoff, c.blk 24 4),
     (.acLoopR, c.blk 28 4), (.hartMultidrop, c.blk 32 1), (.hartRetries, c.blk 33 1), (.hartPollAddr, c.blk 34 1),
     (.hartPollMs, c.blk 36 4), (.burstDwell, c.blk 40 4)]
  else
    [(.acMode, c.field 16 1), (.acHartEn, c.field 17 1), (.acNe43En, c.field 18 1), (.acFilter, c.field 20 4),
     (.acEu4, c.field 24 4), (.acEu20, c.field 28 4)]

/-- The settings an `AC.HART_CONFIG` carries. -/
def hartSettings (c : Cmd) : List (Param × Nat) :=
  [(.hartMultidrop, c.field 16 1), (.hartPollAddr, c.field 17 1), (.hartPollMs, c.field 20 4)]
    ++ (if c.expert then [(.hartRetries, c.field 18 1), (.burstDwell, c.field 24 4)] else [])

/-- A REAL between two bounds. -/
def realIn (lo hi : Q) (v : Nat) : Bool := f32.isFinite v && lo.le (realQ v) && (realQ v).le hi

/-- The ranges of R257, with the couplings of R235, R236 and R253. -/
def acInRange (s : State) (n : Nat) (l : List (Param × Nat)) : Bool :=
  let v := newValue s n l
  decide (v .acMode ≤ 3) && decide (v .acNe43En ≤ 1) && decide (v .acSafeMode ≤ 4) && decide (v .acHartEn ≤ 1)
    && acFilters.contains (v .acFilter) && !(v .acHartEn == 1 && decide (v .acFilter < 5000))
    && f32.isFinite (v .acEu4) && f32.isFinite (v .acEu20) && !(f32.eq (v .acEu4) (v .acEu20))
    && realIn (Q.ofInt 0) (Q.ofInt 23) (v .acSafeMa) && decide (1 ≤ v .acSilenceTo ∧ v .acSilenceTo ≤ 1000)
    && realIn (Q.ofInt 8) (Q.ofInt 24) (v .acTxLiftoff) && realIn (Q.ofInt 0) (Q.ofInt 1000) (v .acLoopR)
    && decide (v .hartMultidrop ≤ 1) && decide (v .hartRetries ≤ 5) && decide (v .hartPollAddr ≤ 15)
    && (v .hartPollMs == 0 || decide (1000 ≤ v .hartPollMs ∧ v .hartPollMs ≤ 60000))
    && decide (100 ≤ v .burstDwell ∧ v .burstDwell ≤ 10000)
    && !(v .hartMultidrop == 1 && (v .acMode != 1 || v .hartPollAddr == 0))

/-- Channels in multidrop besides `n`. -/
def State.multidrops (s : State) (n : Nat) : Nat := ((List.range 32).filter (fun k => k != n && s.multidrop k)).length

/-- A source or destination word of a loop (08 R220): kind and index. -/
def srcKind (v : Nat) : Nat := bitsOf v 31 28
/-- Its index. -/
def srcIndex (v : Nat) : Nat := v % 65536

/-- Some enabled loop satisfies `p`. -/
def State.someLoop (s : State) (p : Nat → Bool) : Bool := (List.range 512).any (fun i => s.param .loopEn i == 1 && p i)

/-- The change of mode is one (R232). -/
def acModeChanges (s : State) (c : Cmd) (l : List (Param × Nat)) : Bool :=
  newValue s c.tgtIndex l .acMode != s.acMode c.tgtIndex

/-- Conditions of `AC.CONFIGURE` at the boundary (R232, R253, R257). -/
def acConfigureCheck (l : Cmd → List (Param × Nat)) (s : State) (c : Cmd) : Status :=
  let n := c.tgtIndex
  let l := l c
  let new := newValue s n l .acMode
  let change := new != s.acMode n
  firstOf
    [whenS ((s.acOf n).st == .retired) .sRetired,
     whenS (change && s.acInSafety n && !(s.sessionValid c)) .sBusySafety,
     whenS (change && s.param .aiPairEn (n / 2) == 1) .sBusySafety,
     whenS (change && decide (new < 2) && (s.outMaps (MapEntry.names 0x04 n)
       || s.someLoop (fun i => s.param .loopOutDest i == 0x10000000 + n))) .sState,
     whenS (change && new == 2 && s.someLoop (fun i => s.param .loopPvSrc i == 0x10000000 + n)) .sState,
     whenS (newValue s n l .hartMultidrop == 1 && decide (8 ≤ s.multidrops n)) .sNoSpace,
     whenS (s.acInSafety n && s.logFull) .sLogFull]

/-- Applies settings to a channel: logged in a safety image, committed; a new mode starts its switching (R232). -/
def acApply (l : Cmd → List (Param × Nat)) (e : Entry) (s : State) : Reply :=
  let c := e.cmd
  let n := c.tgtIndex
  let l := l c
  let change := acModeChanges s c l
  let s := if s.acInSafety n then s.logChange c.route 0x04 0 n (acBlock s n []) (acBlock s n l) else s
  let s := s.setCommit n l
  let s := s.setAc n { s.acOf n with cfgSeq := (s.acOf n).cfgSeq + 1 }
  let s := if s.param .acHartEn n = 0 then (s.hartAbort n).hartFlush n else s
  let s := if change then
      let s := (s.acCalAbandon n).hartAbort n
      let x := s.acOf n
      if x.st = .outOfService ∨ x.st = .powerOn then
        (s.setAc n { x with modeAt := s.tb0 + 5000000, target := none, delivered := false, changed := true, flags := 0, test := none }).post
          .data .eAcMode (acRes n) (n * 2 ^ 24 + s.acMode n)
      else s.setAc n { x with st := .switching, modeAt := s.tb0 + 5000000, target := none, delivered := false, changed := true }
    else s
  .ok s.modemsNext

/-- `AC.CONFIGURE`. -/
def specAcConfigure : CmdSpec where
  op := 0x0400
  layout := fun c => if c.expert then { ranges := [(16, 35), (52, 8)] } else { ranges := [(16, 3), (20, 12)] }
  form := fun _ c => !c.expert || (c.indirect && c.blockLen == 64 && allZero (slice c.body 48 16))
  target := targetBelow 0x04 32
  needsSession := fun s c => s.acInSafety c.tgtIndex && !(acModeChanges s c (acSettings c))
  params := fun s c => acInRange s c.tgtIndex (acSettings c)
  owner := fun _ c => some (acOwner c.tgtIndex)
  running := State.acRuns
  run := guarded (acConfigureCheck acSettings) (acApply acSettings)

/-- `AC.SET_SERVICE`. -/
def specAcSetService : CmdSpec where
  op := 0x0401
  layout := fun _ => { ranges := [(16, 1)] }
  target := targetBelow 0x04 32
  needsSession := fun s c => s.acInSafety c.tgtIndex && c.field 16 1 == 1
  params := fun _ c => decide (c.field 16 1 ≤ 1)
  owner := fun _ c => some (acOwner c.tgtIndex)
  running := State.acRuns
  run := guarded
    (fun s c =>
      let n := c.tgtIndex
      firstOf [whenS ((s.acOf n).st == .retired) .sRetired,
        whenS (c.field 16 1 == 0 && s.acInSafety n && !(s.sessionValid c)) .sBusySafety,
        whenS (s.acInSafety n && s.logFull) .sLogFull])
    (fun e s =>
      let n := e.cmd.tgtIndex
      let v := e.cmd.field 16 1
      let s := if s.acInSafety n then s.logChange e.cmd.route 0x04 0 n (acBlock s n []) (acBlock s n []) else s
      let s := s.setCommit n [(.acService, v)]
      let x := s.acOf n
      .ok (if v = 0 then
          let s := s.setAc n { x with st := if x.st = .powerOn then .powerOn else .outOfService, target := none, test := none }
          (((s.acToSafe n).acStage n).hartAbort n).hartFlush n
        else if x.st = .outOfService then
          (s.setAc n { x with st := .safe, target := none, test := none, modeAt := s.tb0, delivered := false, changed := false }).modemsNext
        else s))

/-- `AC.TEST_OUTPUT`. -/
def specAcTestOutput : CmdSpec where
  op := 0x0402
  layout := fun _ => { ranges := [(16, 4)] }
  target := targetBelow 0x04 32
  params := fun _ c => realIn (Q.ofInt 0) (Q.ofInt 23) (c.field 16 4)
  owner := fun _ c => some (acOwner c.tgtIndex)
  running := State.acRuns
  run := guarded
    (fun s c => whenS ((s.acOf c.tgtIndex).st == .retired) .sRetired |> fun r =>
      if r = .sOk then whenS (!((s.acOf c.tgtIndex).st == .outOfService && acIsAo (s.acMode c.tgtIndex))) .sState else r)
    (fun e s => .ok (s.setAc e.cmd.tgtIndex { s.acOf e.cmd.tgtIndex with test := some (e.cmd.field 16 4) }))

/-- The decision order of R247. -/
def acCalCheck (s : State) (c : Cmd) : Status :=
  let n := c.tgtIndex
  let x := s.acOf n
  let oos := x.st == .outOfService
  let inService := c.expert && bitOf (c.field 16 1) 0
  firstOf
    [whenS (s.acInSafety n && !oos) .sBusySafety,
     whenS (x.st == .retired) .sRetired,
     whenS (!oos && !(inService && !acIsAo (s.acMode n) && x.st == .inService)) .sBusy,
     whenS x.cal.isSome .sBusy,
     whenS (s.acInSafety n && s.logFull) .sLogFull]

/-- `AC.CALIBRATE`. -/
def specAcCalibrate : CmdSpec where
  op := 0x0403
  layout := fun c => if c.expert then { masks := [(16, 3)] } else {}
  target := targetBelow 0x04 32
  needsSession := fun s c => s.acInSafety c.tgtIndex && (s.acOf c.tgtIndex).st == .outOfService
  owner := fun _ c => some (acOwner c.tgtIndex)
  running := State.acRuns
  run := guarded acCalCheck (fun e s =>
    let n := e.cmd.tgtIndex
    let x := s.acOf n
    let s := if s.acInSafety n then s.logChange e.cmd.route 0x04 0 n (acBlock s n []) (acBlock s n []) else s
    let inService := x.st != .outOfService
    if e.cmd.expert && bitOf (e.cmd.field 16 1) 1 then
      .ok ((s.setCommit n [(.acCalGain, 0), (.acCalOffset, 0)]).post .data .eAcCalibrated (acRes n) (n * 2 ^ 24 + b2n inService))
    else
      let wait := inService && s.hartBusy n
      .later (s.setAc n { x with
        cal := some { entry := e, inService := inService, waiting := if wait then some s.tb0 else none },
        st := if inService && !wait then .held else x.st }))

/-- Target of a self-test: a channel or a modem. -/
def acOrModem (_ : State) (c : Cmd) : Bool :=
  c.tgtClass == 0x04 && (decide (c.tgtIndex < 32) || decide (0x0100 ≤ c.tgtIndex ∧ c.tgtIndex < 0x0108)) && c.tgtSub == 0

/-- `AC.SELFTEST`. -/
def specAcSelftest : CmdSpec where
  op := 0x0404
  target := acOrModem
  check := fun s c =>
    if c.tgtIndex < 32 then
      firstOf [whenS ((s.acOf c.tgtIndex).st == .retired) .sRetired, whenS (s.acOf c.tgtIndex).testCmd.isSome .sBusy]
    else firstOf [whenS (s.modemOf (c.tgtIndex - 0x0100)).retired .sRetired, whenS (s.modemOf (c.tgtIndex - 0x0100)).testCmd.isSome .sBusy]
  run := fun e s =>
    let n := e.cmd.tgtIndex
    if n < 32 then .later (s.setAc n { s.acOf n with testCmd := some e })
    else .later (s.setModem (n - 0x0100) { s.modemOf (n - 0x0100) with testCmd := some e })

/-- The state of a channel as a number, in the order of R249. -/
def AcState.num : AcState → Nat
  | .powerOn => 0 | .safe => 1 | .inService => 2 | .held => 3 | .switching => 4 | .outOfService => 5 | .retired => 6

/-- The values of `AC.STATUS` in the order of R259; the spec gives their layout nowhere (notes/assumptions/21.md). -/
def acStatusValues (s : State) (n : Nat) (expert : Bool) : List Int :=
  let c := s.acOf n
  [(c.st.num : Int), s.acStatusWord n, c.rx.current, acScaled (s.param .acEu4 n) (s.param .acEu20 n) c.rx.current, c.rx.supply, c.rx.term,
   c.rx.temp, s.faultCount (acKey n)]
    ++ (if expert then [signed 32 (s.param .acCalGain n), signed 32 (s.param .acCalOffset n), c.hart.queue.length,
          (match s.modemFor (n / 4) with | some m => m | none => 0)] else [])

/-- `AC.STATUS`. -/
def specAcStatus : CmdSpec where
  op := 0x0405
  target := targetBelow 0x04 32
  long := fun _ => true
  run := fun e s => .long (Config.resultLayout (0x0405 * 2 + b2n e.cmd.expert) (acStatusValues s e.cmd.tgtIndex e.cmd.expert)) s

/-- `AC.HART_CONFIG`. -/
def specAcHartConfig : CmdSpec where
  op := 0x0406
  layout := fun c => if c.expert then { ranges := [(16, 3), (20, 8)] } else { ranges := [(16, 2), (20, 4)] }
  target := targetBelow 0x04 32
  needsSession := fun s c => s.acInSafety c.tgtIndex
  params := fun s c => acInRange s c.tgtIndex (hartSettings c)
  check := acConfigureCheck hartSettings
  run := acApply hartSettings

/-- `AC.HART_PASS`. -/
def specAcHartPass : CmdSpec where
  op := 0x0407
  layout := fun _ => { ranges := [(17, 3), (20, 1), (22, 2)] }
  route := fun c => c.onHost
  target := fun _ c => c.tgtClass == 0x04 && c.tgtIndex == 0x0200 && c.tgtSub == 0
  params := fun _ c => decide (c.field 17 1 < 8) && decide (c.field 20 1 < 8)
  check := fun s c => firstOf
    [whenS (s.streamOpen (c.field 18 2)) .sBusy, whenS (s.streamOpen (c.field 22 2)) .sBusy]
  run := fun e s =>
    let c := e.cmd
    .later { s with
      hart := { s.hart with passes := s.hart.passes ++ [{ entry := e }] },
      disp := { s.disp with streams := s.disp.streams ++
        [{ ring := c.field 17 1, stream := c.field 18 2, toHost := false, entry := e },
         { ring := c.field 20 1, stream := c.field 22 2, toHost := true, entry := e }] } }

/-- Which channel a burst stream is for: one, or all with index 0x0200. -/
def burstChannel (c : Cmd) : Option Nat := if c.tgtIndex = 0x0200 then none else some c.tgtIndex

/-- `AC.HART_BURST`. -/
def specAcHartBurst : CmdSpec where
  op := 0x0408
  layout := fun _ => { ranges := [(16, 4)] }
  route := fun c => c.onHost
  target := fun _ c => c.tgtClass == 0x04 && (decide (c.tgtIndex < 32) || c.tgtIndex == 0x0200) && c.tgtSub == 0
  params := fun _ c => decide (c.field 16 1 ≤ 1) && decide (c.field 17 1 < 8)
  check := fun s c =>
    if c.field 16 1 = 1 then whenS (s.streamOpen (c.field 18 2)) .sBusy
    else whenS (!(s.hart.bursts.any (fun x => x.1.cmd.field 17 1 == c.field 17 1 && x.1.cmd.field 18 2 == c.field 18 2))) .sNotFound
  run := fun e s =>
    let c := e.cmd
    if c.field 16 1 = 1 then
      .later { s with
        hart := { s.hart with bursts := s.hart.bursts ++ [(e, burstChannel c, [])] },
        disp := { s.disp with streams := s.disp.streams ++
          [{ ring := c.field 17 1, stream := c.field 18 2, toHost := true, entry := e }] } }
    else
      .ok { s with disp := { s.disp with streams := s.disp.streams.map (fun x =>
        if x.ring = c.field 17 1 ∧ x.stream = c.field 18 2 then { x with closing := true } else x) } }

/-- The commands of class 0x04 by opcode. -/
def specAc : List CmdSpec :=
  [specAcConfigure, specAcSetService, specAcTestOutput, specAcCalibrate, specAcSelftest, specAcStatus, specAcHartConfig,
   specAcHartPass, specAcHartBurst]

/-- AC_CONFIGURE (R257). -/
def execAcConfigure (t : Nat) (c : Cmd) (s : State) : Host.Outcome State Fault Refusal := .next (specAcConfigure.submit c (s.advance t))
/-- AC_SET_SERVICE (R249). -/
def execAcSetService (t : Nat) (c : Cmd) (s : State) : Host.Outcome State Fault Refusal := .next (specAcSetService.submit c (s.advance t))
/-- AC_TEST_OUTPUT (R259). -/
def execAcTestOutput (t : Nat) (c : Cmd) (s : State) : Host.Outcome State Fault Refusal := .next (specAcTestOutput.submit c (s.advance t))
/-- AC_CALIBRATE (R247). -/
def execAcCalibrate (t : Nat) (c : Cmd) (s : State) : Host.Outcome State Fault Refusal := .next (specAcCalibrate.submit c (s.advance t))
/-- AC_SELFTEST (R246). -/
def execAcSelftest (t : Nat) (c : Cmd) (s : State) : Host.Outcome State Fault Refusal := .next (specAcSelftest.submit c (s.advance t))
/-- AC_STATUS (R259). -/
def execAcStatus (t : Nat) (c : Cmd) (s : State) : Host.Outcome State Fault Refusal := .next (specAcStatus.submit c (s.advance t))
/-- AC_HART_CONFIG (R253). -/
def execAcHartConfig (t : Nat) (c : Cmd) (s : State) : Host.Outcome State Fault Refusal := .next (specAcHartConfig.submit c (s.advance t))
/-- AC_HART_PASS (R254). -/
def execAcHartPass (t : Nat) (c : Cmd) (s : State) : Host.Outcome State Fault Refusal := .next (specAcHartPass.submit c (s.advance t))
/-- AC_HART_BURST (R255). -/
def execAcHartBurst (t : Nat) (c : Cmd) (s : State) : Host.Outcome State Fault Refusal := .next (specAcHartBurst.submit c (s.advance t))

/-! ## Events -/

/-- AC_MODE_SWITCH_END (R232). -/
def execAcModeSwitchEnd (t n : Nat) (s : State) : Host.Outcome State Fault Refusal := onResource n 32 s (fun s => ((s.advance t).acModeEnd n).modemsNext)
/-- AC_SILENCE_TIMEOUT (R233). -/
def execAcSilenceTimeout (t n : Nat) (s : State) : Host.Outcome State Fault Refusal := onResource n 32 s (fun s => (s.advance t).acSilence n)
/-- AC_DIAGNOSTIC (R241). -/
def execAcDiagnostic (t n : Nat) (k : AcDiag) (m : AcMeas) (s : State) : Host.Outcome State Fault Refusal :=
  onResource n 32 s (fun s => (s.advance t).acDiagnosed n k m)
/-- AC_THERMAL (R243). -/
def execAcThermal (t n : Nat) (temp : Int) (s : State) : Host.Outcome State Fault Refusal := onResource n 32 s (fun s => (s.advance t).acThermal n temp)
/-- AC_THERMAL_RECOVERY (R243). -/
def execAcThermalRecovery (t n : Nat) (s : State) : Host.Outcome State Fault Refusal :=
  onResource n 32 s (fun s => (s.advance t).acCooled n)
/-- AC_REFERENCE_CHECK (R246). -/
def execAcReferenceCheck (t n : Nat) (ppm : Int) (m : AcMeas) (s : State) : Host.Outcome State Fault Refusal :=
  onResource n 32 s (fun s => (s.advance t).acReference n ppm m)
/-- AC_READBACK_RECHECK (R248). -/
def execAcReadbackRecheck (t n : Nat) (m : AcMeas) (s : State) : Host.Outcome State Fault Refusal := onResource n 32 s (fun s => (s.advance t).acRecheck n m)
/-- AC_CALIBRATION_END (R247). -/
def execAcCalibrationEnd (t n : Nat) (gain offset : Int) (s : State) : Host.Outcome State Fault Refusal :=
  onResource n 32 s (fun s => (s.advance t).acCalEnd n gain offset)
/-- AC_ISOLATED_SAMPLE (R234). -/
def execAcIsolatedSample (t n : Nat) (m : AcMeas) (s : State) : Host.Outcome State Fault Refusal := onResource n 32 s (fun s => (s.advance t).acSample n m)

/-- FA has failed (R245): the isolated sides lose their power. -/
def State.faFail (mv : Nat) (s : State) : State :=
  if mv < 16000 ∧ Tab.get (fun _ => false) s.power.failFlags 2 = false then
    ((s.setSupply 2 mv true true).tellSupply (supplyLost true 2 mv)).each State.acPowerLoss (List.range 32)
  else s

/-- FA is back (R245): every isolated side restarts from its configuration. -/
def State.faRecover (mv : Nat) (s : State) : State :=
  if 18000 < mv ∧ Tab.get (fun _ => false) s.power.failFlags 2 then
    let s := s.setSupply 2 mv false false
    (if s.power.restoreDone then s.each State.acStart (List.range 32) else s).modemsNext
  else if 18000 < mv then s.setSupply 2 mv false false
  else s

/-- FA_FAIL (R245). -/
def execFaFail (t mv : Nat) (s : State) : Host.Outcome State Fault Refusal := .next ((s.advance t).faFail mv)
/-- FA_RECOVERY (R245). -/
def execFaRecovery (t mv : Nat) (s : State) : Host.Outcome State Fault Refusal := .next ((s.advance t).faRecover mv)

end Sys2Proof.Machine
end

