-- ==== Sys2Proof/Machine/Digital.lean ====
section
/-! DEFINITION. Digital channels: frames, switch, diagnostics, supply sag, safety pairs, common fault bit (10 R261 to R279). -/

namespace Sys2Proof.Machine

/-- Digital channel `n`. -/
def State.dcOf (s : State) (n : Nat) : DcChan := Tab.get (fun _ => {}) s.dc n
/-- Replaces digital channel `n`. -/
def State.setDc (n : Nat) (c : DcChan) (s : State) : State := { s with dc := Tab.put (fun _ => {}) s.dc n c }
/-- Group `g`. -/
def State.dcGroup (s : State) (g : Nat) : DcGroup := Tab.get (fun _ => {}) s.dcGroups g
/-- Replaces group `g`. -/
def State.setDcGroup (g : Nat) (x : DcGroup) (s : State) : State := { s with dcGroups := Tab.put (fun _ => {}) s.dcGroups g x }
/-- The group of a channel's supply. -/
def State.groupOf (s : State) (n : Nat) : DcGroup := s.dcGroup (n / 16)

/-- A digital channel as event source and as a retirable resource. -/
def dcRes (n : Nat) : Res := { cls := 0x05, index := n }
def dcKey (n : Nat) : FaultKey := { cls := 2, index := n }
/-- A group as event source (R282). -/
def dgRes (g : Nat) : Res := { cls := 0x05, index := 0x0110 + g }

/-- The mode of channel `n` in effect; output modes; modes that deliver a level. -/
def State.dcMode (s : State) (n : Nat) : Nat := s.param .dcMode n
def dcIsDo (m : Nat) : Bool := m == 1 || m == 2
def dcReads (m : Nat) : Bool := m != 1

/-- A flag of the status word decided on the isolated side. -/
def DcChan.flag (c : DcChan) (k : Nat) : Bool := bitOf c.flags k
def DcChan.setFlag (k : Nat) (b : Bool) (c : DcChan) : DcChan := { c with flags := setBits c.flags k k (b2n b) }

/-- Held off awaiting acknowledgement. -/
def DcChan.latched (c : DcChan) : Bool := c.olLatched || c.uvLatched

/-! ## The switch (R266 to R269, R272) -/

/-- The safe level (R269). -/
def State.dcSafeLevel (s : State) (n : Nat) : Bool :=
  let c := s.dcOf n
  if c.st = .retired ∧ c.switchRetired then false else
  match s.param .dcSafeState n with
  | 0 => false
  | 1 => true
  | _ => (match c.lastCmd with | some b => b | none => false)

/-- Nothing holds the switch off (R266, R267, R272, R278). -/
def State.dcMayClose (s : State) (n : Nat) : Bool :=
  let c := s.dcOf n
  !(s.groupOf n).uv && !c.latched && !c.retry && !c.flag 2 && !c.faultOff && !c.monitor && dcIsDo (s.dcMode n)
    && c.st != .switching && c.st != .powerOn

/-- The switch follows its command as far as nothing holds it off; a turn-off is timed for the off-state checks. -/
def State.dcFollow (n : Nat) (s : State) : State :=
  let c := s.dcOf n
  let on := c.cmd && s.dcMayClose n
  s.setDc n { c with on := on, offAt := if c.on && !on then s.tb0 else c.offAt }

/-- The isolated side is commanded to a level; a command off ends an overload and a latch (R266, R272). -/
def State.dcCommand (n : Nat) (b : Bool) (s : State) : State :=
  let c := s.dcOf n
  let c := if b then { c with cmd := true } else { (c.setFlag 1 false) with cmd := false, olLatched := false, uvLatched := false, retry := false }
  (s.setDc n c).dcFollow n

/-- The isolated side takes its safe state. -/
def State.dcToSafe (n : Nat) (s : State) : State :=
  let c := s.dcOf n
  let s := s.setDc n { c with st := if c.st = .inService then .safe else c.st, safe := true }
  if dcIsDo (s.dcMode n) then s.dcCommand n (s.fieldActive && s.dcSafeLevel n) else s

/-- An acknowledgement at the boundary (R270): without effect while the group's supply is still down. -/
def State.dcTakeAck (n : Nat) (s : State) : State :=
  let c := s.dcOf n
  if ¬ c.ack then s
  else
    let s := s.setDc n { c with ack := false }
    if (s.groupOf n).uv then s
    else (s.setDc n { s.dcOf n with olLatched := false, uvLatched := false }).dcFollow n

/-- What a valid frame makes the isolated side do (R263, R269). -/
def State.dcDrive (n : Nat) (s : State) : State :=
  let c := s.dcOf n
  let mode := s.dcMode n
  if ¬ s.fieldActive && dcIsDo mode then (s.setDc n { c with monitor := true, safe := true, cmd := false }).dcFollow n
  else
    let s := s.setDc n { c with monitor := !s.fieldActive }
    let c := s.dcOf n
    match c.st with
    | .retired => s.dcToSafe n
    | .powerOn => s
    | .switching => (s.setDc n { c with safe := true, cmd := false }).dcFollow n
    | .outOfService =>
      (match c.test with
       | some b => if s.power.phase == .holdUp then s.dcToSafe n else (s.setDc n { c with safe := false }).dcCommand n b
       | none => s.dcToSafe n)
    | _ =>
      if ¬ dcIsDo mode then s.setDc n { c with st := .inService, safe := false }
      else if s.power.phase == .holdUp then s.dcToSafe n
      else
        match c.target with
        | none => s.dcToSafe n
        | some b => ((s.setDc n { c with st := .inService, safe := false, lastCmd := some b }).dcCommand n b)

/-- A valid frame ends a silence (R265). -/
def State.dcHeard (n : Nat) (s : State) : State :=
  let c := s.dcOf n
  let s' := s.setDc n { c with silent := none, lastFrame := s.tb0 }
  match c.silent with
  | some _ => s'.post .data .eDcSilence (dcRes n) (q24 n ((s.tb0 - c.lastFrame) / 1000000 : Nat))
  | none => s'

/-- A frame with a CRC error: discarded and recorded; ten in a row are one channel fault (R263, R278). `outward`: the frame was
for the isolated side. -/
def State.dcBadFrame (n : Nat) (outward : Bool) (s : State) : State :=
  let c := s.dcOf n
  let k := (if outward then c.crcOut else c.crcRun) + 1
  let kept := if 10 ≤ k then 0 else k
  let s := (s.setDc n (if outward then { c with crcOut := kept } else { c with crcRun := kept })).post .data .eDcCouplerCrc (dcRes n) (q24 n k)
  if 10 ≤ k then s.fault .data .fDcCoupler (dcRes n) (n * 2 ^ 24) (dcKey n) else s

/-- A frame reaches the isolated side of channel `n`; `bad` where its CRC is wrong. -/
def State.dcFrame (n : Nat) (bad : Bool) (s : State) : State :=
  if (s.dcOf n).st = .powerOn then s
  else if bad then s.dcBadFrame n true
  else (((s.setDc n { s.dcOf n with crcOut := 0, isoSeq := (s.dcOf n).cfgSeq }).dcHeard n).dcDrive n).dcTakeAck n

/-! ## Status, quality, pairs and the common bit (R273 to R277) -/

/-- The even channel of a pair. -/
def evenOf (n : Nat) : Nat := n - n % 2

/-- The channel belongs to a safety pair. -/
def State.dcPaired (s : State) (n : Nat) : Bool := s.dcMode n == 3

/-- The flags that the isolated side reports (R277). -/
def State.dcReported (s : State) (n : Nat) : Nat :=
  let c := s.dcOf n
  let g := s.groupOf n
  c.flags + 2 ^ 4 * b2n g.sag + 2 ^ 5 * b2n g.uv + 2 ^ 6 * b2n c.latched + 2 ^ 7 * b2n (c.safe && dcIsDo (s.dcMode n))

/-- The status word as the channel reports it. -/
def State.dcStatusWord (s : State) (n : Nat) : Nat :=
  let c := s.dcOf n
  c.rx.flags + 2 ^ 8 * b2n (s.dcPaired n && (s.dcOf (evenOf n)).disc)
    + 2 ^ 10 * b2n (c.st == .switching || c.st == .outOfService || (c.changed && !c.delivered))
    + 2 ^ 15 * b2n (c.st == .retired)

/-- The quality of a channel's level. -/
def State.dcQuality (s : State) (n : Nat) : Nat :=
  let c := s.dcOf n
  let w := s.dcStatusWord n
  if c.st == .powerOn || !c.delivered || bitOf w 0 || bitOf w 5 || bitOf w 10 || bitOf w 15 || (bitOf w 9 && s.dcMode n == 2)
  then 0x80 else 0

/-- The value and quality that an index and sub-index of class 0x05 supply (R276). -/
def State.dcSource (s : State) (n sub : Nat) : Nat × Nat :=
  if n = 0x0100 then (b2n s.dcCommon, 0)
  else match sub with
  | 0 => (b2n (s.dcOf n).rx.level, s.dcQuality n)
  | 1 => (if s.param .dcLegacyFault 0 = 1 then 0 else s.dcStatusWord n, s.dcQuality n)
  | _ => (b2n (s.dcOf n).pairVal,
      if (s.dcOf n).st = .retired ∨ (s.dcOf (n + 1)).st = .retired then 0x80 else 0)

/-- The flags that the common fault bit gathers (R273). -/
def commonMask : Nat := 0x832F

/-- Some channel of either group shows a listed flag. -/
def State.dcAnyFlag (s : State) : Bool := (List.range 32).any (fun n => s.dcStatusWord n &&& commonMask != 0)

/-- The common fault bit sets with any listed flag (R273). -/
def State.dcCommonUpdate (s : State) : State :=
  if s.param .dcLegacyFault 0 = 1 && s.dcAnyFlag then { s with dcCommon := true } else s

/-- An acknowledgement of the common fault bit: without effect while any flag is set (R273). -/
def State.dcCommonAcknowledge (s : State) : State := if s.dcAnyFlag then s else { s with dcCommon := false }

/-- The channel shows its healthy level: TRUE, or FALSE for the odd channel of an antivalent pair (R274). -/
def State.dcHealthy (s : State) (n : Nat) : Bool :=
  (s.dcOf n).rx.level != (decide (n % 2 = 1) && s.param .dcPairSense (evenOf n) == 1)

/-- A channel of a pair forces the demand (R275). -/
def State.dcDemandFlag (s : State) (n : Nat) : Bool :=
  let w := s.dcStatusWord n
  bitOf w 0 || bitOf w 5 || bitOf w 10 || bitOf w 15

/-- The pair value in the snapshot update of a channel's frame (R275). -/
def State.dcPairUpdate (n : Nat) (s : State) : State :=
  let e := evenOf n
  if ¬ s.dcPaired e then s
  else
    let c := s.dcOf e
    let h0 := s.dcHealthy e
    let h1 := s.dcHealthy (e + 1)
    let disagree := if h0 != h1 then (match c.disagree with | some a => some a | none => some s.tb0) else none
    let both := !h0 && !h1
    let cleared := c.disc && c.discDemand && h0 && h1
    let disc := c.disc && !cleared
    let demand := !h0 || !h1 || s.dcDemandFlag e || s.dcDemandFlag (e + 1)
    s.setDc e { c with disagree := disagree, disc := disc, discDemand := disc && (c.discDemand || both), pairVal := !demand && !disc }

/-! ## Frames from the isolated side (R263, R264) -/

/-- The input stage delivers: past its filter time since the mode began or the supply returned, not silent, supply up. -/
def State.dcDelivers (s : State) (n : Nat) : Bool :=
  let c := s.dcOf n
  c.silent.isNone && !(s.groupOf n).uv
    && (s.dcMode n == 1 || decide (c.modeAt + s.param .dcFilter n * 1000 ≤ s.tb0))

/-- A good frame: level, flags and measurements enter the snapshot; an edge of the level is a trigger at this moment (R264, 05 R133). -/
def State.dcGoodFrame (n : Nat) (m : DcMeas) (s : State) : State :=
  let c := { s.dcOf n with crcRun := 0 }
  let rx : DcRx := { c.rx with flags := s.dcReported n, current := m.current, term := m.term, supply := m.supply, temp := m.temp }
  if c.st == .switching || !(s.dcDelivers n) then s.setDc n { c with rx := rx }
  else
    let edge := dcReads (s.dcMode n) && c.level != c.rx.level
    let s := s.setDc n { c with delivered := true, rx := if dcReads (s.dcMode n) then { rx with level := c.level } else rx }
    if edge then { s with triggers := s.triggers ++ [{ src := 2, index := n, rising := c.level }] } else s

/-- A frame from the isolated side of channel `n`. -/
def State.dcFrameIn (n : Nat) (bad : Bool) (m : DcMeas) (s : State) : State :=
  if (s.dcOf n).st = .powerOn then s
  else if bad then s.dcBadFrame n false else ((s.dcGoodFrame n m).dcPairUpdate n).dcCommonUpdate

/-! ## Decisions of the isolated side -/

/-- The level of a terminal voltage in mV (R261): between the thresholds of `DI_TYPE` the level stays. -/
def dcLevelOf (type : Nat) (mv : Int) (was : Bool) : Bool :=
  let (up, down) : Int × Int := if type = 3 then (8000, 6000) else (11000, 9000)
  if up ≤ mv then true else if mv ≤ down then false else was

/-- Every sample over `FILTER`, the last at `mv`, has shown one level, which is accepted (R264). -/
def State.dcAccept (n : Nat) (mv : Int) (s : State) : State :=
  let c := s.dcOf n
  if c.st == .powerOn || c.st == .switching || !(dcReads (s.dcMode n)) then s
  else s.setDc n { c with level := dcLevelOf (s.param .dcDiType n) mv c.level }

/-- The silence timeout (R265). -/
def State.dcSilence (n : Nat) (s : State) : State :=
  let c := s.dcOf n
  if c.st != .powerOn && c.silent.isNone && !(s.pair.st != .unpaired && dcIsDo (s.dcMode n)) && decide (c.lastFrame + s.param .dcSilenceTo n * 1000000 ≤ s.tb0) then
    (s.setDc n { c with silent := some s.tb0, silences := c.silences + 1 }).dcToSafe n
  else s

/-- An overload switches the output off (R266): above 0.65 A for 20 ms, or at the limit for 2 ms. -/
def State.dcOverload (n peak : Nat) (s : State) : State :=
  let c := s.dcOf n
  if ¬ c.on ∨ peak ≤ 650 then s
  else
    let latch := s.param .dcOlLatch n == 1
    ((s.setDc n { c.setFlag 1 true with olLatched := latch, retry := !latch, overAt := s.tb0, overloads := c.overloads + 1 }).dcFollow n).post
      .data .eDcOverload (dcRes n) (q24 n peak)

/-- The re-try after `OL_RETRY` (R266). -/
def State.dcOlRetryEnd (n : Nat) (s : State) : State :=
  let c := s.dcOf n
  if c.retry && decide (c.overAt + s.param .dcOlRetry n * 1000000 ≤ s.tb0) then (s.setDc n { c with retry := false }).dcFollow n else s

/-- The switch reaches 150 °C (R267); again once its sensor has been below 135 °C. -/
def State.dcThermal (n : Nat) (temp : Int) (s : State) : State :=
  let c := s.dcOf n
  if ¬ dcIsDo (s.dcMode n) || c.st == .powerOn || c.st == .retired || decide (temp < 1500) || (c.flag 2 && c.coolAt.isNone) then s
  else
    let s := (s.setDc n { c.setFlag 2 true with coolAt := none }).dcFollow n
    if c.flag 1 then s.faultUncounted .data .fDcThermal (dcRes n) (q24 n temp) (dcKey n)
    else s.fault .data .fDcThermal (dcRes n) (q24 n temp) (dcKey n)

/-- 5 s after its sensor fell below 135 °C the channel follows its command again (R267). -/
def State.dcCooled (n : Nat) (s : State) : State :=
  let c := s.dcOf n
  match c.coolAt with
  | some a => if a + 5000000000 ≤ s.tb0 then (s.setDc n { c.setFlag 2 false with coolAt := none }).dcFollow n else s
  | none => s

/-- Off-state checks start 2 ms after a turn-off (R271). -/
def State.dcOffChecks (s : State) (n : Nat) : Bool :=
  let c := s.dcOf n
  !c.on && !c.monitor && decide (c.offAt + 2000000 ≤ s.tb0)

/-- The condition of a diagnostic (R271), with the switch at `on`. -/
def State.dcCondition (s : State) (n : Nat) (k : DcDiag) (m : DcMeas) (on : Bool) : Bool :=
  let mode := s.dcMode n
  let ow := s.param .dcOwEn n == 1
  match k with
  | .openOutput => dcIsDo mode && ow && !on && decide (4000 ≤ m.term ∧ m.term ≤ 11000)
  | .openInput => !dcIsDo mode && ow && !(s.groupOf n).sag && !(s.groupOf n).uv && decide (m.input < 200)
  | .extVoltage => dcIsDo mode && !on && decide (11000 < m.term) && decide (m.current ≤ 5)
  | .stuckOn => dcIsDo mode && !on && decide (5 < m.current)
  | .failedOpen => dcIsDo mode && on && decide (m.term < 6000) && decide (m.current < 650)

/-- The check runs: the isolated side works, and an off-state check has waited. -/
def State.dcChecks (s : State) (n : Nat) (k : DcDiag) : Bool :=
  let c := s.dcOf n
  c.st != .powerOn && c.st != .retired && c.st != .switching
    && (match k with | .openInput => true | .failedOpen => c.on && !c.monitor | _ => s.dcOffChecks n)

/-- A switch fault: off until the re-test (R278). -/
def State.dcSwitchFault (n what : Nat) (s : State) : State :=
  let c := s.dcOf n
  ((s.setDc n { c.setFlag 9 true with faultOff := true, faultAt := s.tb0 }).dcFollow n).fault .data .fDcSwitch (dcRes n) (q24 n what) (dcKey n)

/-- A diagnostic has persisted for its detection time (R271). -/
def State.dcDiagnosed (n : Nat) (k : DcDiag) (m : DcMeas) (s : State) : State :=
  let c := s.dcOf n
  if ¬ (s.dcChecks n k && s.dcCondition n k m c.on) then s
  else match k with
  | .stuckOn => if c.flag 9 then s else s.dcSwitchFault n 0
  | .failedOpen => if c.flag 9 then s else s.dcSwitchFault n 1
  | .extVoltage => if c.flag 3 then s else (s.setDc n (c.setFlag 3 true)).post .data .eDcExtVoltage (dcRes n) (q24 n m.term)
  | _ => if c.flag 0 then s else (s.setDc n (c.setFlag 0 true)).post .data .eDcOpen (dcRes n) (n * 2 ^ 24)

/-- The 50 µs check clears flags whose condition no longer holds (R271); `normal`: at most 0.65 A for 20 ms (R266); the 5 s of a
THERMAL begin below 135 °C (R267). -/
def State.dcCheck (n : Nat) (m : DcMeas) (normal : Bool) (s : State) : State :=
  let c := s.dcOf n
  let opened := c.flag 0 && (s.dcCondition n .openOutput m c.on || s.dcCondition n .openInput m c.on)
  let ext := c.flag 3 && s.dcCondition n .extVoltage m c.on
  s.setDc n { ((c.setFlag 0 opened).setFlag 3 ext).setFlag 1 (c.flag 1 && !(c.on && normal)) with
    coolAt := if c.flag 2 && c.coolAt.isNone && decide (m.temp < 1350) then some s.tb0 else c.coolAt }

/-- The re-test 100 ms after a switch fault, at the commanded level (R278). -/
def State.dcRetest (n : Nat) (m : DcMeas) (s : State) : State :=
  let c := s.dcOf n
  let again := s.setDc n { c with faultAt := s.tb0 }
  if ¬ c.faultOff || c.st == .retired || decide (s.tb0 < c.faultAt + 100000000) then s
  else if s.dcCondition n .stuckOn m c.cmd then again.fault .data .fDcSwitch (dcRes n) (q24 n 0) (dcKey n)
  else if s.dcCondition n .failedOpen m c.cmd then again.fault .data .fDcSwitch (dcRes n) (q24 n 1) (dcKey n)
  else (s.setDc n { c.setFlag 9 false with faultOff := false }).dcFollow n

/-- The channels of a group. -/
def groupChans (g : Nat) : List Nat := (List.range 16).map (fun k => 16 * g + k)

/-- The events of a group's supply that stands below its thresholds, while the module runs (R272; 03 R60). -/
def State.fdTold (g mv : Nat) (s : State) : State :=
  let s := s.postIf ((s.dcGroup g).sag && s.up) .data .eDcSag (dgRes g) (q24 (0x40 + g) mv)
  s.postIf ((s.dcGroup g).uv && s.up) .data .fFieldUndervoltage (dgRes g) (q24 (0x40 + g) mv)

/-- FDx below 14.0 V for 50 µs (R272): every output of the group off, re-tries cancelled (R281). -/
def State.fdUndervoltage (g mv : Nat) (s : State) : State :=
  if 14000 ≤ mv ∨ (s.dcGroup g).uv then s
  else
    let fresh := !(s.dcGroup g).sag
    let s := (s.setDcGroup g { sag := true, uv := true }).postIf (fresh && s.up) .data .eDcSag (dgRes g) (q24 (0x40 + g) mv)
    (s.each (fun n s =>
      let c := s.dcOf n
      (s.setDc n { c with retry := false, delivered := false, changed := c.changed && !c.delivered }).dcFollow n) (groupChans g)).postIf s.up
      .data .fFieldUndervoltage (dgRes g) (q24 (0x40 + g) mv)

/-- A channel at the recovery of its group (R272, R281). -/
def State.fdChannelBack (n : Nat) (s : State) : State :=
  let c := s.dcOf n
  let lat := dcIsDo (s.dcMode n) && c.cmd && s.param .dcUvReturn n == 1
  (s.setDc n { c with uvLatched := c.uvLatched || lat, modeAt := s.tb0, delivered := false }).dcFollow n

/-- FDx has been above its recovery level for 50 ms (R272). -/
def State.fdRecover (g mv : Nat) (s : State) : State :=
  let x := s.dcGroup g
  if x.uv then
    (if 19000 < mv then (s.setDcGroup g {}).each State.fdChannelBack (groupChans g) else s)
  else if 18300 < mv then s.setDcGroup g { x with sag := false } else s

/-- The discrepancy time of a pair has passed (R275). -/
def State.dcDiscrepant (n : Nat) (s : State) : State :=
  let e := evenOf n
  let c := s.dcOf e
  match c.disagree with
  | some a =>
    if s.dcPaired e && !c.disc && decide (a + s.param .dcDiscTime e * 1000000 < s.tb0) then
      ((s.setDc e { c with disc := true, discDemand := false, pairVal := false }).post .data .eDcDiscrepancy (dcRes e)
        (q24 e ((s.tb0 - a) / 1000000 : Nat))).dcCommonUpdate
    else s
  | none => s

/-! ## Mode, start, retirement -/

/-- The paths are switched for the new mode (R262). -/
def State.dcModeEnd (n : Nat) (s : State) : State :=
  let c := s.dcOf n
  if c.st ≠ .switching then s
  else (s.setDc n { c with
      st := .safe, modeAt := s.tb0, delivered := false, changed := true, flags := 0, safe := true, olLatched := false,
      uvLatched := false, retry := false, faultOff := false }).post .data .eDcMode (dcRes n) (n * 2 ^ 24 + s.dcMode n)

/-- An isolated side starts from its configuration (R279; 03 R74, step 8). -/
def State.dcStart (n : Nat) (s : State) : State :=
  let st : DcState := (if s.isRetired (dcKey n) then .retired
    else if s.param .dcService n = 0 then .outOfService else .safe)
  (s.setDc n {
      st := st, modeAt := s.tb0, lastFrame := s.tb0, offAt := s.tb0,
      switchRetired := s.faults.store.retired.any (fun r =>
        r.key == dcKey n && (r.last == Code.fDcSwitch.num || r.last == Code.fDcThermal.num)) }).dcToSafe n

/-- Channel `n` is RETIRED (R278): for a switch fault or THERMAL it drives OFF (R269); a self-test asked for is answered. -/
def State.dcRetire (n code : Nat) (s : State) : State :=
  if (s.dcOf n).st = .retired then s else
  let s := s.markRetired (dcKey n) Code.fDcRetired.num code
  let sw := code == Code.fDcSwitch.num || code == Code.fDcThermal.num
  let c := s.dcOf n
  let s := (s.setDc n { c with st := .retired, switchRetired := sw, test := none, testCmd := none }).dcToSafe n
  let s := match c.testCmd with
    | some e => s.complete e .sRetired 0 []
    | none => s
  (((s.faultUncounted .data .fDcRetired (dcRes n) (n * 2 ^ 24 + code) (dcKey n)).causeRetired 0x05 n).dcPairUpdate n).dcCommonUpdate

end Sys2Proof.Machine
end

