-- ==== Sys2Proof/Machine/TimeBase.lean ====
section
/-! DEFINITION. The calendar's arithmetic (17 R462) and the values of the time bases (14 R404 to R408, 13 R351). -/

namespace Sys2Proof.Machine

/-! ## The calendar -/

/-- Days from 2000-01-01 to a date (R462). -/
def daysOf (y m d : Nat) : Nat :=
  let y0 := (if m ≤ 2 then y - 1 else y) - 1600
  let yoe := y0 % 400
  let doy := (153 * (if m > 2 then m - 3 else m + 9) + 2) / 5 + d - 1
  y0 / 400 * 146097 + (yoe * 365 + yoe / 4 - yoe / 100 + doy) + 60 - 146097

/-- The date a number of days after 2000-01-01: year, month, day (R462). -/
def dateOf (days : Nat) : Nat × Nat × Nat :=
  let n := days + 146097 - 60
  let doe := n % 146097
  let yoe := (doe - doe / 1460 + doe / 36524 - doe / 146096) / 365
  let doy := doe - (365 * yoe + yoe / 4 - yoe / 100)
  let mp := (5 * doy + 2) / 153
  let m := if mp < 10 then mp + 3 else mp - 9
  (yoe + n / 146097 * 400 + 1600 + b2n (decide (m ≤ 2)), m, doy - (153 * mp + 2) / 5 + 1)

/-- ISO weekday of a day: 2000-01-01 was a Saturday. -/
def weekdayOf (days : Nat) : Nat := (days + 5) % 7 + 1

/-- A leap year (R462). -/
def isLeap (y : Nat) : Bool := y % 4 == 0 && (y % 100 != 0 || y % 400 == 0)

/-- Days of a month. -/
def monthDays (y m : Nat) : Nat :=
  if m = 2 then (if isLeap y then 29 else 28) else if m = 4 ∨ m = 6 ∨ m = 9 ∨ m = 11 then 30 else 31

/-- The check of a written time (R465). -/
def dateOk (y m d h mi se : Nat) : Bool :=
  decide (2000 ≤ y ∧ y ≤ 2399 ∧ 1 ≤ m ∧ m ≤ 12 ∧ 1 ≤ d ∧ d ≤ monthDays y m ∧ h ≤ 23 ∧ mi ≤ 59 ∧ se ≤ 59)

/-- Ticks of 1/1,024 s since 2000-01-01 of a date and time. -/
def ticksOf (y m d h mi se sub : Nat) : Nat := (((daysOf y m d * 24 + h) * 60 + mi) * 60 + se) * 1024 + sub

/-- The end of 2399 in ticks. -/
def rangeEndTicks : Nat := 146097 * 86400 * 1024

/-- The calendar registers of a tick count (R463). -/
def calRegs (ticks : Nat) : CalRegs :=
  let sec := ticks / 1024
  let days := sec / 86400
  let (y, m, d) := dateOf days
  { sub := ticks % 1024,
    time := sec % 60 + sec / 60 % 60 * 256 + sec / 3600 % 24 * 65536 + weekdayOf days * 16777216,
    date := y + m * 65536 + d * 16777216 }

/-- Ticks of the calendar registers as written. -/
def CalRegs.ticks (r : CalRegs) : Nat :=
  ticksOf (bitsOf r.date 15 0) (bitsOf r.date 19 16) (bitsOf r.date 28 24) (bitsOf r.time 20 16) (bitsOf r.time 13 8)
    (bitsOf r.time 5 0) (bitsOf r.sub 9 0)

/-- The check of the registers as written. -/
def CalRegs.ok (r : CalRegs) : Bool :=
  dateOk (bitsOf r.date 15 0) (bitsOf r.date 19 16) (bitsOf r.date 28 24) (bitsOf r.time 20 16) (bitsOf r.time 13 8)
    (bitsOf r.time 5 0)

/-- Ticks of the calendar now: with the trimmed oscillator at its nominal rate plus `OFFSET`
(notes/assumptions/31.md). -/
def State.rtcTicks (s : State) : Nat :=
  let r := s.rtc
  let n := (((s.tb0 - r.at0 : Nat) : Int) * 1024 * (100000000 + r.offset)) / (1000000000 * 100000000)
  min (rangeEndTicks - 1) (r.tick0 + n.toNat)

/-- Ticks in ns since 2000-01-01. -/
def ticksNs (t : Nat) : Int := t * 1000000000 / 1024

/-! ## The time bases -/

/-- Time base `b`, 1 to 3. -/
def State.base (s : State) (b : Nat) : TimeBase := Tab.get (fun _ => {}) s.bases b

/-- Replaces time base `b`. -/
def State.setBase (b : Nat) (x : TimeBase) (s : State) : State := { s with bases := Tab.put (fun _ => {}) s.bases b x }

/-- A base at an instant of TB0, as it runs. -/
def TimeBase.runAt (x : TimeBase) (t : Nat) : Int :=
  x.v0 + (((t : Int) - x.at0) * (1000000000 + x.rate)) / 1000000000

/-- A base at an instant of TB0: through an inserted leap second TB3 stands at its last nanosecond (R407). -/
def TimeBase.valueAt (x : TimeBase) (t : Nat) : Int :=
  if t < x.standTill ∧ x.standTill ≤ t + 1000000000 then max (x.runAt t) (x.runAt x.standTill - 1) else x.runAt t

/-- The base is synchronised (R404). -/
def TimeBase.synced (x : TimeBase) : Bool :=
  match x.servo with
  | .locked => true
  | .master => true
  | .holdover => x.wasLocked && !x.holdOut
  | _ => false

/-- currentUtcOffset of TB1's master, where valid. -/
def TimeBase.utc (x : TimeBase) : Option Int := match x.master with | some a => a.utc | none => none

/-- TB2 has a source: a skipper's that follows TB1 is none while TB1 is not synchronised (R406; 15 R435). -/
def State.tb2Sourced (s : State) : Bool :=
  match s.param .tbSrc 2 with
  | 0 => false
  | 2 =>
    let n := s.param .tb2Can 2
    !(s.param .canSkipper n == 1 && s.param .canSkipFollow n == 1 && !(Tab.get (fun _ => {}) s.cans n).deferred) || (s.base 1).synced
  | _ => true

/-- Base `b` is synchronised; TB0 always is, and TB2 with no source never (R406). -/
def State.baseSynced (s : State) (b : Nat) : Bool := b == 0 || ((s.base b).synced && (b != 2 || s.tb2Sourced))

/-- TB1 disciplines TB3 (R406). -/
def State.tb3FromTb1 (s : State) : Bool :=
  s.param .tbSrc 3 == 0 && (s.base 1).synced && (s.base 1).utc.isSome && (s.base 3).stepped

/-- The value of base `b` at the instant `t` of TB0. -/
def State.baseAt (s : State) (b t : Nat) : Int :=
  if b = 0 then t
  else if b = 3 ∧ ¬ s.tb3FromTb1 then ticksNs s.rtcTicks + ((t : Int) - s.tb0)
  else (s.base b).valueAt t

/-- The value of base `b` now. -/
def State.baseNow (s : State) (b : Nat) : Int := s.baseAt b s.tb0

/-- The valid flag of a base (R406). -/
def State.baseValid (s : State) (b : Nat) : Bool :=
  if b = 3 then s.tb3FromTb1 || !s.rtc.lost else s.baseSynced b

/-- The pair timer (13 R351). -/
def State.pairTimer (s : State) : Int := (s.tb0 : Int) + s.pair.timerOff

/-- `baseSynced` as the refusal S_TIME_UNSYNCED, and for TB3 S_TIME_INVALID (R408). -/
def State.baseStatus (s : State) (b : Nat) : Status :=
  if b = 3 then whenS (!(s.baseValid 3)) .sTimeInvalid else whenS (!(s.baseSynced b)) .sTimeUnsynced

/-- A base as event source. -/
def tbRes (b : Nat) : Res := { cls := 0x0B, index := b }

/-- A signed measure saturated to 24 bits. -/
def sat24 (i : Int) : Int := clampInt (-(2 ^ 23)) (2 ^ 23 - 1) i

/-! ## Frames leave a port (R381, R400, R403) -/

/-- What leaves port `k` at the instant `t`: `TX_TIME` and the origin of a Sync are inserted on the fly, and a forwarded frame's wait is
added to its `CORR` or correctionField. -/
def State.departing (s : State) (k t : Nat) (i : TxItem) : Msg :=
  match i.body with
  | .ptp b kind v => .ptp k b kind (if kind = 1 then v else s.baseAt b t)
  | .frame f =>
    let wait : Int := ((t - i.at0) * 65536 : Nat)
    match f.body with
    | .omnar o =>
      .frame k { f with
        body := .omnar (if i.own then { o with oflags := o.oflags + 16 * b2n (s.baseValid 1), txTime := wrapInt 64 (s.baseAt 1 t) }
          else { o with corr := o.corr + wait }) }
    | .ptp m => .frame k { f with body := .ptp { m with corr := m.corr + wait } }
    | _ => .frame k f

/-- The next frame of port `k` leaves, if that is not after now. -/
def State.txOne (k : Nat) (s : State) : State :=
  let p := s.txPort k
  match p.pick with
  | none => s
  | some i => if s.tb0 < p.start then s else (s.setTxPort k (p.after i)).send (s.departing k p.start i)

/-- Up to `n` frames leave port `k`. -/
def State.txLoop (k : Nat) : Nat → State → State
  | 0, s => s
  | n + 1, s => State.txLoop k n (s.txOne k)

/-- Every frame that leaves by now has left: the ports' departures are taken at the rows that bear on them, each with the instant it has
by R400 (notes/assumptions/113.md). -/
def State.txRun (s : State) : State :=
  let s := State.txLoop 0 (s.txPort 0).queue.length s
  State.txLoop 1 (s.txPort 1).queue.length s

/-- Port `k` goes out of use: what waits there is lost. -/
def State.txClear (k : Nat) (s : State) : State :=
  let s := s.txRun
  s.setTxPort k { s.txPort k with queue := [] }

/-! ## Steps of a base (R405, R132, R214, R386, R412) -/

/-- The first instant of a grid at or after `v`. -/
def gridUp (v : Int) (phase period : Nat) : Int :=
  if period = 0 then v else v + (((phase : Int) - v) % period)

/-- A release or sample instant lies within 20 ns of its grid (05 R132). -/
def onGrid (v : Int) (phase period : Nat) : Bool :=
  let r := (v + 20 - phase) % (max 1 period : Nat)
  decide (r ≤ 40)

/-- A task's grid is TB1's: cyclic or safety, not in a pair. -/
def State.onTb1 (s : State) (i : Nat) : Bool :=
  (s.param .taskKind i == 1 || s.param .taskKind i == 5) && s.param .taskTimeBase i == 1

/-- Task `i` follows TB1 to its new grid: not before `CYCLE` after its previous release (R132). -/
def State.taskRealign (i : Nat) (s : State) : State :=
  let x := s.taskOf i
  match x.lastRelease with
  | none => s
  | some r =>
    if s.onTb1 i && x.state != .stopped && x.state != .halted then
      let c := s.param .taskCycle i
      let v := s.baseAt 1 (r + c)
      let more := gridUp v (s.param .taskPhase i) c - v
      (s.setTask i { x with notBefore := r + c }).post .control .eTaskRealigned { cls := 0x02, index := i } (more / 1000).toNat
    else s

/-- Loop `i` as it runs. -/
def State.loopOf (s : State) (i : Nat) : LoopRun := Tab.get (fun _ => {}) s.loops i
/-- Replaces loop `i`. -/
def State.setLoop (i : Nat) (x : LoopRun) (s : State) : State := { s with loops := Tab.put (fun _ => {}) s.loops i x }

/-- Loop `i` follows TB1 to its new grid (R214). -/
def State.loopRealign (i : Nat) (s : State) : State :=
  let x := s.loopOf i
  if s.param .loopEn i = 1 ∧ s.param .loopTimeBase i = 1 then
    match x.lastSample with
    | some r => (s.setLoop i { x with notBefore := r + s.param .loopTs i * 10000 }).post .control .eLoopRealigned { cls := 0x07, index := i } i
    | none => s
  else s

/-- Pulse generator `k`. -/
def State.pgOf (s : State) (k : Nat) : PgRun := Tab.get (fun _ => {}) s.pgs k
/-- Replaces pulse generator `k`. -/
def State.setPg (k : Nat) (x : PgRun) (s : State) : State := { s with pgs := Tab.put (fun _ => {}) s.pgs k x }

/-- What a generator does after a step of its base (R412): a periodic one fires next at the first instant of its grid at
least `PG_PERIOD` after its last firing; a once-generator keeps its instant, so that one skipped is due at once. -/
def State.pgStepped (b : Nat) (d : Int) (k : Nat) (s : State) : State :=
  let x := s.pgOf k
  if ¬ x.armed ∨ s.param .pgTb k ≠ b ∨ s.param .pgMode k ≠ 2 then s
  else
    let p := s.param .pgPeriod k * 1000
    match x.last with
    | some l => s.setPg k { x with last := some (l + d), next := gridUp (max (l + d + p) (s.param .pgStart k)) (s.param .pgStart k) p }
    | none => s

/-- A step of base `b` by `d` ns: counted and recorded; a step of TB1 moves the grids that follow it, outside a pair. -/
def State.baseStep (b : Nat) (d : Int) (s : State) : State :=
  let s := s.txRun
  let x := s.base b
  let s := s.setBase b { x with v0 := x.v0 + d, disc := (x.disc + 1) % 256 }
  let s := s.post .data .eTimeStepped (tbRes b) (q24 b (sat24 (d / 1000)))
  let s := s.each (State.pgStepped b d) (List.range 8)
  if b = 1 ∧ ¬ s.paired then
    let s := { s with net := { s.net with realignDue := s.net.realignDue || (s.base 1).everSynced } }
    (s.each State.taskRealign (List.range 16)).each State.loopRealign (List.range 512)
  else s

/-- A new rate of a base from now on, at most ±500 ppm from nominal (R405). -/
def State.baseRate (b : Nat) (ppb : Int) (s : State) : State :=
  let s := s.txRun
  let x := s.base b
  s.setBase b { x with v0 := x.valueAt s.tb0, at0 := s.tb0, rate := clampInt (-500000) 500000 ppb }

/-- The rate that the servo chooses, which R404 only bounds: a free value (notes/assumptions/3.md). -/
def State.baseRateFree (b : Nat) (s : State) : State :=
  (s.baseRate b ((s.drawn.toNat % 1000001 : Nat) - 500000)).afterDraw

/-- A base becomes synchronised: TB1's first time in an epoch moves the network cycle's grid (R386). -/
def State.baseLocked (b : Nat) (s : State) : State :=
  let x := s.base b
  let s := s.setBase b { x with everSynced := true }
  if b = 1 ∧ ¬ x.everSynced ∧ ¬ s.paired then { s with net := { s.net with grid := 1, realignDue := true } } else s

/-- Pulse input `n`. -/
def State.piOf (s : State) (n : Nat) : PiRun := Tab.get (fun _ => {}) s.pis n
/-- Replaces pulse input `n`. -/
def State.setPi (n : Nat) (x : PiRun) (s : State) : State := { s with pis := Tab.put (fun _ => {}) s.pis n x }

end Sys2Proof.Machine
end

