-- ==== Sys2Proof/Machine/Axis.lean ====
section
/-! DEFINITION. Stepper axes: requests, the profile generator, segment tables, parking, homing, the driver, faults and
supply (12 R316 to R339). -/

namespace Sys2Proof.Machine

/-- Axis `n`. -/
def State.axOf (s : State) (n : Nat) : AxisChan := Tab.get (fun _ => {}) s.axes n
/-- Replaces axis `n`. -/
def State.setAx (n : Nat) (x : AxisChan) (s : State) : State := { s with axes := Tab.put (fun _ => {}) s.axes n x }
/-- An axis as event source and as a retirable resource. -/
def axRes (n : Nat) : Res := { cls := 0x08, index := n }
def axKey (n : Nat) : FaultKey := { cls := 9, index := n }

/-! ## Units (R318) -/

/-- 2^32 parts of a microstep. -/
def subStep : Int := 4294967296

/-- Microsteps per unit, times 2^32. -/
def State.axScale (s : State) (n : Nat) : Q := (realQ (s.param .axStepsPerUnit n)).mul (Q.ofInt (256 * subStep))
/-- A position, velocity, acceleration or jerk in units as the generator counts it. -/
def State.axIn (s : State) (n : Nat) (q : Q) : Int := ((s.axScale n).mul q).floor
/-- A generator quantity in units. -/
def State.axOut (s : State) (n : Nat) (i : Int) : Q := (Q.ofInt i).div (s.axScale n)
/-- A REAL parameter of an axis. -/
def State.axParam (s : State) (p : Param) (n : Nat) : Q := realQ (s.param p n)
/-- The microstep count. -/
def AxisChan.count (x : AxisChan) : Int := x.pos / subStep
/-- Full steps per second, as the generator counts velocity. -/
def fullSteps (k : Int) : Int := k * 256 * subStep
/-- Faster than 50 full steps/s. -/
def AxisChan.fast (x : AxisChan) : Bool := decide (fullSteps 50 < (x.vel.natAbs : Int))

/-! ## References, coils and the parked flag (R319, R320, R327) -/

/-- The axis loses its reference (R320): recorded once, with the row of the cause. -/
def State.axUnref (n row : Nat) (s : State) : State :=
  let x := s.axOf n
  if x.unref then s
  else (s.setAx n { x with unref := true }).post .data .eAxisUnreferenced (axRes n) (q24 n row)

/-- The Axis state section's payload: a parked flag stands only with a reference. -/
def State.axStore (s : State) : AxStore :=
  { axes := (List.range 4).map (fun n => ((s.axOf n).count, (s.axOf n).parked && !(s.axOf n).unref)) }

/-- The Axis state section is committed. -/
def State.commitAxes (s : State) : State := { s with cocoon := { s.cocoon with axisState := s.cocoon.axisState.now s.axStore } }

/-- The parked flag clears before the first microstep. -/
def State.axUnpark (n : Nat) (s : State) : State :=
  let x := s.axOf n
  if x.parked then (s.setAx n { x with parked := false }).commitAxes else s

/-- The running request ends with a `RESULT`; a record's sequence is echoed (R335). -/
def AxisChan.done (res : Nat) (x : AxisChan) : AxisChan :=
  match x.running with
  | some (.record q) => { x with running := none, result := res, ackSeq := q }
  | some _ => { x with running := none, result := res }
  | none => x

/-- A request that waited is dropped: a record's sequence is echoed with `RESULT` 4 (R335). -/
def AxisChan.drop (x : AxisChan) : AxisChan :=
  match x.queued with
  | some { src := .record q, .. } => { x with queued := none, result := 4, ackSeq := q }
  | _ => { x with queued := none }

/-- The bridges conduct: the sequencer has the coils on, and the module is not in monitor mode (13 R346). -/
def AxisChan.bridges (x : AxisChan) : Bool := x.energised && !x.monitor

/-- The generator stands still. -/
def AxisChan.stand (now : Nat) (x : AxisChan) : AxisChan :=
  { x with st := .standstill, vel := 0, acc := 0, goal := .none, ownerLost := false, standAt := now }

/-- A bridge test that a command asked for ends without a result (notes/assumptions/110.md). -/
def State.axTestCut (n : Nat) (st : Status) (s : State) : State :=
  let x := s.axOf n
  let s := s.setAx n { x with testAt := none, testCmd := none }
  match x.testCmd with
  | some e => s.complete e st 0 []
  | none => s

/-- The bridges go off: a request in progress ends with `RESULT` 4; the reference is lost in lose mode, and in keep mode
unless the axis is PARKED. -/
def State.axDisable (n : Nat) (s : State) : State :=
  let x := s.axOf n
  if x.st = .retired then s else
  let was := x.energised || x.st != .disabled
  let x := { (x.done 4).drop with st := .disabled, energised := false, hold := false, vel := 0, acc := 0, goal := .none, parking := none, hyst := false, ownerLost := false, segAt := none, paused := none, deviates := none }
  let s := (s.setAx n x).axTestCut n .sState
  if ¬ was then s
  else if s.param .axStandstill n = 1 then (s.axUnref n 3).axUnpark n
  else if x.parked then s else s.axUnref n 2

/-- FM stands inside its range: number 6 in the order of 03 R60. -/
def State.fmOk (s : State) : Bool := !(Tab.get (fun _ => false) s.power.failFlags 6)

/-- Some task maps the axis's CMD record. -/
def State.axTask (s : State) (n : Nat) : Option Nat :=
  (List.range 16).find? (fun i => s.taskExists i && (s.taskProg i).outMap.any (fun e => e.names 0x08 n && e.sub == 0))

/-- Some enabled loop has the axis as its destination. -/
def State.axLoop (s : State) (n : Nat) : Bool := s.someLoop (fun i => s.param .loopOutDest i == 0x50000000 + n)

/-- A task or loop owns the axis (R335). -/
def State.axOwned (s : State) (n : Nat) : Bool := (s.axTask n).isSome || s.axLoop n

/-- The axis may be energised. -/
def State.axMay (s : State) (n : Nat) : Bool :=
  let x := s.axOf n
  s.param .axEn n == 1 && s.fmOk && x.st != .retired && x.faultWait.isNone && s.power.restoreDone && s.power.phase == .running

/-- The bridges energise, at the stored angle, under the hysteresis chopper, with the bridge test (R326, R327, R332). A parked
axis stands at a stored angle, where that chopper runs for 200 ms. In monitor mode nothing conducts and nothing is tested. -/
def State.axEnergise (n : Nat) (hold : Bool) (ms : Nat) (s : State) : State :=
  let x := s.axOf n
  if x.energised ∨ ¬ s.axMay n then s
  else
    let till := s.tb0 + (if x.parked then 200 else ms) * 1000000
    let test := if s.fieldActive then some s.tb0 else none
    s.setAx n { x with st := if x.parked then .parked else .standstill, energised := true, hold := hold || x.parked, hyst := true, hystTill := till, standAt := s.tb0, testAt := test, vel := 0, acc := 0, goal := .none }

/-! ## Feedback (R330) -/

/-- The feedback position in units, where feedback is configured. -/
def State.axFeedback (s : State) (n : Nat) : Option Q :=
  let src := s.param .axFbSrc n
  match srcKind src with
  | 1 => some (realQ (s.acSource (srcIndex src) 0).1)
  | 3 =>
    let x := s.axOf n
    some ((f64.toQ x.fbPos).add ((Q.ofInt ((s.piOf (srcIndex src)).count - x.fbCount)).mul (s.axParam .axFbScale n)))
  | _ => none

/-- The position error by which generator and feedback differ, in units; none without feedback. -/
def State.axError (s : State) (n : Nat) : Option Q := (s.axFeedback n).map (fun f => ((s.axOut n (s.axOf n).pos).sub f).abs)

/-- Generator and feedback differ by more than `FB_DEV`, where that is not 0 (R329). -/
def State.axDeviates (s : State) (n : Nat) : Bool :=
  match s.axError n with
  | some e => (s.axParam .axFbDev n).num != 0 && (s.axParam .axFbDev n).lt e
  | none => false

/-- Absolute feedback. -/
def State.axAbsolute (s : State) (n : Nat) : Bool := srcKind (s.param .axFbSrc n) == 1

/-- A homing completes: the position is assigned, the reference set, a PI count set equal to it (R330, R336). -/
def State.axHomed (n : Nat) (p : Q) (s : State) : State :=
  let x := s.axOf n
  let x := { x with pos := s.axIn n p, unref := false, fbPos := p.toLreal, fbCount := (s.piOf (srcIndex (s.param .axFbSrc n))).count }
  (s.setAx n x).post .data .eAxisHomed (axRes n) (q24 n (s.param .homeMode n))

/-! ## Requests (R320 to R325, R335, R336) -/

/-- The states that permit a change of parameters, a test, a start (R337). -/
def AxisChan.resting (x : AxisChan) : Bool := x.st == .disabled || x.st == .standstill || x.st == .parked

/-- A move begins: it takes over the place of the move before, clears STALLED and the parked flag, and re-energises a
parked axis at the same angle. -/
def State.axStart (n : Nat) (st : AxState) (goal : AxGoal) (r : AxReq) (lim : Bool) (s : State) : State :=
  let s := (s.axEnergise n false 100).axUnpark n
  let x := s.axOf n
  s.setAx n { x with st := st, goal := goal, vlim := r.vlim, limited := lim, stalled := false, parking := none, hold := false, running := some r.src, result := 0, reqPos := x.pos, ownerLost := false }

/-- A target held inside the soft limits (R323): the target, and the limit that held it. -/
def State.axLimit (s : State) (n : Nat) (q : Q) : Q × Option Nat :=
  if (s.axOf n).unref then (q, none)
  else if q.lt (s.axParam .axSoftLo n) then (s.axParam .axSoftLo n, some 0)
  else if (s.axParam .axSoftHi n).lt q then (s.axParam .axSoftHi n, some 1)
  else (q, none)

/-- The speed limit given with a move: 0 for `VMAX`, else positive and finite. -/
def vlimOk (v : Nat) : Bool := f32.isFinite v && (Q.ofInt 0).le (realQ v)

/-- A target or velocity request starts. -/
def State.axMove (n : Nat) (r : AxReq) (s : State) : Status × State :=
  let x := s.axOf n
  if ¬ (f64.isFinite r.tgt && vlimOk r.vlim) then (.sBadParam, s)
  else if r.kind = 3 then (.sOk, s.axStart n .moving (.velocity (s.axIn n (f64.toQ r.tgt))) r false)
  else
    let q := if r.kind = 1 then f64.toQ r.tgt else (s.axOut n x.pos).add (f64.toQ r.tgt)
    let (p, lim) := s.axLimit n q
    match lim, r.src with
    | some _, .command => (.sBadParam, s)
    | some k, _ => (.sOk, (s.axStart n .moving (.target (s.axIn n p)) r true).post .data .eAxisLimit (axRes n) (q24 n k))
    | none, _ => (.sOk, s.axStart n .moving (.target (s.axIn n p)) r false)

/-- `STOP` (R322). -/
def State.axStop (n : Nat) (fast : Bool) (src : AxSource) (s : State) : State :=
  let x := s.axOf n
  match x.st with
  | .moving => s.setAx n { x with st := .stopping, goal := .stop fast, running := some src, result := 0 }
  | .homing => s.setAx n { x with st := .stopping, goal := .stop fast, running := some src, result := 0 }
  | .stopping => s.setAx n { x with goal := .stop fast, running := some src, result := 0, queued := none }
  | .segment => s.setAx n { x.done 4 with st := .stopping, goal := .stop fast, running := some src, result := 0, queued := none }
  | _ => s.setAx n (({ x with running := some src, parking := none } : AxisChan).done 1)

/-- Homing (R336). -/
def State.axHome (n : Nat) (src : AxSource) (s : State) : Status × State :=
  let x := s.axOf n
  if ¬ (x.st == .standstill || x.st == .parked) then (.sState, s)
  else
    let finish := fun (p : Q) (s : State) =>
      let s := s.axHomed n p
      let s := s.setAx n (({ s.axOf n with running := some src } : AxisChan).done 1)
      if (s.axOf n).parked then s.commitAxes else s
    match s.param .homeMode n with
    | 0 => (.sOk, finish (s.axParam .homePos n) s)
    | 3 => (match s.axFeedback n with
        | some p => if s.axAbsolute n then (.sOk, finish p s) else (.sBadParam, s)
        | none => (.sBadParam, s))
    | _ =>
      let v := s.axIn n (s.axParam .homeVel n)
      let s := s.axStart n .homing (.velocity (if s.param .homeDir n = 1 then -v else v)) { kind := 5, src := src } false
      (.sOk, s.setAx n { s.axOf n with homeFrom := (s.axOf n).pos })

/-- The nearest full step of a position (R327). -/
def nearestFull (pos : Int) : Int := (pos + 128 * subStep) / (256 * subStep) * (256 * subStep)

/-- A park move begins, or a PARKED axis de-energises (R327, R340). -/
def State.axPark (n : Nat) (off : Bool) (src : AxSource) (s : State) : Status × State :=
  let x := s.axOf n
  if s.param .axStandstill n = 1 then (.sState, s)
  else match x.st with
  | .parked =>
    let s := s.setAx n (({ x with running := some src } : AxisChan).done 1)
    (.sOk, if off then s.setAx n { s.axOf n with energised := false, hyst := false } else s)
  | .standstill =>
    if x.parking.isSome then (.sState, s)
    else (.sOk, s.setAx n { x with parking := some (s.tb0, x.pos, nearestFull x.pos, off), running := some src, result := 0 })
  | _ => (.sState, s)

/-- Enable or disable (`AXIS.ENABLE`, `CMDC` 7 and 8): `AX_EN` is set (notes/assumptions/32.md). -/
def State.axEnable (n : Nat) (on : Bool) (s : State) : State :=
  let s := s.setCommit n [(.axEn, b2n on)]
  let s := s.setAx n { s.axOf n with started := true }
  if on then s.axEnergise n false 100 else s.axDisable n

/-! ### Segment tables (R324, R325) -/

/-- The time of a segment's end, in s. -/
def Seg.sec (g : Seg) : Q := { num := g.t, den := 1000000 }

/-- The cubic of a segment over s in 0…1: its four coefficients, and its length h in s. -/
structure Cubic where
  c0 : Q
  c1 : Q
  c2 : Q
  c3 : Q
  h : Q
  deriving DecidableEq, Repr

/-- The Hermite curve between two ends (R324). -/
def hermite (t0 : Nat) (p0 v0 : Q) (g : Seg) : Cubic :=
  let h : Q := { num := (g.t : Int) - t0, den := 1000000 }
  let p1 := f64.toQ g.p
  let a := h.mul v0
  let b := h.mul (realQ g.v)
  let d := p1.sub p0
  { c0 := p0, c1 := a, c2 := ((d.mul (Q.ofInt 3)).sub (a.mul (Q.ofInt 2))).sub b, c3 := (a.add b).sub (d.mul (Q.ofInt 2)), h := h }

/-- Position at s. -/
def Cubic.pos (c : Cubic) (x : Q) : Q := c.c0.add (x.mul (c.c1.add (x.mul (c.c2.add (x.mul c.c3)))))
/-- Velocity at s. -/
def Cubic.vel (c : Cubic) (x : Q) : Q :=
  (c.c1.add (x.mul ((c.c2.mul (Q.ofInt 2)).add (x.mul (c.c3.mul (Q.ofInt 3)))))).div c.h
/-- Acceleration at s. -/
def Cubic.acc (c : Cubic) (x : Q) : Q := ((c.c2.mul (Q.ofInt 2)).add (x.mul (c.c3.mul (Q.ofInt 6)))).div (c.h.mul c.h)

/-- `x √d ≤ y`, for `d ≥ 0`. -/
def sqrtLe (x y d : Q) : Bool :=
  let z := Q.ofInt 0
  if x.le z then z.le y || (y.mul y).le ((x.mul x).mul d)
  else z.le y && ((x.mul x).mul d).le (y.mul y)

/-- At the interior root of the velocity that takes the sign `sg`, the position is at most `hi` (`up`) or at least it; a root
outside 0…1 says nothing. With A s² + B s + C the velocity, a root is (−B + sg √D) ÷ 2A, and the position there is linear. -/
def Cubic.rootOk (c : Cubic) (sg : Int) (up : Bool) (bound : Q) : Bool :=
  let a := c.c3.mul (Q.ofInt 3)
  let b := c.c2.mul (Q.ofInt 2)
  let d := (b.mul b).sub ((a.mul c.c1).mul (Q.ofInt 4))
  if a.num = 0 then
    (if b.num = 0 then true
     else
      let r := (c.c1.neg).div b
      if (Q.ofInt 0).lt r && r.lt (Q.ofInt 1) then (if up then (c.pos r).le bound else bound.le (c.pos r)) else true)
  else if d.lt (Q.ofInt 0) then true
  else
    -- root = m + k √D
    let m := b.neg.div (a.mul (Q.ofInt 2))
    let k := (Q.ofInt sg).div (a.mul (Q.ofInt 2))
    let above0 := !(sqrtLe k m.neg d)
    let below1 := !(sqrtLe k.neg (m.sub (Q.ofInt 1)) d)
    if ¬ (above0 && below1) then true
    else
      -- the remainder of the position by the velocity: p = l s + e at the root
      let l := ((c.c1.mul (Q.ofInt 2)).div (Q.ofInt 3)).sub ((c.c2.mul (c.c2.mul (Q.ofInt 2))).div (c.c3.mul (Q.ofInt 9)))
      let e := c.c0.sub ((c.c2.mul c.c1).div (c.c3.mul (Q.ofInt 9)))
      let lk := l.mul k
      let base := (l.mul m).add e
      if up then sqrtLe lk (bound.sub base) d else sqrtLe lk.neg (base.sub bound) d

/-- The checks of one segment after another (R325): the index of the first that fails. -/
def State.segCheck (s : State) (n : Nat) : Nat → Nat → Q → Q → List Seg → Option Nat
  | _, _, _, _, [] => none
  | k, t0, p0, v0, g :: r =>
    let z := Q.ofInt 0
    let one := Q.ofInt 1
    let c := hermite t0 p0 v0 g
    let vmax := s.axParam .axVmax n
    let amax := s.axParam .axAmax n
    let lo := s.axParam .axSoftLo n
    let hi := s.axParam .axSoftHi n
    let vx := c.c2.neg.div (c.c3.mul (Q.ofInt 3))
    let interior := c.c3.num != 0 && z.lt vx && vx.lt one
    let p1 := f64.toQ g.p
    let ok := decide (t0 + 1000 ≤ g.t) && f64.isFinite g.p && f32.isFinite g.v
      && v0.abs.le vmax && (realQ g.v).abs.le vmax && !(interior && vmax.lt (c.vel vx).abs)
      && (c.acc z).abs.le amax && (c.acc one).abs.le amax
      && ((c.c3.mul (Q.ofInt 6)).div (c.h.mul (c.h.mul c.h))).abs.le (s.axParam .axJmax n)
      && lo.le p0 && p0.le hi && lo.le p1 && p1.le hi
      && c.rootOk 1 true hi && c.rootOk (-1) true hi && c.rootOk 1 false lo && c.rootOk (-1) false lo
      && !(r.isEmpty && (realQ g.v).num != 0)
    if ok then s.segCheck n (k + 1) g.t p1 (realQ g.v) r else some k

/-- A segment table starts: STANDSTILL or PARKED, referenced (R325). -/
def State.segStart (n : Nat) (src : AxSource) (s : State) : Status × State :=
  let x := s.axOf n
  if x.unref then (.sUnreferenced, s)
  else if ¬ (x.st == .standstill || x.st == .parked) || x.segs.isEmpty then (.sState, s)
  else
    let s := s.axStart n .segment .none { kind := 9, src := src } false
    let x := s.axOf n
    (.sOk, s.setAx n { x with segIdx := 0, segT0 := s.tb0, segP0 := (s.axOut n x.pos).toLreal, segAt := none })

/-- The segment at `us` µs after the table's start: index, its start time, start position and velocity. -/
def segAt : Nat → Nat → Q → Q → List Seg → Q → Option (Nat × Cubic)
  | _, _, _, _, [], _ => none
  | k, t0, p0, v0, g :: r, us =>
    if us.lt (Q.ofInt g.t) then some (k, hermite t0 p0 v0 g) else segAt (k + 1) g.t (f64.toQ g.p) (realQ g.v) r us

/-- The table's motion at an update. -/
def State.segRun (n : Nat) (s : State) : State :=
  let x := s.axOf n
  let us : Q := { num := (s.tb0 - x.segT0 : Nat), den := 1000 }
  match segAt 0 0 (f64.toQ x.segP0) (Q.ofInt 0) x.segs us with
  | some (k, c) =>
    let t0 := (if k = 0 then 0 else (getAt { t := 0, p := 0, v := 0 } x.segs (k - 1)).t)
    let u := (us.sub (Q.ofInt t0)).div (c.h.mul (Q.ofInt 1000000))
    s.setAx n { x with segIdx := k, pos := s.axIn n (c.pos u), vel := s.axIn n (c.vel u), acc := s.axIn n (c.acc u) }
  | none =>
    let last := (x.segs.getLast?.map (fun g => f64.toQ g.p)).getD (s.axOut n x.pos)
    s.setAx n ((({ x with pos := s.axIn n last } : AxisChan).stand s.tb0).done 1)

/-! ### A request arrives (R322, R325) -/

/-- A request is taken, queued behind a table, or refused. -/
def State.axRequest (n : Nat) (r : AxReq) (s : State) : Status × State :=
  let x := s.axOf n
  if x.st = .retired then (.sRetired, s)
  else if r.kind = 7 then
    (let s := s.axEnable n true; (.sOk, s.setAx n (({ s.axOf n with running := some r.src } : AxisChan).done 1)))
  else if r.kind = 8 then
    (let s := s.axEnable n false; (.sOk, s.setAx n (({ s.axOf n with running := some r.src } : AxisChan).done 1)))
  else if x.st = .disabled then (.sState, s)
  else match r.kind with
  | 4 => (.sOk, s.axStop n false r.src)
  | 5 => s.axHome n r.src
  | 6 => s.axPark n false r.src
  | 9 => s.segStart n r.src
  | k =>
    if k = 0 ∨ 9 < k then (.sBadParam, s)
    else if k = 1 && x.unref then (.sUnreferenced, s)
    else if x.st = .segment then
      (if ¬ (f64.isFinite r.tgt && vlimOk r.vlim) then (.sBadParam, s)
       else if r.abort then (.sOk, s.setAx n { x.done 4 with st := .stopping, goal := .stop false, queued := some r })
       else (.sOk, s.setAx n { x with queued := some r }))
    else if x.st = .stopping && x.queued.isSome then (.sOk, s.setAx n { x with queued := some r })
    else s.axMove n r

/-- The owner's CMD record as a request (R335). -/
def axRecord (b : Bytes) : Nat × AxReq :=
  let q := leNat (slice b 8 2)
  (q, { kind := leNat (slice b 10 1), tgt := leNat (slice b 0 8), abort := bitOf (leNat (slice b 11 1)) 0, vlim := leNat (slice b 12 4), src := .record q })

/-- A record whose `REQSEQ` differs from the last acted on: it acts, or is refused with `RESULT` 3. -/
def State.axTakeRecord (n : Nat) (s : State) : State :=
  let x := s.axOf n
  match x.cmdRec with
  | none => s
  | some b =>
    let (q, r) := axRecord b
    if q = x.lastSeq ∨ x.st = .retired then s
    else
      let s := s.setAx n { x with lastSeq := q }
      if r.kind = 0 then (if x.running.isNone then s.setAx n { s.axOf n with result := 1, ackSeq := q } else s)
      else match s.axRequest n r with
        | (.sOk, s') => s'
        | _ => s.setAx n { s.axOf n with result := 3, ackSeq := q }

/-- A loop's target, where the axis can follow it (R339). -/
def State.axTakeLoop (n : Nat) (s : State) : State :=
  let x := s.axOf n
  match x.loopTgt with
  | none => s
  | some v =>
    if x.unref ∨ x.stalled ∨ x.st = .retired ∨ x.st = .disabled then s.setAx n { x with lastLoop := none }
    else if x.lastLoop = some v then s
    else match s.axRequest n { kind := 1, tgt := toF64 v, src := .loop } with
      | (.sOk, s') => s'.setAx n { s'.axOf n with lastLoop := some v }
      | _ => s

/-- The request that waited behind a table or an abort starts from standstill. -/
def State.axTakeQueued (n : Nat) (s : State) : State :=
  let x := s.axOf n
  match x.queued with
  | none => s
  | some r =>
    if x.st = .standstill ∨ x.st = .parked then
      let s := s.setAx n { x with queued := none }
      match s.axMove n r with
      | (.sOk, s') => s'
      | _ => (match r.src with
          | .record q => s.setAx n { s.axOf n with result := 3, ackSeq := q }
          | _ => s)
    else s

/-- The owner of the axis's target is lost: a moving axis stops at `DSTOP` (R334). -/
def State.axOwnerLost (n : Nat) (s : State) : State :=
  let x := s.axOf n
  if x.st = .moving ∨ x.st = .homing ∨ x.st = .segment ∨ x.st = .stopping then
    s.setAx n { (x.done 4).drop with st := .stopping, goal := .stop true, ownerLost := true }
  else s.setAx n x.drop

/-! ## The profile generator (R321 to R323) -/

/-- Speed limit of the move. -/
def State.axSpeed (s : State) (n : Nat) : Int :=
  let x := s.axOf n
  let vmax := s.axIn n (s.axParam .axVmax n)
  if x.vlim % 2147483648 = 0 then vmax else min vmax (s.axIn n (realQ x.vlim))

/-- The bounds of R321 for one update of 50 µs: limits on acceleration while gaining and losing speed, on jerk, on speed. -/
structure AxBounds where
  amax : Int
  dmax : Int
  jerk : Int
  vmax : Int
  deriving DecidableEq, Repr

/-- The bounds of the present move. -/
def State.axBounds (s : State) (n : Nat) : AxBounds :=
  let x := s.axOf n
  let d := (match x.goal with | .stop true => Param.axDstop | _ => .axDmax)
  { amax := s.axIn n (s.axParam .axAmax n), dmax := s.axIn n (s.axParam d n), jerk := s.axIn n (s.axParam .axJmax n), vmax := s.axSpeed n }

/-- What the generator is asked for, as numbers. -/
def AxGoal.nums : AxGoal → List Int
  | .none => [0, 0]
  | .target p => [1, p]
  | .velocity v => [2, v]
  | .stop f => [3, b2n f]

/-- One update: what the generator proposes, held inside R321: acceleration by the jerk limit and `AMAX` or `DMAX`, velocity
by the acceleration and the speed limit, position by the velocity. A stop never reverses. -/
def profileStep (b : AxBounds) (goal : AxGoal) (pos vel acc : Int) : Int × Int × Int :=
  let l := [b.amax, b.dmax, b.jerk, b.vmax, pos, vel, acc] ++ goal.nums
  let ask := Config.profile l
  let up := if vel < 0 then b.dmax else b.amax
  let dn := if vel > 0 then b.dmax else b.amax
  let a := clampInt (acc - b.jerk / 20000) (acc + b.jerk / 20000) (clampInt (-dn) up (ask 0))
  let lo := vel + min acc a / 20000
  let hi := vel + (max acc a + 19999) / 20000
  let top := max b.vmax vel.natAbs
  let v := clampInt (-top) top (clampInt lo hi (ask 1))
  let v := (match goal with
    | .stop _ => if 0 < vel then max v 0 else if vel < 0 then min v 0 else 0
    | .velocity w => if vel = w ∧ acc = 0 then w else v
    | _ => v)
  let a := (match goal with
    | .stop _ => if v = 0 then 0 else a
    | .velocity w => if vel = w ∧ acc = 0 then 0 else a
    | _ => a)
  let p := clampInt (pos + min vel v / 20000) (pos + (max vel v + 19999) / 20000) (ask 2)
  (p, v, a)

/-- Feedback, where configured, lies in position. -/
def State.axInPos (s : State) (n : Nat) (p : Int) : Bool :=
  match s.axFeedback n with
  | none => true
  | some f => (f.sub (s.axOut n p)).abs.le (s.axParam .axInPosWin n)

/-- The generator has come to rest after a stop: at `I_HOLD` or disabled where the owner was lost (R334). -/
def State.axStopped (n : Nat) (s : State) : State :=
  let x := s.axOf n
  let lost := x.ownerLost
  let s := s.setAx n ((x.stand s.tb0).done 1)
  if ¬ lost then s
  else if s.param .axSafe n = 1 then s.setAx n { s.axOf n with hold := true } else s.axDisable n

/-- Homing in progress (R336): the level of the home switch, and the longest travel. -/
def State.axHoming (n : Nat) (s : State) : State :=
  let x := s.axOf n
  let dc := s.param .homeDc n
  if s.param .homeMode n = 1 && (s.dcSource dc 0).1 != 0 && (s.dcSource dc 0).2 != 0x80 && s.param .dcMode dc == 0 then
    let s := s.axHomed n (s.axParam .homePos n)
    s.setAx n { s.axOf n with st := .stopping, goal := .stop false }
  else if s.axIn n (s.axParam .homeRange n) < ((x.pos - x.homeFrom).natAbs : Int) then
    (s.setAx n { x.done 4 with st := .stopping, goal := .stop false }).post .data .eAxisHomeFail (axRes n) (q24 n (s.param .homeMode n))
  else s

/-- The distance to the soft limit ahead of a velocity `v`, in units; at `v` 0 a wanted velocity says which way. -/
def State.axRoom (s : State) (n : Nat) (pos v want : Int) : Q :=
  if 0 < v ∨ (v = 0 ∧ 0 < want) then (s.axParam .axSoftHi n).sub (s.axOut n pos) else (s.axOut n pos).sub (s.axParam .axSoftLo n)

/-- A referenced velocity move must decelerate now to stop at the soft limit ahead (R323): the room is no longer than the
stopping distance of R322, from a speed below `DMAX`² ÷ `JMAX` the distance under the jerk limit alone. -/
def State.axBrakes (s : State) (n : Nat) (want : Int) : Bool :=
  let x := s.axOf n
  let room := s.axRoom n x.pos x.vel want
  let v := (s.axOut n x.vel).abs
  let d := s.axParam .axDmax n
  let j := s.axParam .axJmax n
  !x.unref && (room.le (Q.ofInt 0)
    || (if (d.mul d).le (v.mul j) then (room.mul (Q.ofInt 2)).le (v.mul ((v.div d).add (d.div j)))
        else ((room.mul room).mul j).le (v.mul (v.mul v))))

/-- One update of a velocity move: at the soft limit's braking point the move turns into a stop with `LIMITED` set, which
ends at the limit with `RESULT` 1 (R323). -/
def State.axVelocity (n : Nat) (want : Int) (s : State) : State :=
  let x := s.axOf n
  let x := if s.axBrakes n want then { x with goal := .stop false, limited := true } else x
  let (p, v, a) := profileStep (s.axBounds n) x.goal x.pos x.vel x.acc
  s.setAx n { x with pos := p, vel := v, acc := a }

/-- A stop that a soft limit asked for goes no further than the limit, and completes at standstill; `was` is the position before. -/
def State.axLimitStop (n : Nat) (was : Int) (s : State) : State :=
  let x := s.axOf n
  let lo := s.axIn n (s.axParam .axSoftLo n)
  let hi := s.axIn n (s.axParam .axSoftHi n)
  let x := { x with pos := clampInt (min lo was) (max hi was) x.pos }
  if x.vel = 0 then s.setAx n ((x.stand s.tb0).done 1) else s.setAx n x

/-- The motion of one update; a takeover holds the set-point until the driver has started (13 R363). -/
def State.axMotion (n : Nat) (s : State) : State :=
  let x := s.axOf n
  let run := fun (s : State) =>
    let (p, v, a) := profileStep (s.axBounds n) x.goal x.pos x.vel x.acc
    s.setAx n { x with pos := p, vel := v, acc := a }
  if x.paused.isSome then s.setAx n { x with vel := 0, acc := 0 } else
  match x.st with
  | .segment => s.segRun n
  | .moving =>
    (match x.goal with
     | .target p =>
       let s := run s
       let y := s.axOf n
       if y.vel = 0 ∧ y.acc = 0 ∧ y.pos = p ∧ s.axInPos n p then s.setAx n ((y.stand s.tb0).done 1) else s
     | .velocity w => s.axVelocity n w
     | _ => (run s).axLimitStop n x.pos)
  | .homing => (run s).axHoming n
  | .stopping => let s := run s; if (s.axOf n).vel = 0 then s.axStopped n else s
  | .standstill =>
    (match x.parking with
     | none => s
     | some (t0, from0, dest, off) =>
       -- 10 full steps/s
       let d : Int := ((s.tb0 - t0 : Nat) : Int) * fullSteps 10 / 1000000000
       let p := if from0 ≤ dest then min dest (from0 + d) else max dest (from0 - d)
       if p ≠ dest then s.setAx n { x with pos := p }
       else
         let y := ({ x with pos := dest, parking := none, st := .parked, parked := true, hold := true, energised := x.energised && !off } : AxisChan).done 1
         ((s.setAx n y).commitAxes).post .data .eAxisParked (axRes n) (q24 n ((dest - from0) / subStep).natAbs))
  | _ => s

/-! ## The STAT record (R335) -/

/-- The state as the record codes it. -/
def AxState.num : AxState → Nat
  | .disabled => 0 | .standstill => 1 | .moving => 2 | .stopping => 3 | .segment => 4 | .homing => 5 | .parked => 6 | .retired => 7

/-- The record as it stands. -/
def State.axStatRecord (s : State) (n : Nat) : Bytes :=
  let x := s.axOf n
  let flags := b2n x.unref + 2 * b2n x.stalled + 4 * b2n x.limited + 8 * b2n x.queued.isSome + 16 * b2n x.hyst
  leBytes 8 (s.axOut n x.pos).toLreal
    ++ leBytes 4 (match s.axFeedback n with | some f => f.toReal | none => f32.nanOf 0 [n])
    ++ leBytes 4 (s.axOut n x.vel).toReal ++ leBytes 2 x.ackSeq ++ leBytes 1 x.result ++ leBytes 1 x.st.num ++ leBytes 2 flags
    ++ leBytes 2 x.segIdx ++ leBytes 8 s.tb0

/-! ## The update (R317) -/

/-- The first commit of the owner energises an enabled axis (R328). -/
def State.axFirst (n : Nat) (s : State) : State :=
  let x := s.axOf n
  if x.started ∨ (x.cmdRec.isNone ∧ x.loopTgt.isNone) then s
  else (s.setAx n { x with started := true }).axEnergise n false 100

/-- The bridge test of an energising or of `AXIS.TEST`, 1 ms per phase (R332). -/
def State.axBridgeTest (n : Nat) (bad : Option Nat) (s : State) : State :=
  let x := s.axOf n
  match x.testAt with
  | none => s
  | some t0 =>
    if s.tb0 < t0 + 2000000 then s
    else
      let s := s.axTestCut n .sOk
      match bad with
      | none => if x.st = .disabled then s.setAx n { s.axOf n with energised := false } else s
      | some ph =>
        let s := s.axDisable n
        (s.setAx n { s.axOf n with faultWait := some 2, faultAt := s.tb0 }).fault .data .fAxisSelftest (axRes n) (q24 n ph) (axKey n)

/-- What the driver measures is told; a thermal fault's sensor is below 135 °C from here on, or not (R332). -/
def State.axMeasured (n : Nat) (m : AxMeasure) (s : State) : State :=
  let x := s.axOf n
  let cool := if x.faultWait == some 1 && decide (m.temp < 1350) then some (x.coolAt.getD s.tb0) else none
  s.setAx n { x with meas := m, coolAt := cool }

/-- The generator state of an update goes to the partner (13 R356). -/
def State.axExchange (n : Nat) (s : State) : State :=
  let x := s.axOf n
  if s.paired && s.pair.link && s.pair.st == .active then s.send (.axisState n x.pos x.vel x.acc) else s

/-- At the named instant of a switchover the module's bridges go off and its isolation switches open at one update, and it
confirms (13 R363). -/
def State.axHandover (n : Nat) (s : State) : State :=
  let x := s.axOf n
  match s.pair.switch with
  | some (_, due, _) =>
    if s.pair.st = .active ∧ ¬ x.handover ∧ (due : Int) ≤ s.pairTimer then
      (s.setAx n { x with handover := true, monitor := true }).send (.hedgerow 11 [n])
    else s
  | none => s

/-- An update of axis `n`: requests, motion, the set-point, the STAT record. -/
def State.axUpdate (n : Nat) (m : AxMeasure) (bad : Option Nat) (s : State) : State :=
  let s := (s.axHandover n).axMeasured n m
  let s := (s.axFirst n).axTakeRecord n
  let s := ((s.axTakeLoop n).axTakeQueued n).axBridgeTest n bad
  let s := s.axMotion n
  let x := s.axOf n
  let dev := if s.axDeviates n then some (x.deviates.getD s.tb0) else none
  (s.setAx n { x with updT := s.tb0, stat := s.axStatRecord n, deviates := dev }).axExchange n

/-- What axis `n` supplies to an input image: the record, or the position alone (R335). -/
def State.axSource (s : State) (n sub : Nat) : Bytes :=
  let x := s.axOf n
  if sub = 0 then (if x.stat.isEmpty then leBytes 32 0 else x.stat)
  else leBytes 4 (f64.toQ (leNat (slice x.stat 0 8))).toReal

/-! ## The driver (R331, R346) -/

/-- The coil current a frame asks for (R319, R336): off; `I_HOLD`; half `I_RUN` while homing against a stop; else `I_RUN`. -/
def State.axCurrent (s : State) (n : Nat) : Nat :=
  let x := s.axOf n
  if ¬ x.bridges then 0
  else if x.hold then s.param .axIHold n
  else if x.st = .homing ∧ s.param .homeMode n = 2 then ((s.axParam .axIRun n).div (Q.ofInt 2)).toReal
  else s.param .axIRun n

/-- The set-point as the driver counts it: `DIR_INV` reverses the sense of rotation (R318). -/
def State.axSetPoint (s : State) (n : Nat) : Int := if s.param .axDirInv n = 1 then -(s.axOf n).count else (s.axOf n).count

/-- The first frame after a silence: E_AXIS_SILENCE; bridges that the silence disabled are energised again at `I_HOLD`
(notes/assumptions/110.md). -/
def State.axHeard (n : Nat) (s : State) : State :=
  let x := s.axOf n
  if x.silent.isNone then s
  else
    let s := s.post .data .eAxisSilence (axRes n) (q24 n ((s.tb0 - x.lastFrame) / 1000000 : Nat))
    let s := s.setAx n { x with silent := none, waitStand := true }
    if x.st = .disabled ∧ x.started ∧ s.param .axSafe n = 0 then s.axEnergise n true 100 else s

/-- The driver has started after a takeover: the motion goes on, a table by the time it was held (13 R363). -/
def AxisChan.resumed (now : Nat) (x : AxisChan) : AxisChan :=
  match x.paused with
  | some a => if x.bridges then { x with paused := none, segT0 := x.segT0 + (now - a) } else x
  | none => x

/-- A frame reaches the driver of axis `n`: it takes the set-point, after a silence once the axis stands. -/
def State.axFrame (n : Nat) (s : State) : State :=
  let s := s.axHeard n
  let x := s.axOf n
  let x : AxisChan := ({ x with crcOut := 0, lastFrame := s.tb0, monitor := !s.fieldActive || x.handover } : AxisChan).resumed s.tb0
  let s := s.setAx n x
  if x.waitStand && x.vel != 0 then s
  else
    -- after a silence the coils are back from `I_HOLD`, unless the axis has stood for `HOLD_DELAY`
    let held := x.parked || (x.st == .standstill && decide (x.standAt + s.param .holdDelay n * 1000000 ≤ s.tb0))
    let s := if x.waitStand then s.setAx n { x with waitStand := false, hold := held } else s
    s.setAx n { s.axOf n with drvSet := s.axSetPoint n, drvCur := s.axCurrent n }

/-- No valid frame for 1 ms (R331). -/
def State.axSilence (n : Nat) (s : State) : State :=
  let x := s.axOf n
  if x.silent.isSome ∨ s.pair.st ≠ .unpaired ∨ s.tb0 < x.lastFrame + 1000000 ∨ x.st = .retired then s
  else
    let fast := x.fast
    let s := s.setAx n { x with silent := some s.tb0 }
    let s := if fast then s.axUnref n 5 else s
    let s := if s.param .axSafe n = 1 then s.setAx n { s.axOf n with hold := true } else s.axDisable n
    s.setAx n { s.axOf n with drvCur := s.axCurrent n }

/-- A frame with a CRC error is discarded: ten in a row are one fault (R332). `outward`: the frame was for the driver. -/
def State.axBadFrame (n : Nat) (outward : Bool) (s : State) : State :=
  let x := s.axOf n
  let k := (if outward then x.crcOut else x.crcRun) + 1
  let kept := if 10 ≤ k then 0 else k
  let s := s.setAx n (if outward then { x with crcOut := kept } else { x with crcRun := kept })
  if 10 ≤ k then s.fault .data .fAxisCoupler (axRes n) (n * 2 ^ 24) (axKey n) else s

/-- A frame from the driver. -/
def State.axFrameIn (n : Nat) (bad : Bool) (m : AxMeasure) (s : State) : State :=
  if bad then s.axBadFrame n false else (s.setAx n { s.axOf n with crcRun := 0 }).axMeasured n m

/-! ## Stalls, faults and supply (R329, R332, R333) -/

/-- The condition of a stall (R329): by the back-EMF under the fixed off-time chopper; or, where `follow`, a deviation that
has stood for 10 ms, once at standstill. -/
def State.axStalls (s : State) (n : Nat) (follow : Bool) (ratios : List Nat) : Bool :=
  let x := s.axOf n
  let moving := x.st == .moving || x.st == .homing || x.st == .segment || x.st == .stopping
  if follow then
    s.axDeviates n && (match x.deviates with | some a => decide (a + 10000000 ≤ s.tb0) | none => false) && (moving || !x.stalled)
  else moving && s.param .axStallThr n != 0 && decide (4 ≤ ratios.length) && (ratios.take 4).all (fun r => decide (r < s.param .axStallThr n))
    && !x.hyst && decide (fullSteps 50 ≤ ((x.vel.natAbs : Nat) : Int))

/-- A stall (R329), by the back-EMF ratios of the full steps (newest first) or, where `follow`, by the following error, which is recorded in 0.001 units. -/
def State.axStall (n : Nat) (follow : Bool) (ratios : List Nat) (s : State) : State :=
  let x := s.axOf n
  if ¬ (s.axStalls n follow ratios && x.bridges) then s
  else
    let err := match s.axError n with | some e => (e.mul (Q.ofInt 1000)).floor | none => 0
    let s := (s.postIf follow .data .eAxisFollow (axRes n) (q24 n err)).axUnpark n
    let x := s.axOf n
    let rest := fun (x : AxisChan) => { x.stand s.tb0 with hyst := true, hystTill := s.tb0 + 200000000, hold := false, parking := none, deviates := none }
    if x.st = .homing ∧ s.param .homeMode n = 2 then
      let s := s.axHomed n (s.axParam .homePos n)
      s.setAx n ((rest (s.axOf n)).done 1)
    else
      let steps := (x.pos - x.reqPos).natAbs / (256 * 4294967296)
      let s := (s.setAx n { ((rest x).done 4).drop with stalled := true }).post .data .eAxisStall (axRes n) (q24 n steps)
      match s.axFeedback n with
      | some f => if s.axAbsolute n then s.setAx n { s.axOf n with pos := s.axIn n f } else s.axUnref n 1
      | none => s.axUnref n 1

/-- A fault that turns the bridges off and waits for its retry: 0 bridge, 1 thermal. -/
def State.axFault (n kind : Nat) (quantity : Int) (s : State) : State :=
  let x := s.axOf n
  if x.st = .retired ∨ ¬ x.bridges then s
  else
    let s := s.axDisable n
    let s := s.setAx n { s.axOf n with faultWait := some kind, faultAt := s.tb0, coolAt := none }
    s.fault .data (if kind = 0 then .fAxisBridge else .fAxisThermal) (axRes n) (q24 n quantity) (axKey n)

/-- The retry of a fault is due (R332): 1 s after a bridge fault or a failed test, 5 s after the sensor fell below 135 °C. -/
def AxisChan.retryDue (now : Nat) (x : AxisChan) : Bool :=
  match x.faultWait, x.coolAt with
  | some 1, some a => decide (a + 5000000000 ≤ now)
  | some 1, none => false
  | some _, _ => decide (x.faultAt + 1000000000 ≤ now)
  | none, _ => false

/-- A retry (R332): the axis re-energises at `I_HOLD` under the hysteresis chopper, and is tested again. -/
def State.axRetry (n : Nat) (bad : Option Nat) (s : State) : State :=
  let x := s.axOf n
  if ¬ x.retryDue s.tb0 then s
  else
    let s := s.setAx n { x with faultWait := none }
    match bad with
    | some ph =>
      let s := s.fault .data .fAxisSelftest (axRes n) (q24 n ph) (axKey n)
      s.setAx n { s.axOf n with faultWait := some 2, faultAt := s.tb0 }
    | none =>
      let s := if x.started then s.axEnergise n true 200 else s
      s.setAx n { s.axOf n with testAt := none }

/-- An open phase (R332). -/
def State.axOpenPhase (n ph : Nat) (s : State) : State :=
  if (s.axOf n).bridges then (s.axDisable n).post .data .eAxisOpenPhase (axRes n) (q24 n ph) else s

/-- The axis is RETIRED with its bridges off (R332). -/
def State.axRetire (n code : Nat) (s : State) : State :=
  if (s.axOf n).st = .retired then s
  else
    let s := (s.axTestCut n .sRetired).axDisable n
    let s := s.setAx n { s.axOf n with st := .retired, faultWait := none }
    ((s.faultUncounted .data .fAxisRetired (axRes n) (q24 n code) (axKey n)).markRetired (axKey n) Code.fAxisRetired.num code).causeRetired 0x08 n

/-- FM fails (R333). -/
def State.fmFail (mv : Nat) (s : State) : State :=
  if s.fmOk = false ∨ (20000 ≤ mv ∧ mv ≤ 52000) then s
  else
    let s := s.setSupply 6 mv true true
    let s := s.each State.axDisable (List.range 4)
    s.tellSupply (supplyLost true 6 mv)

/-- The task that owns the axis is STOPPED or HALTED. -/
def State.axOwnerStopped (s : State) (n : Nat) : Bool :=
  match s.axTask n with
  | some i => (s.taskOf i).state == .stopped || (s.taskOf i).state == .halted
  | none => false

/-- A referenced, PARKED keep-mode axis with `SAFE_AXIS` 1 energises without its owner's commit (R328). -/
def State.axKeeps (s : State) (n : Nat) : Bool :=
  let x := s.axOf n
  x.parked && !x.unref && s.param .axStandstill n == 0 && s.param .axSafe n == 1

/-- FM is back (R333, R339): enabled axes energise at `I_HOLD`. -/
def State.fmRecover (mv : Nat) (s : State) : State :=
  if s.fmOk ∨ mv < 24000 ∨ 48000 < mv then s
  else
    let s := s.setSupply 6 mv false false
    s.each (fun n s =>
      if ((s.axOf n).started || s.axKeeps n) && !(s.axOwnerStopped n && s.param .axSafe n != 1) then s.axEnergise n true 100 else s) (List.range 4)

/-- Axis `n` at the start of the module (R328, 03 R75): the count and the parked flag of the Axis state section; a parked
keep-mode axis with `SAFE_AXIS` 1 energises at its stored angle. -/
def State.axBegin (store : Option AxStore) (n : Nat) (s : State) : State :=
  let (c, p) := (match store with | some a => getAt (0, false) a.axes n | none => (0, false))
  let ret := s.isRetired (axKey n)
  let s := s.setAx n { st := if ret then .retired else .disabled, pos := c * subStep, parked := p, unref := !p, monitor := !s.fieldActive }
  let s := s.postIf (store.isNone && s.param .axEn n == 1) .data .eAxisUnreferenced (axRes n) (q24 n 6)
  if s.axKeeps n && s.fieldActive then s.axEnergise n true 100 else s

end Sys2Proof.Machine
end

