-- ==== Sys2Proof/Machine/AxisCmd.lean ====
section
/-! DEFINITION. The commands of class 0x08 (12 R340) and the events of the axes. -/

namespace Sys2Proof.Machine

/-- The owner of an axis's settings; its cycle boundary is its profile update. -/
def axOwner (n : Nat) : Owner := { kind := .axis, index := n }
/-- The axis runs. -/
def State.axRuns (s : State) (c : Cmd) : Bool := (s.axOf c.tgtIndex).st != .retired

/-- The settings an `AXIS.CONFIGURE` carries (R337). -/
def axSettings (c : Cmd) : List (Param × Nat) :=
  if c.expert then
    [(.axEn, c.blk 0 1), (.axDirInv, c.blk 1 1), (.axStandstill, c.blk 2 1), (.axSafe, c.blk 3 1), (.axStepsPerUnit, c.blk 4 4),
     (.axIRun, c.blk 8 4), (.axIHold, c.blk 12 4), (.axVmax, c.blk 16 4), (.axAmax, c.blk 20 4), (.axDmax, c.blk 24 4),
     (.axJmax, c.blk 28 4), (.axDstop, c.blk 32 4), (.axSoftLo, c.blk 36 4), (.axSoftHi, c.blk 40 4), (.axToff, c.blk 44 1),
     (.axFastPct, c.blk 45 1), (.axHystBand, c.blk 46 1), (.axStallThr, c.blk 47 1), (.axFbSrc, c.blk 48 4),
     (.axFbScale, c.blk 52 4), (.axFbDev, c.blk 56 4), (.axInPosWin, c.blk 60 4)]
  else
    [(.axEn, c.field 16 1), (.axDirInv, c.field 17 1), (.axStepsPerUnit, c.field 20 4), (.axIRun, c.field 24 4), (.axVmax, c.field 28 4)]

/-- A finite REAL above 0. -/
def realPos (v : Nat) : Bool := f32.isFinite v && (Q.ofInt 0).lt (realQ v)
/-- A finite REAL of at least 0. -/
def realNonNeg (v : Nat) : Bool := f32.isFinite v && (Q.ofInt 0).le (realQ v)

/-- Bits [27:16] of a source word are reserved (08 R220, 12 R330). -/
def srcReserved (v : Nat) : Bool := bitsOf v 27 16 == 0

/-- The reserved bits of the source words that a command carries are 0 (04 R105 check 1). -/
def sourcesClean (l : List (Param × Nat)) : Bool :=
  l.all (fun x => !([Param.loopPvSrc, .loopSpSrc, .loopOutDest, .axFbSrc].contains x.1) || srcReserved x.2)

/-- A feedback source (R330): none, an AC channel in an AI mode, a PI count. -/
def axFbOk (s : State) (v : Nat) : Bool :=
  srcReserved v && (match srcKind v with
    | 0 => v == 0
    | 1 => decide (srcIndex v < 32) && !acIsAo (s.acMode (srcIndex v))
    | 3 => decide (srcIndex v < 4)
    | _ => false)

/-- The ranges of R337. -/
def axInRange (s : State) (n : Nat) (l : List (Param × Nat)) : Bool :=
  let v := newValue s n l
  decide (v .axEn ≤ 1) && decide (v .axDirInv ≤ 1) && decide (v .axStandstill ≤ 1) && decide (v .axSafe ≤ 1)
    && realPos (v .axStepsPerUnit) && realIn { num := 1, den := 10 } (Q.ofInt 3) (v .axIRun)
    && realIn (Q.ofInt 0) (realQ (v .axIRun)) (v .axIHold) && realPos (v .axVmax)
    && ((realQ (v .axVmax)).mul (realQ (v .axStepsPerUnit))).le (Q.ofInt 5000)
    && realPos (v .axAmax) && realPos (v .axDmax) && realPos (v .axJmax)
    && f32.isFinite (v .axDstop) && (realQ (v .axDmax)).le (realQ (v .axDstop))
    && f32.isFinite (v .axSoftLo) && f32.isFinite (v .axSoftHi) && (realQ (v .axSoftLo)).lt (realQ (v .axSoftHi))
    && decide (2 ≤ v .axToff ∧ v .axToff ≤ 30) && decide (v .axFastPct ≤ 100) && decide (5 ≤ v .axHystBand ∧ v .axHystBand ≤ 30)
    && (v .axStallThr == 0 || decide (10 ≤ v .axStallThr ∧ v .axStallThr ≤ 90)) && axFbOk s (v .axFbSrc)
    && f32.isFinite (v .axFbScale) && !(f32.isZero (v .axFbScale)) && realNonNeg (v .axFbDev) && realPos (v .axInPosWin)

/-- Applies an `AXIS.CONFIGURE`. -/
def axConfigured (e : Entry) (s : State) : Reply :=
  let n := e.cmd.tgtIndex
  let l := axSettings e.cmd
  let turned := newValue s n l .axDirInv != s.param .axDirInv n
  let s := s.setCommit n l
  let s := if turned then (s.axUnref n 4).axUnpark n else s
  if s.param .axEn n = 0 then .ok (s.axDisable n)
  else
    let s := if s.axOwned n then s else s.setAx n { s.axOf n with started := true }
    .ok (if (s.axOf n).started then s.axEnergise n false 100 else s)

/-- `AXIS.CONFIGURE`. -/
def specAxisConfigure : CmdSpec where
  op := 0x0800
  layout := fun c => if c.expert then { ranges := [(16, 48)] } else { ranges := [(16, 2), (20, 12)] }
  form := fun _ c => (!c.expert || (c.indirect && c.blockLen == 64)) && sourcesClean (axSettings c)
  target := targetBelow 0x08 4
  params := fun s c => axInRange s c.tgtIndex (axSettings c)
  owner := fun _ c => some (axOwner c.tgtIndex)
  running := State.axRuns
  run := guarded
    (fun s c => firstOf [whenS ((s.axOf c.tgtIndex).st == .retired) .sRetired, whenS (!((s.axOf c.tgtIndex).resting)) .sState])
    axConfigured

/-- The request of an `AXIS.MOVE`. -/
def moveReq (c : Cmd) : AxReq :=
  { kind := c.field 16 1, tgt := c.field 24 8, abort := bitOf (c.field 17 1) 0, vlim := if c.expert then c.field 32 4 else 0, src := .command }

/-- Runs a request that a command makes of an axis no task or loop owns. -/
def axRun (f : Cmd → Nat → State → Status × State) (e : Entry) (s : State) : Reply :=
  let n := e.cmd.tgtIndex
  if s.axOwned n then .refuse .sOwnerConflict s
  else match f e.cmd n s with
    | (.sOk, s') => .ok s'
    | (st, _) => .refuse st s

/-- `AXIS.MOVE`. -/
def specAxisMove : CmdSpec where
  op := 0x0801
  layout := fun c => { ranges := [(16, 1), (24, 8)] ++ (if c.expert then [(32, 4)] else []), masks := [(17, 1)] }
  target := targetBelow 0x08 4
  params := fun _ c => decide (1 ≤ c.field 16 1 ∧ c.field 16 1 ≤ 3) && f64.isFinite (c.field 24 8) && vlimOk (moveReq c).vlim
  owner := fun _ c => some (axOwner c.tgtIndex)
  running := State.axRuns
  run := axRun (fun c n s => s.axRequest n (moveReq c))

/-- `AXIS.STOP`. -/
def specAxisStop : CmdSpec where
  op := 0x0802
  layout := fun c => if c.expert then { ranges := [(16, 1)] } else {}
  target := targetBelow 0x08 4
  params := fun _ c => !c.expert || decide (c.field 16 1 ≤ 1)
  owner := fun _ c => some (axOwner c.tgtIndex)
  running := State.axRuns
  run := axRun (fun c n s => (.sOk, s.axStop n (c.expert && c.field 16 1 == 1) .command))

/-- `AXIS.HOME`. -/
def specAxisHome : CmdSpec where
  op := 0x0803
  target := targetBelow 0x08 4
  owner := fun _ c => some (axOwner c.tgtIndex)
  running := State.axRuns
  run := axRun (fun _ n s => s.axHome n .command)

/-- `AXIS.PARK`. -/
def specAxisPark : CmdSpec where
  op := 0x0804
  layout := fun c => if c.expert then { ranges := [(16, 1)] } else {}
  target := targetBelow 0x08 4
  params := fun _ c => !c.expert || decide (c.field 16 1 ≤ 1)
  owner := fun _ c => some (axOwner c.tgtIndex)
  running := State.axRuns
  run := fun e s =>
    match s.axPark e.cmd.tgtIndex (e.cmd.expert && e.cmd.field 16 1 == 1) .command with
    | (.sOk, s') => .ok s'
    | (st, _) => .refuse st s

/-- `AXIS.ENABLE`. -/
def specAxisEnable : CmdSpec where
  op := 0x0805
  layout := fun _ => { ranges := [(16, 1)] }
  target := targetBelow 0x08 4
  params := fun _ c => decide (c.field 16 1 ≤ 1)
  owner := fun _ c => some (axOwner c.tgtIndex)
  running := State.axRuns
  run := guarded
    (fun s c => firstOf [whenS (s.axOwned c.tgtIndex) .sOwnerConflict, whenS ((s.axOf c.tgtIndex).st == .retired) .sRetired])
    (fun e s => .ok (s.axEnable e.cmd.tgtIndex (e.cmd.field 16 1 == 1)))

/-- The segments of an `AXIS.SEG_LOAD`. -/
def segsOf : Nat → Bytes → List Seg
  | 0, _ => []
  | k + 1, b => { t := leNat (slice b 0 4), p := leNat (slice b 4 8), v := leNat (slice b 12 4) } :: segsOf k (b.drop 16)

/-- Loads a table (R324, R325). -/
def segLoad (e : Entry) (s : State) : Reply :=
  let c := e.cmd
  let n := c.tgtIndex
  let x := s.axOf n
  let new := segsOf (c.blk 0 2 % 32768) (c.blockBytes.drop 16)
  let all := if bitOf (c.blk 0 2) 15 then x.segs ++ new else new
  if x.st = .segment then .refuse .sState s
  else if 256 < all.length then .refuse .sBadParam s
  else match s.segCheck n 0 0 (s.axOut n x.pos) (Q.ofInt 0) all with
    | some k => .done .sBadParam k [] s
    | none => .ok (s.setAx n { x with segs := all })

/-- `AXIS.SEG_LOAD`. -/
def specAxisSegLoad : CmdSpec where
  op := 0x0806
  layout := fun _ => { ranges := [(16, 2), (32, 32)] }
  form := fun _ c => c.indirect && decide (16 ≤ c.blockLen)
  target := targetBelow 0x08 4
  params := fun _ c => decide (1 ≤ c.blk 0 2 % 32768 ∧ c.blk 0 2 % 32768 ≤ 255) && c.blockLen == 16 + 16 * (c.blk 0 2 % 32768)
  owner := fun _ c => some (axOwner c.tgtIndex)
  running := State.axRuns
  run := segLoad

/-- Starts a table, at once or at a given time (R325). -/
def segStartCmd (c : Cmd) (n : Nat) (s : State) : Status × State :=
  let x := s.axOf n
  if ¬ c.expert then s.segStart n .command
  else
    let b := c.field 16 1
    let t := c.field 24 8
    if x.unref then (.sUnreferenced, s)
    else if ¬ (x.st == .standstill || x.st == .parked) || x.segs.isEmpty then (.sState, s)
    else if ¬ s.baseSynced b then (.sTimeUnsynced, s)
    else if (t : Int) < s.baseNow b then (.sTooLate, s)
    else (.sOk, s.setAx n { x with segAt := some (b, t) })

/-- `AXIS.SEG_START`. -/
def specAxisSegStart : CmdSpec where
  op := 0x0807
  layout := fun c => if c.expert then { ranges := [(16, 1), (24, 8)] } else {}
  target := targetBelow 0x08 4
  params := fun _ c => !c.expert || decide (c.field 16 1 ≤ 1)
  owner := fun _ c => some (axOwner c.tgtIndex)
  running := State.axRuns
  run := axRun segStartCmd

/-- The values of `AXIS.STATUS` (R340), in the order of its row; their layout is not given (notes/assumptions/21.md). -/
def axStatusBlock (s : State) (n : Nat) (expert : Bool) : Bytes :=
  let x := s.axOf n
  let fm := s.supplyMv 6
  s.axStatRecord n ++ Config.resultLayout (0x0808 * 2 + b2n expert)
    ([x.meas.phaseA, x.meas.phaseB, (fm : Int), x.meas.temp, (s.faultCount (axKey n) : Int), (s.power.epoch : Int)] ++ (if expert then [x.count, (b2n x.hyst : Int), (x.meas.ratio : Int)] else []))

/-- `AXIS.STATUS`. -/
def specAxisStatus : CmdSpec where
  op := 0x0808
  target := targetBelow 0x08 4
  long := fun _ => true
  run := fun e s => .long (axStatusBlock s e.cmd.tgtIndex e.cmd.expert) { s with free := s.free + 8 }

/-- `AXIS.TEST` (R332): under the hysteresis chopper. -/
def specAxisTest : CmdSpec where
  op := 0x0809
  target := targetBelow 0x08 4
  owner := fun _ c => some (axOwner c.tgtIndex)
  running := State.axRuns
  run := fun e s =>
    let x := s.axOf e.cmd.tgtIndex
    if x.resting && x.testCmd.isNone then .later (s.setAx e.cmd.tgtIndex { x with testAt := some s.tb0, testCmd := some e, hyst := true, hystTill := max x.hystTill s.tb0 })
    else .refuse .sState s

/-- The settings of an `AXIS.SET_HOME` (R338). -/
def homeSettings (c : Cmd) : List (Param × Nat) :=
  [(.homeMode, c.field 16 1), (.homeDir, c.field 17 1), (.homeDc, c.field 18 1), (.homeVel, c.field 20 4), (.homePos, c.field 24 4),
   (.homeRange, c.field 28 4), (.holdDelay, c.field 32 4), (.parkDelay, c.field 36 4)]

/-- `AXIS.SET_HOME`. -/
def specAxisSetHome : CmdSpec where
  op := 0x080A
  layout := fun _ => { ranges := [(16, 3), (20, 20)] }
  target := targetBelow 0x08 4
  params := fun s c =>
    let v := newValue s c.tgtIndex (homeSettings c)
    decide (v .homeMode ≤ 3) && decide (v .homeDir ≤ 1) && decide (v .homeDc ≤ 31) && realPos (v .homeVel)
      && (realQ (v .homeVel)).le (s.axParam .axVmax c.tgtIndex) && f32.isFinite (v .homePos) && realPos (v .homeRange)
      && decide (v .holdDelay ≤ 10000) && decide (v .parkDelay ≤ 3600)
  owner := fun _ c => some (axOwner c.tgtIndex)
  running := State.axRuns
  run := guarded (fun s c => whenS ((s.axOf c.tgtIndex).st == .homing) .sState) (fun e s => .ok (s.setCommit e.cmd.tgtIndex (homeSettings e.cmd)))

/-- The commands of class 0x08 by opcode. -/
def specAxis : List CmdSpec :=
  [specAxisConfigure, specAxisMove, specAxisStop, specAxisHome, specAxisPark, specAxisEnable, specAxisSegLoad, specAxisSegStart,
   specAxisStatus, specAxisTest, specAxisSetHome]

/-- AXIS_CONFIGURE (R337). -/
def execAxisConfigure (t : Nat) (c : Cmd) (s : State) : Host.Outcome State Fault Refusal := .next (specAxisConfigure.submit c (s.advance t))
/-- AXIS_MOVE (R322). -/
def execAxisMove (t : Nat) (c : Cmd) (s : State) : Host.Outcome State Fault Refusal := .next (specAxisMove.submit c (s.advance t))
/-- AXIS_STOP (R322). -/
def execAxisStop (t : Nat) (c : Cmd) (s : State) : Host.Outcome State Fault Refusal := .next (specAxisStop.submit c (s.advance t))
/-- AXIS_HOME (R336). -/
def execAxisHome (t : Nat) (c : Cmd) (s : State) : Host.Outcome State Fault Refusal := .next (specAxisHome.submit c (s.advance t))
/-- AXIS_PARK (R327). -/
def execAxisPark (t : Nat) (c : Cmd) (s : State) : Host.Outcome State Fault Refusal := .next (specAxisPark.submit c (s.advance t))
/-- AXIS_ENABLE (R340). -/
def execAxisEnable (t : Nat) (c : Cmd) (s : State) : Host.Outcome State Fault Refusal := .next (specAxisEnable.submit c (s.advance t))
/-- AXIS_SEG_LOAD (R325). -/
def execAxisSegLoad (t : Nat) (c : Cmd) (s : State) : Host.Outcome State Fault Refusal := .next (specAxisSegLoad.submit c (s.advance t))
/-- AXIS_SEG_START (R325). -/
def execAxisSegStart (t : Nat) (c : Cmd) (s : State) : Host.Outcome State Fault Refusal := .next (specAxisSegStart.submit c (s.advance t))
/-- AXIS_STATUS (R340). -/
def execAxisStatus (t : Nat) (c : Cmd) (s : State) : Host.Outcome State Fault Refusal := .next (specAxisStatus.submit c (s.advance t))
/-- AXIS_TEST (R332). -/
def execAxisTest (t : Nat) (c : Cmd) (s : State) : Host.Outcome State Fault Refusal := .next (specAxisTest.submit c (s.advance t))
/-- AXIS_SET_HOME (R338). -/
def execAxisSetHome (t : Nat) (c : Cmd) (s : State) : Host.Outcome State Fault Refusal := .next (specAxisSetHome.submit c (s.advance t))

/-! ## Events -/

/-- AXIS_STALL (R329). -/
def execAxisStall (t n : Nat) (follow : Bool) (ratios : List Nat) (s : State) : Host.Outcome State Fault Refusal :=
  onResource n 4 s (fun s => (s.advance t).axStall n follow ratios)

/-- AXIS_HOLD_DELAY (R319). -/
def execAxisHoldDelay (t n : Nat) (s : State) : Host.Outcome State Fault Refusal :=
  onResource n 4 s (fun s =>
    let s := s.advance t
    let x := s.axOf n
    if x.st = .standstill ∧ x.energised ∧ x.standAt + s.param .holdDelay n * 1000000 ≤ s.tb0 then s.setAx n { x with hold := true } else s)

/-- A request of the owner's record or of a queue waits for the next update, so that no park begins (R339). -/
def State.axWaiting (s : State) (n : Nat) : Bool :=
  let x := s.axOf n
  x.queued.isSome || (match x.cmdRec with | some b => (axRecord b).1 != x.lastSeq | none => false)

/-- AXIS_PARK_DELAY (R327). -/
def execAxisParkDelay (t n : Nat) (s : State) : Host.Outcome State Fault Refusal :=
  onResource n 4 s (fun s =>
    let s := s.advance t
    let x := s.axOf n
    let d := s.param .parkDelay n
    if x.st = .standstill ∧ x.energised ∧ s.param .axStandstill n = 0 ∧ d ≠ 0 ∧ x.parking.isNone ∧ ¬ s.axWaiting n
        ∧ x.standAt + d * 1000000000 ≤ s.tb0 then
      s.setAx n { x with parking := some (s.tb0, x.pos, nearestFull x.pos, false) }
    else s)

/-- AXIS_SILENCE (R331). -/
def execAxisSilence (t n : Nat) (s : State) : Host.Outcome State Fault Refusal := onResource n 4 s (fun s => (s.advance t).axSilence n)
/-- AXIS_BRIDGE_FAULT (R332): above 4.5 A. -/
def execAxisBridgeFault (t n phase ma : Nat) (s : State) : Host.Outcome State Fault Refusal :=
  onResource n 4 s (fun s => let s := s.advance t; if 4500 < ma then s.axFault n 0 phase else s)
/-- AXIS_THERMAL (R332): at 150 °C. -/
def execAxisThermal (t n : Nat) (temp : Int) (s : State) : Host.Outcome State Fault Refusal :=
  onResource n 4 s (fun s => let s := s.advance t; if 1500 ≤ temp then s.axFault n 1 temp else s)
/-- AXIS_FAULT_RETRY (R332). -/
def execAxisFaultRetry (t n : Nat) (bad : Option Nat) (s : State) : Host.Outcome State Fault Refusal :=
  onResource n 4 s (fun s => (s.advance t).axRetry n bad)
/-- AXIS_OPEN_PHASE (R332). -/
def execAxisOpenPhase (t n phase : Nat) (s : State) : Host.Outcome State Fault Refusal := onResource n 4 s (fun s => (s.advance t).axOpenPhase n phase)

/-- AXIS_CHOPPER_CHANGE (R326). -/
def execAxisChopperChange (t n : Nat) (s : State) : Host.Outcome State Fault Refusal :=
  onResource n 4 s (fun s =>
    let s := s.advance t
    let x := s.axOf n
    if x.hyst ∧ x.hystTill ≤ s.tb0 ∧ x.testAt.isNone then s.setAx n { x with hyst := false } else s)

/-- AXIS_SEG_START_TIME (R325): a start that finds the axis neither in STANDSTILL nor PARKED is dropped. -/
def execAxisSegStartTime (t n : Nat) (s : State) : Host.Outcome State Fault Refusal :=
  onResource n 4 s (fun s =>
    let s := s.advance t
    let x := s.axOf n
    match x.segAt with
    | none => s
    | some (b, at0) =>
      if s.baseNow b < (at0 : Int) then s
      else match s.segStart n .command with
        | (.sOk, s') => s'
        | _ => s.setAx n { x with segAt := none })

/-- FM_FAIL (R333). -/
def execFmFail (t mv : Nat) (s : State) : Host.Outcome State Fault Refusal := .next ((s.advance t).fmFail mv)
/-- FM_RECOVERY (R333). -/
def execFmRecovery (t mv : Nat) (s : State) : Host.Outcome State Fault Refusal := .next ((s.advance t).fmRecover mv)

end Sys2Proof.Machine
end

