-- ==== Sys2Proof/Machine/Pulse.lean ====
section
/-! DEFINITION. Pulse generators and pulse inputs (14 R410 to R415). -/

namespace Sys2Proof.Machine

/-- A generator and a pulse input as event sources. -/
def pgRes (k : Nat) : Res := { cls := 0x0B, index := 0x0100 + k }
def piRes (n : Nat) : Res := { cls := 0x0B, index := 0x0200 + n }

/-- The value of a generator's base now: in a pair, TB0 is the pair timer (R410). -/
def State.pgNow (s : State) (k : Nat) : Int :=
  if s.param .pgTb k = 0 ∧ s.paired then s.pairTimer else s.baseNow (s.param .pgTb k)

/-- A generator's period in ns. -/
def State.pgPeriodNs (s : State) (k : Nat) : Nat := s.param .pgPeriod k * 1000

/-- Arms a generator (R411). -/
def State.pgArm (k : Nat) (s : State) : State :=
  let x := s.pgOf k
  let start : Int := s.param .pgStart k
  let now := s.pgNow k
  match s.param .pgMode k with
  | 0 => s.setPg k { x with armed := false, waiting := false, last := none }
  | 1 => s.setPg k { x with armed := true, waiting := false, next := start, last := none }
  | _ =>
    s.setPg k { x with armed := true, waiting := false, last := none, next := if now ≤ start then start else gridUp (now + 10000) (s.param .pgStart k) (s.pgPeriodNs k) }

/-- A restored generator waits until its base is valid, then the rules of arming apply; a once-generator whose instant has
passed is set to `PG_MODE` 0 (R411). -/
def State.pgResume (k : Nat) (s : State) : State :=
  let x := s.pgOf k
  if ¬ x.waiting ∨ ¬ s.baseValid (s.param .pgTb k) then s
  else if s.param .pgMode k = 1 ∧ (s.param .pgStart k : Int) < s.pgNow k then
    ((s.setCommit k [(.pgMode, 0)]).setPg k { x with waiting := false, armed := false }).post .data .ePgMissed (pgRes k) (k * 2 ^ 24)
  else s.pgArm k

/-- Generators on base `b` that wait for it. -/
def State.pgWake (b : Nat) (s : State) : State :=
  s.each (fun k s => if s.param .pgTb k = b then s.pgResume k else s) (List.range 8)

/-- The generators at the start of the module: configuration and armed state are restored. -/
def State.pgStart (k : Nat) (s : State) : State :=
  if s.param .pgMode k = 0 then s else (s.setPg k { waiting := true }).pgResume k

/-- The pulse inputs that generator `k` captures. -/
def State.piCapture (k : Nat) (at0 : Int) (n : Nat) (s : State) : State :=
  let x := s.piOf n
  if s.param .piCapture n = k ∧ s.param .piMode n ≠ 0 then s.setPi n { x with capCount := x.count, capTime := at0, captured := true } else s

/-- A generator reaches its instant (R410, R412): the pin in the field-active module, the event trigger, the captures. -/
def State.pgFire (k : Nat) (s : State) : State :=
  let x := s.pgOf k
  let now := s.pgNow k
  if ¬ x.armed ∨ now + 50 < x.next then s
  else
    let once := s.param .pgMode k == 1
    let dest := s.param .pgDest k
    let pin := bitOf dest 0 && s.fieldActive
    let late := now - x.next
    let s := s.setPg k { x with armed := !once, last := some x.next, next := if once then x.next else x.next + s.pgPeriodNs k, pulse := x.pulse || pin, pulseAt := if pin then s.tb0 else x.pulseAt }
    let s := if pin then s.send (.pin k true) else s
    let s := if bitOf dest 1 then { s with triggers := s.triggers ++ [{ src := 1, index := k, rising := true }] } else s
    let s := if bitOf dest 2 then s.each (State.piCapture k x.next) (List.range 4) else s
    if once ∧ 50 < late then s.post .data .ePgLate (pgRes k) (q24 k (late / 1000)) else s

/-- The end of a pulse: after `PG_WIDTH`, to ±20 ns, the pin returns. -/
def State.pgPulseEnd (k : Nat) (s : State) : State :=
  let x := s.pgOf k
  if x.pulse ∧ x.pulseAt + s.param .pgWidth k * 1000 ≤ s.tb0 + 20 then (s.setPg k { x with pulse := false }).send (.pin k false) else s

/-- Accepted edges that count for the frequency: of the last gate, or of the last two where the last has fewer than 2. -/
def State.piEdges (s : State) (n : Nat) : List (Nat × Bool) :=
  let g := s.param .piGate n * 1000000
  let l := (s.piOf n).edges.filter (fun e => decide (s.tb0 < e.1 + 2 * g))
  let l1 := l.filter (fun e => decide (s.tb0 < e.1 + g))
  if 2 ≤ l1.length then l1 else l

/-- The frequency as REAL (R414), in modes 2 and 3: with a sign in quadrature. -/
def State.piFreq (s : State) (n : Nat) : Nat :=
  if s.param .piMode n < 2 then 0 else
  let l := s.piEdges n
  match l.head?, l.getLast? with
  | some a, some z =>
    if l.length < 2 ∨ z.1 ≤ a.1 then 0
    else
      let q : Q := { num := (l.length - 1 : Nat) * 1000000000, den := z.1 - a.1 }
      (if s.param .piMode n = 3 ∧ ¬ z.2 then q.neg else q).toReal
  | _, _ => 0

/-- The status word of a pulse input (R415). -/
def PiRun.status (x : PiRun) : Nat := b2n x.overrange + 2 * b2n x.captured

/-- An edge that is to be accepted (R414): on B where `onB`, to level `level`. Closer to the last one of its terminal than `PI_FILTER`, it
is not accepted and E_PI_OVERRANGE is recorded. In quadrature an edge of A that leads B counts up (notes/assumptions/33.md). -/
def State.piEdge (n : Nat) (onB level : Bool) (s : State) : State :=
  let x := s.piOf n
  let mode := s.param .piMode n
  let near : Bool := match (if onB then x.changeB else x.changeA) with
    | some c => decide (s.tb0 < c + s.param .piFilter n * 100)
    | none => false
  if mode = 0 ∨ (if onB then x.levelB else x.levelA) = level then s
  else if near then
    (s.setPi n { x with overrange := true }).postIf (!x.overrange) .data .ePiOverrange (piRes n)
      (n * 2 ^ 24 + 1000000 / max 1 (s.param .piFilter n))
  else
    let x := if onB then { x with levelB := level, changeB := some s.tb0 } else { x with levelA := level, changeA := some s.tb0 }
    let counts := mode == 3 || (!onB && level)
    let up := if mode = 3 then (if onB then x.levelA == level else level != x.levelB) else true
    let g := 2 * s.param .piGate n * 1000000
    let prev := x.edges.getLast?.map (·.1)
    let dt : Nat := (match prev with | some p => s.tb0 - p | none => 1000000000)
    let fast := counts && prev.isSome && decide (dt < 10000)
    let fresh := fast && !x.overrange
    let x := if ¬ counts then x else { x with
      count := signed 64 (wrapInt 64 (x.count + (if up then 1 else -1))),
      edges := x.edges.filter (fun e => decide (s.tb0 < e.1 + g)) ++ [(s.tb0, up)],
      overrange := fast }
    let s := s.setPi n x
    let s := s.postIf fresh .data .ePiOverrange (piRes n) (n * 2 ^ 24 + (100000000 / max 1 dt) % 2 ^ 24)
    if onB ∨ mode = 0 then s else { s with triggers := s.triggers ++ [{ src := 3, index := n, rising := level }] }

end Sys2Proof.Machine
end

