-- ==== Sys2Proof/Machine/Rtc.lean ====
section
/-! DEFINITION. The backup domain: calendar, halt, freeze, event inputs, the LOST latch, and the commands of class 0x0E (17). -/

namespace Sys2Proof.Machine

/-- The calendar as event source; event input `n`. -/
def rtcRes : Res := { cls := 0x0E, index := 0 }
def beRes (n : Nat) : Res := { cls := 0x0E, index := 0x0100 + n }

/-- Event input `n`. -/
def State.beOf (s : State) (n : Nat) : BeInput := Tab.get (fun _ => {}) s.rtc.be n
/-- Replaces event input `n`. -/
def State.setBe (n : Nat) (b : BeInput) (s : State) : State := { s with rtc := { s.rtc with be := Tab.put (fun _ => {}) s.rtc.be n b } }

/-- `RTC_FLAGS` (R463). -/
def Rtc.flags (r : Rtc) : Nat := b2n r.lost + 2 * b2n r.badDate + 4 * b2n r.haltTimeout + 8 * b2n r.rangeEnd + 16 * b2n r.oscFail
/-- `RTC_CTRL`. -/
def Rtc.ctrl (r : Rtc) : Nat := b2n r.halt.isSome + 2 * b2n r.halt.isSome + 4 * b2n r.frozen.isSome + 8 * b2n r.trimEn
/-- VBK follows the higher of the supercapacitor and the cell (02 R52). -/
def Rtc.vbk (r : Rtc) : Nat := max r.capMv r.cellMv
/-- `VBK_STATUS`: the cell above the supercapacitor; the charger works up to 3.0 V while main power, without which nothing reads
the register, is present (R460). -/
def Rtc.vbkStatus (r : Rtc) : Nat := r.vbk % 4096 + 4096 * b2n (decide (r.capMv < r.cellMv)) + 8192 * b2n (decide (r.capMv < 3000))

/-- The calendar registers as a read finds them: as written during a halt, else live (R464). -/
def State.calNow (s : State) : CalRegs :=
  match s.rtc.halt with
  | some (_, r) => r
  | none => calRegs s.rtcTicks

/-- LOST sets (R471): every other field takes its factory value, but for those that show a measurement, and the counter restarts; the
reset record is of the window, too. -/
def State.rtcLose (osc range : Bool) (s : State) : State :=
  let r := s.rtc
  let fresh := !r.lost
  let told := if fresh then s.power.mgmtUp else r.lostTold
  let be := Tab.mapVals (fun _ => {}) (fun b => { level := b.level }) r.be
  let rtc : Rtc := {
    tick0 := 0, at0 := s.tb0, lost := true, lostTold := told, oscFail := osc, oscBad := r.oscBad, rangeEnd := range,
    capMv := r.capMv, cellMv := r.cellMv, be := be }
  let s : State := { s with rtc := rtc, power := { s.power with lastCause := 0, lastCauseEpoch := 0 } }
  s.postIf (fresh && s.power.mgmtUp) .management .eRtcLost rtcRes s.rtc.flags

/-- A valid set takes effect (R465, R473), and clears OSC_FAIL where the oscillator runs within limits (R468): by the window (0), a command (1) or TB3 (2). TB3 is stepped once where it takes
the RTC as its source. -/
def State.rtcAccept (src ticks : Nat) (s : State) : State :=
  let from3 := !s.tb3FromTb1
  let d := ticksNs ticks - ticksNs s.rtcTicks
  let s := { s with rtc := { s.rtc with tick0 := ticks, at0 := s.tb0, halt := none, lost := false, badDate := false, oscFail := s.rtc.oscFail && s.rtc.oscBad, rangeEnd := false } }
  let s := if from3 then
      let x := s.base 3
      ((s.setBase 3 { x with disc := (x.disc + 1) % 256 }).post .data .eTimeStepped (tbRes 3) (q24 3 (sat24 (d / 1000)))).each (State.pgStepped 3 d) (List.range 8)
    else s
  (s.post .management .eRtcSet rtcRes src).pgWake 3

/-- The release of a window halt (R465). -/
def State.rtcRelease (s : State) : State :=
  match s.rtc.halt with
  | none => s
  | some (_, r) =>
    if r.ok then s.rtcAccept 0 r.ticks
    else ({ s with rtc := { s.rtc with halt := none, badDate := true } } : State).post .management .eRtcBadDate rtcRes 0

/-- `OFFSET` and `TRIM_EN` change the rate from now on. -/
def State.rtcTrim (offset : Int) (en : Bool) (s : State) : State :=
  { s with rtc := { s.rtc with tick0 := s.rtcTicks, at0 := s.tb0, offset := offset, trimEn := en } }

/-- An event input is cleared. -/
def BeInput.cleared (b : BeInput) : BeInput :=
  { b with count := 0, invalid := false, first := 0, last := 0, seen := 0, latchFirst := none, latchLast := none }

/-- A change of level is accepted (R469, R470). The stamp is the tick of the first of the `FILTER` samples. -/
def State.beEdge (n : Nat) (closed : Bool) (s : State) : State :=
  let b := s.beOf n
  if b.level = closed then s
  else
    let hit := if closed then bitOf b.edge 1 else bitOf b.edge 0
    let b := { b with level := closed }
    if ¬ hit then s.setBe n b
    else
      let stamp := s.rtcTicks - (b.filter - 1)
      let c := min 65535 (b.count + 1)
      let up := s.power.mgmtUp
      let s1 := s.setBe n { b with
        count := c, last := stamp, first := if b.count = 0 then stamp else b.first, invalid := b.invalid || s.rtc.lost,
        seen := if up then c else b.seen }
      s1.postIf up .management .eRtcBeEdge (beRes n) (n * 2 ^ 24 + c)

/-- The correction of the oscillator at a temperature (R467): the curve, interpolated, plus `OFFSET`, within ±200 ppm. -/
def rtcCorrection (temp offset : Int) : Int :=
  let t := clampInt (-400) 859 temp + 400
  let i := (t / 20).toNat
  let a := Config.rtcCurve i
  let b := Config.rtcCurve (i + 1)
  clampInt (-20000) 20000 (a + (b - a) * (t % 20) / 20 + offset)

/-! ## Commands -/

/-- `RTC.READ` (R472): its layout is not given (notes/assumptions/21.md). -/
def specRtcRead : CmdSpec where
  op := 0x0E00
  target := targetZero 0x0E
  long := fun _ => true
  run := fun e s =>
    let r := calRegs s.rtcTicks
    .long (Config.resultLayout (0x0E00 * 2 + b2n e.cmd.expert)
      ([(r.sub : Int), r.time, r.date, ticksNs s.rtcTicks, b2n (!s.rtc.lost), s.rtc.flags, s.power.epoch]
        ++ (if e.cmd.expert then [s.rtc.temp, s.rtc.corr, (s.rtc.vbk : Int)] else []))) s

/-- `RTC.SET` (R465, R473). -/
def specRtcSet : CmdSpec where
  op := 0x0E01
  layout := fun _ => { ranges := [(16, 7), (24, 2)] }
  target := targetZero 0x0E
  check := fun s c => firstOf
    [whenS s.rtc.halt.isSome .sBusy,
     whenS (!(dateOk (c.field 16 2) (c.field 18 1) (c.field 19 1) (c.field 20 1) (c.field 21 1) (c.field 22 1) && decide (c.field 24 2 ≤ 1023))) .sImpossibleDate]
  run := fun e s =>
    let c := e.cmd
    .ok (s.rtcAccept 1 (ticksOf (c.field 16 2) (c.field 18 1) (c.field 19 1) (c.field 20 1) (c.field 21 1) (c.field 22 1) (c.field 24 2)))

/-- `RTC.TRIM`. -/
def specRtcTrim : CmdSpec where
  op := 0x0E02
  layout := fun c => { ranges := [(16, if c.expert then 3 else 2)] }
  target := targetZero 0x0E
  params := fun _ c => decide ((signed 16 (c.field 16 2)).natAbs ≤ 20000) && (!c.expert || decide (c.field 18 1 ≤ 1))
  run := fun e s => .ok (s.rtcTrim (signed 16 (e.cmd.field 16 2)) (if e.cmd.expert then e.cmd.field 18 1 == 1 else s.rtc.trimEn))

/-- An event input as target. -/
def beTarget (_ : State) (c : Cmd) : Bool := c.tgtClass == 0x0E && decide (0x0100 ≤ c.tgtIndex ∧ c.tgtIndex < 0x0104) && c.tgtSub == 0

/-- `RTC.BE_CONFIGURE`. -/
def specRtcBeConfigure : CmdSpec where
  op := 0x0E03
  layout := fun _ => { ranges := [(16, 2)] }
  target := beTarget
  params := fun _ c => decide (1 ≤ c.field 16 1 ∧ c.field 16 1 ≤ 3 ∧ 1 ≤ c.field 17 1 ∧ c.field 17 1 ≤ 31)
  run := fun e s =>
    let n := e.cmd.tgtIndex - 0x0100
    .ok (s.setBe n { s.beOf n with edge := e.cmd.field 16 1, filter := e.cmd.field 17 1 })

/-- `RTC.BE_READ`. -/
def specRtcBeRead : CmdSpec where
  op := 0x0E04
  target := beTarget
  long := fun _ => true
  run := fun e s =>
    let b := s.beOf (e.cmd.tgtIndex - 0x0100)
    let f := calRegs b.first
    let l := calRegs b.last
    .long (Config.resultLayout (0x0E04 * 2)
      [(b.count : Int), b.first, f.sub, f.time, f.date, b.last, l.sub, l.time, l.date, b2n b.invalid, b2n b.level, s.power.epoch]) s

/-- `RTC.BE_CLEAR`. -/
def specRtcBeClear : CmdSpec where
  op := 0x0E05
  target := beTarget
  run := fun e s => let n := e.cmd.tgtIndex - 0x0100; .ok (s.setBe n (s.beOf n).cleared)

/-- `RTC.STATUS`. -/
def specRtcStatus : CmdSpec where
  op := 0x0E06
  target := targetZero 0x0E
  long := fun _ => true
  run := fun e s =>
    let r := s.rtc
    .long (Config.resultLayout (0x0E06 * 2 + b2n e.cmd.expert)
      ([(r.vbkStatus : Int), r.flags, r.temp, r.corr, s.power.lastCause, s.power.lastCauseEpoch]
        ++ (if e.cmd.expert then (List.range 64).map Config.rtcCurve else []))) s

/-- The commands of class 0x0E by opcode. -/
def specRtc : List CmdSpec := [specRtcRead, specRtcSet, specRtcTrim, specRtcBeConfigure, specRtcBeRead, specRtcBeClear, specRtcStatus]

/-- RTC_READ (R474). -/
def execRtcRead (t : Nat) (c : Cmd) (s : State) : Host.Outcome State Fault Refusal := .next (specRtcRead.submit c (s.advance t))
/-- RTC_SET (R465). -/
def execRtcSet (t : Nat) (c : Cmd) (s : State) : Host.Outcome State Fault Refusal := .next (specRtcSet.submit c (s.advance t))
/-- RTC_TRIM (R467). -/
def execRtcTrim (t : Nat) (c : Cmd) (s : State) : Host.Outcome State Fault Refusal := .next (specRtcTrim.submit c (s.advance t))
/-- RTC_BE_CONFIGURE (R469). -/
def execRtcBeConfigure (t : Nat) (c : Cmd) (s : State) : Host.Outcome State Fault Refusal := .next (specRtcBeConfigure.submit c (s.advance t))
/-- RTC_BE_READ (R474). -/
def execRtcBeRead (t : Nat) (c : Cmd) (s : State) : Host.Outcome State Fault Refusal := .next (specRtcBeRead.submit c (s.advance t))
/-- RTC_BE_CLEAR (R469). -/
def execRtcBeClear (t : Nat) (c : Cmd) (s : State) : Host.Outcome State Fault Refusal := .next (specRtcBeClear.submit c (s.advance t))
/-- RTC_STATUS (R474). -/
def execRtcStatus (t : Nat) (c : Cmd) (s : State) : Host.Outcome State Fault Refusal := .next (specRtcStatus.submit c (s.advance t))

/-! ## Accesses of the window and events -/

/-- The window answers while the module runs and the endpoint is up, READY or not (04 R89, R95). -/
def State.windowUp (s : State) : Bool :=
  (s.power.phase == .running || s.power.phase == .holdUp) && s.host.endpointUp && !s.host.d3hot

/-- RTC_HALT (R464): the register value written has `HALT` set. -/
def execRtcHalt (t value : Nat) (s : State) : Host.Outcome State Fault Refusal :=
  let s := s.advance t
  .next (if ¬ (s.windowUp && bitOf value 0) then s
    else
      let s := if bitOf value 3 = s.rtc.trimEn then s else s.rtcTrim s.rtc.offset (bitOf value 3)
      if s.rtc.halt.isSome then s else { s with rtc := { s.rtc with halt := some ((s.tb0 : Int), calRegs s.rtcTicks) } })

/-- RTC_HALT_RELEASE (R465). -/
def execRtcHaltRelease (t value : Nat) (s : State) : Host.Outcome State Fault Refusal :=
  let s := s.advance t
  .next (if ¬ s.windowUp || bitOf value 0 then s
    else
      let s := if bitOf value 3 = s.rtc.trimEn then s else s.rtcTrim s.rtc.offset (bitOf value 3)
      s.rtcRelease)

/-- CAL_SUBSEC_READ (R466). -/
def execCalSubsecRead (t : Nat) (s : State) : Host.Outcome State Fault Refusal :=
  let s := s.advance t
  .next (if ¬ s.windowUp then s
    else
      let s := if s.rtc.frozen.isSome then s else { s with rtc := { s.rtc with frozen := some ((s.tb0 : Int), s.calNow) } }
      match s.rtc.frozen with
      | some (_, r) => s.send (.regRead 0x0810 r.sub)
      | none => s)

/-- CAL_DATE_READ (R466): the shadow, and the freeze ends; the live register without one. -/
def execCalDateRead (t : Nat) (s : State) : Host.Outcome State Fault Refusal :=
  let s := s.advance t
  .next (if ¬ s.windowUp then s
    else match s.rtc.frozen with
      | some (_, r) => ({ s with rtc := { s.rtc with frozen := none } } : State).send (.regRead 0x0818 r.date)
      | none => s.send (.regRead 0x0818 s.calNow.date))

/-- BE_CLEAR_BIT (R463): the value written has `CLEAR` set; its other fields are written with it. -/
def execBeClearBit (t n value : Nat) (s : State) : Host.Outcome State Fault Refusal :=
  onResource n 4 s (fun s =>
    let s := s.advance t
    if ¬ (s.windowUp && bitOf value 31) then s
    else
      let b := (s.beOf n).cleared
      let e := bitsOf value 1 0
      let f := bitsOf value 12 8
      s.setBe n { b with edge := if e = 0 then b.edge else e, filter := if f = 0 then b.filter else f })

/-- BE_STAMP_LO_READ (R463): latches the HI register. -/
def execBeStampLoRead (t n : Nat) (last : Bool) (s : State) : Host.Outcome State Fault Refusal :=
  onResource n 4 s (fun s =>
    let s := s.advance t
    if ¬ s.windowUp then s
    else
      let b := s.beOf n
      let v := if last then b.last else b.first
      let b := if last then { b with latchLast := some (v / 2 ^ 32) } else { b with latchFirst := some (v / 2 ^ 32) }
      (s.setBe n b).send (.regRead ((if last then 0x0850 else 0x0848) + 0x20 * n) (v % 2 ^ 32)))

/-- BE_EDGE (R469). -/
def execBeEdge (t n : Nat) (closed : Bool) (s : State) : Host.Outcome State Fault Refusal :=
  onResource n 4 s (fun s => (s.advance t).beEdge n closed)

/-- RTC_HALT_TIMEOUT (R464). -/
def execRtcHaltTimeout (t : Nat) (s : State) : Host.Outcome State Fault Refusal :=
  let s := s.advance t
  .next (match s.rtc.halt with
    | some (a, _) =>
      if (s.tb0 : Int) < a + 60000000000 then s
      else ({ s with rtc := { s.rtc with halt := none, haltTimeout := true } } : State).post .management .eRtcHaltTimeout rtcRes 0
    | none => s)

/-- FREEZE_TIMEOUT (R466). -/
def execFreezeTimeout (t : Nat) (s : State) : Host.Outcome State Fault Refusal :=
  let s := s.advance t
  .next (match s.rtc.frozen with
    | some (a, _) => if (s.tb0 : Int) < a + 1000000000 then s else { s with rtc := { s.rtc with frozen := none } }
    | none => s)

/-- Whether the oscillator is found stopped or out of limits (R468). -/
def State.rtcOsc (bad : Bool) (s : State) : State := { s with rtc := { s.rtc with oscBad := bad } }

/-- RTC_OSC_STOP (R468). -/
def execRtcOscStop (t : Nat) (s : State) : Host.Outcome State Fault Refusal := .next (((s.advance t).rtcOsc true).rtcLose true s.rtc.rangeEnd)

/-- RTC_RATE_COMPARE (R468): the deviation beyond the applied correction, in ppm. -/
def execRtcRateCompare (t : Nat) (dev : Int) (s : State) : Host.Outcome State Fault Refusal :=
  let s := s.advance t
  .next (if ¬ s.power.mgmtUp then s
    else if dev.natAbs ≤ 200 then s.rtcOsc false
    else ((s.rtcOsc true).rtcLose true s.rtc.rangeEnd).post .management .fRtcOsc rtcRes (q24 0 (sat24 dev)))

/-- RTC_TEMP_MEASURE (R467). -/
def execRtcTempMeasure (t : Nat) (temp : Int) (s : State) : Host.Outcome State Fault Refusal :=
  let s := s.advance t
  .next (if s.rtc.trimEn then { s with rtc := { s.rtc with temp := temp, corr := rtcCorrection temp s.rtc.offset } } else s)

/-- RTC_RANGE_END (R462). -/
def execRtcRangeEnd (t : Nat) (s : State) : Host.Outcome State Fault Refusal :=
  let s := s.advance t
  .next (if s.rtcTicks + 1 < rangeEndTicks then s else s.rtcLose s.rtc.oscFail true)

/-- VBD_BELOW_RETENTION (R471). -/
def execVbdBelowRetention (t : Nat) (s : State) : Host.Outcome State Fault Refusal := .next ((s.advance t).rtcLose false false)

end Sys2Proof.Machine
end

