-- ==== Sys2Proof/Machine/TimeCmd.lean ====
section
/-! DEFINITION. The servos of the time bases (14 R402 to R408), the commands of class 0x0B (14 R419) and their events. -/

namespace Sys2Proof.Machine

/-! ## The servo (R404, R405) -/

/-- Servo states by number, in the order of R404. -/
def Servo.num : Servo → Nat
  | .free => 0 | .slewing => 1 | .locked => 2 | .jumpNeeded => 3 | .holdover => 4 | .master => 5

/-- 1 ms in ns. -/
def oneMs : Nat := 1000000

/-- The servo leaves synchronisation. -/
def State.baseUnlocked (b : Nat) (s : State) : State := s.post .data .eTimeUnlocked (tbRes b) (q24 b (s.base b).servo.num)

/-- The servo of a base that has been stepped takes a measured offset. -/
def State.servoRun (b : Nat) (off : Int) (s : State) : State :=
  let x := s.base b
  let thr := s.param .syncThr b
  let mag := off.natAbs
  let within := decide (mag ≤ thr)
  let inside := if within then min 8 (x.inside + 1) else 0
  let above := if within then 0 else min 8 (x.above + 1)
  let was := x.synced
  let x := { x with inside := inside, above := above }
  if oneMs < mag then
    let fresh := x.servo != .jumpNeeded
    let s := s.setBase b { x with servo := .jumpNeeded }
    let s := s.postIf fresh .data .eTimeJumpNeeded (tbRes b) (q24 b (min mag (2 ^ 33) / 1000 |> min (2 ^ 23 - 1) : Nat))
    let s := if was then s.baseUnlocked b else s
    s.baseRate b (if off < 0 then 500000 else -500000)
  else
    let next := if 8 ≤ inside then Servo.locked
      else if x.servo = .jumpNeeded then .slewing
      else if 8 ≤ above then .slewing
      else x.servo
    let s := s.setBase b { x with servo := next, holdOut := x.holdOut && next == .holdover }
    let s := if next = .locked ∧ x.servo ≠ .locked then
        ((s.post .data .eTimeLocked (tbRes b) (q24 b off)).baseLocked b).pgWake b
      else if was ∧ next = .slewing then s.baseUnlocked b else s
    s.baseRateFree b

/-- The offset of TB3 from TB1 − currentUtcOffset, in the count of TB3: 946,684,800 s lie between the two epochs. -/
def State.tb3Wanted (s : State) : Option Int :=
  match (s.base 1).utc with
  | some u => if s.param .tbSrc 3 = 0 ∧ (s.base 1).synced then some (s.baseNow 1 - u * 1000000000 - 946684800000000000) else none
  | none => none

/-- The RTC is written from TB3 (R407, 17 R472, R473): deferred while a window halt is in effect. -/
def State.rtcFrom3 (s : State) : State :=
  if ¬ s.tb3FromTb1 ∨ s.rtc.halt.isSome then s
  else
    let v := s.baseNow 3
    let s := s.setBase 3 { s.base 3 with rtcAt := s.tb0 + 3600000000000 }
    s.rtcAccept 2 (min (rangeEndTicks - 1) (v * 1024 / 1000000000).toNat)

/-- TB1 disciplines TB3: stepped once in an epoch, then followed (R407). -/
def State.tb3Follow (s : State) : State :=
  match s.tb3Wanted with
  | none => s
  | some w =>
    let x := s.base 3
    if ¬ x.stepped then
      let d := w - s.baseNow 3
      let s := s.setBase 3 { x with at0 := s.tb0, v0 := w - d, rate := (s.base 1).rate, stepped := true, servo := .slewing }
      ((s.baseStep 3 d).pgWake 3).rtcFrom3
    else
      let off := x.valueAt s.tb0 - w
      (s.setBase 3 { x with offset := some off, offsets := (x.offsets ++ [off]).drop (x.offsets.length - 15) }).servoRun 3 off

/-- A measured offset from the selected master: the first lock after 4 valid measurements (R405). -/
def State.servoSync (b : Nat) (off : Int) (s : State) : State :=
  let x := s.base b
  let x := { x with offset := some off, offsets := (x.offsets ++ [off]).drop (x.offsets.length - 15) }
  let s := s.setBase b x
  if x.stepped then s.servoRun b off
  else if x.delay.isNone then s
  else if x.valid + 1 < 4 then s.setBase b { x with valid := x.valid + 1 }
  else
    let s := s.setBase b { x with valid := 4, stepped := true, servo := .slewing, at0 := s.tb0, v0 := x.valueAt s.tb0 }
    s.baseStep b (-off)

/-! ## PTP messages (R402, R404) -/

/-- Lexicographic order of two datasets. -/
def listLt : List Nat → List Nat → Bool
  | a :: r, b :: r' => decide (a < b) || (a == b && listLt r r')
  | _, _ => false

/-- The comparison of the default BMCA: priority 1, class, accuracy, variance, priority 2, identity. -/
def announceBetter (a b : Announce) : Bool :=
  listLt [a.prio1, a.cls, a.acc, a.var, a.prio2, a.gm] [b.prio1, b.cls, b.acc, b.var, b.prio2, b.gm]

/-- The module's own dataset (R402). -/
def State.ownAnnounce (s : State) (b : Nat) : Announce :=
  { prio1 := s.param .ptpPrio1 b, cls := 248, acc := 0xFE, var := Config.clockVariance, prio2 := s.param .ptpPrio2 b,
    gm := Config.clockIdentity (s.param .stationId 0) (s.param .pairSide 0), utc := none }

/-- The base a PTP message serves (R406). -/
def State.ptpServes (s : State) (m : PtpMsg) (b : Nat) : Bool :=
  m.domain == s.param .ptpDomain b &&
    (if b = 1 then m.port == 0 || s.param .netMode 0 == 1 || (s.param .portFailover 1 == 1 && ((s.base 1).master.isNone || (s.base 1).port == 1))
     else s.param .tbSrc 2 == 1 && (m.port == 1 || s.param .netMode 0 == 1))

/-- A new master is selected: no change of state by itself; measurements begin again. -/
def State.takeMaster (b : Nat) (a : Announce) (port : Nat) (s : State) : State :=
  let x := s.base b
  let change := (match x.master with | some o => o.gm != a.gm | none => true)
  let was := x.servo == .master
  let s := s.setBase b { x with
    master := some a, port := port, lastAnnounce := s.tb0, valid := if change then 0 else x.valid,
    servo := if was then .slewing else x.servo }
  let s := s.postIf change .data .eTimeMaster (tbRes b) (q24 b (a.gm % 2 ^ 24 : Nat))
  if was then s.baseUnlocked b else s

/-- Base `b` becomes MASTER, with the value it has, unadjusted (R404). -/
def State.becomeMaster (b : Nat) (s : State) : State :=
  let x := s.base b
  let s := s.txRun
  (s.setBase b { x with servo := .master, master := none, stepped := true, v0 := x.valueAt s.tb0, at0 := s.tb0, rate := 0 }).baseLocked b

/-- BMCA selects this module as the new grandmaster: it is recorded (R404). -/
def State.electSelf (b : Nat) (s : State) : State :=
  ((s.becomeMaster b).post .data .eTimeMaster (tbRes b) (q24 b ((s.ownAnnounce b).gm % 2 ^ 24 : Nat))).pgWake b

/-- An Announce (R402, R404): the default BMCA over the selected master, the announced clock and, where it is master-capable, this
module. In PRP a master on NA takes the place of one that serves from NB (R406). -/
def State.ptpAnnounce (b : Nat) (a : Announce) (port : Nat) (s : State) : State :=
  let x := s.base b
  let same : Bool := match x.master with | some o => o.gm == a.gm | none => false
  let best : Bool := match x.master with | some o => o.gm == a.gm || announceBetter a o | none => true
  let home := x.port == 1 && port == 0 && b == 1 && s.param .netMode 0 == 0
  if ¬ (best || home) then s
  else if s.param .ptpRole b = 1 ∧ announceBetter (s.ownAnnounce b) a then
    (if x.servo = .master then s else s.electSelf b)
  else if same then s.setBase b { x with master := some a, port := port, lastAnnounce := s.tb0 }
  else s.takeMaster b a port

/-- A PTP message reaches the servo of its base. -/
def State.ptpTake (m : PtpMsg) (b : Nat) (s : State) : State :=
  if ¬ s.ptpServes m b then s
  else match m.body with
    | .announce a => s.ptpAnnounce b a m.port
    | .sync off =>
      (match (s.base b).master with
       | some a => if a.gm = m.clock ∧ (s.base b).servo ≠ .master then
           (let s := s.servoSync b off; if b = 1 then s.tb3Follow else s) else s
       | none => s)
    | .delay d => s.setBase b { s.base b with delay := some d }
    | .other => s

/-- Base `b` is driven by PTP (R406). -/
def State.ptpDriven (s : State) (b : Nat) : Bool := b == 1 || s.param .tbSrc 2 == 1

/-- No Announce for announceReceiptTimeout, which is 3 intervals of the master's: at least 3 of the shortest, of 125 ms. -/
def State.announceLost (b : Nat) (s : State) : State :=
  let x := s.base b
  if ¬ s.ptpDriven b ∨ x.servo = .master ∨ s.tb0 < x.lastAnnounce + 375000000 then s
  else if s.param .ptpRole b = 1 then s.electSelf b
  else if x.servo = .holdover then s
  else if x.servo = .free then s.setBase b { x with master := none, valid := 0 }
  else
    let s := s.setBase b { x with
      master := none, valid := 0, servo := .holdover, wasLocked := x.servo == .locked, holdAt := s.tb0,
      holdOut := false, inside := 0, above := 0, offset := none }
    s.post .data .eTimeHoldover (tbRes b) (b * 2 ^ 24)

/-- `HOLDOVER_S` has passed. -/
def State.holdoverOut (b : Nat) (s : State) : State :=
  let x := s.base b
  if x.servo = .holdover ∧ x.wasLocked ∧ ¬ x.holdOut ∧ x.holdAt + s.param .holdoverS b * 1000000000 ≤ s.tb0 then
    (s.setBase b { x with holdOut := true }).baseUnlocked b
  else s

/-- A leap second of TB3 (R407): through an inserted one it stands at the last nanosecond of the day. -/
def State.leap (inserted : Bool) (s : State) : State :=
  let x := s.base 3
  let d : Int := if inserted then -1000000000 else 1000000000
  let s := s.setBase 3 { x with v0 := x.v0 + d, standTill := if inserted then s.tb0 + 1000000000 else x.standTill }
  (s.post .data .eTimeLeap (tbRes 3) (q24 3 (if inserted then 1 else 2))).each (State.pgStepped 3 d) (List.range 8)

/-! ## Commands (R419) -/

/-- A time base as target, from `lo` up. -/
def baseTarget (lo : Nat) (_ : State) (c : Cmd) : Bool :=
  c.tgtClass == 0x0B && decide (lo ≤ c.tgtIndex ∧ c.tgtIndex ≤ 3) && c.tgtSub == 0

/-- The values that every time value carries (R408): value, power epoch, valid, servo state, discontinuity count. -/
def State.timeValues (s : State) (b : Nat) : List Int :=
  [s.baseNow b, (s.power.epoch : Int), (b2n (s.baseValid b) : Int), ((s.base b).servo.num : Int), ((s.base b).disc : Int)]

/-- `TIME.READ`. -/
def specTimeRead : CmdSpec where
  op := 0x0B00
  target := baseTarget 0
  long := fun _ => true
  run := fun e s =>
    .long (Config.resultLayout (0x0B00 * 2 + b2n e.cmd.expert)
      (s.timeValues e.cmd.tgtIndex ++ (if e.cmd.expert && s.paired then [s.pairTimer, (s.pair.epoch : Int)] else []))) s

/-- The settings of a `TIME.CONFIGURE` (R409). -/
def timeSettings (c : Cmd) : List (Param × Nat) :=
  let b := c.tgtIndex
  let ptp := b == 1 || b == 2
  (if ptp then [(.ptpDomain, c.field 16 1)] else []) ++ (if b = 1 then [] else [(.tbSrc, c.field 19 1)])
    ++ (if ¬ c.expert then [] else
      (if ptp then [(.ptpRole, c.field 17 1), (.ptpDelay, c.field 18 1), (.ptpPrio1, c.field 20 1), (.ptpPrio2, c.field 21 1),
          (.logSync, c.field 22 1), (.logAnnounce, c.field 23 1), (.holdoverS, c.field 28 4)] else [])
        ++ [(.syncThr, c.field 24 4)] ++ (if b = 2 then [(.tb2Can, c.field 32 1)] else []) ++ (if b = 1 then [(.portFailover, c.field 33 1)] else []))

/-- A base that is MASTER leaves that state where its source changes or the module is no longer master-capable on it (R402;
notes/assumptions/95.md). -/
def State.masterEnds (b : Nat) (moved : Bool) (s : State) : State :=
  if (s.base b).servo = .master ∧ (moved ∨ (s.ptpDriven b ∧ s.param .ptpRole b = 0)) then
    (s.setBase b { s.base b with servo := .free }).baseUnlocked b
  else s

/-- `TIME.CONFIGURE`. A change of domain or source gives up the selected master. -/
def specTimeConfigure : CmdSpec where
  op := 0x0B01
  layout := fun c =>
    let b := c.tgtIndex
    let base := (if b = 3 then [] else [(16, 1)]) ++ (if b = 1 then [] else [(19, 1)])
    { ranges := base ++ (if ¬ c.expert then [] else
        [(24, 4)] ++ (if b = 3 then [] else [(17, 2), (20, 4), (28, 4)]) ++ (if b = 2 then [(32, 1)] else []) ++ (if b = 1 then [(33, 1)] else [])) }
  target := baseTarget 1
  params := fun s c =>
    let b := c.tgtIndex
    let v := newValue s b (timeSettings c)
    let sg := fun x => signed 8 x
    decide (v .ptpDomain ≤ 127) && decide (v .ptpRole ≤ 1) && decide (v .ptpDelay ≤ 1) && decide (v .tbSrc ≤ if b = 2 then 2 else 1)
      && decide (-4 ≤ sg (v .logSync) ∧ sg (v .logSync) ≤ 0) && decide (-3 ≤ sg (v .logAnnounce) ∧ sg (v .logAnnounce) ≤ 2)
      && decide (100 ≤ v .syncThr ∧ v .syncThr ≤ 100000) && decide (v .holdoverS ≤ 3600) && decide (v .tb2Can ≤ 3) && decide (v .portFailover ≤ 1)
  run := fun e s =>
    let b := e.cmd.tgtIndex
    let l := timeSettings e.cmd
    let v := newValue s b l
    let moved := b == 2 && (v .tbSrc != s.param .tbSrc b || v .tb2Can != s.param .tb2Can b)
    let change := v .ptpDomain != s.param .ptpDomain b || moved
    let s := s.setCommit b l
    .ok (if b = 3 then s
      else (if change then s.setBase b { s.base b with master := none, valid := 0, offset := none, delay := none } else s).masterEnds b moved)

/-- The step that `TIME.RESTEP` would make, where a current measurement exists. -/
def State.restep (s : State) (b : Nat) : Option Int :=
  let x := s.base b
  let known := if b = 3 then s.tb3Wanted.isSome else if s.param .tbSrc 2 = 2 ∧ b = 2 then true else x.master.isSome
  if known then x.offset.map (fun o => -o) else none

/-- `TIME.RESTEP`. -/
def specTimeRestep : CmdSpec where
  op := 0x0B02
  target := baseTarget 1
  check := fun s c => whenS (s.restep c.tgtIndex).isNone .sState
  run := fun e s =>
    let b := e.cmd.tgtIndex
    let d := (s.restep b).getD 0
    if ¬ e.cmd.expert then .done .sOk (wrapInt 32 (clampInt (-(2 ^ 31)) (2 ^ 31 - 1) (d / 1000))) [] s
    else
      let s := (s.setBase b { s.base b with offset := none }).baseStep b d
      .ok (if b = 3 then s.rtcFrom3 else s)

/-- `TIME.STATUS`. -/
def specTimeStatus : CmdSpec where
  op := 0x0B03
  target := baseTarget 0
  long := fun _ => true
  run := fun e s =>
    let x := s.base e.cmd.tgtIndex
    let a := x.master.getD { prio1 := 0, cls := 0, acc := 0, var := 0, prio2 := 0, gm := 0, utc := none }
    .long (Config.resultLayout (0x0B03 * 2 + b2n e.cmd.expert)
      ([(x.servo.num : Int), a.gm, x.offset.getD 0, x.delay.getD 0, x.rate, x.disc]
        ++ (if e.cmd.expert then x.offsets ++ [(a.prio1 : Int), a.cls, a.acc, a.var, a.prio2, a.utc.getD 0] else []))) s

/-- A pulse generator as target; a pulse input. -/
def pgTarget (_ : State) (c : Cmd) : Bool := c.tgtClass == 0x0B && decide (0x0100 ≤ c.tgtIndex ∧ c.tgtIndex < 0x0108) && c.tgtSub == 0
def piTarget (_ : State) (c : Cmd) : Bool := c.tgtClass == 0x0B && decide (0x0200 ≤ c.tgtIndex ∧ c.tgtIndex < 0x0204) && c.tgtSub == 0

/-- The settings of a `TIME.PG_CONFIGURE` (R413). -/
def pgSettings (c : Cmd) : List (Param × Nat) :=
  [(.pgMode, c.field 16 1), (.pgTb, c.field 17 1), (.pgPeriod, c.field 20 4), (.pgStart, c.field 32 8)]
    ++ (if c.expert then [(.pgDest, c.field 18 1), (.pgPol, c.field 19 1), (.pgWidth, c.field 24 4)] else [])

/-- Conditions of arming (R411). -/
def pgCheck (s : State) (c : Cmd) : Status :=
  let b := c.field 17 1
  if c.field 16 1 = 0 then .sOk
  else firstOf [s.baseStatus b,
    whenS (c.field 16 1 == 1 && decide ((c.field 32 8 : Int) < (if b = 0 ∧ s.paired then s.pairTimer else s.baseNow b))) .sTooLate]

/-- `TIME.PG_CONFIGURE`: its boundary is the end of a pulse in progress. -/
def specTimePgConfigure : CmdSpec where
  op := 0x0B04
  layout := fun c => { ranges := [(16, 2), (20, 4), (32, 8)] ++ (if c.expert then [(18, 2), (24, 4)] else []) }
  target := pgTarget
  params := fun s c =>
    let v := newValue s (c.tgtIndex - 0x0100) (pgSettings c)
    decide (v .pgMode ≤ 2) && decide (v .pgTb ≤ 3) && decide (v .pgDest ≤ 7) && decide (v .pgPol ≤ 1)
      && decide (10 ≤ v .pgPeriod ∧ v .pgPeriod ≤ 1000000000) && decide (1 ≤ v .pgWidth ∧ v .pgWidth ≤ min (v .pgPeriod - 1) 1000000)
  owner := fun _ c => some { kind := .pg, index := c.tgtIndex - 0x0100 }
  running := fun s c => (s.pgOf (c.tgtIndex - 0x0100)).pulse
  run := guarded pgCheck (fun e s =>
    let k := e.cmd.tgtIndex - 0x0100
    .ok ((s.setCommit k (pgSettings e.cmd)).pgArm k))

/-- The settings of a `TIME.PI_CONFIGURE` (R415). -/
def piSettings (c : Cmd) : List (Param × Nat) :=
  [(.piMode, c.field 16 1), (.piFilter, c.field 20 4)] ++ (if c.expert then [(.piCapture, c.field 17 1), (.piGate, c.field 24 4)] else [])

/-- `TIME.PI_CONFIGURE`: its boundary is a 10 µs frame. -/
def specTimePiConfigure : CmdSpec where
  op := 0x0B05
  layout := fun c => { ranges := [(16, 1), (20, 4)] ++ (if c.expert then [(17, 1), (24, 4)] else []) }
  target := piTarget
  params := fun s c =>
    let v := newValue s (c.tgtIndex - 0x0200) (piSettings c)
    decide (v .piMode ≤ 3) && (decide (v .piCapture ≤ 7) || v .piCapture == 0xFF) && decide (5 ≤ v .piFilter ∧ v .piFilter ≤ 10000)
      && decide (1 ≤ v .piGate ∧ v .piGate ≤ 10000)
  owner := fun _ c => some { kind := .pi, index := c.tgtIndex - 0x0200 }
  running := fun _ _ => false
  run := fun e s =>
    let n := e.cmd.tgtIndex - 0x0200
    let s := s.setCommit n (piSettings e.cmd)
    .ok (s.setPi n { s.piOf n with edges := [] })

/-- `TIME.PI_SET_COUNT`. -/
def specTimePiSetCount : CmdSpec where
  op := 0x0B06
  layout := fun _ => { ranges := [(24, 8)] }
  target := piTarget
  owner := fun _ c => some { kind := .pi, index := c.tgtIndex - 0x0200 }
  running := fun _ _ => false
  run := guarded (fun s c => whenS (s.param .piMode (c.tgtIndex - 0x0200) == 0) .sState) (fun e s =>
    let n := e.cmd.tgtIndex - 0x0200
    .ok (s.setPi n { s.piOf n with count := signed 64 (e.cmd.field 24 8) }))

/-- The commands of class 0x0B by opcode. -/
def specTime : List CmdSpec :=
  [specTimeRead, specTimeConfigure, specTimeRestep, specTimeStatus, specTimePgConfigure, specTimePiConfigure, specTimePiSetCount]

/-- TIME_READ (R408). -/
def execTimeRead (t : Nat) (c : Cmd) (s : State) : Host.Outcome State Fault Refusal := .next (specTimeRead.submit c (s.advance t))
/-- TIME_CONFIGURE (R409). -/
def execTimeConfigure (t : Nat) (c : Cmd) (s : State) : Host.Outcome State Fault Refusal := .next (specTimeConfigure.submit c (s.advance t))
/-- TIME_RESTEP (R405). -/
def execTimeRestep (t : Nat) (c : Cmd) (s : State) : Host.Outcome State Fault Refusal := .next (specTimeRestep.submit c (s.advance t))
/-- TIME_STATUS (R419). -/
def execTimeStatus (t : Nat) (c : Cmd) (s : State) : Host.Outcome State Fault Refusal := .next (specTimeStatus.submit c (s.advance t))
/-- TIME_PG_CONFIGURE (R411). -/
def execTimePgConfigure (t : Nat) (c : Cmd) (s : State) : Host.Outcome State Fault Refusal := .next (specTimePgConfigure.submit c (s.advance t))
/-- TIME_PI_CONFIGURE (R415). -/
def execTimePiConfigure (t : Nat) (c : Cmd) (s : State) : Host.Outcome State Fault Refusal := .next (specTimePiConfigure.submit c (s.advance t))
/-- TIME_PI_SET_COUNT (R415). -/
def execTimePiSetCount (t : Nat) (c : Cmd) (s : State) : Host.Outcome State Fault Refusal := .next (specTimePiSetCount.submit c (s.advance t))

/-! ## Events -/

/-- PTP_MESSAGE_RECEIVED (R404): the message that reached the time unit first. -/
def execPtpMessageReceived (t : Nat) (s : State) : Host.Outcome State Fault Refusal :=
  let s := s.advance t
  .next (match s.net.ptpIn with
    | [] => s
    | m :: r => (({ s with net := { s.net with ptpIn := r } } : State).txRun.ptpTake m 1).ptpTake m 2)

/-- A PTP base. -/
def onPtp (b : Nat) (s : State) (f : State → State) : Host.Outcome State Fault Refusal :=
  if b = 1 ∨ b = 2 then .next (f s) else .fault .noSuchResource

/-- PTP_ANNOUNCE_TIMEOUT (R404). -/
def execPtpAnnounceTimeout (t b : Nat) (s : State) : Host.Outcome State Fault Refusal := onPtp b s (fun s => (s.advance t).announceLost b)
/-- HOLDOVER_EXPIRY (R404). -/
def execHoldoverExpiry (t b : Nat) (s : State) : Host.Outcome State Fault Refusal := onPtp b s (fun s => (s.advance t).holdoverOut b)

/-- The ports on which base `b` sends: both in HSR; in PRP the selected master's, else NA for TB1 and NB for TB2 (R406). -/
def State.ptpPorts (s : State) (b : Nat) : List Nat :=
  if s.param .netMode 0 = 1 then [0, 1]
  else if (s.base b).master.isSome then [(s.base b).port] else [if b = 2 then 1 else 0]

/-- Bytes on the wire of a PTP message of the module: Announce, Pdelay_Req, the others (notes/assumptions/113.md). -/
def ptpBytes (kind : Nat) : Nat := if kind = 1 then 106 else if kind = 3 then 96 else 88

/-- A PTP message of base `b` enters the first queue of its ports (R400); the origin of a Sync is inserted as it leaves. -/
def State.ptpSend (b kind : Nat) (v : Int) (s : State) : State :=
  (s.each (fun k s => s.txPut k { at0 := s.tb0, cls := 1, bytes := ptpBytes kind, own := true, body := .ptp b kind v }) (s.ptpPorts b)).txRun

/-- A PTP interval in ns from its logarithm, a signed byte. -/
def logInterval (v : Nat) : Nat :=
  let i := signed 8 v
  if 0 ≤ i then 1000000000 * 2 ^ i.toNat else 1000000000 / 2 ^ (-i).toNat

/-- PTP_SYNC_SEND (R402, R403): one-step, at the interval of `LOG_SYNC`. -/
def execPtpSyncSend (t b : Nat) (s : State) : Host.Outcome State Fault Refusal :=
  onPtp b s (fun s =>
    let s := s.advance t
    let x := s.base b
    if s.ptpDriven b ∧ x.servo = .master ∧ x.syncAt ≤ s.tb0 then
      (s.setBase b { x with syncAt := s.tb0 + logInterval (s.param .logSync b) }).ptpSend b 0 0
    else s)
/-- PTP_ANNOUNCE_SEND (R402), at the interval of `LOG_ANNOUNCE`. -/
def execPtpAnnounceSend (t b : Nat) (s : State) : Host.Outcome State Fault Refusal :=
  onPtp b s (fun s =>
    let s := s.advance t
    let x := s.base b
    if s.ptpDriven b ∧ x.servo = .master ∧ x.announceAt ≤ s.tb0 then
      (s.setBase b { x with announceAt := s.tb0 + logInterval (s.param .logAnnounce b) }).ptpSend b 1 (s.ownAnnounce b).gm
    else s)
/-- PTP_DELAY_REQ_SEND (R402): peer-to-peer always in HSR. -/
def execPtpDelayReqSend (t b : Nat) (s : State) : Host.Outcome State Fault Refusal :=
  onPtp b s (fun s =>
    let s := s.advance t
    let p2p := s.param .ptpDelay b == 1 || s.param .netMode 0 == 1
    if s.up && s.ptpDriven b && (p2p || (s.base b).master.isSome) then s.ptpSend b (if p2p then 3 else 2) 0 else s)

/-- TB3_LEAP_SECOND (R407). -/
def execTb3LeapSecond (t : Nat) (inserted : Bool) (s : State) : Host.Outcome State Fault Refusal :=
  let s := s.advance t
  .next (if s.tb3FromTb1 then s.leap inserted else s)

/-- TB3_RTC_WRITE (R407): once per hour, and while LOST is set. -/
def execTb3RtcWrite (t : Nat) (s : State) : Host.Outcome State Fault Refusal :=
  let s := s.advance t
  .next (if (s.base 3).rtcAt ≤ s.tb0 ∨ s.rtc.lost then s.rtcFrom3 else s)
/-- PG_FIRE (R410). -/
def execPgFire (t k : Nat) (s : State) : Host.Outcome State Fault Refusal := onResource k 8 s (fun s => (s.advance t).pgFire k)
/-- PI_EDGE (R414). -/
def execPiEdge (t n : Nat) (onB level : Bool) (s : State) : Host.Outcome State Fault Refusal := onResource n 4 s (fun s => (s.advance t).piEdge n onB level)

end Sys2Proof.Machine
end

