-- ==== Sys2Proof/Machine/Can.lean ====
section
/-! DEFINITION. The CAN FD channels (15 R422 to R442): transmit buffers, reception, error states, the skipper. -/

namespace Sys2Proof.Machine

/-- A channel as event source and as retirable resource (21 R524). -/
def canRes (n : Nat) : Res := { cls := 0x0C, index := n }
def canKey (n : Nat) : FaultKey := { cls := 7, index := n }

/-- Channel `n` and its change. -/
def State.canOf (s : State) (n : Nat) : CanChan := Tab.get (fun _ => {}) s.cans n
def State.setCan (n : Nat) (x : CanChan) (s : State) : State := { s with cans := Tab.put (fun _ => {}) s.cans n x }

/-- Buffer `b` of a channel and its change. -/
def CanChan.buf (x : CanChan) (b : Nat) : CanBuf := Tab.get (fun _ => {}) x.bufs b
def State.canBuf (s : State) (n b : Nat) : CanBuf := (s.canOf n).buf b
def State.setCanBuf (n b : Nat) (y : CanBuf) (s : State) : State :=
  s.setCan n { s.canOf n with bufs := Tab.put (fun _ => {}) (s.canOf n).bufs b y }

/-! ## Frames -/

/-- Extended identifier, FD frame, bit-rate switch. -/
def xidIde (x : Nat) : Bool := bitOf x 29
def xidFdf (x : Nat) : Bool := bitOf x 30
def xidBrs (x : Nat) : Bool := bitOf x 31

/-- A valid identifier with its IDE bit: a base identifier has 11 bits. -/
def xidValid (x : Nat) : Bool := decide (x < 2 ^ 30) && (xidIde x || decide (x % 2 ^ 29 < 2 ^ 11))

/-- The arbitration field as a number: the lower has the higher bus priority (15 R428). -/
def canArbOf (f : CanFrame) : Nat :=
  let id := f.xid % 2 ^ 29
  if xidIde f.xid then (id / 2 ^ 18) * 2 ^ 21 + 2 ^ 20 + 2 ^ 19 + (id % 2 ^ 18) * 2 + b2n f.rtr
  else (id % 2 ^ 11) * 2 ^ 21 + b2n f.rtr * 2 ^ 20

/-- The shortest length the DLC of an FD frame can express that is not below `n` (15 R429). -/
def fdLen (n : Nat) : Nat :=
  if n ≤ 8 then n else if n ≤ 12 then 12 else if n ≤ 16 then 16 else if n ≤ 20 then 20 else if n ≤ 24 then 24
  else if n ≤ 32 then 32 else if n ≤ 48 then 48 else 64

/-- The frame a request asks for. -/
def CanReq.frame (r : CanReq) : CanFrame :=
  let n := if xidFdf r.xid then fdLen r.len else r.len
  { xid := r.xid, rtr := bitOf r.flags 0, esi := false,
    data := if bitOf r.flags 0 then List.replicate n 0 else r.data.take (min n r.len) ++ List.replicate (n - min n r.len) 0 }

/-- The conditions that refuse a request (15 R429), `CAN_MODE` 1 apart. -/
def State.canReqBad (s : State) (n : Nat) (r : CanReq) : Bool :=
  (xidFdf r.xid && s.param .canFdEn n == 0) || (bitOf r.flags 0 && xidFdf r.xid) || (!(xidFdf r.xid) && decide (8 < r.len))

/-! ## Which buffer is next (15 R428) -/

/-- Listen-only, configured or imposed by the pair (15 R434, R438; 13 R359). -/
def State.canListens (s : State) (n : Nat) : Bool := s.param .canMode n == 1 || (s.paired && s.pair.st != .active)

/-- The channel can transmit now; with the power-fail warning its transceiver is recessive (R444). -/
def State.canSends (s : State) (n : Nat) : Bool :=
  s.up && ((s.canOf n).st == .errorActive || (s.canOf n).st == .errorPassive) && !s.canListens n

/-- Buffers with an unsent frame. -/
def State.canPending (s : State) (n : Nat) : List Nat := (List.range 3).filter (fun b => (s.canBuf n b).frame.isSome)

/-- Arbitration value of a buffer's frame. -/
def State.canArb (s : State) (n b : Nat) : Nat := match (s.canBuf n b).frame with | some f => canArbOf f | none => 2 ^ 32

/-- The buffer that enters arbitration next. -/
def State.canNext (s : State) (n : Nat) : Option Nat :=
  match s.canPending n with
  | [] => none
  | b :: r => some (if s.param .canTxOrder n = 1 then b else r.foldl (fun m c => if s.canArb n c < s.canArb n m then c else m) b)

/-- The buffer's frame may be the one on the bus. -/
def State.canOnBus (s : State) (n b : Nat) : Bool :=
  s.canSends n && (s.canBuf n b).frame.isSome && ((s.canBuf n b).sof || s.canNext n == some b)

/-- Whether a buffer's frame has sent SOF: the bus decides, so that a frame that could have is free to (a free value). -/
def State.canSof (n b : Nat) (s : State) : Bool × State :=
  let y := s.canBuf n b
  if y.sof then (true, s)
  else if s.canOnBus n b then
    let v := bitOf s.drawn.toNat 0
    (v, (s.afterDraw).setCanBuf n b { y with sof := v })
  else (false, s)

/-! ## Requests and cancels (15 R429, R430) -/

/-- A frame enters its buffer. -/
def State.canArm (n b : Nat) (r : CanReq) (s : State) : State :=
  s.setCanBuf n b { s.canBuf n b with
    frame := some r.frame, seq := r.seq, acted := r.seq, isRef := bitOf r.flags 8, sof := false, next := none,
    res := if (s.canOf n).st = .busOff ∨ (s.canOf n).st = .recovering then 5 else 1 }

/-- The buffer's frame is out of it with `XRES` `res`; a waiting request enters. -/
def State.canDone (n b res : Nat) (s : State) : State :=
  let y := s.canBuf n b
  let s := s.setCanBuf n b { y with frame := none, res := res, ack := y.seq, sof := false, withdraw := false, cmds := [], isRef := false, next := none }
  match y.next with
  | some r => s.canArm n b r
  | none => s

/-- The commands that wait for a cancel complete. -/
def State.canCancelDone (st : Status) (cmds : List Entry) (s : State) : State := cmds.foldl (fun s e => s.complete e st 0 []) s

/-- The frame is withdrawn: `XRES` 3. -/
def State.canWithdraw (n b : Nat) (s : State) : State :=
  let cmds := (s.canBuf n b).cmds
  (s.canDone n b 3).canCancelDone .sOk cmds

/-- A cancel by a request of a task (15 R430): the sequence is echoed when the frame's outcome is known. -/
def State.canCancelReq (n b seq : Nat) (s : State) : State :=
  let y := s.canBuf n b
  match y.frame with
  | none => s.setCanBuf n b { y with acted := seq, ack := seq }
  | some _ =>
    let p := s.canSof n b
    let y := p.2.canBuf n b
    let s := p.2.setCanBuf n b { y with acted := seq, seq := seq, withdraw := p.1 }
    if p.1 then s else s.canWithdraw n b

/-- A request of the record's owner (15 R429): acts when its sequence differs from the last one acted on. -/
def State.canRequest (n b : Nat) (r : CanReq) (s : State) : State :=
  let y := s.canBuf n b
  if r.seq = y.acted then s
  else if bitOf r.flags 1 then s.canCancelReq n b r.seq
  else if s.canReqBad n r ∨ s.param .canMode n = 1 then s.setCanBuf n b { y with acted := r.seq, ack := r.seq, res := 4 }
  else match y.frame with
    | none => s.canArm n b r
    | some _ =>
      let p := s.canSof n b
      if p.1 then p.2.setCanBuf n b { p.2.canBuf n b with next := some r, acted := r.seq }
      else p.2.canArm n b r

/-! ## Error states (15 R433) -/

/-- RX_TIME's base: TB0, or the pair timer when paired (15 R440). -/
def State.canClock (s : State) (t : Nat) : Nat := if s.paired then wrapInt 64 ((t : Int) + s.pair.timerOff) else t

/-- The channel enters BUS-OFF: every unsent buffer stays pending with `XRES` 5. -/
def State.canBusOff (n : Nat) (s : State) : State :=
  let mask := (s.canPending n).foldl (fun acc b => acc + 2 ^ b) 0
  let s := (s.canPending n).foldl (fun s b =>
    if (s.canBuf n b).withdraw then s.canWithdraw n b else s.setCanBuf n b { s.canBuf n b with res := 5, sof := false }) s
  (s.setCan n { s.canOf n with st := .busOff, busOffAt := s.canClock s.tb0 }).post .data .eCanBusOff (canRes n) (n * 2 ^ 24 + mask)

/-- The state that the two counters give, for a channel on the bus. -/
def State.canJudge (n : Nat) (s : State) : State :=
  let x := s.canOf n
  if 255 < x.tec then s.canBusOff n
  else if 127 < x.tec ∨ 127 < x.rerr then
    (let s' := s.setCan n { x with st := .errorPassive }
     s'.postIf (x.st != .errorPassive) .data .eCanErrorPassive (canRes n) (n * 2 ^ 24 + x.tec))
  else s.setCan n { x with st := .errorActive }

/-- The channel is on the bus: its counters and frames count. -/
def State.canLive (s : State) (n : Nat) : Bool :=
  s.up && ((s.canOf n).st == .errorActive || (s.canOf n).st == .errorPassive)

/-- A frame of buffer `b` is destroyed by an error: not retransmitted where a cancel waits. -/
def State.canDestroyed (n b : Nat) (s : State) : State :=
  if (s.canBuf n b).frame.isNone then s
  else if (s.canBuf n b).withdraw then s.canWithdraw n b
  else s.setCanBuf n b { s.canBuf n b with sof := false }

/-- A channel re-integrates to the bus (15 R424, R433): pending buffers stay pending, and a frame in progress is lost, withdrawn where a
cancel waits for it. BUS-OFF and a recovery are left by a recovery request alone. -/
def State.canIntegrate (n : Nat) (s : State) : State :=
  let s := (s.canPending n).foldl (fun s b => s.canDestroyed n b) s
  let x := s.canOf n
  if x.st = .busOff ∨ x.st = .recovering ∨ x.st = .retired then s else s.setCan n { x with st := .integrating }

/-- The counters after an error, by ISO 11898-1; in listen-only they stay (15 R434). -/
def State.canCountErr (n dt dr : Nat) (s : State) : State :=
  if s.canListens n then s else
  let x := s.canOf n
  (s.setCan n { x with tec := min 256 (x.tec + dt), rerr := min 255 (x.rerr + dr) }).canJudge n

/-- A recessive res bit: bus integration with `PEX_EN` 1, an error frame with 0 (15 R422). -/
def State.canException (n : Nat) (s : State) : State :=
  if s.param .canPexEn n = 1 then
    (s.canIntegrate n).post .data .eCanProtocolException (canRes n) (n * 2 ^ 24)
  else s.canCountErr n 0 1

/-- A bus error (15 R433). -/
def State.canError (n : Nat) (e : CanErr) (s : State) : State :=
  if ¬ s.canLive n then s else
  match e with
  | .tx b => if s.canOnBus n b then (s.canDestroyed n b).canCountErr n 8 0 else s
  | .ack b =>
    if s.canOnBus n b then (s.canDestroyed n b).canCountErr n (if (s.canOf n).st = .errorPassive then 0 else 8) 0 else s
  | .rx => s.canCountErr n 0 1
  | .rxDominant => s.canCountErr n 0 8
  | .exception => s.canException n

/-- 11 recessive bits are seen. -/
def State.canIntegrated (n : Nat) (s : State) : State :=
  if (s.canOf n).st = .integrating ∧ ¬ (s.canOf n).retest then s.canJudge n else s

/-- A recovery request: acts in BUS-OFF only. -/
def State.canRecover (n : Nat) (s : State) : State :=
  if (s.canOf n).st = .busOff then s.setCan n { s.canOf n with st := .recovering, recoverAt := s.tb0 } else s

/-- A `CAN_REC` request of a task: echoed once acted on. -/
def State.canRecReq (n req : Nat) (s : State) : State :=
  if req = (s.canOf n).recAck then s else
  let s := s.canRecover n
  s.setCan n { s.canOf n with recAck := req }

/-- 128 × 11 recessive bits are counted. -/
def State.canRecovered (n : Nat) (s : State) : State :=
  let x := s.canOf n
  if x.st ≠ .recovering ∨ x.retest then s else
  let s := s.setCan n { x with st := .errorActive, tec := 0, rerr := 0 }
  let s := (s.canPending n).foldl (fun s b => s.setCanBuf n b { s.canBuf n b with res := 1 }) s
  s.post .data .eCanRecovered (canRes n) (n * 2 ^ 24 + (s.tb0 - x.recoverAt) / 1000000 % 2 ^ 24)

/-! ## Reference messages (15 R435 to R437) -/

/-- TB2 follows or leads on channel `n`. -/
def State.canTb2 (s : State) (n : Nat) : Bool := s.param .tbSrc 2 == 2 && s.param .tb2Can 2 == n

/-- The channel is the sending skipper: the ACTIVE partner's, and not deferred. -/
def State.canSkips (s : State) (n : Nat) : Bool :=
  s.param .canSkipper n == 1 && !(s.canOf n).deferred && !(s.paired && s.pair.st != .active)

/-- A reference message (15 R437): a classical data frame of 8 bytes whose identifier is `REF_ID` but for [2:0]. -/
def State.isReference (s : State) (n : Nat) (f : CanFrame) : Bool :=
  f.xid % 2 ^ 30 / 8 == s.param .canRefId n / 8 && !(xidFdf f.xid) && !f.rtr && f.data.length == 8

/-- The sending skipper's TB2 is MASTER with `SKIP_FOLLOW` 0 (15 R435; notes/assumptions/95.md). -/
def State.skipperLeads (n : Nat) (s : State) : State :=
  if s.canSkips n ∧ s.canTb2 n ∧ s.param .canSkipFollow n = 0 ∧ (s.base 2).servo ≠ .master then (s.becomeMaster 2).pgWake 2 else s

/-- TB2 is set against a reference message received at SOF `sof` (15 R436). -/
def State.canFollow (n : Nat) (f : CanFrame) (sof : Nat) (s : State) : State :=
  let m := beNat (f.data.drop 1)
  let loc := s.baseAt 2 sof
  let d := signed 56 (wrapInt 56 ((m : Int) + s.param .canRefDelay n - loc))
  let d := if ¬ (s.base 2).stepped ∧ loc + d < 0 then d + 2 ^ 56 else d
  let s := s.setCan n { s.canOf n with lastRef := some s.tb0, cycle := (leNat (f.data.take 1) % 64 + 1) % 64 }
  let b := s.base 2
  let led := b.servo == .master
  let s := s.setBase 2 { b with delay := some (s.param .canRefDelay n : Int), servo := if led then .slewing else b.servo }
  (if led then s.baseUnlocked 2 else s).servoSync 2 (-d)

/-- A reference message of higher bus priority than the channel's own (15 R437). -/
def State.canHigher (s : State) (n : Nat) (f : CanFrame) : Bool :=
  decide (canArbOf f < canArbOf { xid := s.param .canRefId n, rtr := false, esi := false, data := [] })

/-- A valid reference message reaches the channel. -/
def State.canReference (n : Nat) (f : CanFrame) (sof : Nat) (s : State) : State :=
  if ¬ s.isReference n f ∨ ¬ s.canTb2 n then s
  else if s.canSkips n then
    (if s.canHigher n f then
      (let s := (s.setCan n { s.canOf n with deferred := true, lastHigher := s.tb0 }).post .data .eCanSkipperDefer (canRes n)
        (n * 2 ^ 24 + f.xid % 2 ^ 24)
       s.canFollow n f sof)
     else s)
  else if s.param .canSkipper n = 1 ∧ (s.canOf n).deferred then
    (if s.canHigher n f then (s.setCan n { s.canOf n with lastHigher := s.tb0 }).canFollow n f sof else s)
  else s.canFollow n f sof

/-- A reference falls due at a multiple of `REF_PERIOD` on TB2, once (15 R435). -/
def State.canRefTime (s : State) (n : Nat) : Bool :=
  onGrid (s.baseNow 2) 0 (s.param .canRefPeriod n * 1000)
    && (match (s.canOf n).refAt with | some a => decide (a + 40 < s.tb0) | none => true)

/-- A reference falls due (15 R435): the cycle count advances whether or not it can be sent. -/
def State.canRefDue (n : Nat) (s : State) : State :=
  if ¬ s.canSkips n ∨ ¬ s.canTb2 n then s else
  let s := s.skipperLeads n
  if ¬ s.canRefTime n then s else
  let x := { s.canOf n with refAt := some s.tb0 }
  let r : CanReq := { xid := s.param .canRefId n, len := 8, flags := 256, seq := (x.buf 0).acted, data := leBytes 1 x.cycle }
  let s := s.setCan n { x with cycle := (x.cycle + 1) % 64 }
  let s := if s.param .canSkipFollow n = 1 ∧ (s.base 1).synced then
      (s.setBase 2 { s.base 2 with delay := some 0 }).servoSync 2 (s.baseNow 2 - s.baseNow 1)
    else s
  if ¬ s.canLive n then s else
  let p := s.canSof n 0
  if p.1 then p.2.setCanBuf n 0 { p.2.canBuf n 0 with next := some r } else p.2.canArm n 0 r

/-- 3 × `REF_PERIOD` without a reference: holdover (15 R436). -/
def State.canRefLost (n : Nat) (s : State) : State :=
  let x := s.canOf n
  match x.lastRef with
  | none => s
  | some t =>
    if s.canTb2 n ∧ ¬ s.canSkips n ∧ t + 3 * s.param .canRefPeriod n * 1000 ≤ s.tb0 then
      let b := s.base 2
      let s := (s.setCan n { x with lastRef := none }).post .data .eCanRefLost (canRes n) (n * 2 ^ 24)
      if b.servo = .free then s
      else (s.setBase 2 { b with servo := .holdover, wasLocked := b.servo == .locked, holdAt := s.tb0, holdOut := false, inside := 0, above := 0, offset := none }).post
        .data .eTimeHoldover (tbRes 2) (2 * 2 ^ 24)
    else s

/-- A deferred skipper sends again (15 R437). -/
def State.canResume (n : Nat) (s : State) : State :=
  let x := s.canOf n
  if x.deferred ∧ x.lastHigher + 3 * s.param .canRefPeriod n * 1000 ≤ s.tb0 then (s.setCan n { x with deferred := false }).skipperLeads n else s

/-! ## Receiving (15 R431, R432) -/

/-- A filter decides a frame: enabled, kind bits, identifier under its mask. -/
def State.canFilterTakes (s : State) (n : Nat) (f : CanFrame) (k : Nat) : Bool :=
  let i := 64 * n + k
  let kind := s.param .fKind i
  let kindOk := if xidFdf f.xid then bitOf kind 1 else if f.rtr then bitOf kind 2 else bitOf kind 0
  let m := s.param .fMask i
  s.param .fAction i != 0 && kindOk && (f.xid % 2 ^ 30 &&& m == (s.param .fId i &&& m))

/-- A frame enters the FIFO, or is lost. -/
def State.canFifo (n : Nat) (r : CanRec) (s : State) : State :=
  let x := s.canOf n
  if x.fifo.length < 32 then s.setCan n { x with fifo := x.fifo ++ [r] } else
  let lost := (x.rxLost + 1) % 2 ^ 32
  let due := match x.lastOverflow with | some t => decide (t + 1000000000 ≤ s.tb0) | none => true
  (s.setCan n { x with rxLost := lost, lastOverflow := if due then some s.tb0 else x.lastOverflow }).postIf due .data .eCanRxOverflow
    (canRes n) (n * 2 ^ 24 + lost % 2 ^ 24)

/-- A valid frame meets the filters: one that no filter takes is dropped and counted; a filter with action 4 rejects it. -/
def State.canFiltered (n : Nat) (f : CanFrame) (sof : Nat) (s : State) : State :=
  match (List.range 64).find? (s.canFilterTakes n f) with
  | none => s.setCan n { s.canOf n with dropped := (s.canOf n).dropped + 1 }
  | some k =>
    let a := s.param .fAction (64 * n + k)
    let x := s.canOf n
    let q := (Tab.get (fun _ => 0) x.hits k + 1) % 2 ^ 32
    let r : CanRec := { frame := f, fseq := q, time := s.canClock sof }
    let x := { x with hits := Tab.put (fun _ => 0) x.hits k q }
    let s := s.setCan n (if a = 2 ∨ a = 3 then { x with recs := Tab.put (fun _ => none) x.recs k (some r) } else x)
    if a = 1 ∨ a = 3 then s.canFifo n r else s

/-- The receive counter after a frame received well (ISO 11898-1): from above 127 it falls to a value from 119 to 127. -/
def State.canRxGood (n : Nat) (s : State) : State :=
  let x := s.canOf n
  if s.canListens n ∨ x.rerr = 0 then s
  else if x.rerr ≤ 127 then (s.setCan n { x with rerr := x.rerr - 1 }).canJudge n
  else (s.afterDraw.setCan n { x with rerr := 119 + s.drawn.toNat % 9 }).canJudge n

/-- A STANDBY partner marks a buffer sent when the bus carries its frame (13 R359). -/
def State.canMirror (n : Nat) (f : CanFrame) (s : State) : State :=
  if ¬ (s.paired && s.pair.st != .active) then s
  else s.each (fun b s => if (s.canBuf n b).frame == some { f with esi := false } then s.canDone n b 2 else s) [0, 1, 2]

/-- A frame becomes valid. -/
def State.canReceive (n : Nat) (f : CanFrame) (sof : Nat) (s : State) : State :=
  if ¬ s.canLive n then s
  else if xidFdf f.xid && s.param .canFdEn n == 0 then s.canException n
  else (((s.canRxGood n).canMirror n f).canReference n f sof).canFiltered n f sof

/-! ## Transmission (15 R430, R433) -/

/-- The frame of buffer `b` has been sent; its SOF was at `sof`. -/
def State.canSent (n b sof : Nat) (s : State) : State :=
  if ¬ s.canOnBus n b then s else
  match (s.canBuf n b).frame with
  | none => s
  | some f =>
    let y := s.canBuf n b
    let f := if y.isRef then { f with data := f.data.take 1 ++ beBytes 7 (wrapInt 56 (s.baseAt 2 sof)) } else f
    let loop := s.param .canMode n == 2
    let s := if loop then s else s.send (.can n f)
    let x := s.canOf n
    let s := (s.setCan n { x with tec := x.tec - 1 }).canJudge n
    let s := if xidFdf f.xid && xidBrs f.xid && s.param .canTdcEn n == 1 then
        (let v := s.drawn.toNat % 256
         let s := s.afterDraw
         s.setCan n { s.canOf n with tdc := v })
      else s
    let s := (s.canDone n b 2).canCancelDone .sTooLate y.cmds
    if loop then s.canReceive n f sof else s

/-- Buffer `b` has lost arbitration. -/
def State.canLost (n b : Nat) (s : State) : State :=
  if ¬ s.canOnBus n b then s else
  let y := s.canBuf n b
  if y.withdraw then s.canWithdraw n b
  else match y.next with
    | some r => s.canArm n b r
    | none => s.setCanBuf n b { y with sof := false }

/-! ## Faults (15 R442) -/

/-- A channel goes off the bus; one that is DISABLED stays so. -/
def State.canOff (n : Nat) (s : State) : State := if (s.canOf n).st = .disabled then s else s.canIntegrate n

/-- A transceiver fault: the channel is off the bus until its re-test, 1 s on. -/
def State.canFault (n kind : Nat) (s : State) : State :=
  let s := s.canOff n
  (s.setCan n { s.canOf n with retest := true, retestAt := s.tb0 + 1000000000 }).fault .data .fCanTransceiver (canRes n) (n * 2 ^ 24 + kind) (canKey n)

/-- An uncorrectable error in the channel's memory: rewritten from the configuration, then INTEGRATING. -/
def State.canMemFault (n : Nat) (s : State) : State :=
  (s.canOff n).fault .data .fCanMemory (canRes n) (n * 2 ^ 24) (canKey n)

/-- The retirement of a channel. -/
def State.canRetire (n code last : Nat) (s : State) : State :=
  let s := (s.markRetired (canKey n) code last).canIntegrate n
  let s := s.setCan n { s.canOf n with st := .retired, retest := false }
  (s.faultUncounted .data .fCanRetired (canRes n) (n * 2 ^ 24 + last) (canKey n)).causeRetired 0x0C n

/-! ## Records (15 R439 to R441) -/

/-- `CAN_STATE`. -/
def CanState.num : CanState → Nat
  | .disabled => 0 | .integrating => 1 | .errorActive => 2 | .errorPassive => 3 | .busOff => 4 | .recovering => 5 | .retired => 6

/-- The STAT record (15 R441). -/
def State.canStat (s : State) (n : Nat) : Bytes :=
  let x := s.canOf n
  leBytes 1 x.st.num
    ++ leBytes 1 (b2n (s.canListens n) + 2 * b2n (s.canSkips n && s.canTb2 n) + 4 * b2n x.deferred)
    ++ leBytes 1 (min 255 x.tec) ++ leBytes 1 (min 255 x.rerr)
    ++ leBytes 2 (x.buf 0).ack ++ leBytes 2 (x.buf 1).ack ++ leBytes 2 (x.buf 2).ack
    ++ leBytes 1 (x.buf 0).res ++ leBytes 1 (x.buf 1).res ++ leBytes 1 (x.buf 2).res ++ leBytes 1 0
    ++ leBytes 2 x.recAck ++ leBytes 4 x.rxLost ++ leBytes 4 0 ++ leBytes 8 x.busOffAt

/-- A REC record (15 R440): 88 bytes. -/
def CanRec.bytes (r : CanRec) : Bytes :=
  leBytes 4 r.frame.xid ++ leBytes 1 r.frame.data.length ++ leBytes 1 (b2n r.frame.rtr + 2 * b2n r.frame.esi) ++ leBytes 2 0
    ++ leBytes 4 r.fseq ++ leBytes 4 0 ++ leBytes 8 r.time ++ slice r.frame.data 0 64

/-- The record of filter `k`; all zero before its first frame. -/
def State.canRecord (s : State) (n k : Nat) : Bytes :=
  match Tab.get (fun _ => none) (s.canOf n).recs k with
  | some r => r.bytes
  | none => List.replicate 88 0

/-- The request that a BUF record spells. -/
def reqOfRecord (b : Bytes) : CanReq :=
  { xid := leNat (slice b 0 4), len := leNat (slice b 4 1), flags := leNat (slice b 5 1), seq := leNat (slice b 6 2), data := slice b 16 64 }

end Sys2Proof.Machine
end

