-- ==== Sys2Proof/Machine/CanCmd.lean ====
section
/-! DEFINITION. The commands of class 0x0C (15 R443, R445) and the rows of the CAN channels. -/

namespace Sys2Proof.Machine

/-- The channel is a command's owner; its boundary is the end of the frame in progress (01 R17). -/
def canOwner (_ : State) (c : Cmd) : Option Owner := some { kind := .can, index := c.tgtIndex }

/-- A frame of the channel is in progress, or a pair names the cycle of the posting (13 R357). -/
def State.canRuns (s : State) (c : Cmd) : Bool :=
  s.paired || [0, 1, 2].any (fun b => (s.canBuf c.tgtIndex b).sof)

/-- The settings of a `CAN.CONFIGURE`: basic, or the 32-byte block. -/
def canSettings (c : Cmd) : List (Param × Nat) :=
  let bit := fun v k => b2n (bitOf v k)
  let flags := fun v : Nat => [(Param.canFdEn, bit v 0), (Param.canTxOrder, bit v 1), (Param.canPexEn, bit v 2), (Param.canTdcEn, bit v 3),
    (Param.canSkipper, bit v 4), (Param.canSkipFollow, bit v 5)]
  if c.expert then
    [(.canEn, c.blk 0 1), (.canMode, c.blk 1 1)] ++ flags (c.blk 2 1)
      ++ [(.canNbrp, c.blk 4 1), (.canNsjw, c.blk 5 1), (.canNtseg1, c.blk 6 2), (.canNtseg2, c.blk 8 1), (.canDbrp, c.blk 9 1),
          (.canDtseg1, c.blk 10 1), (.canDtseg2, c.blk 11 1), (.canDsjw, c.blk 12 1), (.canTdco, c.blk 13 1),
          (.canRefId, c.blk 16 4), (.canRefPeriod, c.blk 20 4), (.canRefDelay, c.blk 24 2)]
  else [(.canEn, c.field 16 1), (.canMode, c.field 17 1)] ++ flags (c.field 18 1)

/-- Time quanta of a bit at 80 MHz: 80 MHz over the rate. -/
def bitTicks (brp t1 t2 : Nat) : Nat := brp * (1 + t1 + t2)

/-- The ranges and relations of R424 and R443. -/
def canInRange (s : State) (n : Nat) (l : List (Param × Nat)) : Bool :=
  let v := newValue s n l
  let nom := bitTicks (v .canNbrp) (v .canNtseg1) (v .canNtseg2)
  let dat := bitTicks (v .canDbrp) (v .canDtseg1) (v .canDtseg2)
  l.all (fun x => x.1.inRange x.2) && xidValid (v .canRefId)
    && decide (80 ≤ nom) && decide (16 ≤ dat) && decide (dat ≤ nom)
    && decide (v .canNsjw ≤ v .canNtseg2) && decide (v .canDsjw ≤ v .canDtseg2)
    && (v .canTdcEn == 1 || decide (80 ≤ dat))

/-- What a change of makes the channel re-integrate (15 R424). -/
def canBusParams : List Param :=
  [.canEn, .canMode, .canFdEn, .canTdcEn, .canNbrp, .canNsjw, .canNtseg1, .canNtseg2, .canDbrp, .canDtseg1, .canDtseg2, .canDsjw, .canTdco]

/-- A task maps a buffer's BUF record. -/
def State.canMapped (s : State) (n b : Nat) : Bool := s.outMaps (fun e => e.names 0x0C n && e.sub == 1 + b)

/-- A skipper's TB2 leaves MASTER: `SKIPPER` is 0 now, or TB2 follows TB1 (R404, R435). -/
def State.skipperEnds (skipper : Nat) (s : State) : State :=
  if (s.base 2).servo = .master then
    (s.setBase 2 { s.base 2 with servo := if skipper = 1 then .slewing else .free }).baseUnlocked 2
  else s

/-- `CAN.CONFIGURE` (15 R424, R435, R443, R445). -/
def specCanConfigure : CmdSpec where
  op := 0x0C00
  layout := fun c => if c.expert then { ranges := [(16, 3), (20, 10), (32, 10)], masks := [(18, 63)] } else { ranges := [(16, 2)], masks := [(18, 63)] }
  form := fun _ c => !c.expert || (c.indirect && decide (32 ≤ c.blockBytes.length) && allZero (c.blockBytes.drop 32) && decide (c.blk 2 1 < 64))
  target := targetBelow 0x0C 4
  params := fun s c => canInRange s c.tgtIndex (canSettings c)
  owner := canOwner
  running := State.canRuns
  run := guarded
    (fun s c =>
      let n := c.tgtIndex
      let v := newValue s n (canSettings c)
      firstOf
        [whenS ((s.canOf n).st == .retired) .sRetired,
         whenS (v .canSkipper == 1 && !(s.canTb2 n)) .sState,
         whenS (v .canSkipper == 1 && s.canMapped n 0) .sState])
    (fun e s =>
      let n := e.cmd.tgtIndex
      let l := canSettings e.cmd
      let v := newValue s n l
      let moved := canBusParams.any (fun p => v p != s.param p n)
      let led := s.param .canSkipper n == 1 && s.param .canSkipFollow n == 0 && s.canTb2 n
      let s := s.setCommit n l
      let s := if ¬ moved then s else if v .canEn = 0 then (let s := s.canIntegrate n; s.setCan n { s.canOf n with st := .disabled }) else s.canIntegrate n
      .ok (if v .canSkipper = 1 ∧ v .canSkipFollow = 0 then s.skipperLeads n else if led then s.skipperEnds (v .canSkipper) else s))

/-- The filter index of a `CAN.FILTER` target. -/
def canFilterIdx (c : Cmd) : Nat := 64 * c.tgtIndex + c.tgtSub

/-- The settings of a filter. -/
def filterSettings (c : Cmd) : List (Param × Nat) :=
  [(.fAction, c.field 16 1), (.fKind, c.field 17 1), (.fId, c.field 20 4), (.fMask, c.field 24 4)]

/-- `CAN.FILTER`. -/
def specCanFilter : CmdSpec where
  op := 0x0C01
  layout := fun _ => { ranges := [(16, 2), (20, 8)] }
  target := fun _ c => c.tgtClass == 0x0C && decide (c.tgtIndex < 4) && decide (c.tgtSub < 64)
  params := fun _ c => (filterSettings c).all (fun x => x.1.inRange x.2) && xidValid (c.field 20 4)
  owner := canOwner
  running := State.canRuns
  run := fun e s => .ok (s.setCommit (canFilterIdx e.cmd) (filterSettings e.cmd))

/-- The request of a `CAN.SEND`, with the buffer's next sequence in the basic form. -/
def sendRequest (s : State) (c : Cmd) : CanReq :=
  if c.indirect then reqOfRecord c.blockBytes
  else { xid := c.field 20 4, len := c.field 24 1, flags := c.field 25 1, seq := ((s.canBuf c.tgtIndex (c.field 16 1)).acted + 1) % 65536,
         data := slice c.body 12 8 }

/-- The buffer a `CAN.SEND` names; the BUF record of the indirect form has no place for its number (a free value,
notes/assumptions/36.md). -/
def sendBuffer (c : Cmd) : Nat := if c.indirect then Config.indirectSendBuffer c.blockBytes % 3 else c.field 16 1

/-- A buffer that a task or the skipper owns (15 R427). -/
def State.canOwned (s : State) (n b : Nat) : Bool := s.canMapped n b || (b == 0 && s.param .canSkipper n == 1)

/-- `CAN.SEND` (15 R427, R429, R444): the request reaches its buffer at once, also during a frame, as R429 has it, and completes when
armed; behind a frame on the bus it waits in its buffer. -/
def specCanSend : CmdSpec where
  op := 0x0C02
  layout := fun c => if c.indirect then { ranges := [(16, 48)] } else { ranges := [(16, 1), (20, 5), (28, 8)], masks := [(25, 1)] }
  form := fun _ c => c.expert == c.indirect && (!c.indirect
    || (decide (80 ≤ c.blockBytes.length) && allZero (c.blockBytes.drop 80) && decide (c.blk 5 1 < 2) && allZero (slice c.blockBytes 8 8)))
  target := targetBelow 0x0C 4
  params := fun s c =>
    let r := sendRequest s c
    decide (sendBuffer c < 3) && decide (r.len ≤ 64) && xidValid (r.xid % 2 ^ 30) && !(s.canReqBad c.tgtIndex r)
  owner := canOwner
  running := fun _ _ => false
  run := guarded
    (fun s c =>
      let n := c.tgtIndex
      firstOf
        [whenS ((s.canOf n).st == .retired) .sRetired, whenS (s.canOwned n (sendBuffer c)) .sOwnerConflict,
         whenS (s.param .canMode n == 1) .sState])
    (fun e s =>
      let n := e.cmd.tgtIndex
      let b := sendBuffer e.cmd
      let r := sendRequest s e.cmd
      match (s.canBuf n b).frame with
      | none => .ok (s.canArm n b r)
      | some _ =>
        let p := s.canSof n b
        .ok (if p.1 then p.2.setCanBuf n b { p.2.canBuf n b with next := some r, acted := r.seq } else p.2.canArm n b r))

/-- `CAN.CANCEL` (15 R430): it reaches the controller at once and waits for the outcome of a frame that has sent SOF. -/
def specCanCancel : CmdSpec where
  op := 0x0C03
  layout := fun _ => { ranges := [(16, 1)] }
  target := targetBelow 0x0C 4
  params := fun _ c => decide (c.field 16 1 < 3)
  owner := canOwner
  running := fun _ _ => false
  run := guarded
    (fun s c => firstOf
      [whenS (s.canOwned c.tgtIndex (c.field 16 1)) .sOwnerConflict,
       whenS (s.canBuf c.tgtIndex (c.field 16 1)).frame.isNone .sNotFound])
    (fun e s =>
      let n := e.cmd.tgtIndex
      let b := e.cmd.field 16 1
      let p := s.canSof n b
      let s := p.2
      if p.1 then .later (s.setCanBuf n b { s.canBuf n b with withdraw := true, cmds := (s.canBuf n b).cmds ++ [e] })
      else .ok (s.canWithdraw n b))

/-- `CAN.RECOVER` (15 R433): applied at once. -/
def specCanRecover : CmdSpec where
  op := 0x0C04
  target := targetBelow 0x0C 4
  owner := canOwner
  running := fun _ _ => false
  run := guarded (fun s c => whenS ((s.canOf c.tgtIndex).st != .busOff) .sState) (fun e s => .ok (s.canRecover e.cmd.tgtIndex))

/-- `CAN.READ`: the oldest frames of the FIFO leave it. -/
def specCanRead : CmdSpec where
  op := 0x0C05
  layout := fun c => if c.expert then { ranges := [(16, 1)] } else {}
  target := targetBelow 0x0C 4
  long := fun _ => true
  run := fun e s =>
    let n := e.cmd.tgtIndex
    let k := if e.cmd.expert then min 32 (e.cmd.field 16 1) else 32
    let x := s.canOf n
    .long ((x.fifo.take k).flatMap CanRec.bytes) (s.setCan n { x with fifo := x.fifo.drop k })

/-- `CAN.STATUS`. -/
def specCanStatus : CmdSpec where
  op := 0x0C06
  target := targetBelow 0x0C 4
  long := fun _ => true
  run := fun e s =>
    let n := e.cmd.tgtIndex
    let x := s.canOf n
    .long (s.canStat n ++ Config.resultLayout (0x0C06 * 2 + b2n e.cmd.expert)
      ([(x.tdc : Int), x.dropped, if s.canTb2 n then ((s.base 2).servo.num : Int) else 0]
        ++ (if e.cmd.expert then (List.range 64).map (fun k => ((Tab.get (fun _ => 0) x.hits k : Nat) : Int)) else []))) s

/-- `CAN.SELFTEST` (15 R442): the loopback test in DISABLED or listen-only; whether it passes is the transceiver's
(a free value, notes/assumptions/35.md). -/
def specCanSelftest : CmdSpec where
  op := 0x0C07
  target := targetBelow 0x0C 4
  check := fun s c => firstOf
    [whenS ((s.canOf c.tgtIndex).st == .retired) .sRetired,
     whenS ((s.canOf c.tgtIndex).st != .disabled && !(s.canListens c.tgtIndex)) .sState]
  run := fun e s =>
    let n := e.cmd.tgtIndex
    .ok (if bitOf s.drawn.toNat 0 then s.afterDraw else
      (let dis := (s.canOf n).st == .disabled
       let s := s.afterDraw.canFault n 2
       if dis then s.setCan n { s.canOf n with st := .disabled } else s))

/-- The commands of class 0x0C by opcode. -/
def specCan : List CmdSpec :=
  [specCanConfigure, specCanFilter, specCanSend, specCanCancel, specCanRecover, specCanRead, specCanStatus, specCanSelftest]

/-- CAN_CONFIGURE. -/
def execCanConfigure (t : Nat) (c : Cmd) (s : State) : Host.Outcome State Fault Refusal := .next (specCanConfigure.submit c (s.advance t))
/-- CAN_FILTER. -/
def execCanFilter (t : Nat) (c : Cmd) (s : State) : Host.Outcome State Fault Refusal := .next (specCanFilter.submit c (s.advance t))
/-- CAN_SEND. -/
def execCanSend (t : Nat) (c : Cmd) (s : State) : Host.Outcome State Fault Refusal := .next (specCanSend.submit c (s.advance t))
/-- CAN_CANCEL. -/
def execCanCancel (t : Nat) (c : Cmd) (s : State) : Host.Outcome State Fault Refusal := .next (specCanCancel.submit c (s.advance t))
/-- CAN_RECOVER. -/
def execCanRecover (t : Nat) (c : Cmd) (s : State) : Host.Outcome State Fault Refusal := .next (specCanRecover.submit c (s.advance t))
/-- CAN_READ. -/
def execCanRead (t : Nat) (c : Cmd) (s : State) : Host.Outcome State Fault Refusal := .next (specCanRead.submit c (s.advance t))
/-- CAN_STATUS. -/
def execCanStatus (t : Nat) (c : Cmd) (s : State) : Host.Outcome State Fault Refusal := .next (specCanStatus.submit c (s.advance t))
/-- CAN_SELFTEST. -/
def execCanSelftest (t : Nat) (c : Cmd) (s : State) : Host.Outcome State Fault Refusal := .next (specCanSelftest.submit c (s.advance t))

/-! ## Events -/

/-- CAN_FRAME_RECEIVED (15 R432): a frame whose SOF was at `sof` becomes valid; a channel in loopback hears no bus (R434). -/
def execCanFrameReceived (t n : Nat) (f : CanFrame) (sof : Nat) (s : State) : Host.Outcome State Fault Refusal :=
  onResource n 4 s (fun s =>
    let s := s.advance t
    if s.param .canMode n = 2 then s else s.canReceive n f sof)

/-- CAN_INTEGRATION_END (15 R433). -/
def execCanIntegrationEnd (t n : Nat) (s : State) : Host.Outcome State Fault Refusal := onResource n 4 s (fun s => (s.advance t).canIntegrated n)

/-- CAN_RECOVERY_END (15 R433). -/
def execCanRecoveryEnd (t n : Nat) (s : State) : Host.Outcome State Fault Refusal := onResource n 4 s (fun s => (s.advance t).canRecovered n)

/-- CAN_REFERENCE_DUE (15 R435). -/
def execCanReferenceDue (t n : Nat) (s : State) : Host.Outcome State Fault Refusal := onResource n 4 s (fun s => (s.advance t).canRefDue n)

/-- CAN_REFERENCE_LOST (15 R436). -/
def execCanReferenceLost (t n : Nat) (s : State) : Host.Outcome State Fault Refusal := onResource n 4 s (fun s => (s.advance t).canRefLost n)

/-- CAN_SKIPPER_RESUME (15 R437). -/
def execCanSkipperResume (t n : Nat) (s : State) : Host.Outcome State Fault Refusal := onResource n 4 s (fun s => (s.advance t).canResume n)

/-- CAN_DOMINANT_TIMEOUT (15 R442). -/
def execCanDominantTimeout (t n : Nat) (s : State) : Host.Outcome State Fault Refusal :=
  onResource n 4 s (fun s =>
    let s := s.advance t
    if (s.canOf n).st = .retired ∨ (s.canOf n).st = .disabled then s else s.canFault n 1)

/-- CAN_TRANSCEIVER_RETEST (15 R442), 1 s after the fault: passed, the channel enters INTEGRATING; failed, it is a further fault. -/
def execCanTransceiverRetest (t n : Nat) (ok : Bool) (s : State) : Host.Outcome State Fault Refusal :=
  onResource n 4 s (fun s =>
    let s := s.advance t
    let x := s.canOf n
    if ¬ x.retest ∨ x.st = .retired ∨ s.tb0 < x.retestAt then s
    else if ok then (s.setCan n { x with retest := false }).canOff n
    else s.canFault n 2)

end Sys2Proof.Machine
end

