-- ==== Sys2Proof/Machine/Cu.lean ====
section
/-! DEFINITION. The check units and the commands of class 0x0D (16). -/

namespace Sys2Proof.Machine

/-- A unit as event source and as retirable resource (21 R524). -/
def cuRes (u : Nat) : Res := { cls := 0x0D, index := u }
def cuKey (u : Nat) : FaultKey := { cls := 10, index := u }

/-- Unit `u` and its change. -/
def State.cuOf (s : State) (u : Nat) : CuRun := Tab.get (fun _ => {}) s.cus u
def State.setCu (u : Nat) (x : CuRun) (s : State) : State := { s with cus := Tab.put (fun _ => {}) s.cus u x }

/-! ## Settings of a unit (16 R448) -/

/-- A CRC setting. -/
structure CrcSet where
  w : Nat
  poly : Nat
  init : Nat
  refin : Bool
  refout : Bool
  xorout : Nat
  deriving DecidableEq, Repr

/-- The presets 1 to 4. -/
def crcPreset : Nat → CrcSet
  | 1 => { w := 32, poly := 0x04C11DB7, init := 0xFFFFFFFF, refin := true, refout := true, xorout := 0xFFFFFFFF }
  | 2 => { w := 32, poly := 0x1EDC6F41, init := 0xFFFFFFFF, refin := true, refout := true, xorout := 0xFFFFFFFF }
  | 3 => { w := 16, poly := 0x1021, init := 0xFFFF, refin := false, refout := false, xorout := 0 }
  | _ => { w := 8, poly := 0x07, init := 0, refin := false, refout := false, xorout := 0 }

/-- The setting of a unit. -/
def State.cuSet (s : State) (u : Nat) : CrcSet :=
  if s.param .cuPreset u ≠ 0 then crcPreset (s.param .cuPreset u)
  else
    let w := s.param .cuWidth u
    let low := fun v => v % 2 ^ w
    { w := w, poly := low (s.param .cuPoly u), init := low (s.param .cuInit u), refin := s.param .cuRefin u == 1,
      refout := s.param .cuRefout u == 1, xorout := low (s.param .cuXorout u) }

/-- The register after `bs`, from `r`. -/
def CrcSet.run (c : CrcSet) (r : Nat) (bs : Bytes) : Nat := crcRun c.w c.poly c.refin r bs
/-- The result of a register. -/
def CrcSet.finish (c : CrcSet) (r : Nat) : Nat := crcFinish c.w c.refout c.xorout r

/-! ## Streams (16 R447, R449, R450) -/

/-- The role of a unit. -/
def State.cuRole (s : State) (u : Nat) : Option Nat := if u < 3 then some u else (s.cuOf u).role

/-- The unit's stream: kind and selection. Units with a role of the module serve that role alone (16 R452). -/
def State.cuSnoops (s : State) (u k sel : Nat) (sent : Bool) : Bool :=
  3 ≤ u && !(s.cuOf u).retired && (s.cuOf u).role.isNone && s.param .cuStream u == k &&
    (let q := s.param .cuSel u
     match k with
     | 1 => q == sel
     | 2 => bitOf q sel && bitOf q 8 == !sent
     | 3 => q == sel
     | 4 => true
     | 5 => q == sel
     | _ => false)

/-- A number in the byte order of a stream: big-endian for kinds 2 and 3 (16 R449). -/
def cuNumber (k : Nat) (b : Bytes) : Nat := if k = 2 ∨ k = 3 then beNat b else leNat b

/-- An alive failure of a unit. -/
def State.cuAliveFail (u reason : Nat) (s : State) : State :=
  let x := s.cuOf u
  (s.setCu u { x with aliveFails := (x.aliveFails + 1) % 2 ^ 32, base := none }).post .data .eCuAlive
    (cuRes u) (u * 2 ^ 24 + reason)

/-- The alive-counter checker (16 R450). -/
def State.cuAlive (u k : Nat) (bs : Bytes) (s : State) : State :=
  if s.param .cuAcEn u = 0 then s else
  let off := s.param .cuAcOffset u
  let w := s.param .cuAcWidth u
  if bs.length < off + w then s.cuAliveFail u 3 else
  let v := cuNumber k (slice bs off w)
  let x := s.cuOf u
  match x.base with
  | none => s.setCu u { x with base := some v }
  | some b =>
    let d := (v + 2 ^ (8 * w) - b) % 2 ^ (8 * w)
    if d = 0 then s.cuAliveFail u 1
    else if s.param .cuAcGap u < d then s.cuAliveFail u 2
    else s.setCu u { x with base := some v }

/-- A result differs: counted, and posted at most once per 100 ms (16 R449). -/
def State.cuMismatch (u result : Nat) (s : State) : State :=
  let x := s.cuOf u
  let due := match x.lastMismatch with | some t => decide (t + 100000000 ≤ s.tb0) | none => true
  (s.setCu u { x with mismatches := (x.mismatches + 1) % 2 ^ 32, lastMismatch := if due then some s.tb0 else x.lastMismatch }).postIf
    due .data .eCuMismatch (cuRes u) (u * 2 ^ 24 + result % 2 ^ 24)

/-- A stream of kind `k` ends at unit `u`. -/
def State.cuEnd (u k : Nat) (bs : Bytes) (s : State) : State :=
  let c := s.cuSet u
  let x := s.cuOf u
  let cmp := s.param .cuCmpMode u
  let n := if cmp = 2 then bs.length - c.w / 8 else bs.length
  let r := c.run (if x.loaded then x.running % 2 ^ c.w else c.init) (bs.take n)
  let res := c.finish r
  let s := s.setCu u { x with result := res, streams := (x.streams + 1) % 2 ^ 32, running := r, loaded := false }
  let bad := if cmp = 1 then res != s.param .cuExpect u % 2 ^ c.w
    else if cmp = 2 then res != cuNumber k (bs.drop n) else false
  let s := if bad then s.cuMismatch u res else s
  s.cuAlive u k bs

/-- The unit serves a role of the module whose streams are of kind `k` (16 R452): pair signatures, safety messages, cocoon writes. -/
def State.cuServes (s : State) (u k : Nat) : Bool :=
  !(s.cuOf u).retired && (match s.cuRole u with
    | some 0 => k == 1
    | some 1 => k == 3
    | some 2 => k == 5
    | _ => false)

/-- A stream of the module's own checks ends at the unit that serves them (16 R452, R453): a signature goes on from the task's context,
and a received safety message is compared with its own last 4 bytes. -/
def State.cuServe (u k sel : Nat) (bs : Bytes) (s : State) : State :=
  let c := if k = 5 then crcPreset 1 else crcPreset 2
  let own := k == 3 && decide (0x1000 ≤ sel)
  let n := if own then bs.length - 4 else bs.length
  let r := c.run (if k = 1 then (s.taskOf sel).sigBase else c.init) (bs.take n)
  let res := c.finish r
  let x := s.cuOf u
  s.setCu u { x with
    result := res, streams := (x.streams + 1) % 2 ^ 32, running := r,
    mismatches := if own && res != cuNumber k (bs.drop n) then (x.mismatches + 1) % 2 ^ 32 else x.mismatches }

/-- A stream ends: each unit that serves or snoops it takes it, or counts it as missed where it was computing another. -/
def State.cuStream (k sel : Nat) (sent : Bool) (bs : Bytes) (busy : List Nat) (s : State) : State :=
  s.each (fun u s =>
    if ¬ (s.cuSnoops u k sel sent || s.cuServes u k) then s
    else if busy.contains u then s.setCu u { s.cuOf u with missed := (s.cuOf u).missed + 1 }
    else if s.cuServes u k then s.cuServe u k sel bs
    else s.cuEnd u k bs) (List.range 8)

/-! ## Roles and faults (16 R452, R454) -/

/-- The unit that serves role 0, 1 or 2; `none` where the role is lost. -/
def State.cuRoleUnit (s : State) (r : Nat) : Option Nat :=
  if ¬ (s.cuOf r).retired then some r
  else [3, 4, 5, 6, 7].find? (fun u => (s.cuOf u).role == some r && !(s.cuOf u).retired)

/-- The parameters of a unit with their factory values. -/
def cuFactory (u : Nat) : List (Param × Nat) :=
  [Param.cuStream, .cuPreset, .cuSel, .cuWidth, .cuRefin, .cuRefout, .cuCmpMode, .cuAcEn, .cuAcOffset, .cuPoly, .cuInit, .cuXorout,
   .cuExpect, .cuAcWidth, .cuAcGap].map (fun p => (p, p.factory u))

/-- A role passes to the highest-numbered user unit that is not RETIRED and has none; its configuration is dropped. -/
def State.cuReassign (r : Nat) (s : State) : State :=
  match [7, 6, 5, 4, 3].find? (fun u => !(s.cuOf u).retired && (s.cuOf u).role.isNone) with
  | none => s
  | some u =>
    let s := s.setCu u { role := some r, taken := (s.cuOf u).taken ++ [r] }
    (s.setCommit u (cuFactory u)).post .data .eCuReassigned (cuRes u) (u * 2 ^ 24 + r)

/-- The retirement of a unit (16 R454). -/
def State.cuRetire (u code last : Nat) (s : State) : State :=
  let role := s.cuRole u
  let s := s.markRetired (cuKey u) code last
  let s := s.setCu u { s.cuOf u with retired := true, retest := false, role := none }
  let s := (s.faultUncounted .data .fCuRetired (cuRes u) (u * 2 ^ 24 + last) (cuKey u)).causeRetired 0x0D u
  match role with
  | some r => s.cuReassign r
  | none => s

/-- A self-test of a unit ends: `bad` names the failing preset (16 R454). -/
def State.cuTested (u : Nat) (bad : Option Nat) (s : State) : State :=
  if (s.cuOf u).retired then s else
  match bad with
  | none => s.setCu u { s.cuOf u with retest := false }
  | some p => (s.setCu u { s.cuOf u with retest := true, retestAt := s.tb0 + 1000000 }).fault .data .fCuSelftest (cuRes u) (u * 2 ^ 24 + p) (cuKey u)

/-- The record of R455. -/
def State.cuRecord (s : State) (u : Nat) : Bytes :=
  let x := s.cuOf u
  leBytes 4 x.result ++ leBytes 4 x.streams ++ leBytes 4 x.mismatches ++ leBytes 4 x.aliveFails

/-! ## Commands (16 R456, R458) -/

/-- The settings of a `CU.CONFIGURE`. -/
def cuSettings (c : Cmd) : List (Param × Nat) :=
  let f := c.field 21 1
  [(.cuStream, c.field 16 1), (.cuPreset, c.field 17 1), (.cuSel, c.field 18 2), (.cuCmpMode, bitsOf f 3 2), (.cuExpect, c.field 36 4)]
    ++ (if c.expert then
          [(.cuWidth, c.field 20 1), (.cuRefin, b2n (bitOf f 0)), (.cuRefout, b2n (bitOf f 1)), (.cuAcEn, b2n (bitOf f 4)),
           (.cuAcOffset, c.field 22 2), (.cuPoly, c.field 24 4), (.cuInit, c.field 28 4), (.cuXorout, c.field 32 4),
           (.cuAcWidth, c.field 40 1), (.cuAcGap, c.field 41 1)]
        else [])

/-- `CU_SEL` is in range for its stream (16 R447). -/
def cuSelOk (k sel : Nat) : Bool :=
  match k with
  | 1 => decide (sel < 16)
  | 2 => decide (sel % 128 + 256 * (sel / 256 % 2) = sel)
  | 3 => decide (sel < 0x0400 ∨ (0x1000 ≤ sel ∧ sel < 0x2000))
  | 4 => sel == 0
  | 5 => decide (sel < 9)
  | _ => true

/-- Ranges of a unit's settings; what a preset other than 0 sets is ignored. -/
def cuInRange (s : State) (u : Nat) (l : List (Param × Nat)) : Bool :=
  let v := newValue s u l
  let w := if v .cuPreset = 0 then v .cuWidth else (crcPreset (v .cuPreset)).w
  decide (v .cuStream ≤ 5) && decide (v .cuPreset ≤ 4) && cuSelOk (v .cuStream) (v .cuSel) && decide (v .cuCmpMode ≤ 2)
    && (v .cuPreset != 0 || (decide (8 ≤ w ∧ w ≤ 32) && decide (v .cuPoly < 2 ^ w) && decide (v .cuInit < 2 ^ w) && decide (v .cuXorout < 2 ^ w)))
    && decide (v .cuExpect < 2 ^ w) && !(v .cuCmpMode == 2 && (w % 8 != 0 || v .cuStream == 1))
    && decide (v .cuAcOffset ≤ 1399) && [1, 2, 4].contains (v .cuAcWidth) && decide (1 ≤ v .cuAcGap)

/-- `CU.CONFIGURE`: streams are whole events of the model, so that none is in progress at a dispatch. -/
def specCuConfigure : CmdSpec where
  op := 0x0D00
  layout := fun c => if c.expert then { ranges := [(16, 5), (22, 20)], masks := [(21, 31)] } else { ranges := [(16, 4), (36, 4)], masks := [(21, 12)] }
  target := targetBelow 0x0D 8
  params := fun s c => cuInRange s c.tgtIndex (cuSettings c)
  owner := fun _ c => some { kind := .cu, index := c.tgtIndex }
  running := fun _ _ => false
  run := guarded
    (fun s c => firstOf [whenS (s.cuRole c.tgtIndex).isSome .sState, whenS (s.cuOf c.tgtIndex).retired .sRetired])
    (fun e s => .ok ((s.setCommit e.cmd.tgtIndex (cuSettings e.cmd)).setCu e.cmd.tgtIndex
      { s.cuOf e.cmd.tgtIndex with base := none, loaded := false }))

/-- `CU.READ_VALUE`. -/
def specCuReadValue : CmdSpec where
  op := 0x0D01
  target := targetBelow 0x0D 8
  long := fun _ => true
  run := fun e s =>
    let x := s.cuOf e.cmd.tgtIndex
    .done .sOk x.running (Config.resultLayout (0x0D01 * 2) [((x.base.getD 0 : Nat) : Int), (b2n x.base.isSome : Nat), 0]) s

/-- `CU.WRITE_VALUE`. -/
def specCuWriteValue : CmdSpec where
  op := 0x0D02
  layout := fun _ => { ranges := [(16, 4)] }
  target := targetBelow 0x0D 8
  owner := fun _ c => some { kind := .cu, index := c.tgtIndex }
  running := fun _ _ => false
  run := guarded
    (fun s c => firstOf [whenS (s.cuRole c.tgtIndex).isSome .sState, whenS (s.cuOf c.tgtIndex).retired .sRetired])
    (fun e s =>
      let u := e.cmd.tgtIndex
      .ok (s.setCu u { s.cuOf u with running := e.cmd.field 16 4 % 2 ^ (s.cuSet u).w, loaded := true, base := none }))

/-- `CU.STATUS`. -/
def specCuStatus : CmdSpec where
  op := 0x0D03
  target := targetBelow 0x0D 8
  long := fun _ => true
  run := fun e s =>
    let u := e.cmd.tgtIndex
    let x := s.cuOf u
    .long (Config.resultLayout (0x0D03 * 2 + b2n e.cmd.expert)
      ([((if x.retired then 2 else if x.retest then 1 else 0 : Nat) : Int), ((match s.cuRole u with | some r => r | none => 255 : Nat) : Int),
        x.result, x.streams, x.mismatches, x.aliveFails, x.missed] ++ (if e.cmd.expert then x.taken.map Int.ofNat else []))) s

/-- `CU.SELFTEST`: whether it passes is the unit's (a free value, notes/assumptions/35.md). -/
def specCuSelftest : CmdSpec where
  op := 0x0D04
  target := targetBelow 0x0D 8
  check := fun s c => whenS (s.cuOf c.tgtIndex).retired .sRetired
  run := fun e s =>
    .ok (s.afterDraw.cuTested e.cmd.tgtIndex (if bitOf s.drawn.toNat 0 then none else some (1 + s.drawn.toNat / 2 % 4)))

/-- The commands of class 0x0D by opcode. -/
def specCu : List CmdSpec := [specCuConfigure, specCuReadValue, specCuWriteValue, specCuStatus, specCuSelftest]

/-- CU_CONFIGURE. -/
def execCuConfigure (t : Nat) (c : Cmd) (s : State) : Host.Outcome State Fault Refusal := .next (specCuConfigure.submit c (s.advance t))
/-- CU_READ_VALUE. -/
def execCuReadValue (t : Nat) (c : Cmd) (s : State) : Host.Outcome State Fault Refusal := .next (specCuReadValue.submit c (s.advance t))
/-- CU_WRITE_VALUE. -/
def execCuWriteValue (t : Nat) (c : Cmd) (s : State) : Host.Outcome State Fault Refusal := .next (specCuWriteValue.submit c (s.advance t))
/-- CU_STATUS. -/
def execCuStatus (t : Nat) (c : Cmd) (s : State) : Host.Outcome State Fault Refusal := .next (specCuStatus.submit c (s.advance t))
/-- CU_SELFTEST. -/
def execCuSelftest (t : Nat) (c : Cmd) (s : State) : Host.Outcome State Fault Refusal := .next (specCuSelftest.submit c (s.advance t))

/-- CU_STREAM_END (16 R447): a stream of kind `k` (selection `sel`; `sent` for link frames) ends with its bytes; `busy`
are the units that were computing another stream as it started. -/
def execCuStreamEnd (t k sel : Nat) (sent : Bool) (bs : Bytes) (busy : List Nat) (s : State) : Host.Outcome State Fault Refusal :=
  .next ((s.advance t).cuStream k sel sent bs busy)

/-- CU_PERIODIC_SELFTEST (16 R454): at the start and every 10 s, between streams. -/
def execCuPeriodicSelftest (t u : Nat) (bad : Option Nat) (s : State) : Host.Outcome State Fault Refusal :=
  onResource u 8 s (fun s => (s.advance t).cuTested u bad)

/-- CU_SELFTEST_RETRY (16 R454): 1 ms after the failure. -/
def execCuSelftestRetry (t u : Nat) (bad : Option Nat) (s : State) : Host.Outcome State Fault Refusal :=
  onResource u 8 s (fun s =>
    let s := s.advance t
    if (s.cuOf u).retest ∧ (s.cuOf u).retestAt ≤ s.tb0 then s.cuTested u bad else s)

end Sys2Proof.Machine
end

