-- ==== Sys2Proof/Machine/DigitalCmd.lean ====
section
/-! DEFINITION. The commands of class 0x05 (10 R282, R564) and the events of the digital channels. -/

namespace Sys2Proof.Machine

/-- The owner of a digital channel's settings. -/
def dcOwner (n : Nat) : Owner := { kind := .dc, index := n }

/-- The channel runs, so that its settings wait for its boundary (01 R19). -/
def State.dcRuns (s : State) (c : Cmd) : Bool :=
  let st := (s.dcOf c.tgtIndex).st
  st != .outOfService && st != .retired

/-- The filter windows of R264, in µs. -/
def dcFilters : List Nat := [50, 100, 200, 500, 1000, 2000, 5000, 10000, 20000, 50000, 100000]

/-- The settings a `DC.CONFIGURE` carries (R280, R282). -/
def dcSettings (c : Cmd) : List (Param × Nat) :=
  [(.dcMode, c.field 16 1), (.dcDiType, c.field 17 1), (.dcSafeState, c.field 18 1), (.dcFilter, c.field 20 4)]
    ++ (if c.expert then
      [(.dcOwEn, b2n (bitOf (c.field 19 1) 0)), (.dcUvReturn, b2n (bitOf (c.field 19 1) 1)), (.dcOlLatch, b2n (bitOf (c.field 19 1) 2)),
       (.dcSilenceTo, c.field 24 4), (.dcOlRetry, c.field 28 2), (.dcPairSense, c.field 30 1), (.dcDiscTime, c.field 32 4)] else [])

/-- Bytes 16–35 of the expert block with settings `l` put in (R280, 11 R296). -/
def dcBlock (s : State) (n : Nat) (l : List (Param × Nat)) : Bytes :=
  let v := newValue s n l
  leBytes 1 (v .dcMode) ++ leBytes 1 (v .dcDiType) ++ leBytes 1 (v .dcSafeState)
    ++ leBytes 1 (v .dcOwEn + 2 * v .dcUvReturn + 4 * v .dcOlLatch) ++ leBytes 4 (v .dcFilter) ++ leBytes 4 (v .dcSilenceTo)
    ++ leBytes 2 (v .dcOlRetry) ++ leBytes 1 (v .dcPairSense) ++ [0] ++ leBytes 4 (v .dcDiscTime)

/-- The ranges of R280. -/
def dcInRange (s : State) (n : Nat) (l : List (Param × Nat)) : Bool :=
  let v := newValue s n l
  decide (v .dcMode ≤ 3) && (v .dcDiType == 1 || v .dcDiType == 3) && decide (v .dcSafeState ≤ 2) && dcFilters.contains (v .dcFilter)
    && decide (1 ≤ v .dcSilenceTo ∧ v .dcSilenceTo ≤ 1000) && decide (100 ≤ v .dcOlRetry ∧ v .dcOlRetry ≤ 60000)
    && decide (v .dcPairSense ≤ 1) && decide (10 ≤ v .dcDiscTime ∧ v .dcDiscTime ≤ 10000)

/-- The command sets up, changes or ends a safety pair (R274). -/
def dcPairChange (s : State) (c : Cmd) : Bool := s.dcMode c.tgtIndex == 3 || c.field 16 1 == 3

/-- The channels that a command on channel `n` sets: both of a pair (R274). -/
def dcSets (s : State) (c : Cmd) : List Nat := if dcPairChange s c then [c.tgtIndex, c.tgtIndex + 1] else [c.tgtIndex]

/-- Conditions of `DC.CONFIGURE` at the boundary (R262, R274). -/
def dcConfigureCheck (s : State) (c : Cmd) : Status :=
  let n := c.tgtIndex
  let new := c.field 16 1
  let change := new != s.dcMode n
  let sets := dcSets s c
  firstOf
    [whenS (sets.any (fun k => (s.dcOf k).st == .retired)) .sRetired,
     whenS (change && sets.any s.dcInSafety && !(s.sessionValid c)) .sBusySafety,
     whenS (change && !dcIsDo new && sets.any (fun k => s.outMaps (MapEntry.names 0x05 k))) .sState,
     whenS (dcPairChange s c && s.logFull) .sLogFull]

/-- A channel's settings take effect; a new mode starts its switching (R262); a channel OUT OF SERVICE stays so, and
its mode change is recorded at once. -/
def dcSetChannel (l : List (Param × Nat)) (n : Nat) (s : State) : State :=
  let change := newValue s n l .dcMode != s.dcMode n
  let s := s.setCommit n l
  let s := s.setDc n { s.dcOf n with cfgSeq := (s.dcOf n).cfgSeq + 1 }
  if ¬ change then s.dcFollow n
  else
    let x := s.dcOf n
    let x := { x with target := none, delivered := false, changed := true, modeAt := s.tb0 + 200000, cmd := false, test := none }
    if x.st = .outOfService ∨ x.st = .powerOn then
      ((s.setDc n { x with flags := 0, olLatched := false, uvLatched := false, retry := false, faultOff := false }).dcFollow n).post
        .data .eDcMode (dcRes n) (n * 2 ^ 24 + s.dcMode n)
    else (s.setDc n { x with st := .switching }).dcFollow n

/-- `DC.CONFIGURE`. -/
def specDcConfigure : CmdSpec where
  op := 0x0500
  layout := fun c => if c.expert then { ranges := [(16, 3), (20, 11), (32, 4)], masks := [(19, 7)] } else { ranges := [(16, 3), (20, 4)] }
  target := fun s c => targetBelow 0x05 32 s c && !(c.tgtIndex % 2 == 1 && dcPairChange s c)
  needsSession := fun s c =>
    dcPairChange s c && !(c.field 16 1 != s.dcMode c.tgtIndex && (dcSets s c).any s.dcInSafety)
  params := fun s c => dcInRange s c.tgtIndex (dcSettings c)
  owner := fun _ c => some (dcOwner c.tgtIndex)
  running := State.dcRuns
  run := guarded dcConfigureCheck (fun e s =>
    let c := e.cmd
    let l := dcSettings c
    let n := c.tgtIndex
    let sets := dcSets s c
    let pair := dcPairChange s c
    let s := if pair then s.logChange c.route 0x05 0 n (dcBlock s n []) (dcBlock s n l) else s
    .ok ((s.each (dcSetChannel l) sets).dcPairUpdate n))

/-- `DC.SET_SERVICE`. -/
def specDcSetService : CmdSpec where
  op := 0x0501
  layout := fun _ => { ranges := [(16, 1)] }
  target := targetBelow 0x05 32
  params := fun _ c => decide (c.field 16 1 ≤ 1)
  owner := fun _ c => some (dcOwner c.tgtIndex)
  running := State.dcRuns
  run := guarded
    (fun s c => firstOf [whenS ((s.dcOf c.tgtIndex).st == .retired) .sRetired,
      whenS (s.dcInSafety c.tgtIndex && !(s.sessionValid c)) .sBusySafety])
    (fun e s =>
      let n := e.cmd.tgtIndex
      let v := e.cmd.field 16 1
      let s := s.setCommit n [(.dcService, v)]
      let x := s.dcOf n
      .ok (if v = 0 then ((s.setDc n { x with st := if x.st = .powerOn then .powerOn else .outOfService, target := none, test := none }).dcToSafe n).dcPairUpdate n
        else if x.st = .outOfService then
          s.setDc n { x with st := .safe, target := none, test := none, modeAt := s.tb0, delivered := false, changed := false }
        else s))

/-- `DC.TEST_OUTPUT`. -/
def specDcTestOutput : CmdSpec where
  op := 0x0502
  layout := fun _ => { ranges := [(16, 1)] }
  target := targetBelow 0x05 32
  params := fun _ c => decide (c.field 16 1 ≤ 1)
  owner := fun _ c => some (dcOwner c.tgtIndex)
  running := State.dcRuns
  run := guarded
    (fun s c => firstOf [whenS ((s.dcOf c.tgtIndex).st == .retired) .sRetired,
      whenS (!((s.dcOf c.tgtIndex).st == .outOfService && dcIsDo (s.dcMode c.tgtIndex))) .sState])
    (fun e s => .ok (s.setDc e.cmd.tgtIndex { s.dcOf e.cmd.tgtIndex with test := some (e.cmd.field 16 1 == 1) }))

/-- An acknowledgement waits for the channel's next boundary (R270). -/
def State.dcAskAck (n : Nat) (s : State) : State := s.setDc n { s.dcOf n with ack := true }

/-- `DC.ACK`: one channel, a group, or the common fault bit. -/
def specDcAck : CmdSpec where
  op := 0x0503
  target := fun _ c => c.tgtClass == 0x05 && c.tgtSub == 0
    && (decide (c.tgtIndex < 32) || c.tgtIndex == 0x0100 || c.tgtIndex == 0x0110 || c.tgtIndex == 0x0111)
  owner := fun _ c => if c.tgtIndex < 32 then some (dcOwner c.tgtIndex) else none
  running := State.dcRuns
  run := fun e s =>
    let n := e.cmd.tgtIndex
    if n < 32 then .ok (s.dcAskAck n)
    else if n = 0x0100 then .ok s.dcCommonAcknowledge
    else .ok (s.each State.dcAskAck (groupChans (n - 0x0110)))

/-- `DC.SELFTEST`. -/
def specDcSelftest : CmdSpec where
  op := 0x0504
  target := targetBelow 0x05 32
  check := fun s c => firstOf [whenS ((s.dcOf c.tgtIndex).st == .retired) .sRetired, whenS (s.dcOf c.tgtIndex).testCmd.isSome .sBusy]
  run := fun e s => .later (s.setDc e.cmd.tgtIndex { s.dcOf e.cmd.tgtIndex with testCmd := some e })

/-- The state of a channel as R564 codes it. -/
def DcState.num : DcState → Nat
  | .powerOn => 0 | .safe => 1 | .inService => 2 | .switching => 3 | .outOfService => 4 | .retired => 5

/-- The `DC.STATUS` result (R564). -/
def dcStatusBlock (s : State) (n : Nat) (expert : Bool) : Bytes :=
  let c := s.dcOf n
  let mode := s.dcMode n
  let level := if mode = 1 then (match c.target with | some b => b | none => false) else c.rx.level
  leBytes 1 c.st.num ++ leBytes 1 mode ++ leBytes 2 (s.dcStatusWord n) ++ leBytes 1 (b2n level) ++ [0, 0, 0]
    ++ leBytes 4 (wrapInt 32 c.rx.current) ++ leBytes 4 (wrapInt 32 c.rx.term) ++ leBytes 4 (wrapInt 32 c.rx.supply)
    ++ leBytes 2 (wrapInt 16 c.rx.temp) ++ [0, 0] ++ leBytes 4 (s.faultCount (dcKey n))
    ++ (if expert then leBytes 4 c.overloads ++ leBytes 4 c.silences else [])

/-- `DC.STATUS`. -/
def specDcStatus : CmdSpec where
  op := 0x0505
  target := targetBelow 0x05 32
  long := fun _ => true
  run := fun e s => .long (dcStatusBlock s e.cmd.tgtIndex e.cmd.expert) s

/-- `DC.SET_LEGACY`. -/
def specDcSetLegacy : CmdSpec where
  op := 0x0506
  layout := fun _ => { ranges := [(16, 1)] }
  target := fun _ c => c.tgtClass == 0x05 && c.tgtIndex == 0x0100 && c.tgtSub == 0
  params := fun _ c => decide (c.field 16 1 ≤ 1)
  run := fun e s => .ok ((s.setCommit 0 [(.dcLegacyFault, e.cmd.field 16 1)]).dcCommonUpdate)

/-- The commands of class 0x05 by opcode. -/
def specDc : List CmdSpec :=
  [specDcConfigure, specDcSetService, specDcTestOutput, specDcAck, specDcSelftest, specDcStatus, specDcSetLegacy]

/-- DC_CONFIGURE (R280). -/
def execDcConfigure (t : Nat) (c : Cmd) (s : State) : Host.Outcome State Fault Refusal := .next (specDcConfigure.submit c (s.advance t))
/-- DC_SET_SERVICE (R279). -/
def execDcSetService (t : Nat) (c : Cmd) (s : State) : Host.Outcome State Fault Refusal := .next (specDcSetService.submit c (s.advance t))
/-- DC_TEST_OUTPUT (R282). -/
def execDcTestOutput (t : Nat) (c : Cmd) (s : State) : Host.Outcome State Fault Refusal := .next (specDcTestOutput.submit c (s.advance t))
/-- DC_ACK (R270). -/
def execDcAck (t : Nat) (c : Cmd) (s : State) : Host.Outcome State Fault Refusal := .next (specDcAck.submit c (s.advance t))
/-- DC_SELFTEST (R278). -/
def execDcSelftest (t : Nat) (c : Cmd) (s : State) : Host.Outcome State Fault Refusal := .next (specDcSelftest.submit c (s.advance t))
/-- DC_STATUS (R564). -/
def execDcStatus (t : Nat) (c : Cmd) (s : State) : Host.Outcome State Fault Refusal := .next (specDcStatus.submit c (s.advance t))
/-- DC_SET_LEGACY (R273). -/
def execDcSetLegacy (t : Nat) (c : Cmd) (s : State) : Host.Outcome State Fault Refusal := .next (specDcSetLegacy.submit c (s.advance t))

/-! ## Events -/

/-- DC_MODE_SWITCH_END (R262). -/
def execDcModeSwitchEnd (t n : Nat) (s : State) : Host.Outcome State Fault Refusal := onResource n 32 s (fun s => (s.advance t).dcModeEnd n)
/-- DC_LEVEL_ACCEPTED (R264). -/
def execDcLevelAccepted (t n : Nat) (mv : Int) (s : State) : Host.Outcome State Fault Refusal := onResource n 32 s (fun s => (s.advance t).dcAccept n mv)
/-- DC_SILENCE_TIMEOUT (R265). -/
def execDcSilenceTimeout (t n : Nat) (s : State) : Host.Outcome State Fault Refusal := onResource n 32 s (fun s => (s.advance t).dcSilence n)
/-- DC_OVERLOAD (R266). -/
def execDcOverload (t n peak : Nat) (s : State) : Host.Outcome State Fault Refusal := onResource n 32 s (fun s => (s.advance t).dcOverload n peak)
/-- DC_OL_RETRY (R266). -/
def execDcOlRetry (t n : Nat) (s : State) : Host.Outcome State Fault Refusal := onResource n 32 s (fun s => (s.advance t).dcOlRetryEnd n)
/-- DC_THERMAL (R267). -/
def execDcThermal (t n : Nat) (temp : Int) (s : State) : Host.Outcome State Fault Refusal := onResource n 32 s (fun s => (s.advance t).dcThermal n temp)
/-- DC_THERMAL_RECOVERY (R267). -/
def execDcThermalRecovery (t n : Nat) (s : State) : Host.Outcome State Fault Refusal :=
  onResource n 32 s (fun s => (s.advance t).dcCooled n)
/-- DC_DIAGNOSTIC (R271). -/
def execDcDiagnostic (t n : Nat) (k : DcDiag) (m : DcMeas) (s : State) : Host.Outcome State Fault Refusal :=
  onResource n 32 s (fun s => (s.advance t).dcDiagnosed n k m)
/-- DC_DIAGNOSTIC_CHECK (R271). -/
def execDcDiagnosticCheck (t n : Nat) (m : DcMeas) (normal : Bool) (s : State) : Host.Outcome State Fault Refusal :=
  onResource n 32 s (fun s => (s.advance t).dcCheck n m normal)
/-- DC_SWITCH_RETEST (R278). -/
def execDcSwitchRetest (t n : Nat) (m : DcMeas) (s : State) : Host.Outcome State Fault Refusal := onResource n 32 s (fun s => (s.advance t).dcRetest n m)
/-- DC_DISCREPANCY (R275). -/
def execDcDiscrepancy (t n : Nat) (s : State) : Host.Outcome State Fault Refusal := onResource n 32 s (fun s => (s.advance t).dcDiscrepant n)

/-- The 1 s input self-test (R278), and the one `DC.SELFTEST` asked for. -/
def execDcInputSelftest (t n : Nat) (ok : Bool) (s : State) : Host.Outcome State Fault Refusal :=
  onResource n 32 s (fun s =>
    let s := s.advance t
    let c := s.dcOf n
    if c.st == .powerOn || c.st == .retired then s
    else
      let s := s.setDc n { c with testCmd := none }
      let s := if ok then s else s.fault .data .fDcInputTest (dcRes n) (n * 2 ^ 24) (dcKey n)
      match c.testCmd with
      | some e => s.complete e .sOk 0 []
      | none => s)

/-- FDx below 18.0 V: once per group (R272). -/
def State.fdSag (g mv : Nat) (s : State) : State :=
  if 18000 ≤ mv ∨ (s.dcGroup g).sag then s
  else ((s.setSupply (3 + g) mv true false).setDcGroup g { s.dcGroup g with sag := true }).postIf s.up .data .eDcSag (dgRes g) (q24 (0x40 + g) mv)

/-- FD_SAG (R272). -/
def execFdSag (t g mv : Nat) (s : State) : Host.Outcome State Fault Refusal := onResource g 2 s (fun s => (s.advance t).fdSag g mv)

/-- FD_UNDERVOLTAGE (R272). -/
def execFdUndervoltage (t g mv : Nat) (s : State) : Host.Outcome State Fault Refusal :=
  onResource g 2 s (fun s => let s := s.advance t; (if mv < 14000 then s.setSupply (3 + g) mv true true else s).fdUndervoltage g mv)

/-- FD_RECOVERY (R272). -/
def execFdRecovery (t g mv : Nat) (s : State) : Host.Outcome State Fault Refusal :=
  onResource g 2 s (fun s => let s := s.advance t; (if 19000 < mv then s.setSupply (3 + g) mv false false else s).fdRecover g mv)

end Sys2Proof.Machine
end

