-- ==== Sys2Proof/Machine/BlockTable.lean ====
section
/-! DEFINITION. The block table: entries, operand references, operand spaces and the execution context (06 R155 to R166),
and the signature of every library block (06 R175 to R187). -/

namespace Sys2Proof.Machine

/-- An operand reference (R161). -/
structure Ref where
  space : Nat
  ty : Nat
  off : Nat
  deriving DecidableEq, Repr

/-- The context in which a scan core walks a range: the table, the images, the instance store with its regions M, K and
the instance area, the S space, the frame base, what TASK_STAT and TIME_RD answer at this release,
the CAN buffer records of the output map (image byte, buffer), the bits of M that forces hold (byte, mask; 07 R204), the
instances that take `EDGE_INIT` as 0 (07 R201), the requests that interface blocks keep writing, by instance (06 R186), how many
entries may still execute (`none`: all), and the counter of free values. -/
structure Ctx where
  table : Tab Byte
  inp : Tab Byte
  inSize : Nat
  out : Tab Byte
  outSize : Nat
  store : Tab Byte
  sys : Bytes
  base : Nat
  taskStat : List (Nat × Nat)
  bases : List (Nat × Bool)
  canBufs : List (Nat × Nat)
  locked : List (Nat × Nat)
  noEdge : List Nat
  requests : Tab Bytes
  left : Option Nat
  free : Nat
  deriving DecidableEq, Repr

/-- A head entry with the slots of its continuations (R159, R160). -/
structure Head where
  bcode : Nat
  flags : Nat
  ncont : Nat
  inst : Nat
  en : Ref
  ins : List Ref
  outs : List Ref
  instId : Nat
  cont : List Ref
  contIns : Nat
  deriving DecidableEq, Repr

/-- Width of a data type in bits (R158); 0 where the code is not allocated. -/
def tyWidth : Nat → Nat
  | 1 => 1 | 2 => 16 | 3 => 32 | 4 => 64 | 5 => 32 | 6 => 64 | 7 => 16 | 8 => 32 | 9 => 64
  | _ => 0

/-- REAL or LREAL. -/
def tyReal (t : Nat) : Bool := t == 5 || t == 6

/-- INT, DINT, LINT or TIME. -/
def tyInt (t : Nat) : Bool := t == 2 || t == 3 || t == 4 || t == 9

/-- The format of a real type. -/
def tyFmt (t : Nat) : Fmt := if t = 6 then f64 else f32

/-- A reference from its 24 bits (R161). -/
def Ref.ofNat (v : Nat) : Ref := { space := bitsOf v 23 21, ty := bitsOf v 20 17, off := bitsOf v 16 0 }

/-- The `k`-th 3-byte slot from byte `at` of an entry. -/
def slotRef (e : Bytes) (start k : Nat) : Ref := Ref.ofNat (leNat (slice e (start + 3 * k) 3))

/-- Entry `i` of the table. -/
def entryBytes (table : Tab Byte) (i : Nat) : Bytes := Tab.getBytes table (32 * i) 32

/-- The head entry at index `i` with its continuations. -/
def Head.read (table : Tab Byte) (i : Nat) : Head :=
  let e := entryBytes table i
  let nc := leNat (slice e 3 1) % 8
  { bcode := leNat (slice e 0 2), flags := leNat (slice e 2 1), ncont := nc,
    inst := (leNat (slice e 4 3) % 2 ^ 19) * 8,
    en := slotRef e 7 0, ins := (List.range 4).map (slotRef e 10), outs := (List.range 2).map (slotRef e 22),
    instId := leNat (slice e 28 4),
    cont := (List.range nc).flatMap (fun c => (List.range 9).map (slotRef (entryBytes table (i + 1 + c)) 4)),
    contIns := if nc = 0 then 0 else leNat (slice (entryBytes table (i + 1)) 2 1) % 64 }

/-- Enable operand inverted. -/
def Head.enInv (h : Head) : Bool := bitOf h.flags 0
/-- An ENO destination is given. -/
def Head.hasEno (h : Head) : Bool := bitOf h.flags 1
/-- Edge inputs start at their inactive level. -/
def Head.edgeInit (h : Head) : Bool := bitOf h.flags 2
/-- Integer overflow wraps. -/
def Head.wrap (h : Head) : Bool := bitOf h.flags 3

/-- No reference. -/
def noRef : Ref := { space := 0, ty := 0, off := 0 }

/-- The ENO destination: slot 8 of the last continuation (R164). -/
def Head.enoRef (h : Head) : Ref := if h.hasEno && decide (0 < h.ncont) then getAt noRef h.cont (9 * h.ncont - 1) else noRef

/-- Input slot `i` (R162). -/
def Head.inSlot (h : Head) (i : Nat) : Ref := if i < 4 then getAt noRef h.ins i else getAt noRef h.cont (i - 4)

/-- Output slot `j` of a block with `n` inputs (R162). -/
def Head.outSlot (h : Head) (n j : Nat) : Ref :=
  if j < 2 then getAt noRef h.outs j else getAt noRef h.cont ((n - 4) + (j - 2))

/-! ## Operand spaces (R156) -/

/-- Byte offset of region K in the instance store (R155). -/
def regionK : Nat := 0x40000
/-- Byte offset of the instance area (R155). -/
def regionInst : Nat := 0x80000
/-- Size of the instance store. -/
def storeSize : Nat := 0x400000

/-- Bytes of an operand space that blocks may read from (R156). -/
def Ctx.spaceSize (c : Ctx) (space : Nat) : Nat :=
  match space with
  | 1 => c.inSize
  | 2 => c.outSize
  | 3 => 0x40000
  | 4 => storeSize - c.base
  | 5 => 0x40000
  | 6 => 0x50
  | _ => 0

/-- Byte `a` of a space; what lies past its end reads 0 (DESIGN CHOICE, notes/assumptions/105.md). -/
def Ctx.byte (c : Ctx) (space a : Nat) : Byte :=
  if c.spaceSize space ≤ a then 0 else
  match space with
  | 1 => Tab.get (fun _ => 0) c.inp a
  | 2 => Tab.get (fun _ => 0) c.out a
  | 3 => Tab.get (fun _ => 0) c.store a
  | 4 => Tab.get (fun _ => 0) c.store (c.base + a)
  | 5 => Tab.get (fun _ => 0) c.store (regionK + a)
  | 6 => getAt 0 c.sys a
  | _ => 0

/-- The bits of M byte `a` that forces hold. -/
def Ctx.lockMask (c : Ctx) (a : Nat) : Nat := c.locked.foldl (fun m x => if x.1 = a then m ||| x.2 else m) 0

/-- A byte written over another, but for the bits that are held. -/
def mergeByte (mask : Nat) (old new : Byte) : Byte :=
  (old &&& BitVec.ofNat 8 mask) ||| (new &&& ~~~ BitVec.ofNat 8 mask)

/-- Writes byte `a` of a space that blocks may write (R156), none past its end (DESIGN CHOICE, notes/assumptions/105.md); a write to a
forced location of M is discarded (07 R204). -/
def Ctx.setByte (c : Ctx) (space a : Nat) (b : Byte) : Ctx :=
  if c.spaceSize space ≤ a then c else
  match space with
  | 2 => { c with out := Tab.put (fun _ => 0) c.out a b }
  | 3 => { c with store := Tab.put (fun _ => 0) c.store a (mergeByte (c.lockMask a) (Tab.get (fun _ => 0) c.store a) b) }
  | 4 => { c with store := Tab.put (fun _ => 0) c.store (c.base + a) b }
  | _ => c

/-- `n` bytes of a space, as a little-endian number. -/
def Ctx.load (c : Ctx) (space a n : Nat) : Nat := leNat ((List.range n).map (fun k => c.byte space (a + k)))

/-- Writes bytes to a space. -/
def Ctx.storeBytes (space : Nat) : Nat → Bytes → Ctx → Ctx
  | _, [], c => c
  | a, b :: r, c => Ctx.storeBytes space (a + 1) r (c.setByte space a b)

/-- Byte address of a reference within its space. -/
def Ref.addr (r : Ref) : Nat := if r.ty = 1 then r.off / 8 else r.off * (tyWidth r.ty / 8)

/-- Bytes a reference covers. -/
def Ref.bytes (r : Ref) : Nat := if r.ty = 1 then 1 else tyWidth r.ty / 8

/-- The value of an operand, as a pattern of its type; 0 for an absent one. -/
def Ctx.read (c : Ctx) (r : Ref) : Nat :=
  if r.space = 0 then 0
  else if r.ty = 1 then b2n ((c.byte r.space r.addr).toNat.testBit (r.off % 8))
  else c.load r.space r.addr r.bytes

/-- Writes an operand; space 0 is not written (R162). -/
def Ctx.write (r : Ref) (v : Nat) (c : Ctx) : Ctx :=
  if r.space = 0 then c
  else if r.ty = 1 then
    c.setByte r.space r.addr (BitVec.ofNat 8 (setBits (c.byte r.space r.addr).toNat (r.off % 8) (r.off % 8) (v % 2)))
  else Ctx.storeBytes r.space r.addr (leBytes r.bytes v) c

/-- `n` bytes of the instance store at `a`. -/
def Ctx.ld (c : Ctx) (a n : Nat) : Nat := leNat (Tab.getBytes c.store a n)

/-- Writes `n` bytes of the instance store at `a`. -/
def Ctx.st (a n v : Nat) (c : Ctx) : Ctx := { c with store := Tab.putBytes c.store a (leBytes n v) }

/-! ## Signatures (R175 to R187) -/

/-- One operand of a block: the types it takes, the generic type it shares (0 none), optional, constant in K, and the
space a record must lie in (0 any). -/
structure Arg where
  tys : List Nat
  gen : Nat := 0
  opt : Bool := false
  konst : Bool := false
  space : Nat := 0
  deriving DecidableEq, Repr

/-- The operands of a block: fixed inputs, a repeated input with its least and greatest number, outputs, a repeated
output with its greatest number, the instance size, and whether the cycles include the continuation. -/
structure Sig where
  ins : List Arg := []
  rep : Option (Arg × Nat × Nat) := none
  outs : List Arg := []
  outRep : Option (Arg × Nat) := none
  inst : Nat := 0
  contIncl : Bool := false
  deriving DecidableEq, Repr

def tBOOL : Arg := { tys := [1] }
def tINT : Arg := { tys := [2] }
def tDWORD : Arg := { tys := [8] }
def tWORD : Arg := { tys := [7] }
def tTIME : Arg := { tys := [9] }
def tREAL : Arg := { tys := [5] }
def tLREAL : Arg := { tys := [6] }
def tDINT : Arg := { tys := [3] }
def gAnyBit : Arg := { tys := [1, 7, 8], gen := 1 }
def gWords : Arg := { tys := [7, 8], gen := 1 }
def gAnyInt : Arg := { tys := [2, 3, 4], gen := 1 }
def gAnyReal : Arg := { tys := [5, 6], gen := 1 }
def gAnyNum : Arg := { tys := [2, 3, 4, 5, 6], gen := 1 }
def gAnyMag : Arg := { tys := [2, 3, 4, 5, 6, 9], gen := 1 }
def gAny : Arg := { tys := [1, 2, 3, 4, 5, 6, 7, 8, 9], gen := 1 }
def gMagBit : Arg := { tys := [1, 2, 3, 4, 5, 6, 7, 8, 9], gen := 1 }
def anyTy : Arg := { tys := [1, 2, 3, 4, 5, 6, 7, 8, 9] }
def recIn : Arg := { tys := [8], space := 1 }
def recOut : Arg := { tys := [8], space := 2 }

/-- The signature of a block code; `none` where the code is not allocated. -/
def sigOf (code : Nat) : Option Sig :=
  match code with
  | 0x0100 | 0x0101 | 0x0102 => some { rep := some (gAnyBit, 2, 8), outs := [gAnyBit] }
  | 0x0103 => some { ins := [gAnyBit], outs := [gAnyBit] }
  | 0x0104 | 0x0105 => some { ins := [tBOOL, tBOOL], outs := [tBOOL], inst := 16 }
  | 0x0106 | 0x0107 => some { ins := [gWords, tINT], outs := [gWords] }
  | 0x0108 => some { ins := [gWords, tINT], outs := [tBOOL] }
  | 0x0200 | 0x0201 => some { ins := [tBOOL], outs := [tBOOL], inst := 16 }
  | 0x0202 | 0x0203 | 0x0204 => some { ins := [tBOOL, tTIME], outs := [tBOOL, tTIME], inst := 32 }
  | 0x0205 | 0x0206 => some { ins := [tBOOL, tBOOL, gAnyInt], outs := [tBOOL, gAnyInt], inst := 24 }
  | 0x0207 => some { ins := [tBOOL, tBOOL, tBOOL, tBOOL, gAnyInt], outs := [tBOOL, tBOOL, gAnyInt], inst := 24, contIncl := true }
  | 0x0300 => some { rep := some (gAnyMag, 2, 8), outs := [gAnyMag] }
  | 0x0301 => some { ins := [gAnyMag, gAnyMag], outs := [gAnyMag] }
  | 0x0302 => some { rep := some (gAnyNum, 2, 8), outs := [gAnyNum] }
  | 0x0303 => some { ins := [gAnyNum, gAnyNum], outs := [gAnyNum] }
  | 0x0304 => some { ins := [gAnyInt, gAnyInt], outs := [gAnyInt] }
  | 0x0305 | 0x0306 => some { ins := [gAnyMag], outs := [gAnyMag] }
  | 0x0307 | 0x0308 | 0x0309 => some { ins := [gAnyReal], outs := [gAnyReal] }
  | 0x0400 | 0x0401 | 0x0403 | 0x0404 => some { ins := [gAnyMag, gAnyMag], outs := [tBOOL] }
  | 0x0402 | 0x0405 => some { ins := [gMagBit, gMagBit], outs := [tBOOL] }
  | 0x0406 => some { ins := [tBOOL, gAny, gAny], outs := [gAny] }
  | 0x0407 | 0x0408 => some { rep := some (gAnyMag, 2, 8), outs := [gAnyMag] }
  | 0x0409 => some { ins := [gAnyMag, gAnyMag, gAnyMag], outs := [gAnyMag] }
  | 0x040A => some { ins := [tINT], rep := some (gAny, 2, 16), outs := [gAny] }
  | 0x040B => some { ins := [gAny], outs := [gAny] }
  | 0x0500 => some { ins := [anyTy], outs := [anyTy] }
  | 0x0501 => some { ins := [gAnyReal], outs := [{ tys := [2, 3, 4] }] }
  | 0x0502 => some { ins := [gAnyReal, gAnyReal, gAnyReal, gAnyReal, gAnyReal, { tys := [1], opt := true }], outs := [gAnyReal] }
  | 0x0503 => some { ins := [gAnyReal, { gAnyReal with konst := true }, { tINT with konst := true }], outs := [gAnyReal] }
  | 0x0504 => some { rep := some (tBOOL, 1, 16), outs := [tWORD] }
  | 0x0505 => some { ins := [tWORD], outRep := some (tBOOL, 16) }
  | 0x0600 => some { ins := [gAnyReal, gAnyReal, gAnyReal, { tys := [1], opt := true }], outs := [gAnyReal, tBOOL], inst := 32 }
  | 0x0601 => some { ins := [gAnyReal, tTIME], outs := [gAnyReal], inst := 32 }
  | 0x0602 => some { ins := [gAnyReal, tTIME, tTIME], outs := [gAnyReal], inst := 40 }
  | 0x0603 => some { ins := [gAnyReal, gAnyReal, gAnyReal], outs := [gAnyReal] }
  | 0x0604 => some { ins := [gAnyReal, tBOOL, { tys := [1], opt := true }], outs := [tLREAL], inst := 40 }
  | 0x0605 => some { ins := [gAnyReal, gAnyReal, gAnyReal], outs := [tBOOL], inst := 16 }
  | 0x0606 => some { ins := [gAnyReal, tINT], outs := [gAnyReal], inst := 528 }
  | 0x0700 => some { ins := [gAnyReal, gAnyReal, gAnyReal, gAnyReal, gAnyReal, gAnyReal, tTIME, tBOOL], outs := [tWORD, tBOOL], inst := 56, contIncl := true }
  | 0x0701 => some { ins := [gAnyReal, gAnyReal, gAnyReal, gAnyReal, tTIME, tBOOL], outs := [tWORD, tBOOL], inst := 40, contIncl := true }
  | 0x0702 => some { ins := [tBOOL, tBOOL, tTIME, tBOOL], outs := [tWORD, tBOOL], inst := 32 }
  | 0x0703 => some { ins := [tBOOL], rep := some (tWORD, 1, 8), outs := [tWORD, tINT], inst := 16 }
  | 0x0800 | 0x0801 => some { ins := [tBOOL, tBOOL, { tys := [7], opt := true }], outs := [tBOOL, tBOOL] }
  | 0x0802 => some { ins := [tBOOL, tBOOL, tBOOL, { tys := [7], opt := true }], outs := [tBOOL, tBOOL] }
  | 0x0803 | 0x0804 => some { ins := [gAnyReal, gAnyReal, { tINT with konst := true }, gAnyReal, { tys := [7], opt := true }], outs := [gAnyReal, tBOOL] }
  | 0x0805 => some { ins := [gAnyReal, gAnyReal, gAnyReal, { tINT with konst := true }, gAnyReal, { tys := [7], opt := true }], outs := [gAnyReal, tBOOL] }
  | 0x0806 => some { ins := [tBOOL, tBOOL, tTIME], outs := [tBOOL, tBOOL], inst := 32 }
  | 0x0807 => some { ins := [tBOOL, tBOOL], outs := [tBOOL], inst := 16 }
  | 0x0900 => some { ins := [tBOOL, tBOOL, { tBOOL with konst := true }, tBOOL], outs := [tBOOL, tTIME], inst := 32 }
  | 0x0901 => some { ins := [tBOOL, tBOOL], outs := [tBOOL] }
  | 0x0902 => some { ins := [tBOOL, tTIME, { tINT with konst := true }, { tys := [9], opt := true }], outs := [tBOOL], inst := 16 }
  | 0x0A00 => some { ins := [recIn, tREAL, tINT, tREAL], outs := [recOut, tREAL], inst := 16 }
  | 0x0A01 => some { ins := [recIn, tINT, tLREAL, tBOOL], outs := [recOut, tBOOL], inst := 16 }
  | 0x0A02 => some { ins := [recIn, tBOOL, tDWORD, tINT, tDWORD], outs := [recOut, tBOOL], inst := 16 }
  | 0x0A03 => some { ins := [recIn], outs := [tBOOL, tDWORD, tINT, tDWORD], inst := 16 }
  | 0x0A04 => some { ins := [recIn, tBOOL], outs := [recOut, tBOOL], inst := 16 }
  | 0x0A05 => some { ins := [tBOOL], outs := [recOut] }
  | 0x0A06 => some { ins := [recIn], outs := [tBOOL, tTIME] }
  | 0x0B00 => some { ins := [{ tDWORD with konst := true }], rep := some (anyTy, 0, 66), outRep := some (anyTy, 65) }
  | 0x0B01 => some {}
  | 0x0B02 => some { ins := [tINT], outs := [tWORD, tDINT] }
  | 0x0B03 => some { ins := [{ tINT with konst := true }], outs := [tTIME, tBOOL] }
  | 0x0B04 => some { ins := [tDWORD, tINT, tDWORD], outs := [tBOOL, tDWORD] }
  | _ => none

/-- Head input slots in use from IN0 on, up to the first empty one (R162). -/
def Head.headIns (h : Head) : Nat := (h.ins.takeWhile (fun r => r.space != 0)).length

/-- Number of input operands (R162). -/
def Head.nIn (h : Head) (g : Sig) : Nat :=
  match g.rep with
  | none => g.ins.length
  | some _ => h.headIns + (if h.headIns = 4 then h.contIns else 0)

/-- Position from 1 of the last output slot in use (R162). -/
def Head.lastOut (h : Head) (n : Nat) : Nat → Nat
  | 0 => 0
  | j + 1 => if (h.outSlot n j).space ≠ 0 ∧ ¬ (h.hasEno ∧ 2 ≤ j ∧ (n - 4) + (j - 2) = 9 * h.ncont - 1) then j + 1 else h.lastOut n j

/-- Number of output operands (R162). -/
def Head.nOut (h : Head) (g : Sig) : Nat :=
  match g.outRep with
  | none => g.outs.length
  | some _ => h.lastOut (h.nIn g) (2 + 9 * h.ncont - (h.nIn g - 4))

/-- Expected input operand `i`. -/
def Sig.inArg (g : Sig) (i : Nat) : Arg :=
  if i < g.ins.length then getAt tBOOL g.ins i else match g.rep with | some (a, _, _) => a | none => tBOOL

/-- Expected output operand `j`. -/
def Sig.outArg (g : Sig) (j : Nat) : Arg :=
  match g.outRep with | some (a, _) => a | none => getAt tBOOL g.outs j

end Sys2Proof.Machine
end

