-- ==== Sys2Proof/Machine/BlockLib.lean ====
section
/-! DEFINITION. The block library (06 R169 to R188): what each block computes from its operand values, what it keeps in
its instance, and its ENO. -/

namespace Sys2Proof.Machine

/-- What an evaluation gives: the context with the instance updated, the output values in slot order (`none` is not
written), and ENO. -/
structure Ev where
  c : Ctx
  outs : List (Option Nat)
  eno : Bool
  deriving DecidableEq, Repr

/-- An evaluation that leaves the context as it is. -/
def ev (c : Ctx) (outs : List Nat) (eno : Bool) : Ev := { c := c, outs := outs.map some, eno := eno }

/-- The operands of one evaluation: head, input references, input values. -/
structure Args where
  h : Head
  refs : List Ref
  vals : List Nat
  deriving DecidableEq, Repr

/-- Input value `k`; 0 where absent. -/
def Args.v (a : Args) (k : Nat) : Nat := getAt 0 a.vals k
/-- Input `k` as a BOOL. -/
def Args.b (a : Args) (k : Nat) : Bool := a.v k % 2 == 1
/-- Input reference `k`. -/
def Args.r (a : Args) (k : Nat) : Ref := getAt noRef a.refs k
/-- Type of input `k`. -/
def Args.ty (a : Args) (k : Nat) : Nat := (a.r k).ty
/-- Input `k` as a signed integer of its type. -/
def Args.i (a : Args) (k : Nat) : Int := signed (tyWidth (a.ty k)) (a.v k)
/-- Input `k` is present. -/
def Args.has (a : Args) (k : Nat) : Bool := (a.r k).space != 0

/-- Draws a free value. -/
def Ctx.drawn (c : Ctx) : Nat := (Config.freeValue c.free).toNat
/-- The context after a free value has been drawn. -/
def Ctx.afterDraw (c : Ctx) : Ctx := { c with free := c.free + 1 }

/-- An integer placed in a `w`-bit type: saturated, or wrapped with `WRAP` (R169). -/
def fitInt (w : Nat) (wrap : Bool) (i : Int) : Nat × Bool :=
  let lo : Int := -((2 ^ (w - 1) : Nat) : Int)
  let hi : Int := ((2 ^ (w - 1) : Nat) : Int) - 1
  if lo ≤ i ∧ i ≤ hi then (wrapInt w i, true)
  else if wrap then (wrapInt w i, false)
  else (wrapInt w (if i < lo then lo else hi), false)

/-- A real result: ENO FALSE where it is infinite or NaN (R169). -/
def realRes (f : Fmt) (r : FRes) : Nat × Bool := (r.bits, r.ok && f.isFinite r.bits)

/-- `ISTAT` bit `INIT` of the instance (R172). -/
def Ctx.inited (c : Ctx) (h : Head) : Bool := (c.ld (h.inst + 4) 1).testBit 0
/-- Sets `INIT`. -/
def Ctx.setInit (h : Head) (c : Ctx) : Ctx := c.st (h.inst + 4) 1 1
/-- A flag byte of the instance. -/
def Ctx.flag (c : Ctx) (h : Head) (off k : Nat) : Bool := (c.ld (h.inst + off) 1).testBit k

/-- Flag byte from three flags. -/
def flags3 (a b d : Bool) : Nat := b2n a + 2 * b2n b + 4 * b2n d

/-- `RELEASE_TB0` of this release. -/
def Ctx.release (c : Ctx) : Nat := leNat (slice c.sys 0 8)
/-- Power epoch of this release. -/
def Ctx.epoch (c : Ctx) : Nat := leNat (slice c.sys 8 4)

/-- Δt of R171, with `LAST` and `LEPOCH` at the given offsets. -/
def Ctx.delta (c : Ctx) (h : Head) (lastOff epochOff : Nat) : Int :=
  if ¬ c.inited h then 0
  else if c.ld (h.inst + epochOff) 4 ≠ c.epoch then 0
  else signed 64 c.release - signed 64 (c.ld (h.inst + lastOff) 8)

/-- Records this release as the last evaluated scan (R171). -/
def Ctx.stamp (h : Head) (lastOff epochOff : Nat) (c : Ctx) : Ctx :=
  (c.st (h.inst + lastOff) 8 c.release).st (h.inst + epochOff) 4 c.epoch

/-- The blocks whose new instances take `EDGE_INIT` as 0 after an exchange (07 R201): edges, counters, `ESTOP`, `ACT`. -/
def edgeKind (code : Nat) : Bool := [0x0200, 0x0201, 0x0205, 0x0206, 0x0207, 0x0807, 0x0902].contains code

/-- `EDGE_INIT` as it acts on an instance: of those blocks 0 at the first scan after an exchange (07 R201). -/
def Ctx.edgeInit (c : Ctx) (h : Head) : Bool := h.edgeInit && !(edgeKind h.bcode && c.noEdge.contains h.inst)

/-- The request that an interface block keeps writing; none before its first scan (R186). -/
def Ctx.held (c : Ctx) (h : Head) : Bytes := if c.inited h then Tab.get (fun _ => []) c.requests h.inst else []
/-- Keeps a request. -/
def Ctx.hold (h : Head) (b : Bytes) (c : Ctx) : Ctx := { c with requests := Tab.put (fun _ => []) c.requests h.inst b }

/-- The previous value of an edge input (R174): at the first scan the present one, or with `EDGE_INIT` its inactive one. -/
def Ctx.prevEdge (c : Ctx) (h : Head) (off k : Nat) (cur inactive : Bool) : Bool :=
  if c.inited h then c.flag h off k else if c.edgeInit h then inactive else cur

/-! ## Bit logic, group 0x01 (R175) -/

/-- Bitwise operation over n operands. -/
def logicN (op : Nat → Nat → Nat) (vs : List Nat) : Nat :=
  match vs with
  | [] => 0
  | v :: r => r.foldl op v

def evBits (code : Nat) (a : Args) (c : Ctx) : Ev :=
  let w := tyWidth (a.ty 0)
  match code with
  | 0x0100 => ev c [logicN (· &&& ·) a.vals] true
  | 0x0101 => ev c [logicN (· ||| ·) a.vals] true
  | 0x0102 => ev c [logicN (· ^^^ ·) a.vals] true
  | 0x0103 => ev c [2 ^ w - 1 - a.v 0 % 2 ^ w] true
  | 0x0104 =>
    let q := a.b 0 || (c.flag a.h 8 0 && !(a.b 1))
    ev (c.st (a.h.inst + 8) 1 (b2n q)) [b2n q] true
  | 0x0105 =>
    let q := !(a.b 1) && (a.b 0 || c.flag a.h 8 0)
    ev (c.st (a.h.inst + 8) 1 (b2n q)) [b2n q] true
  | 0x0106 =>
    let n := a.i 1
    if n < 0 then ev c [a.v 0] false
    else if (w : Int) ≤ n then ev c [0] true else ev c [(a.v 0 * 2 ^ n.toNat) % 2 ^ w] true
  | 0x0107 =>
    let n := a.i 1
    if n < 0 then ev c [a.v 0] false
    else if (w : Int) ≤ n then ev c [0] true else ev c [a.v 0 / 2 ^ n.toNat] true
  | _ =>
    let n := a.i 1
    if n < 0 ∨ (w : Int) ≤ n then ev c [0] false else ev c [b2n ((a.v 0).testBit n.toNat)] true

/-! ## Edges, timers and counters, group 0x02 (R173, R174, R176) -/

/-- `TON`, `TOF` and `TP`: ET, Q and pulse running from the previous ones (R173). -/
def timerStep (kind : Nat) (inp prev q run : Bool) (et d pt : Int) : Int × Bool × Bool :=
  match kind with
  | 0 => if inp then let et := if prev then min (et + d) pt else 0; (et, decide (et ≥ pt), false) else (0, false, false)
  | 1 =>
    if inp then (0, true, false)
    else if q then let et := if prev then 0 else min (et + d) pt; (et, decide (et < pt), false)
    else (et, q, false)
  | _ =>
    let x : Int × Bool :=
      if run then let et := min (et + d) pt; (et, decide (et < pt))
      else if inp && !prev then (0, decide (pt > 0)) else (et, run)
    let et := if !inp && !x.2 then 0 else x.1
    (et, x.2, x.2)

def evTimer (kind : Nat) (a : Args) (c : Ctx) : Ev :=
  let d := c.delta a.h 16 24
  let pt0 := a.i 1
  let pt := if pt0 < 0 then 0 else pt0
  let started := c.inited a.h
  let r := timerStep kind (a.b 0) (started && c.flag a.h 28 0) (started && c.flag a.h 28 1) (started && c.flag a.h 28 2)
    (if started then signed 64 (c.ld (a.h.inst + 8) 8) else 0) d pt
  let et := wrapInt 64 r.1
  let c := ((c.st (a.h.inst + 8) 8 et).stamp a.h 16 24).st (a.h.inst + 28) 1 (flags3 (a.b 0) r.2.1 r.2.2)
  ev c [b2n r.2.1, et] (decide (0 ≤ pt0))

/-- A counter counts from CV 0 at its first scan, whatever its initial contents (DESIGN CHOICE, notes/assumptions/105.md). -/
def evCounter (code : Nat) (a : Args) (c : Ctx) : Ev :=
  let t := a.ty (if code = 0x0207 then 4 else 2)
  let w := tyWidth t
  let lo : Int := -((2 ^ (w - 1) : Nat) : Int)
  let hi : Int := ((2 ^ (w - 1) : Nat) : Int) - 1
  let cv0 : Int := if c.inited a.h then signed 64 (c.ld (a.h.inst + 8) 8) else 0
  let fin (cv : Int) (fl : Nat) (outs : List Nat) : Ev :=
    ev ((c.st (a.h.inst + 8) 8 (wrapInt 64 cv)).st (a.h.inst + 16) 1 fl) outs true
  match code with
  | 0x0205 =>
    let up := a.b 0 && !(c.prevEdge a.h 16 0 (a.b 0) false)
    let cv := if a.b 1 then 0 else if up ∧ cv0 < hi then cv0 + 1 else cv0
    fin cv (flags3 (a.b 0) false false) [b2n (decide (cv ≥ a.i 2)), wrapInt w cv]
  | 0x0206 =>
    let dn := a.b 0 && !(c.prevEdge a.h 16 1 (a.b 0) false)
    let cv := if a.b 1 then a.i 2 else if dn ∧ lo < cv0 then cv0 - 1 else cv0
    fin cv (flags3 false (a.b 0) false) [b2n (decide (cv ≤ 0)), wrapInt w cv]
  | _ =>
    let up := a.b 0 && !(c.prevEdge a.h 16 0 (a.b 0) false)
    let dn := a.b 1 && !(c.prevEdge a.h 16 1 (a.b 1) false)
    let cv := if a.b 2 then 0 else if a.b 3 then a.i 4
      else if up && !dn && decide (cv0 < hi) then cv0 + 1
      else if dn && !up && decide (lo < cv0) then cv0 - 1 else cv0
    fin cv (flags3 (a.b 0) (a.b 1) false) [b2n (decide (cv ≥ a.i 4)), b2n (decide (cv ≤ 0)), wrapInt w cv]

def evEdges (code : Nat) (a : Args) (c : Ctx) : Ev :=
  match code with
  | 0x0200 =>
    let q := a.b 0 && !(c.prevEdge a.h 8 0 (a.b 0) false)
    ev (c.st (a.h.inst + 8) 1 (flags3 (a.b 0) q false)) [b2n q] true
  | 0x0201 =>
    let q := !(a.b 0) && c.prevEdge a.h 8 0 (a.b 0) true
    ev (c.st (a.h.inst + 8) 1 (flags3 (a.b 0) q false)) [b2n q] true
  | 0x0202 => evTimer 0 a c
  | 0x0203 => evTimer 1 a c
  | 0x0204 => evTimer 2 a c
  | _ => evCounter code a c

/-! ## Arithmetic, group 0x03 (R177, R169) -/

/-- A real fold, rounding at each operation from the left (DEDUCED, notes/assumptions/8.md). -/
def realFold (f : Fmt) (op : Nat → Nat → FRes) (vs : List Nat) : FRes :=
  match vs with
  | [] => { bits := 0, ok := true }
  | v :: r => r.foldl (fun (acc : FRes) x => let y := op acc.bits x; { bits := y.bits, ok := acc.ok && y.ok })
      { bits := f.flush v, ok := !(f.isNan v) }

/-- Integer quotient towards zero. -/
def quotZ (x y : Int) : Int :=
  let q : Int := (x.natAbs / y.natAbs : Nat)
  if (x < 0) ≠ (y < 0) then -q else q

def evArith (code : Nat) (a : Args) (c : Ctx) : Ev :=
  let t := a.ty 0
  let w := tyWidth t
  let f := tyFmt t
  let is : List Int := a.vals.map (signed w)
  let out (x : Nat × Bool) : Ev := ev c [x.1] x.2
  let int (i : Int) : Ev := out (fitInt w a.h.wrap i)
  if tyReal t then
    match code with
    | 0x0300 => out (realRes f (realFold f f.add a.vals))
    | 0x0301 => out (realRes f (f.sub (a.v 0) (a.v 1)))
    | 0x0302 => out (realRes f (realFold f f.mul a.vals))
    | 0x0303 => out (realRes f (f.div (a.v 0) (a.v 1)))
    | 0x0305 => out (realRes f { bits := if f.isNan (a.v 0) then f.nanOf 0x0305 [a.v 0] else f.abs (f.flush (a.v 0)), ok := true })
    | 0x0306 => out (realRes f { bits := if f.isNan (a.v 0) then f.nanOf 0x0306 [a.v 0] else f.neg (f.flush (a.v 0)), ok := true })
    | 0x0307 => let r := realRes f (f.sqrt (a.v 0) c.drawn); ev c.afterDraw [r.1] r.2
    | 0x0308 => let r := realRes f (f.exp (a.v 0) c.drawn); ev c.afterDraw [r.1] r.2
    | _ => let r := realRes f (f.ln (a.v 0) c.drawn); ev c.afterDraw [r.1] r.2
  else
    match code with
    | 0x0300 => int (is.foldl (· + ·) 0)
    | 0x0301 => int (a.i 0 - a.i 1)
    | 0x0302 => int (is.foldl (· * ·) 1)
    | 0x0303 =>
      if a.i 1 = 0 then
        ev c [if a.i 0 > 0 then 2 ^ (w - 1) - 1 else if a.i 0 < 0 then 2 ^ (w - 1) else 0] false
      else int (quotZ (a.i 0) (a.i 1))
    | 0x0304 => if a.i 1 = 0 then ev c [0] false else int (a.i 0 - a.i 1 * quotZ (a.i 0) (a.i 1))
    | 0x0305 => int (a.i 0).natAbs
    | _ => int (-(a.i 0))

/-! ## Comparison and selection, group 0x04 (R170, R178) -/

/-- Order of two values of a type; `none` where a NaN takes part. -/
def tyCmp (t : Nat) (x y : Nat) : Option Ordering :=
  if tyReal t then (tyFmt t).cmp x y
  else if tyInt t then some (compare (signed (tyWidth t) x) (signed (tyWidth t) y))
  else some (compare x y)

/-- The value of a comparison block. -/
def cmpHolds (code : Nat) (o : Option Ordering) : Bool :=
  match code, o with
  | 0x0405, none => true
  | _, none => false
  | 0x0400, some o => o == .gt
  | 0x0401, some o => o != .lt
  | 0x0402, some o => o == .eq
  | 0x0403, some o => o != .gt
  | 0x0404, some o => o == .lt
  | _, some o => o != .eq

/-- The largest (or smallest) of the values that are no NaN. -/
def extreme (t : Nat) (want : Ordering) (vs : List Nat) : Option Nat :=
  (vs.filter (fun v => !(tyReal t && (tyFmt t).isNan v))).foldl
    (fun best v => match best with
      | none => some v
      | some b => if tyCmp t v b == some want then some v else some b) none

/-- A NaN of its type. -/
def isNanOf (t v : Nat) : Bool := tyReal t && (tyFmt t).isNan v

/-- Patterns of reals with subnormals read as zero. -/
def norm (t v : Nat) : Nat := if tyReal t then (tyFmt t).flush v else v

def evSelect (code : Nat) (a : Args) (c : Ctx) : Ev :=
  let t := a.ty 0
  match code with
  | 0x0400 | 0x0401 | 0x0402 | 0x0403 | 0x0404 | 0x0405 =>
    let o := tyCmp t (a.v 0) (a.v 1)
    ev c [b2n (cmpHolds code o)] o.isSome
  | 0x0406 => ev c [if a.b 0 then a.v 2 else a.v 1] true
  | 0x0407 | 0x0408 =>
    match extreme t (if code = 0x0407 then .gt else .lt) a.vals with
    | some v => ev c [norm t v] true
    | none => ev c [(tyFmt t).nanOf code a.vals] false
  | 0x0409 =>
    if isNanOf t (a.v 0) || isNanOf t (a.v 1) || isNanOf t (a.v 2) || tyCmp t (a.v 0) (a.v 2) == some .gt
    then ev c [norm t (a.v 0)] false
    else if tyCmp t (a.v 1) (a.v 0) == some .lt then ev c [norm t (a.v 0)] true
    else if tyCmp t (a.v 1) (a.v 2) == some .gt then ev c [norm t (a.v 2)] true
    else ev c [norm t (a.v 1)] true
  | 0x040A =>
    let k := a.i 0
    let n := a.vals.length - 1
    if 0 ≤ k ∧ k < (n : Int) then ev c [a.v (k.toNat + 1)] true else ev c [a.v 1] false
  | _ => ev c [norm t (a.v 0)] (!(isNanOf t (a.v 0)))

/-! ## Conversion and scaling, group 0x05 (R179) -/

/-- `CONV` from type `t` to type `u`. -/
def convert (t u v : Nat) : Nat × Bool :=
  let w := tyWidth u
  if u = 1 then
    (if tyReal t then
      (match (tyFmt t).decode v with | .nan => (1, false) | .inf _ => (1, true) | .fin _ m _ => (b2n (decide (m ≠ 0)), true))
     else (b2n (decide (v ≠ 0)), true))
  else if t = 1 then (if tyReal u then (tyFmt u).ofInt (v : Int) else v, true)
  else if tyReal t ∧ tyReal u then
    let r := Fmt.convert (tyFmt t) (tyFmt u) v
    (r.bits, r.ok)
  else if tyReal t then
    (if tyInt u then
      let r := (tyFmt t).toIntSat roundFin (-((2 ^ (w - 1) : Nat) : Int)) (((2 ^ (w - 1) : Nat) : Int) - 1) v
      (wrapInt w r.1, r.2)
     else
      let r := (tyFmt t).toIntSat roundFin 0 (((2 ^ w : Nat) : Int) - 1) v
      (wrapInt w r.1, r.2))
  else if tyReal u then ((tyFmt u).ofInt (if tyInt t then signed (tyWidth t) v else (v : Int)), true)
  else if tyInt t ∧ tyInt u then fitInt w false (signed (tyWidth t) v)
  else (v % 2 ^ w, true)

/-- `SCALE`: OL + (X − IL)·(OH − OL)/(IH − IL), each operation rounded in that order. -/
def scaleVal (f : Fmt) (x il ih ol oh : Nat) (clamp : Bool) : Nat × Bool :=
  let den := f.sub ih il
  if f.isZero den.bits || f.eq ih il then (f.flush ol, false)
  else
    let p := f.mul (f.sub x il).bits (f.sub oh ol).bits
    let r := f.add ol (f.div p.bits den.bits).bits
    let v := if clamp && !(f.isNan r.bits) then f.min (f.max r.bits (f.min ol oh)) (f.max ol oh) else r.bits
    (v, f.isFinite v)

/-- `LIN` over its table of pairs. -/
def linVal (f : Fmt) (x : Nat) : List (Nat × Nat) → Nat × Bool
  | [] => (f.nanOf 0x0503 [x], false)
  | [(_, y)] => (f.flush y, true)
  | (x0, y0) :: (x1, y1) :: r =>
    if f.le x x0 then (f.flush y0, true)
    else if f.lt x x1 then
      let p := f.mul (f.sub x x0).bits (f.sub y1 y0).bits
      realRes f (f.add y0 (f.div p.bits (f.sub x1 x0).bits).bits)
    else linVal f x ((x1, y1) :: r)

/-- Bits of a list of BOOLs. -/
def packBits : List Nat → Nat
  | [] => 0
  | b :: r => b % 2 + 2 * packBits r

def evConvert (code nOut uTy : Nat) (a : Args) (c : Ctx) : Ev :=
  let t := a.ty 0
  let f := tyFmt t
  match code with
  | 0x0500 => let r := convert t uTy (a.v 0); ev c [r.1] r.2
  | 0x0501 =>
    let w := tyWidth uTy
    let r := f.toIntSat truncFin (-((2 ^ (w - 1) : Nat) : Int)) (((2 ^ (w - 1) : Nat) : Int) - 1) (a.v 0)
    ev c [wrapInt w r.1] r.2
  | 0x0502 => let r := scaleVal f (a.v 0) (a.v 1) (a.v 2) (a.v 3) (a.v 4) (a.has 5 && a.b 5); ev c [r.1] r.2
  | 0x0503 =>
    let wb := tyWidth t / 8
    let tab := a.r 1
    let pts := (List.range (a.i 2).toNat).map (fun k =>
      (c.load tab.space (tab.addr + 2 * k * wb) wb, c.load tab.space (tab.addr + (2 * k + 1) * wb) wb))
    let r := if f.isNan (a.v 0) then (f.nanOf code [a.v 0], false) else linVal f (a.v 0) pts
    ev c [r.1] r.2
  | 0x0504 => ev c [packBits a.vals] true
  | _ => ev c ((List.range nOut).map (fun k => b2n ((a.v 0).testBit k))) true

/-! ## Process functions, group 0x06 (R180): state held as LREAL -/

/-- A real operand as LREAL. -/
def Args.l (a : Args) (k : Nat) : Nat := if a.ty k = 5 then toF64 (a.v k) else f64.flush (a.v k)

/-- An LREAL as a value of type `t`. -/
def ofL (t v : Nat) : Nat := if t = 5 then toF32 v else v

/-- A count of ns as seconds, LREAL. -/
def secs (d : Int) : Nat := f64.ofRat d 1000000000

/-- Output of a process block: ENO FALSE where it is infinite. -/
def procEno (t v : Nat) : Bool := !((tyFmt t).isInf v)

/-- The process blocks. With a NaN X nothing is written. A NaN rate of `RAMP` gives NaN (R169) and leaves its state; `TOTAL` sums the
interval after a NaN scan from the X it last accepted, 0 or the initial contents where there was none; an N of `MAVG` outside 1 to
64 is taken at the nearer end with ENO FALSE (DESIGN CHOICE, notes/assumptions/105.md). -/
def evProcess (code : Nat) (a : Args) (c : Ctx) : Ev :=
  let t := a.ty 0
  let p := a.h.inst
  let first := !(c.inited a.h)
  let x := a.l 0
  let bad := f64.isNan x
  match code with
  | 0x0600 =>
    let d := c.delta a.h 16 24
    let c := c.stamp a.h 16 24
    let old := c.ld (p + 8) 8
    if bad then { c := c, outs := [none, none], eno := false } else
    let up := a.l 1
    let dn := a.l 2
    let neg := f64.lt up 0 || f64.lt dn 0
    let free (r : Nat) : Bool := f64.isZero r || f64.lt r 0
    let out :=
      if first || (a.has 3 && a.b 3) then x
      else if f64.lt old x then
        (if free up then x else f64.min x (f64.add old (f64.mul up (secs d)).bits).bits)
      else
        (if free dn then x else f64.max x (f64.sub old (f64.mul dn (secs d)).bits).bits)
    let o := ofL t out
    let busy := !(f64.eq out x)
    let nanRate := f64.isNan up || f64.isNan dn
    if nanRate && !(first || (a.has 3 && a.b 3)) then
      { c := c, outs := [some ((tyFmt t).nanOf code [a.v 0, a.v 1, a.v 2]), some 1], eno := false }
    else
      let c := (c.st (p + 8) 8 out).st (p + 28) 1 (b2n busy)
      { c := c, outs := [some o, some (b2n busy)], eno := procEno t o && !neg && !nanRate }
  | 0x0601 =>
    let d := c.delta a.h 16 24
    let c := c.stamp a.h 16 24
    let old := c.ld (p + 8) 8
    if bad then { c := c, outs := [none], eno := false } else
    let tc := a.i 1
    let k := f64.sub (f64.ofInt 1) (f64.exp (f64.neg (f64.ofRat d tc.toNat)) c.drawn).bits
    let out := if first ∨ tc ≤ 0 then x else (f64.add old (f64.mul (f64.sub x old).bits k.bits).bits).bits
    let o := ofL t out
    { c := (c.afterDraw.st (p + 8) 8 out), outs := [some o], eno := procEno t o }
  | 0x0602 =>
    let d := c.delta a.h 24 32
    let c := c.stamp a.h 24 32
    let old := c.ld (p + 8) 8
    let xp := c.ld (p + 16) 8
    if bad then { c := c, outs := [none], eno := false } else
    let t1 := f64.ofInt (2 * a.i 1)
    let t2 := f64.ofInt (2 * a.i 2)
    let dd := f64.ofInt d
    let num := f64.sub (f64.add (f64.mul (f64.add dd t1).bits x).bits (f64.mul (f64.sub dd t1).bits xp).bits).bits
      (f64.mul (f64.sub dd t2).bits old).bits
    let out := if first ∨ a.i 2 ≤ 0 then x else (f64.div num.bits (f64.add dd t2).bits).bits
    let o := ofL t out
    { c := (c.st (p + 8) 8 out).st (p + 16) 8 x, outs := [some o], eno := procEno t o }
  | 0x0603 =>
    let f := tyFmt t
    let inside := f.le (f.abs (f.sub (a.v 0) (a.v 1)).bits) (a.v 2)
    if f.isNan (a.v 0) then { c := c, outs := [none], eno := false }
    else if f.isNan (a.v 1) || f.isNan (a.v 2) then ev c [f.nanOf code [a.v 0, a.v 1, a.v 2]] false
    else
      let o := if inside then norm t (a.v 1) else norm t (a.v 0)
      ev c [o] (f.isFinite o)
  | 0x0604 =>
    let d := c.delta a.h 24 32
    let c := c.stamp a.h 24 32
    let sum0 := if first then 0 else c.ld (p + 8) 8
    if bad then { c := c.st (p + 8) 8 sum0, outs := [none], eno := false } else
    let xp := c.ld (p + 16) 8
    let mean := f64.div (f64.add x xp).bits (f64.ofInt 2)
    let sum :=
      if a.b 1 then 0
      else if first || (a.has 2 && a.b 2) || f64.isNan xp then sum0
      else (f64.add sum0 (f64.mul mean.bits (secs d)).bits).bits
    { c := (c.st (p + 8) 8 sum).st (p + 16) 8 x, outs := [some sum], eno := procEno 6 sum }
  | 0x0605 =>
    let f := tyFmt t
    let q0 := c.flag a.h 8 0
    if f.isNan (a.v 0) then { c := c, outs := [none], eno := false }
    else
      let above := f.lt (a.v 1) (a.v 0)
      let order := f.lt (a.v 2) (a.v 1)
      let q := if !order || first then above else if above then true else if f.lt (a.v 0) (a.v 2) then false else q0
      ev (c.st (p + 8) 1 (b2n q)) [b2n q] order
  | _ =>
    let n0 := a.i 1
    let n := (clampInt 1 64 n0).toNat
    let fill (c : Ctx) : Ctx := (List.range 64).foldl (fun c k => c.st (p + 16 + 8 * k) 8 x) c
    let held := c.ld (p + 12) 2
    let mean (c : Ctx) : Nat :=
      (f64.div ((List.range n).foldl (fun s k => (f64.add s (c.ld (p + 16 + 8 * k) 8)).bits) 0) (f64.ofInt n)).bits
    if bad then { c := c, outs := [none], eno := false } else
    let idx := if first ∨ held ≠ n then 0 else c.ld (p + 8) 2
    let c := if first ∨ held ≠ n then fill c else c.st (p + 16 + 8 * idx) 8 x
    let next := if first ∨ held ≠ n then 0 else (idx + 1) % n
    let c := ((c.st (p + 8) 2 next).st (p + 10) 2 n).st (p + 12) 2 n
    let o := ofL t (mean c)
    { c := c, outs := [some o], eno := procEno t o && decide (1 ≤ n0 ∧ n0 ≤ 64) }

/-! ## Alarms, group 0x07 (R181) -/

/-- One limit bit: now set, and its delay ET (−1: not timing), from whether X is beyond, back inside by the hysteresis,
and the limit in use. -/
def alarmBit (set beyond clears enabled : Bool) (et d dly : Int) : Bool × Int :=
  if !enabled then (false, -1)
  else if set then (!clears, if clears then -1 else et)
  else if beyond then
    let et := if et < 0 then 0 else min (et + d) dly
    (decide (et ≥ dly), et)
  else (false, -1)

/-- STATE with its unacknowledged copies from the old STATE, the new bits 0 to 4 and the acknowledgement (R181): the
new STATE and the new acknowledged mask. A copy that is acknowledged while its bit is set goes out with the bit
(DEDUCED, notes/assumptions/10.md). -/
def alarmState (old mask bits : Nat) (ackEdge : Bool) : Nat × Nat :=
  let step (k : Nat) : Bool × Bool :=
    let was := old.testBit k
    let now := bits.testBit k
    let un := if now && !was then true else old.testBit (8 + k)
    let ak := if now && !was then false else mask.testBit k
    if ackEdge then (if now then (un, true) else (false, false))
    else if !now && ak then (false, false) else (un, ak)
  let r := (List.range 5).map step
  (bits % 32 + 256 * packBits (r.map (fun x => b2n x.1)), packBits (r.map (fun x => b2n x.2)))

/-- Writes STATE and the mask of an alarm instance; bit 15 of the mask WORD keeps the previous ACK
(DESIGN CHOICE, notes/assumptions/10.md). -/
def alarmFinish (h : Head) (stOff : Nat) (bits : Nat) (ack eno : Bool) (c : Ctx) : Ev :=
  let first := !(c.inited h)
  let old := if first then 0 else c.ld (h.inst + stOff) 2
  let m := if first then 0 else c.ld (h.inst + stOff + 2) 2
  let prev := if first then ack else m.testBit 15
  let r := alarmState old m bits (ack && !prev)
  ev ((c.st (h.inst + stOff) 2 r.1).st (h.inst + stOff + 2) 2 (r.2 + (if ack then 2 ^ 15 else 0)))
    [r.1, b2n (decide (bits % 32 ≠ 0))] eno

/-- The alarm blocks. A NaN scan ends every delay in progress, since X was not beyond its limit there. A negative DLY is taken as 0 with
ENO FALSE, a NaN HYS or SP gives ENO FALSE, and a NaN SP of `ALM_DEV` disables both bits (DESIGN CHOICE, notes/assumptions/105.md). -/
def evAlarm (code : Nat) (a : Args) (c : Ctx) : Ev :=
  let p := a.h.inst
  let first := !(c.inited a.h)
  let t := a.ty 0
  let f := tyFmt t
  let old := if first then 0 else c.ld (p + 20) 2
  let etAt (off : Nat) : Int := if first then -1 else signed 64 (c.ld (p + off) 8)
  let idle (off : Nat) (c : Ctx) : Ctx := c.st (p + off) 8 (wrapInt 64 (-1))
  match code with
  | 0x0700 =>
    let d := c.delta a.h 8 16
    let c := c.stamp a.h 8 16
    let dly := a.i 6
    let dl := if dly < 0 then 0 else dly
    let x := a.v 0
    let hys := a.v 5
    let bad := f.isNan x
    if bad then
      alarmFinish a.h 20 (old % 16 + 16) (a.b 7) false ((((idle 24 c) |> idle 32) |> idle 40) |> idle 48)
    else
      let high (k off lim : Nat) : Bool × Int :=
        alarmBit (old.testBit k) (f.lt lim x) (f.lt x (f.sub lim hys).bits) (!(f.isNan lim)) (etAt off) d dl
      let low (k off lim : Nat) : Bool × Int :=
        alarmBit (old.testBit k) (f.lt x lim) (f.lt (f.add lim hys).bits x) (!(f.isNan lim)) (etAt off) d dl
      let ll := low 0 24 (a.v 4)
      let l := low 1 32 (a.v 3)
      let hh := high 3 48 (a.v 1)
      let hi := high 2 40 (a.v 2)
      let c := (((c.st (p + 24) 8 (wrapInt 64 ll.2)).st (p + 32) 8 (wrapInt 64 l.2)).st (p + 40) 8 (wrapInt 64 hi.2)).st (p + 48) 8 (wrapInt 64 hh.2)
      alarmFinish a.h 20 (packBits [b2n ll.1, b2n l.1, b2n hi.1, b2n hh.1]) (a.b 7) (decide (0 ≤ dly) && !(f.isNan hys)) c
  | 0x0701 =>
    let d := c.delta a.h 8 16
    let c := c.stamp a.h 8 16
    let dly := a.i 4
    let dl := if dly < 0 then 0 else dly
    let x := a.v 0
    let sp := a.v 1
    let dev := a.v 2
    let hys := a.v 3
    if f.isNan x then
      alarmFinish a.h 20 (old % 16 + 16) (a.b 5) false (idle 24 c |> idle 32)
    else
      let side (k off : Nat) (e : Nat) : Bool × Int :=
        alarmBit (old.testBit k) (f.lt dev e) (f.lt e (f.sub dev hys).bits) (!(f.isNan dev) && !(f.isNan sp)) (etAt off) d dl
      let below := side 1 24 (f.sub sp x).bits
      let above := side 2 32 (f.sub x sp).bits
      let c := (c.st (p + 24) 8 (wrapInt 64 below.2)).st (p + 32) 8 (wrapInt 64 above.2)
      alarmFinish a.h 20 (packBits [0, b2n below.1, b2n above.1]) (a.b 5) (decide (0 ≤ dly) && !(f.isNan hys) && !(f.isNan sp)) c
  | 0x0702 =>
    let d := c.delta a.h 8 16
    let c := c.stamp a.h 8 16
    let dly := a.i 2
    let dl := if dly < 0 then 0 else dly
    let differs := a.b 0 != a.b 1
    let r := alarmBit (old.testBit 0) differs (!differs) true (etAt 24) d dl
    alarmFinish a.h 20 (b2n r.1) (a.b 3) (decide (0 ≤ dly)) (c.st (p + 24) 8 (wrapInt 64 r.2))
  | _ =>
    let xs := a.vals.drop 1
    let group := logicN (· ||| ·) xs
    let now := packBits (xs.map (fun x => b2n (decide (x % 32 ≠ 0))))
    let prev := if first then 0 else c.ld (p + 10) 1
    let ackEdge := a.b 0 && !(if first then a.b 0 else c.flag a.h 11 0)
    let f0 : Int := if first ∨ ackEdge then -1 else signed 16 (c.ld (p + 8) 2)
    let rose := (List.range xs.length).find? (fun k => now.testBit k && !(prev.testBit k))
    let f1 : Int := if f0 = -1 then (match rose with | some k => (k : Int) | none => -1) else f0
    ev (((c.st (p + 8) 2 (wrapInt 16 f1)).st (p + 10) 1 now).st (p + 11) 1 (b2n (a.b 0))) [group, wrapInt 16 f1] true

/-! ## Voting and safety, group 0x08 (R182 to R184) -/

/-- Validity of input `k` (R182). -/
def voteValid (a : Args) (n vIdx k : Nat) : Bool :=
  decide (k < n) && (!(a.has vIdx) || (a.v vIdx).testBit k) && !(isNanOf (a.ty k) (a.v k))

/-- Median of three ordered values. -/
def median3 (f : Fmt) (x y z : Nat) : Nat := f.max (f.min x y) (f.min (f.max x y) z)

def evVote (code : Nat) (a : Args) (c : Ctx) : Ev :=
  let f := tyFmt (a.ty 0)
  let n := if code = 0x0802 ∨ code = 0x0805 then 3 else 2
  let analogue := decide (0x0803 ≤ code)
  let vIdx := if analogue then n + 2 else n
  let good := (List.range n).filter (fun k => voteValid a n vIdx k)
  let nGood := good.length
  if analogue then
    let low := decide (a.v n ≠ 0)
    let xs := good.map a.v
    let mx := xs.foldl f.max (getAt 0 xs 0)
    let mn := xs.foldl f.min (getAt 0 xs 0)
    let worst := if low then mn else mx
    let best := if low then mx else mn
    let inf := f.inf low
    let out :=
      if nGood = n then (match code with | 0x0803 => worst | 0x0804 => best | _ => median3 f (a.v 0) (a.v 1) (a.v 2))
      else if nGood + 1 = n ∧ code = 0x0804 then getAt 0 xs 0
      else if nGood + 1 = n ∧ code = 0x0805 then worst
      else inf
    let disc := decide (nGood < n) || f.lt (a.v (n + 1)) (f.sub mx mn).bits
    ev c [norm (a.ty 0) out, b2n disc] (f.isFinite out && !(f.isNan (a.v (n + 1))))
  else
    let xs := good.map a.b
    let demands := (xs.filter id).length
    let q :=
      if nGood = n then (match code with | 0x0800 => decide (1 ≤ demands) | _ => decide (2 ≤ demands))
      else if nGood + 1 = n ∧ code = 0x0801 then decide (1 ≤ demands)
      else if nGood + 1 = n ∧ code = 0x0802 then decide (1 ≤ demands)
      else true
    let disc := decide (nGood < n) || (decide (0 < demands) && decide (demands < nGood))
    ev c [b2n q, b2n disc] true

/-- `DISC`, `ESTOP` and the voting blocks. An ET of `DISC` that is not timing is held as −1 (DESIGN CHOICE,
notes/assumptions/105.md). -/
def evSafety (code : Nat) (a : Args) (c : Ctx) : Ev :=
  let first := !(c.inited a.h)
  match code with
  | 0x0806 =>
    let d := c.delta a.h 16 24
    let dt0 := a.i 2
    let dt := if dt0 < 0 then 0 else dt0
    let differ := a.b 0 != a.b 1
    let et0 : Int := if first then -1 else signed 64 (c.ld (a.h.inst + 8) 8)
    let et := if differ then (if et0 < 0 then 0 else min (et0 + d) dt) else -1
    let flt0 := !first && c.flag a.h 28 0
    let seen0 := !first && c.flag a.h 28 1
    let sets := differ && decide (et ≥ dt)
    let both0 := !(a.b 0) && !(a.b 1)
    let both1 := a.b 0 && a.b 1
    let flt := if sets then true else if flt0 && seen0 && both1 then false else flt0
    let seen := if sets && !flt0 then false else if flt0 && both0 then true else if both1 then false else seen0
    let c := ((c.st (a.h.inst + 8) 8 (wrapInt 64 et)).stamp a.h 16 24).st (a.h.inst + 28) 1 (flags3 flt seen false)
    ev c [b2n flt, b2n (both1 && !flt)] (decide (0 ≤ dt0))
  | 0x0807 =>
    let q0 := c.flag a.h 8 0
    let q := if first || !(a.b 0) then false else if a.b 1 && !(c.flag a.h 8 1) then true else q0
    ev (c.st (a.h.inst + 8) 1 (flags3 q (a.b 1) false)) [b2n q] true
  | _ => evVote code a c

/-! ## Sequence, group 0x09 (R185) -/

def evSequence (code : Nat) (a : Args) (c : Ctx) : Ev :=
  let first := !(c.inited a.h)
  match code with
  | 0x0900 =>
    let d := c.delta a.h 16 24
    let was := !first && c.flag a.h 28 0
    let x := if first || a.b 3 then a.b 2 else (was && !(a.b 1)) || a.b 0
    let t0 : Int := if first then 0 else signed 64 (c.ld (a.h.inst + 8) 8)
    let t := if x && !was then 0 else if x then (signed 64 (fitInt 64 false (t0 + d)).1) else t0
    let c := ((c.st (a.h.inst + 8) 8 (wrapInt 64 t)).stamp a.h 16 24).st (a.h.inst + 28) 1 (b2n x)
    ev c [b2n x, wrapInt 64 t] true
  | 0x0901 => ev c [b2n (a.b 0 && a.b 1)] true
  | _ =>
    let prev := c.prevEdge a.h 8 0 (a.b 0) false
    let dur0 : Int := if a.has 3 then a.i 3 else 0
    let dur := if dur0 < 0 then 0 else dur0
    let q := match a.v 2 with
      | 0 => a.b 0
      | 1 => a.b 0 && !prev
      | 2 => a.b 0 && decide (a.i 1 < dur)
      | _ => a.b 0 && decide (a.i 1 ≥ dur)
    ev (c.st (a.h.inst + 8) 1 (b2n (a.b 0))) [b2n q] (decide (0 ≤ dur0))

/-! ## Subsystem interfaces, group 0x0A (R186): records in the images -/

/-- Request bookkeeping of the BOOL request blocks: the new sequence, a new request, and the previous request input
recorded. Flag [2] of byte 10 keeps that a request has been made (DESIGN CHOICE, notes/assumptions/10.md). -/
def requestStep (h : Head) (req : Bool) (c : Ctx) : Nat × Bool :=
  let rising := req && !(c.prevEdge h 10 0 req false)
  let seq := c.ld (h.inst + 8) 2
  (if rising then (seq + 1) % 65536 else seq, rising)

/-- The interface blocks. A record's request is written again at every evaluated scan. `CAN_TX` takes a LEN outside 0 to 64 at the nearer
end with ENO FALSE; an `AXIS` request writes AFLAGS and VLIM of its record as zero; `CAN_RX` compares with frame sequence 0 at its
first scan (DESIGN CHOICE, notes/assumptions/105.md). -/
def evInterface (code : Nat) (outRefs : List Ref) (a : Args) (c : Ctx) : Ev :=
  let p := a.h.inst
  let st := a.r 0
  let o := getAt noRef outRefs 0
  let inRec (off n : Nat) : Nat := c.load st.space (st.addr + off) n
  let put (off : Nat) (b : Bytes) (c : Ctx) : Ctx := if o.space = 0 then c else Ctx.storeBytes o.space (o.addr + off) b c
  match code with
  | 0x0A00 =>
    let mode := a.v 2
    let prev := if c.inited a.h then c.ld (p + 11) 1 else if c.edgeInit a.h then 0 else mode % 256
    let new := decide (1 ≤ mode ∧ mode ≤ 3) && decide (mode ≠ prev) && decide (mode ≠ inRec 14 1)
    let seq := if new then (c.ld (p + 8) 2 + 1) % 65536 else c.ld (p + 8) 2
    let pend := if new then true else c.flag a.h 10 1 && decide (inRec 12 2 ≠ seq)
    let req := if new then leBytes 2 seq ++ leBytes 1 mode else c.held a.h
    let c1 := ((put 0 (leBytes 4 (a.v 1) ++ leBytes 4 (a.v 3)) c) |> put 12 req).hold a.h req
    let c2 := ((c1.st (p + 8) 2 seq).st (p + 10) 1 (flags3 false pend false)).st (p + 11) 1 mode
    { c := c2, outs := [none, some (inRec 0 4)], eno := !(f32.isNan (a.v 1)) && !(f32.isNan (a.v 3)) }
  | 0x0A01 =>
    let r := requestStep a.h (a.b 3) c
    let made := r.2 || c.flag a.h 10 2
    let pend := if r.2 then true else c.flag a.h 10 1 && decide (inRec 16 2 ≠ r.1)
    let req := if r.2 then leBytes 8 (a.v 2) ++ leBytes 2 r.1 ++ leBytes 1 (a.v 1) ++ leBytes 5 0 else c.held a.h
    let c1 := (put 0 req c).hold a.h req
    { c := (c1.st (p + 8) 2 r.1).st (p + 10) 1 (flags3 (a.b 3) pend made),
      outs := [none, some (b2n (made && !pend))], eno := !(f64.isNan (a.v 2)) }
  | 0x0A02 =>
    let r := requestStep a.h (a.b 1) c
    let made := r.2 || c.flag a.h 10 2
    let len := (clampInt 0 64 (a.i 3)).toNat
    let k := match a.h.outs with
      | o :: _ => (match c.canBufs.find? (fun x => x.1 == o.addr) with | some (_, k) => k | none => 0)
      | [] => 0
    let done := decide (inRec (4 + 2 * k) 2 = r.1) && decide (2 ≤ inRec (10 + k) 1 ∧ inRec (10 + k) 1 ≤ 4)
    let pend := if r.2 then true else c.flag a.h 10 1 && !done
    let data := (List.range len).map (fun j => c.byte (a.r 4).space ((a.r 4).addr + j))
    let req := if r.2 then leBytes 4 (a.v 2) ++ leBytes 1 len ++ leBytes 1 0 ++ leBytes 2 r.1 ++ leBytes 8 0 ++ data else c.held a.h
    let c1 := (put 0 req c).hold a.h req
    { c := (c1.st (p + 8) 2 r.1).st (p + 10) 1 (flags3 (a.b 1) pend made),
      outs := [none, some (b2n (made && !pend))], eno := decide (0 ≤ a.i 3 ∧ a.i 3 ≤ 64) }
  | 0x0A03 =>
    let fseq := inRec 8 4
    let new := decide (fseq ≠ (if c.inited a.h then c.ld (p + 8) 4 else 0))
    let len := min 64 (inRec 4 1)
    let d := getAt noRef outRefs 3
    let c1 := c.st (p + 8) 4 fseq
    if new then
      let c2 := if d.space = 0 then c1 else
        Ctx.storeBytes d.space d.addr ((List.range len).map (fun j => c.byte st.space (st.addr + 24 + j))) c1
      { c := c2, outs := [some 1, some (inRec 0 4), some len, none], eno := true }
    else { c := c1, outs := [some 0, none, none, none], eno := true }
  | 0x0A04 =>
    let r := requestStep a.h (a.b 1) c
    let made := r.2 || c.flag a.h 10 2
    let req := if r.2 then leBytes 4 r.1 else c.held a.h
    let c1 := (put 0 req c).hold a.h req
    let pend := if r.2 then true else c.flag a.h 10 1 && decide (inRec 14 2 ≠ r.1)
    { c := (c1.st (p + 8) 2 r.1).st (p + 10) 1 (flags3 (a.b 1) pend made),
      outs := [none, some (b2n (decide (inRec 0 1 = 4 ∨ inRec 0 1 = 5)))], eno := true }
  | 0x0A05 => { c := put 0 (leBytes 4 (b2n (a.b 0))) c, outs := [none], eno := true }
  | _ => ev c [b2n (decide (inRec 20 1 = 1)), inRec 0 8] true

/-! ## System, group 0x0B (R187) -/

def evSystem (code : Nat) (a : Args) (c : Ctx) : Ev :=
  match code with
  | 0x0B02 =>
    let n := a.i 0
    if 0 ≤ n ∧ n ≤ 15 then
      let x := getAt (0, 0) c.taskStat n.toNat
      ev c [x.1, x.2 % 2 ^ 32] true
    else { c := c, outs := [none, none], eno := false }
  | 0x0B03 =>
    let x := getAt (0, false) c.bases (a.v 0)
    ev c [x.1, b2n x.2] true
  | _ =>
    let n := a.i 1
    let d := a.r 0
    if 1 ≤ n ∧ n ≤ 256 ∧ d.addr + n.toNat ≤ c.spaceSize d.space then
      let x := crc32c ((List.range n.toNat).map (fun j => c.byte d.space (d.addr + j)))
      ev c [b2n (decide (x = a.v 2)), x] true
    else { c := c, outs := [none, none], eno := false }

/-! ## One entry (R163, R164) -/

/-- The evaluation of a block of the library other than `CALL` and `FRAME`. -/
def evalBlock (g : Sig) (h : Head) (c : Ctx) : Ev :=
  let n := h.nIn g
  let m := h.nOut g
  let refs := (List.range n).map h.inSlot
  let a : Args := { h := h, refs := refs, vals := refs.map c.read }
  let outRefs := (List.range m).map (h.outSlot n)
  match h.bcode / 256 with
  | 1 => evBits h.bcode a c
  | 2 => evEdges h.bcode a c
  | 3 => evArith h.bcode a c
  | 4 => evSelect h.bcode a c
  | 5 => evConvert h.bcode m (getAt noRef outRefs 0).ty a c
  | 6 => evProcess h.bcode a c
  | 7 => evAlarm h.bcode a c
  | 8 => evSafety h.bcode a c
  | 9 => evSequence h.bcode a c
  | 10 => evInterface h.bcode outRefs a c
  | _ => evSystem h.bcode a c

/-- Writes output values to output references, in order. -/
def Ctx.writeOuts : List Ref → List (Option Nat) → Ctx → Ctx
  | r :: rs, v :: vs, c => Ctx.writeOuts rs vs (match v with | some x => c.write r x | none => c)
  | _, _, c => c

/-- The enable of an entry (R164). -/
def Head.enabled (h : Head) (c : Ctx) : Bool :=
  if h.en.space = 0 then true else (c.read h.en % 2 == 1) != h.enInv

/-- The entries of a network: `count` from `first`, in order. -/
def netOf (first count : Nat) : List Nat := (List.range count).map (fun k => first + k)

/-- Where a walk stands, from the outermost network inwards: the position in the network and the frame base there; `[]` at its
start, and where it has ended. -/
abbrev Place := List (Nat × Nat)

/-- A `CALL` (R166) at the head `h` with signature `g`: the parameters, the callee and the results; from a place inside the callee the
rest of it and the results. The place where the callee stopped, `[]` where it ended. -/
def execCall (call : List Nat → Place → Ctx → Ctx × Place) (h : Head) (g : Sig) (p : Place) (c : Ctx) : Ctx × Place :=
  let n := h.nIn g
  let tgt := c.read (h.inSlot 0)
  let saved := c.base
  let vals := (List.range (n - 1)).map (fun k => c.read (h.inSlot (k + 1)))
  let c := if p.isEmpty then (List.range (n - 1)).foldl (fun c k => c.st (h.inst + 8 + 8 * k) 8 (getAt 0 vals k)) c else c
  let x := call (netOf (bitsOf tgt 13 0) (bitsOf tgt 27 14)) p { c with base := h.inst }
  let c := { x.1 with base := saved }
  if ¬ x.2.isEmpty then (c, x.2)
  else
    let c := (List.range (h.nOut g)).foldl (fun c j =>
      let r := h.outSlot n j
      c.write r (c.ld (h.inst + 8 + 8 * (n - 1 + j)) 8 % 2 ^ tyWidth r.ty)) c
    ((c.setInit h).write h.enoRef 1, [])

/-- One entry of the block table at index `i`, `call` being the walk of a callee (R163 to R166); from the place `p` inside a callee
where it was preempted there. -/
def execEntry (call : List Nat → Place → Ctx → Ctx × Place) (i : Nat) (p : Place) (c : Ctx) : Ctx × Place :=
  let h := Head.read c.table i
  match sigOf h.bcode with
  | none => (c, [])
  | some g =>
    if ¬ p.isEmpty then execCall call h g p c
    else
      let c := { c with left := c.left.map (fun k => k - 1) }
      if ¬ h.enabled c then (c.write h.enoRef 0, [])
      else if h.bcode = 0x0B01 then ((({ c with base := h.inst } : Ctx).setInit h).write h.enoRef 1, [])
      else if h.bcode = 0x0B00 then execCall call h g [] c
      else
        let e := evalBlock g h c
        let c := if g.inst = 0 then e.c else e.c.setInit h
        ((Ctx.writeOuts ((List.range (h.nOut g)).map (h.outSlot (h.nIn g))) e.outs c).write h.enoRef (b2n e.eno), [])

/-- The entries of a network from position `k` on, the first from the place `p` inside it: preempted at the end of an entry once no
more may execute (R166). -/
def walkNet (call : List Nat → Place → Ctx → Ctx × Place) : List Nat → Nat → Place → Ctx → Ctx × Place
  | [], _, _, c => (c, [])
  | i :: r, k, p, c =>
    if p.isEmpty && c.left == some 0 then (c, [(k, c.base)])
    else
      let x := execEntry call i p c
      if x.2.isEmpty then walkNet call r (k + 1) [] x.1 else (x.1, (k, c.base) :: x.2)

/-- The walk of a network (R163) from a place in it, callees to depth `d`. -/
def walk : Nat → List Nat → Place → Ctx → Ctx × Place
  | 0, _, _, c => (c, [])
  | d + 1, net, p, c =>
    let at0 := p.headD (0, c.base)
    walkNet (walk d) (net.drop at0.1) at0.1 (p.drop 1) { c with base := at0.2 }

/-- The ranges of a task in list order (R163), first entry and count of each, from a place on. A walk that may stop and has come to the
end stands behind its last entry. -/
def walkRanges (ranges : List (Nat × Nat)) (p : Place) (c : Ctx) : Ctx × Place :=
  let net := ranges.flatMap (fun r => netOf r.1 r.2)
  let x := walk 9 net p c
  (x.1, if c.left.isSome && x.2.isEmpty then [(net.length, x.1.base)] else x.2)

end Sys2Proof.Machine
end

