-- ==== Sys2Proof/Machine/BlockCost.lean ====
section
/-! DEFINITION. Execution time of entries and ranges (06 R189, R190), frames (R165) and what a range reaches through CALL. -/

namespace Sys2Proof.Machine

/-- A figure that depends on the type: ANY_INT and TIME, REAL, LREAL. -/
def byType (t i r l : Nat) : Nat := if t = 6 then l else if t = 5 then r else i

/-- Worst-case cycles of an enabled head entry (R175 to R187): type of the first generic operand, number of operands as
the block counts them, number of outputs, constant length or count. -/
def headCycles (code t n m len : Nat) : Nat :=
  match code with
  | 0x0100 | 0x0101 | 0x0102 => 10 + 2 * n
  | 0x0103 => 10
  | 0x0104 | 0x0105 => 18
  | 0x0106 | 0x0107 | 0x0108 => 14
  | 0x0200 | 0x0201 => 16
  | 0x0202 | 0x0203 | 0x0204 => 40
  | 0x0205 | 0x0206 => 28
  | 0x0207 => 44
  | 0x0300 => byType t (10 + 2 * n) (12 + 4 * n) (14 + 6 * n)
  | 0x0301 => byType t 14 18 20
  | 0x0302 => byType t (10 + 3 * n) (12 + 4 * n) (14 + 6 * n)
  | 0x0303 => byType t 48 40 60
  | 0x0304 => 48
  | 0x0305 | 0x0306 => 12
  | 0x0307 => byType t 40 40 70
  | 0x0308 | 0x0309 => byType t 90 90 160
  | 0x0400 | 0x0401 | 0x0402 | 0x0403 | 0x0404 | 0x0405 => byType t 14 14 16
  | 0x0406 => 14
  | 0x0407 | 0x0408 => 10 + 2 * n
  | 0x0409 => 18
  | 0x040A => 16 + 2 * (n - 1)
  | 0x040B => 10
  | 0x0500 | 0x0501 => 20
  | 0x0502 => byType t 40 40 60
  | 0x0503 => 40 + 12 * len
  | 0x0504 => 12 + 2 * n
  | 0x0505 => 12 + 2 * m
  | 0x0600 => 80
  | 0x0601 => 120
  | 0x0602 => 200
  | 0x0603 => 30
  | 0x0604 => 90
  | 0x0605 => 24
  | 0x0606 => 40 + 4 * len
  | 0x0700 => 180
  | 0x0701 => 120
  | 0x0702 => 60
  | 0x0703 => 40 + 6 * (n - 1)
  | 0x0800 | 0x0801 => 16
  | 0x0802 => 22
  | 0x0803 | 0x0804 => 30
  | 0x0805 => 50
  | 0x0806 => 50
  | 0x0807 => 24
  | 0x0900 => 50
  | 0x0901 => 14
  | 0x0902 => 60
  | 0x0A00 => 60
  | 0x0A01 => 80
  | 0x0A02 => min 56 (40 + len / 4)
  | 0x0A03 => 56
  | 0x0A04 => 24
  | 0x0A05 => 14
  | 0x0A06 => 30
  | 0x0B00 => 20 + 4 * ((n - 1) + m)
  | 0x0B01 => 4
  | 0x0B02 => 20
  | 0x0B03 => 16
  | 0x0B04 => 40 + 4 * len
  | _ => 0

/-- A constant operand: the value of a reference into K; `none` elsewhere. -/
def constOf (store : Tab Byte) (r : Ref) : Option Nat :=
  if r.space = 5 then some (leNat (Tab.getBytes store (regionK + r.addr) r.bytes)) else none

/-- The length that enters the cycles: constant where it lies in K, its greatest value otherwise (R189). The rule names
CHECK alone; the others take their greatest value in the same way (DEDUCED, notes/assumptions/11.md). -/
def costLen (store : Tab Byte) (h : Head) : Nat :=
  let pick (k most : Nat) : Nat :=
    match constOf store (h.inSlot k) with
    | some v => min most (clampInt 0 most (signed (tyWidth (h.inSlot k).ty) v)).toNat
    | none => most
  match h.bcode with
  | 0x0503 => pick 2 16
  | 0x0606 => pick 1 64
  | 0x0A02 => pick 3 64
  | 0x0B04 => pick 1 256
  | _ => 0

/-- Continuation slots an entry uses other than its ENO destination (R190). -/
def contSlots (h : Head) : Nat :=
  ((List.range h.cont.length).filter (fun k =>
    (getAt noRef h.cont k).space != 0 && !(h.hasEno && decide (k + 1 = 9 * h.ncont)))).length

/-- Cycles of a head entry with its continuations, taken as enabled (R189, R190). -/
def entryCycles (table store : Tab Byte) (i : Nat) : Nat :=
  let h := Head.read table i
  if h.bcode = 0 then 6
  else match sigOf h.bcode with
  | none => 0
  | some g =>
    let n := h.nIn g
    let m := h.nOut g
    let t := (if g.rep.isSome && decide (g.ins.length = 1) then h.inSlot 1 else h.inSlot 0).ty
    let base := headCycles h.bcode t n m (costLen store h)
    let eno := if h.hasEno then 2 else 0
    if g.contIncl then base + 4 * (h.ncont - 1) + eno
    else base + 4 * h.ncont + 2 * contSlots h + eno

/-- The callee a CALL entry names: first entry and count, from its constant. -/
def calleeOf (store : Tab Byte) (h : Head) : Option (Nat × Nat) :=
  if h.bcode = 0x0B00 then (constOf store (h.inSlot 0)).map (fun v => (bitsOf v 13 0, bitsOf v 27 14)) else none

/-- W of a range in cycles (R189), callees to depth `d`. -/
def rangeCycles (table store : Tab Byte) : Nat → Nat → Nat → Nat
  | 0, _, _ => 0
  | d + 1, first, count =>
    (List.range count).foldl (fun acc k =>
      let h := Head.read table (first + k)
      acc + entryCycles table store (first + k) +
        (match calleeOf store h with | some (f, n) => rangeCycles table store d f n | none => 0)) 0

/-- The longest single entry of a range in cycles, callees to depth `d` (R136 term B, R189). -/
def longestEntry (table store : Tab Byte) : Nat → Nat → Nat → Nat
  | 0, _, _ => 0
  | d + 1, first, count =>
    (List.range count).foldl (fun acc k =>
      let h := Head.read table (first + k)
      max (max acc (entryCycles table store (first + k)))
        (match calleeOf store h with | some (f, n) => longestEntry table store d f n | none => 0)) 0

/-- One entry reached from a task's ranges: its index, the frame base it runs under, the depth of its network below the
range, and whether that frame was set by a CALL with `n + m` slots. -/
structure Reach where
  idx : Nat
  base : Nat
  depth : Nat
  deriving DecidableEq, Repr

/-- The entries a range reaches with their frame bases (R165), callees to depth `d`. -/
def reachRange (table store : Tab Byte) : Nat → Nat → Nat → Nat → List Reach
  | 0, _, _, _ => []
  | d + 1, first, count, base =>
    ((List.range count).foldl (fun (acc : List Reach × Nat) k =>
      let h := Head.read table (first + k)
      let b := if h.bcode = 0x0B01 then h.inst else acc.2
      let here : Reach := { idx := first + k, base := b, depth := 9 - d }
      let sub := match calleeOf store h with
        | some (f, n) => reachRange table store d f n h.inst
        | none => []
      (acc.1 ++ [here] ++ sub, b)) ([], base)).1

/-- The bits that an operand of an entry covers in its space, from where: the reference's own; of the DATA of `CHECK`, `CAN_TX` and
`CAN_RX` LEN bytes, of the table of `LIN` its N pairs. A LEN outside K takes its greatest value, and `CHECK` reads nothing past the
end of a space (R179, R186, R187; DESIGN CHOICE, notes/assumptions/105.md). -/
def operandSpan (store : Tab Byte) (h : Head) (output : Bool) (k : Nat) (r : Ref) : Nat × Nat :=
  let own := if r.ty = 1 then (r.off, 1) else (8 * r.addr, tyWidth r.ty)
  let data := fun (n : Nat) => (8 * r.addr, 8 * n)
  match h.bcode, output, k with
  | 0x0B04, false, 0 => data (costLen store h)
  | 0x0A02, false, 4 => data (costLen store h)
  | 0x0A03, true, 3 => data 64
  | 0x0503, false, 1 => data (costLen store h * 2 * (tyWidth r.ty / 8))
  | _, _, _ => own

/-- The bits of a space that an entry reads (EN and its inputs), each with its length. -/
def spaceReads (store : Tab Byte) (space : Nat) (h : Head) (g : Sig) : List (Nat × Nat) :=
  (if h.en.space = space then [operandSpan store h true 99 h.en] else [])
    ++ ((List.range (h.nIn g)).filter (fun k => (h.inSlot k).space == space)).map (fun k => operandSpan store h false k (h.inSlot k))

/-- The bits of a space that an entry writes (ENO and its outputs). -/
def spaceWrites (store : Tab Byte) (space : Nat) (h : Head) (g : Sig) : List (Nat × Nat) :=
  (if h.enoRef.space = space then [operandSpan store h false 99 h.enoRef] else [])
    ++ ((List.range (h.nOut g)).filter (fun k => (h.outSlot (h.nIn g) k).space == space)).map
      (fun k => operandSpan store h true k (h.outSlot (h.nIn g) k))

/-- Bytes above a frame base that the operands of an entry read or write in N (R165). -/
def nReach (store : Tab Byte) (h : Head) (g : Sig) : Nat :=
  (spaceReads store 4 h g ++ spaceWrites store 4 h g).foldl (fun acc r => max acc ((r.1 + r.2 + 7) / 8)) 0

/-- Rounds up to a multiple of 8. -/
def up8 (n : Nat) : Nat := (n + 7) / 8 * 8

/-- The size of the frame at `base` (R165). -/
def frameSize (table store : Tab Byte) (rs : List Reach) (base : Nat) : Nat :=
  up8 (rs.foldl (fun acc r =>
    let h := Head.read table r.idx
    match sigOf h.bcode with
    | none => acc
    | some g =>
      let own := if r.base = base then nReach store h g else 0
      let call := if h.bcode = 0x0B00 ∧ h.inst = base then 8 + 8 * ((h.nIn g - 1) + h.nOut g) else 0
      max acc (max own call)) 8)

end Sys2Proof.Machine
end

