-- ==== Sys2Proof/Machine/Budget.lean ====
section
/-! DEFINITION. Task budgets (05 R136, R137) and the send burst of the network (14 R387). -/

namespace Sys2Proof.Machine

/-- Tasks share a core of a STANDARD pair, or a SAFETY pair (05 R124). -/
def State.sameCore (s : State) (i j : Nat) : Bool :=
  s.param .taskPair i == s.param .taskPair j
    && (s.param .pairMode (s.param .taskPair i) == 1 || s.param .taskCore i == s.param .taskCore j)

/-- The other tasks with a kind on the core or pair of task `i`, in order. -/
def State.coreMates (s : State) (i : Nat) : List Nat := tasksWhere (fun j => j != i && s.taskExists j && s.sameCore i j)

/-- The period T of a task, in ns (05 R136). -/
def State.taskT (s : State) (i : Nat) : Nat :=
  if s.param .taskKind i = 3 then s.param .netCycle 0 * 1000 * s.param .taskSyncMult i else s.param .taskCycle i

/-- Latch time L of an input image of `bytes` (05 R128), in ns. -/
def latchNs (bytes : Nat) : Nat := 400 + bytes / 4

/-- L of task `i`. -/
def State.taskL (s : State) (i : Nat) : Nat := latchNs (s.taskProg i).inSize

/-- P: input agreement and signature compare in a pair. -/
def State.taskP (s : State) : Nat := if s.paired then 27000 else 0

/-- W of task `i` at 2 ns a core cycle. -/
def State.taskW (s : State) (i : Nat) : Nat :=
  2 * ((s.taskProg i).ranges.foldl (fun acc r => acc + rangeCycles s.cfg.prog.table s.cfg.prog.init 9 r.1 r.2) 0)

/-- Longest single entry of task `i`, in ns. -/
def State.taskLongest (s : State) (i : Nat) : Nat :=
  2 * ((s.taskProg i).ranges.foldl (fun acc r => max acc (longestEntry s.cfg.prog.table s.cfg.prog.init 9 r.1 r.2)) 0)

/-- B: blocking by a lower-priority entry or a self-test slice. -/
def State.taskB (s : State) (i : Nat) : Nat :=
  100 + (s.coreMates i).foldl (fun acc j => if i < j then max acc (s.taskLongest j) else acc) 1000

/-- The interference sum. -/
def State.taskInterference (s : State) (i : Nat) : Nat :=
  (s.coreMates i).foldl (fun acc h =>
    if h < i then
      acc + (s.taskT i + s.taskT h - 1) / max 1 (s.taskT h) * (s.taskL h + s.taskP + s.taskW h + 200)
    else acc) 0

/-- The response bound R_i (05 R136). -/
def State.taskR (s : State) (i : Nat) : Nat := s.taskL i + s.taskP + s.taskW i + s.taskB i + s.taskInterference i

/-- The limit of R_i (05 R137): for a synchronous task from its receive close to 12 µs before the next send slot. -/
def State.taskLimit (s : State) (i : Nat) : Int :=
  if s.param .taskKind i = 3 then
    ((s.param .netCycle 0 : Int) + s.param .sendSlot 0 - s.param .rxClose 0 - 12) * 1000
  else s.param .taskCycle i

/-- Task `i` passes the budget check. -/
def State.taskPasses (s : State) (i : Nat) : Bool := decide ((s.taskR i : Int) ≤ s.taskLimit i)

/-- The check over task `i` and every other task on its core or pair (05 R137). -/
def State.budgetOk (s : State) (i : Nat) : Bool :=
  (!s.taskExists i || s.taskPasses i) && (s.coreMates i).all s.taskPasses

/-- The check over every task. -/
def State.budgetAll (s : State) : Bool := (List.range 16).all (fun i => !s.taskExists i || s.taskPasses i)

/-- A `TASK.BUDGET` record (05 R560). -/
def budgetRecord (s : State) (i : Nat) : Bytes :=
  leBytes 8 (s.taskL i) ++ leBytes 8 s.taskP ++ leBytes 8 (s.taskW i) ++ leBytes 8 (s.taskB i)
    ++ leBytes 8 (s.taskInterference i) ++ leBytes 8 (s.taskR i) ++ leBytes 8 (wrapInt 64 (s.taskLimit i))
    ++ leBytes 1 i ++ leBytes 1 (b2n (s.taskPasses i)) ++ leBytes 6 0

/-! ## The send burst (14 R387) -/

/-- Wire nanoseconds of the frames due in cycle `n`. -/
def State.burstAt (s : State) (conns : List Nat) (n : Nat) : Nat :=
  conns.foldl (fun acc c =>
    if n % s.param .pcMult c = s.param .pcPhase c % s.param .pcMult c then acc + (max (s.param .pcLen c) 4 + 80) * 8 else acc) 0

/-- The connections enabled for production. -/
def State.producedConns (s : State) : List Nat := (List.range 1024).filter (fun c => s.param .pcEn c == 1)

/-- The cycles a burst must be looked at: the least common multiple of the production intervals. -/
def State.burstPeriod (s : State) (conns : List Nat) : Nat := conns.foldl (fun acc c => Nat.lcm acc (s.param .pcMult c)) 1

/-- Number of connections due in cycle `n`. -/
def State.dueCount (s : State) (conns : List Nat) (n : Nat) : Nat :=
  (conns.filter (fun c => n % s.param .pcMult c == s.param .pcPhase c % s.param .pcMult c)).length

/-- The cycle with the most connections due, the longer burst where the numbers are equal, among `n` cycles. -/
def State.worstBurst (s : State) (conns : List Nat) : Nat → Nat × Nat
  | 0 => (0, 0)
  | n + 1 =>
    let w := s.worstBurst conns n
    let k := s.dueCount conns n
    let b := s.burstAt conns n
    if w.1 < k ∨ (w.1 = k ∧ w.2 < b) then (k, b) else w

/-- The send burst fits between the send slot and the receive close (14 R387). -/
def State.burstFits (s : State) : Bool :=
  let conns := s.producedConns
  let b := (s.worstBurst conns (s.burstPeriod conns)).2
  decide (12400 + 2 * 832 + b + s.param .netHops 0 * 4000 + 10000 + s.param .sendSlot 0 * 1000 ≤ s.param .rxClose 0 * 1000)

end Sys2Proof.Machine
end

