-- ==== Sys2Proof/Machine/SafetyOut.lean ====
section
/-! DEFINITION. Safety outputs, the safety supervisor, degraded mode and analogue safety pairs (11 R284 to R300, R311). -/

namespace Sys2Proof.Machine

/-- A safety output as event source; one switch of it (sub-index 1 high side, 2 low side) as a retirable resource. -/
def soRes (n : Nat) : Res := { cls := 0x06, index := n }
def soKey (n sub : Nat) : FaultKey := { cls := 3, index := n, sub := sub }
/-- A quantity of a safety output. -/
def soQ (n v : Nat) : Nat := n * 2 ^ 24 + v

/-- Energise-to-trip (R290). -/
def State.ett (s : State) (n : Nat) : Bool := s.param .soTripMode n == 1

/-- The plane of a switch's events: data for a high side, control for a low side (R315). -/
def swPlane (sw : Nat) : Plane := if sw = 0 then .data else .control

/-- A switch of an output: 0 the high side. -/
def SafeOut.sw (x : SafeOut) (k : Nat) : SoSwitch := if k = 0 then x.hs else x.ls
/-- Replaces a switch. -/
def SafeOut.setSw (k : Nat) (w : SoSwitch) (x : SafeOut) : SafeOut := if k = 0 then { x with hs := w } else { x with ls := w }

/-! ## The two deciders (R284, R285, R287, R290) -/

/-- The load is to be energised: the committed command of a DTT output that is not tripped, or a tripped or commanded ETT
output; never before the first commit, never when RETIRED. -/
def State.soWanted (s : State) (n : Nat) : Bool :=
  let x := s.soOf n
  let cmd := x.cmd == some true
  !x.retired && s.fieldActive && s.power.phase != .holdUp
    && (if s.ett n then x.tripped || cmd else cmd && !x.tripped)

/-- The high side's decider, as of the last frame that reached the isolated side. -/
def SafeOut.hsDecides (x : SafeOut) : Bool := x.hsCmd && !x.localOff && !x.silent && !x.hs.failedOpen && !x.retired

/-- The low side's decider: the SV holds it open on its conditions (R291); an ETT low side opens on FS below 16.0 V and on
the hold-up alone. -/
def State.lsDecides (s : State) (n : Nat) : Bool :=
  let x := s.soOf n
  s.soWanted n && !x.ls.failedOpen
    && (if s.ett n then !s.sv.fsFail else !x.svHold && x.svConds == 0)

/-- Each switch takes the state that its decider sets, but for a test in progress (R293, R294): a dark pulse opens it. -/
def State.soSwitches (n : Nat) (s : State) : State :=
  let x := s.soOf n
  let hs := if x.hs.testing = some true then false else x.hsDecides
  let ls := if x.ls.testing = some true then false else s.lsDecides n
  s.setSo n { x with hs := { x.hs with closed := hs || x.hs.stuck }, ls := { x.ls with closed := ls || x.ls.stuck } }

/-- A real demand during a test wins: the test is to be abandoned (R294). -/
def SafeOut.demand (x : SafeOut) : SafeOut :=
  { x with hs := { x.hs with demanded := x.hs.testing.isSome }, ls := { x.ls with demanded := x.ls.testing.isSome } }

/-- A trip (R287, R290): it latches, the SV holds a DTT low side open, latch and cause are committed. -/
def State.soTrip (n cause : Nat) (s : State) : State :=
  let x := s.soOf n
  if x.tripped then s
  else
    let x := { x.demand with tripped := true, cause := cause, svHold := !s.ett n }
    (((s.setSo n x).soSwitches n).post .data .eSoTrip (soRes n) (soQ n cause)).commitSafety

/-- The load of a DTT output is energised by both deciders. -/
def State.soEnergised (s : State) (n : Nat) : Bool := (s.soOf n).hsDecides && s.lsDecides n

/-- The load was energised under the command that the last frame carried. -/
def State.soWasOn (s : State) (n : Nat) : Bool :=
  let x := s.soOf n
  x.hsDecides && !x.ls.failedOpen && (if s.ett n then !s.sv.fsFail else !x.svHold && x.svConds == 0)

/-- A condition of the SV on output `n` (R291): it opens a DTT low side; F_SAFE_SV_TRIP with its row. An ETT low side stays closed. -/
def State.svCondition (row cause n : Nat) (s : State) : State :=
  let x := s.soOf n
  if bitOf x.svConds (row - 1) then s
  else if s.ett n then s.setSo n { x with svConds := setBits x.svConds (row - 1) (row - 1) 1 }
  else
    let s := s.setSo n { x.demand with svConds := setBits x.svConds (row - 1) (row - 1) 1, svHold := true }
    let s := s.post .control .fSafeSvTrip (soRes n) (soQ n row)
    (s.soTrip n cause).soSwitches n

/-- A condition of the SV on output `n` ends; a low side it has opened stays open until acknowledged. -/
def State.svConditionEnd (row n : Nat) (s : State) : State :=
  let x := s.soOf n
  s.setSo n { x with svConds := setBits x.svConds (row - 1) (row - 1) 0 }

/-! ## Commands from the images (R286, R288, R289) -/

/-- The owner's committed command reaches the output; with `RESTART_ACK` the first one trips a DTT output (R289). The
conditions of rows 1 and 2 of R291 end with a commit. -/
def State.soCommit (n : Nat) (v : Bool) (s : State) : State :=
  let s := (s.svConditionEnd 1 n).svConditionEnd 2 n
  let x := s.soOf n
  let first := x.cmd.isNone
  let s := s.setSo n { x with cmd := some v, fromSafe := false }
  if first && s.fieldActive && !(s.ett n) && s.param .soRestartAck n == 1 then s.soTrip n 0 else s

/-- The distributor forwards the safe value: FALSE, or TRUE for an ETT output (R290). Before the first commit the output
stays as it is (00 R8). -/
def State.soForwardSafe (n : Nat) (s : State) : State :=
  let x := s.soOf n
  match x.cmd with
  | none => s
  | some _ => s.setSo n { x with cmd := some (s.ett n), fromSafe := true, ackOut := false }

/-- The owner's acknowledge output: a rising edge asks for an acknowledgement (R288). -/
def State.soAckOutput (n : Nat) (v : Bool) (s : State) : State :=
  let x := s.soOf n
  s.setSo n { x with ackOut := v, ackSrc := if v && !x.ackOut then some 0 else x.ackSrc }

/-- An acknowledgement would be accepted (R288). -/
def State.soAckOk (s : State) (n : Nat) : Bool :=
  let x := s.soOf n
  x.tripped && x.cmd == some (!(s.ett n)) && x.svConds == 0 && !s.sv.fsFail && !s.sv.fsLow
    && !(x.budgetOut && x.causes != 0) && !x.hs.failedOpen && !x.ls.failedOpen && !x.retired

/-- A test runs on a switch of the output. -/
def SafeOut.testing (x : SafeOut) : Bool := x.hs.testing.isSome || x.ls.testing.isSome

/-- An accepted acknowledgement (R288). -/
def State.soAcknowledge (n src : Nat) (s : State) : State :=
  let x := s.soOf n
  ((s.setSo n { x with tripped := false, svHold := false, localOff := false, cause := 0 }).post .data .eSoAck (soRes n) (soQ n src)).commitSafety

/-- An acknowledgement waiting at the boundary is applied, or has no effect; it waits while a test pulse runs (R313). -/
def State.soTakeAck (n : Nat) (s : State) : State :=
  let x := s.soOf n
  if x.testing then s
  else
    let s := match x.ackSrc with
      | none => s
      | some src =>
        let s := s.setSo n { x with ackSrc := none }
        if s.soAckOk n then s.soAcknowledge n src else s
    match x.ackCmd with
    | none => s
    | some e =>
      let s := s.setSo n { s.soOf n with ackCmd := none }
      if s.soAckOk n then (s.soAcknowledge n 1).complete e .sOk 0 [] else s.complete e .sState 0 []

/-- A frame reaches the isolated side of output `n`: the committed command takes effect; a change of the load that is a
trip latches (R287, R290). -/
def State.soFrame (n : Nat) (s : State) : State :=
  let s := s.soTakeAck n
  let was := s.soWasOn n
  let x := s.soOf n
  let x := { x with lastFrame := s.tb0, silent := false, monitor := !s.fieldActive }
  let demand := x.cmd == some (s.ett n)
  let cause := if x.fromSafe then 8 else 1
  let s := s.setSo n x
  let s := if demand && !x.tripped && s.power.phase == .running && s.fieldActive && (s.ett n || was) then s.soTrip n cause else s
  let x := s.soOf n
  (s.setSo n { x with hsCmd := s.soWanted n }).soSwitches n

/-- No valid frame for 1 ms: the isolated side opens the high side, cause 5 (R287). -/
def State.soSilence (n : Nat) (s : State) : State :=
  let x := s.soOf n
  if x.silent || !(decide (x.lastFrame + 1000000 ≤ s.tb0)) || s.pair.st != .unpaired then s
  else
    let was := s.soWasOn n
    let s := s.setSo n { x with silent := true }
    (if was && !(s.ett n) then s.soTrip n 5 else s).soSwitches n

/-- The isolated side switches the high side off on overload (cause 3) or temperature (cause 4) (R287). -/
def State.soLocalOff (n cause : Nat) (s : State) : State :=
  let x := s.soOf n
  let was := s.soWasOn n
  let s := s.setSo n { x with localOff := true }
  (if was && !(s.ett n) then s.soTrip n cause else s).soSwitches n

/-! ## Degraded mode (R299, R300) -/

/-- The degraded budget in ns. -/
def State.soBudget (s : State) (n : Nat) : Nat := s.param .soDegradedBudget n * 1000000000

/-- The budget of an output has expired: it trips with cause 7 (R300). -/
def State.soExpire (n : Nat) (s : State) : State :=
  let x := s.soOf n
  if bitOf x.svConds 2 then s
  else
    let s := (s.setSo n { x with budgetOut := true }).post .control .fSafeBudgetExpired (soRes n) (soQ n (s.param .soDegradedBudget n))
    if s.ett n then ((s.svCondition 3 7 n).soTrip n 7).soSwitches n else s.svCondition 3 7 n

/-- A degraded cause (row of R299) begins; the first starts the budget, a spent budget trips at once (R300, 03 R71). -/
def State.soDegrade (n row : Nat) (s : State) : State :=
  let x := s.soOf n
  if bitOf x.causes (row - 1) then s
  else
    let first := x.causes == 0
    let s := (s.setSo n { x with causes := setBits x.causes (row - 1) (row - 1) 1, budgetAt := if first then some s.tb0 else x.budgetAt }).post
      .control .fSafeDegraded (soRes n) (soQ n row)
    if s.soBudget n ≤ (s.soOf n).used s.tb0 then s.soExpire n else s

/-- A degraded cause ends; with the last one degraded mode ends and the budget used stays used (R300). -/
def State.soUndegrade (n row : Nat) (s : State) : State :=
  let x := s.soOf n
  if ¬ bitOf x.causes (row - 1) then s
  else
    let left := setBits x.causes (row - 1) (row - 1) 0
    if left ≠ 0 then s.setSo n { x with causes := left }
    else
      let used := x.used s.tb0
      (((s.setSo n { x with causes := 0, budgetUsed := used, budgetAt := none }).svConditionEnd 3 n).post .control .eSafeDegradedEnd (soRes n)
        (soQ n (used / 1000000000))).commitSafety

/-! ## Tests (R293 to R295) -/

/-- Tests are suspended: FS below 18.0 V, a paired module that does not drive the field, a tripped ETT output. -/
def State.soTestSuspended (s : State) (n : Nat) : Bool :=
  let x := s.soOf n
  s.sv.fsLow || s.sv.fsFail || !s.fieldActive || x.retired || s.ett n || s.power.phase != .running

/-- A switch's test begins, in the form that suits the output's state; the two switches are never tested together. -/
def State.soTestStart (n sw : Nat) (s : State) : State :=
  let x := s.soOf n
  let w := x.sw sw
  if w.stuck || w.failedOpen then s
  else if s.soTestSuspended n || x.testing then s.setSo n (x.setSw sw { w with retry := true, retryAt := s.tb0 })
  else (s.setSo n (x.setSw sw { w with testing := some (s.soEnergised n), demanded := false, retry := false, wanted := false })).soSwitches n

/-- A passed test (R294): the switch is no longer overdue. -/
def State.soTestPass (n sw : Nat) (s : State) : State :=
  let x := s.soOf n
  let w := x.sw sw
  let s := s.setSo n (x.setSw sw { w with
    failedOnce := false, overdue := false, lastPass := s.tb0, lastEpoch := s.power.epoch, since := s.tb0 })
  let x := s.soOf n
  if w.overdue && !x.hs.overdue && !x.ls.overdue then s.soUndegrade n 2 else s

/-- An output is RETIRED: both switches open where they can (R295). -/
def State.soRetireOutput (n : Nat) (code : Code) (s : State) : State :=
  let x := s.soOf n
  if x.retired then s
  else
    let s := (s.markRetired (soKey n 0) Code.fSoRetired.num code.num)
    let s := (s.setSo n { x with retired := true }).soSwitches n
    ((s.faultUncounted .data code (soRes n) (n * 2 ^ 24) (soKey n 0)).faultUncounted .data .fSoRetired (soRes n) (soQ n code.num) (soKey n 0)).causeRetired 0x06 n

/-- A second failure retires the switch (R295); `stuck` where it does not open. -/
def State.soRetireSwitch (n sw : Nat) (stuck : Bool) (s : State) : State :=
  let x := s.soOf n
  let w := x.sw sw
  let other := (x.sw (1 - sw)).stuck
  let s := s.markRetired (soKey n (sw + 1)) Code.fSoSwitchRetired.num (Code.fSoSwitch.num + 65536 * b2n (!stuck))
  let s := s.setSo n (x.setSw sw { w with testing := none, failedOnce := false, stuck := stuck, failedOpen := !stuck })
  let s := (s.faultUncounted (swPlane sw) .fSoSwitchRetired (soRes n) (soQ n sw) (soKey n (sw + 1))).causeRetired 0x06 n
  if s.ett n then (if stuck then (s.soDegrade n 1).soSwitches n else s.soRetireOutput n .fSoEttLost)
  else if ¬ stuck then (s.soTrip n 2).soSwitches n
  else if other then s.soRetireOutput n .fSoCannotTrip
  else (s.soDegrade n 1).soSwitches n

/-- A `SAFE.SO_TEST` completes once both switches have been tested. -/
def State.soTestDone (n : Nat) (s : State) : State :=
  let x := s.soOf n
  match x.testCmd with
  | some e =>
    if x.hs.wanted || x.ls.wanted || x.testing then s
    else (s.setSo n { x with testCmd := none }).complete e .sOk 0 []
  | none => s

/-- The test of a switch is judged (R294, R295): a first failure is a fault and repeated, a second retires the switch. -/
def State.soTestJudge (n sw : Nat) (r : SoTest) (s : State) : State :=
  match r with
  | .pass => s.soTestPass n sw
  | k =>
    let x := s.soOf n
    if (x.sw sw).failedOnce then s.soRetireSwitch n sw (k == .notOpen)
    else
      (s.setSo n (x.setSw sw { x.sw sw with failedOnce := true, failedAt := s.tb0 })).fault (swPlane sw) .fSoSwitch (soRes n) (soQ n sw)
        (soKey n (sw + 1))

/-- A test ends (R293 to R295): abandoned on a real demand, else judged; each switch takes its decider's state. -/
def State.soTestEnd (n sw : Nat) (r : SoTest) (s : State) : State :=
  let x := s.soOf n
  let w := x.sw sw
  match w.testing with
  | none => s
  | some _ =>
    let s := (s.setSo n (x.setSw sw { w with testing := none, demanded := false, retry := w.demanded, retryAt := s.tb0 })).soSwitches n
    let s := if w.demanded then s.post (swPlane sw) .eSoTestAbandoned (soRes n) (soQ n sw) else s.soTestJudge n sw r
    s.soTestDone n

/-- An ETT output is de-energised, not tripped, and its tests run (R290, R294). -/
def State.ettTests (s : State) (n : Nat) : Bool :=
  let x := s.soOf n
  s.ett n && !x.tripped && !s.soWanted n && !s.sv.fsLow && !s.sv.fsFail && s.fieldActive && !x.retired && s.power.phase == .running

/-- The repetition 100 ms after a failed test (R295), with its result. -/
def State.soTestRepeat (n sw : Nat) (r : SoTest) (s : State) : State :=
  let w := (s.soOf n).sw sw
  if ¬ w.failedOnce ∨ s.tb0 < w.failedAt + 100000000 then s
  else if s.ett n then (if s.ettTests n then s.soTestJudge n sw r else s)
  else
    let s := s.soTestStart n sw
    if (((s.soOf n).sw sw).testing).isNone then s else s.soTestEnd n sw r

/-- A switch has gone untested for `DIAG_INTERVAL` (R294). -/
def State.soOverdue (n sw : Nat) (s : State) : State :=
  let x := s.soOf n
  let w := x.sw sw
  if w.overdue || w.stuck || w.failedOpen || decide (s.tb0 < w.since + s.param .soDiagInterval n * 1000000000) then s
  else ((s.setSo n (x.setSw sw { w with overdue := true })).post (swPlane sw) .fSoTestOverdue (soRes n) (soQ n sw)).soDegrade n 2

/-- A light pulse of an ETT output (R290): 10 mA pass it, and with it both switches; what the readback node of each switch shows
is judged as its test (R295). -/
def State.ettPulse (n : Nat) (load : Int) (hs ls : SoTest) (s : State) : State :=
  if ¬ s.ettTests n then s
  else
    let x := s.soOf n
    let failed := decide (load < 10)
    let s := (s.setSo n { x with isOpen := failed, hs := { x.hs with wanted := false }, ls := { x.ls with wanted := false } }).soTestDone n
    let s := if failed then (s.postIf (!x.isOpen) .data .eSoOpen (soRes n) (q24 n load)).soDegrade n 3 else s.soUndegrade n 3
    let judge := fun (sw : Nat) (r : SoTest) (s : State) =>
      let w := (s.soOf n).sw sw
      if w.stuck || w.failedOpen || (r == .pass && failed) then s else s.soTestJudge n sw r
    judge 1 ls (judge 0 hs s)

/-! ## Status (R311) -/

/-- The status word. -/
def State.soStatusWord (s : State) (n : Nat) : Nat :=
  let x := s.soOf n
  b2n x.energised + 2 * b2n x.tripped + 4 * b2n (x.causes != 0) + 8 * b2n (x.hs.stuck || x.hs.failedOpen)
    + 16 * b2n (x.ls.stuck || x.ls.failedOpen) + 32 * b2n x.isOpen + 64 * b2n (x.tripped && (x.cause == 3 || x.cause == 4))
    + 128 * b2n x.svHold + 256 * b2n x.testing + 512 * b2n (s.sv.fsLow || s.sv.fsFail) + 1024 * b2n (s.soAckOk n)
    + 2048 * b2n x.budgetOut + 2 ^ 15 * b2n x.retired

/-- A frame from the isolated side: load and switch currents; `OPEN` of the open-load check clears with the load (R311). -/
def State.soFrameIn (n : Nat) (bad : Bool) (m : SoMeas) (s : State) : State :=
  if bad then s
  else
    let x := s.soOf n
    let isOpen := x.isOpen && !(!(s.ett n) && decide (10 ≤ m.load))
    s.setSo n { x with
      load := m.load, energised := decide (1 ≤ m.load), isOpen := isOpen, hs := { x.hs with current := m.hs }, ls := { x.ls with current := m.ls } }

/-- An energised output has carried below 10 mA for 100 ms (R311). -/
def State.soOpenCheck (n : Nat) (load : Int) (s : State) : State :=
  let x := s.soOf n
  if s.param .soOpenCheck n == 1 && s.soEnergised n && decide (load < 10) && !x.isOpen then
    (s.setSo n { x with isOpen := true }).post .data .eSoOpen (soRes n) (q24 n load)
  else s

/-- The value and quality of an input entry of class 0x06, index 0–7 (R310). -/
def State.soSource (s : State) (n sub : Nat) : Nat × Nat :=
  ((if sub = 0 then b2n (s.soOf n).energised else s.soStatusWord n), if (s.soOf n).retired then 0x80 else 0)

/-! ## The supervisor's module-wide conditions (R291) -/

/-- The SV opens every low side on one of its rows. -/
def State.svAll (row cause : Nat) (s : State) : State := s.each (State.svCondition row cause) (List.range 8)

/-- FS below 16.0 V for 50 µs: every DTT output trips with cause 6; an ETT output loses its load until power returns. -/
def State.fsFail (mv : Nat) (s : State) : State :=
  if 16000 ≤ mv ∨ s.sv.fsFail then s
  else
    let s := s.setSupply 5 mv true true
    let s := ({ s with sv := { s.sv with fsFail := true, fsLow := true } } : State).tellSupply (supplyLost true 5 mv)
    (s.svAll 4 6).each State.soSwitches (List.range 8)

/-- FS has been above 18.0 V for 50 ms: acknowledgement is permitted again. -/
def State.fsRecover (mv : Nat) (s : State) : State :=
  if mv ≤ 18000 then s
  else
    let s := s.setSupply 5 mv false false
    let s := { s with sv := { s.sv with fsFail := false, fsLow := false } }
    (s.each (State.svConditionEnd 4) (List.range 8)).each State.soSwitches (List.range 8)

/-! ## Analogue safety pairs (R297) -/

/-- Pair `n`. -/
def State.aiPairOf (s : State) (n : Nat) : AiPair := Tab.get (fun _ => {}) s.aiPairs n
/-- Replaces pair `n`. -/
def State.setAiPair (n : Nat) (x : AiPair) (s : State) : State := { s with aiPairs := Tab.put (fun _ => {}) s.aiPairs n x }

/-- The safety tasks that map the pair value or a channel of pair `n`; the safety outputs they own. -/
def State.aiPairOuts (s : State) (n : Nat) : List Nat :=
  let tasks := (List.range 16).filter (fun i => s.isSafetyTask i && (s.taskProg i).inMap.any (fun e =>
    e.names 0x06 (0x0100 + n) || e.names 0x04 (2 * n) || e.names 0x04 (2 * n + 1)))
  (List.range 8).filter (fun k => tasks.any (fun i => s.soOwner k == some i))

/-- The infinity of a pair without a valid channel: below every trip value for a low trip, above it for a high trip. -/
def aiNone (low : Bool) : Nat := f32.inf low

/-- Degraded cause 6 of an output holds while any of its tasks maps a pair at `ONE_OF_ONE` (R299). -/
def State.aiOneOfOne (s : State) (k : Nat) : Bool :=
  (List.range 16).any (fun n => s.param .aiPairEn n == 1 && bitOf (s.aiPairOf n).status 3 && (s.aiPairOuts n).contains k)

/-- The pair value in the snapshot update of a channel's frame. -/
def State.aiPairUpdate (n : Nat) (s : State) : State :=
  if s.param .aiPairEn n ≠ 1 then s
  else
    let low := s.param .aiTrip n == 1
    let (v0, q0) := s.acSource (2 * n) 0
    let (v1, q1) := s.acSource (2 * n + 1) 0
    let ok0 := q0 != 0x80 && q0 != 0x02
    let ok1 := q1 != 0x80 && q1 != 0x02
    let x := s.aiPairOf n
    let worst := if low then f32.min v0 v1 else f32.max v0 v1
    let far := ok0 && ok1 && (realQ (s.param .aiDev n)).lt ((realQ v0).sub (realQ v1)).abs
    let beyond := if far then (match x.beyond with | some a => some a | none => some s.tb0) else none
    let within := if ok0 && ok1 && !far then (match x.within with | some a => some a | none => some s.tb0) else none
    let cleared := match within with | some a => decide (a + s.param .aiDiscTime n * 1000000 ≤ s.tb0) | none => false
    let disc := x.disc && !cleared
    let value := if ok0 && ok1 then worst else if ok0 then v0 else if ok1 then v1 else aiNone low
    let status := b2n (!ok0) + 2 * b2n (!ok1) + 4 * b2n disc + 8 * b2n (ok0 != ok1)
    let s := s.setAiPair n { value := value, bad := !ok0 && !ok1, beyond := beyond, within := within, disc := disc, status := status }
    s.each (fun k s => if s.aiOneOfOne k then s.soDegrade k 6 else s.soUndegrade k 6) (List.range 8)

/-- The spread of a pair has stood beyond `AI_DEV` for longer than `AI_DISC_TIME`. -/
def State.aiDiscrepant (n : Nat) (s : State) : State :=
  let x := s.aiPairOf n
  match x.beyond with
  | some a =>
    if s.param .aiPairEn n == 1 && !x.disc && decide (a + s.param .aiDiscTime n * 1000000 < s.tb0) then
      (s.setAiPair n { x with disc := true, within := none, status := setBits x.status 2 2 1 }).post .data .eSafeAiDisc
        { cls := 0x06, index := 0x0100 + n } n
    else s
  | none => s

/-- The value and quality of an input entry of class 0x06, index 0x0100 + n (R310). -/
def State.aiSource (s : State) (n sub : Nat) : Nat × Nat :=
  let x := s.aiPairOf n
  if sub = 0 then (x.value, if x.bad then 0x80 else 0) else (x.status, 0)

/-! ## Start (R289, R300; 03 R71, R74) -/

/-- The output as the start leaves it: both switches open, latch and budget from the cocoon's Safety state section; with no
valid copy every DTT output is tripped with cause 0 and every budget counts as spent (03 R71). -/
def State.soStart (store : Option SafeStore) (n : Nat) (s : State) : State :=
  let kind := fun (sub : Nat) => s.faults.store.retired.find? (fun r => r.key == soKey n sub)
  let sw := fun (sub : Nat) => match kind sub with
    | some r => ({ since := s.tb0, failedOpen := decide (65536 ≤ r.last), stuck := decide (r.last < 65536) } : SoSwitch)
    | none => { since := s.tb0 }
  let x : SafeOut := match store with
    | some p =>
      let (tr, cause, used, run) := getAt (false, 0, 0, false) p.outs n
      { tripped := tr, cause := cause, svHold := tr && !(s.ett n), budgetUsed := if run then used + 60000000000 else used }
    | none => { tripped := !(s.ett n), svHold := !(s.ett n), budgetUsed := s.soBudget n }
  let x := { x with hs := sw 1, ls := sw 2, retired := s.isRetired (soKey n 0), lastFrame := s.tb0,
                    budgetOut := decide (s.soBudget n ≤ x.budgetUsed) }
  let s := s.setSo n x
  if x.hs.stuck || x.ls.stuck then s.soDegrade n 1 else s

end Sys2Proof.Machine
end

