-- ==== Sys2Proof/Machine/SafetyCmd.lean ====
section
/-! DEFINITION. The commands of class 0x06 but `SAFE.CONN` (11 R301 to R306, R312, R314, R565), the safety session, and the
events of safety outputs and supervisor. -/

namespace Sys2Proof.Machine

/-- The module-wide target of class 0x06. -/
def safeModule (_ : State) (c : Cmd) : Bool := c.tgtClass == 0x06 && c.tgtIndex == 0x0200 && c.tgtSub == 0
/-- One safety output, or all. -/
def safeOneOrAll (_ : State) (c : Cmd) : Bool :=
  c.tgtClass == 0x06 && (decide (c.tgtIndex < 8) || c.tgtIndex == 0x0200) && c.tgtSub == 0
/-- The outputs a command addresses. -/
def soTargets (c : Cmd) : List Nat := if c.tgtIndex = 0x0200 then List.range 8 else [c.tgtIndex]

/-! ## The safety session (R301 to R303) -/

/-- The password of a descriptor field: 8–32 printable characters, then 0x00 padding; none where it has another form. -/
def passwordOf (b : Bytes) : Option Bytes :=
  let p := b.takeWhile (fun x => x != 0)
  let ok := decide (8 ≤ p.length ∧ p.length ≤ 32) && p.all (fun x => decide (0x20 ≤ x.toNat ∧ x.toNat ≤ 0x7E)) && allZero (b.drop p.length)
  if ok then some p else none

/-- The field matches the provisioned password. -/
def State.passwordOk (s : State) (b : Bytes) : Bool :=
  match passwordOf b, s.cred.password with
  | some p, some v => Config.passwordVerifier p == v
  | _, _ => false

/-- A failed password check (R303): counted and committed; the fifth in a row locks the session for 15 min. -/
def State.passwordFailed (r : Route) (s : State) : State :=
  let n := s.cred.fails + 1
  let lock := decide (5 ≤ n)
  let s := { s with
    cred := { s.cred with fails := n, locked := s.cred.locked || lock },
    session := if lock then { s.session with lockUntil := s.tb0 + 900000000000 } else s.session }
  let s := (s.commitCred).post .management .eSafeSessionFailed { cls := 0x06, index := 0x0200 } n
  s.postIf lock .management .fSafeSessionLocked { cls := 0x06, index := 0x0200 } (routeCode r)

/-- The session closes (R302). -/
def State.closeSafety (s : State) : State := { s with session := { s.session with handle := 0 } }

/-- The session closes with the route session that opened it (R302). -/
def State.closeSafetyOf (r : Route) (s : State) : State :=
  if s.session.handle != 0 && s.session.route == r then s.closeSafety else s

/-- A fresh non-zero handle: the spec leaves its value open, so it is a free value. -/
def State.freshHandle (s : State) : Nat := 1 + s.drawn.toNat % (2 ^ 32 - 1)

/-- `SAFE.SESSION_OPEN`. -/
def specSafeSessionOpen : CmdSpec where
  op := 0x0604
  layout := fun _ => { ranges := [(16, 32)] }
  route := fun c => c.onHost || c.onXs
  target := safeModule
  check := fun s _ => firstOf
    [whenS s.cred.password.isNone .sNoCredentials, whenS s.cred.locked .sSessionLocked, whenS (s.session.handle != 0) .sBusy]
  run := fun e s =>
    if s.passwordOk (slice e.cmd.body 0 32) then
      let h := s.freshHandle
      let s := { s.afterDraw with
        session := { s.session with handle := h, route := e.cmd.route, lastUse := s.tb0 }, cred := { s.cred with fails := 0 } }
      .done .sOk h [] (s.commitCred.post .management .eSafeSessionOpened { cls := 0x06, index := 0x0200 }
        (routeCode e.cmd.route * 2 ^ 16))
    else .later ((s.passwordFailed e.cmd.route).complete e .sBadPassword 0 [])

/-- `SAFE.SESSION_CLOSE`. -/
def specSafeSessionClose : CmdSpec where
  op := 0x0605
  target := safeModule
  needsSession := fun _ _ => true
  run := fun _ s => .ok s.closeSafety

/-- `SAFE.SET_PASSWORD`. -/
def specSafeSetPassword : CmdSpec where
  op := 0x0606
  layout := fun _ => { ranges := [(16, 64)] }
  form := fun _ c => c.indirect && c.blockLen == 64
  route := fun c => c.onHost || c.onXs
  target := safeModule
  needsSession := fun s _ => s.cred.password.isSome
  params := fun _ c => (passwordOf (slice c.body 32 32)).isSome
  check := fun s c => firstOf
    [whenS (s.cred.password.isNone && !c.onXs) .sNoCredentials, whenS (s.cred.password.isSome && s.logFull) .sLogFull]
  run := fun e s =>
    let c := e.cmd
    match passwordOf (slice c.body 32 32) with
    | none => .refuse .sBadParam s
    | some p =>
      let v := Config.passwordVerifier p
      let set := fun (s : State) => ({ s with cred := { s.cred with password := some v } }).commitCred
      match s.cred.password with
      | none => .ok (set s)
      | some old =>
        if s.passwordOk (slice c.body 0 32) then .ok (set (s.logChange c.route 0x06 0 0x0201 old v))
        else .later ((s.passwordFailed c.route).complete e .sBadPassword 0 [])

/-! ## The change log (R305, R306) -/

/-- A log entry as it is read. -/
def LogEntry.bytes (e : LogEntry) : Bytes :=
  leBytes 4 e.lseq ++ leBytes 1 e.cls ++ leBytes 1 e.sub ++ leBytes 2 e.index ++ leBytes 4 e.old ++ leBytes 4 e.new ++ leBytes 1 e.route
    ++ [0, 0, 0] ++ leBytes 4 e.session ++ leBytes 4 e.epoch ++ [0, 0, 0, 0]

/-- The entries from sequence number `n` on, at most 128. -/
def State.logFrom (s : State) (n : Nat) : List LogEntry := (s.safeLog.entries.filter (fun e => decide (n ≤ e.lseq))).take 128

/-- `SAFE.LOG_READ`. -/
def specSafeLogRead : CmdSpec where
  op := 0x0607
  layout := fun _ => { ranges := [(16, 4)] }
  form := fun _ c => c.indirect
  target := safeModule
  check := fun s c => whenS (s.logFrom (c.blk 0 4)).isEmpty .sNotFound
  run := fun e s => .long ((s.logFrom (e.cmd.blk 0 4)).flatMap LogEntry.bytes) s

/-- Held entries enter the log in order as space is freed. -/
def State.logRelease1 : Nat → State → State
  | 0, s => s
  | k + 1, s =>
    match s.safeLog.held with
    | [] => s
    | e :: r =>
      if 1024 ≤ s.safeLog.entries.length then s
      else State.logRelease1 k ({ s with safeLog := { s.safeLog with held := r } }.logAppend e)

/-- The overflow entry that follows the held ones (R306). -/
def State.logOverflow (s : State) : State :=
  let g := s.safeLog
  if g.notKept = 0 ∨ ¬ g.held.isEmpty ∨ 1024 ≤ g.entries.length then s
  else
    let e := { s.logEntry .host 0x06 0 0x0202 0 0 with old := g.notKept, new := g.lastBefore }
    { s with safeLog := { g with notKept := 0 } }.logAppend e

/-- `SAFE.LOG_ACK`. -/
def specSafeLogAck : CmdSpec where
  op := 0x0608
  layout := fun _ => { ranges := [(16, 4)] }
  target := safeModule
  needsSession := fun _ _ => true
  params := fun s c => decide (c.field 16 4 < s.safeLog.nextSeq)
  run := fun e s =>
    let g := s.safeLog
    let keep := g.entries.filter (fun x => decide (e.cmd.field 16 4 < x.lseq))
    let freed := g.entries.length - keep.length
    let s := { s with safeLog := { g with entries := keep, lost := false } }
    let s := ((State.logRelease1 512 s).logOverflow).commitLog
    .ok (s.post .management .eSafeLogArchived { cls := 0x06, index := 0x0200 } freed)

/-! ## Safety outputs (R312, R314) -/

/-- The settings a `SAFE.SO_CONFIGURE` carries. -/
def soSettings (c : Cmd) : List (Param × Nat) :=
  [(.soTripMode, c.field 16 1), (.soTestInterval, c.field 20 4), (.soDegradedBudget, c.field 32 4)]
    ++ (if c.expert then
      [(.soAckSource, c.field 17 1), (.soRestartAck, b2n (bitOf (c.field 18 1) 0)), (.soOpenCheck, b2n (bitOf (c.field 18 1) 1)),
       (.soDiagInterval, c.field 24 4), (.soTestWidth, c.field 28 2)] else [])

/-- Bytes 16–35 of the block of R312 with settings `l` put in. -/
def soBlock (s : State) (n : Nat) (l : List (Param × Nat)) : Bytes :=
  let v := newValue s n l
  leBytes 1 (v .soTripMode) ++ leBytes 1 (v .soAckSource) ++ leBytes 1 (v .soRestartAck + 2 * v .soOpenCheck) ++ [0]
    ++ leBytes 4 (v .soTestInterval) ++ leBytes 4 (v .soDiagInterval) ++ leBytes 2 (v .soTestWidth) ++ [0, 0] ++ leBytes 4 (v .soDegradedBudget)

/-- The ranges of R312. -/
def soInRange (s : State) (n : Nat) (l : List (Param × Nat)) : Bool :=
  let v := newValue s n l
  decide (v .soTripMode ≤ 1) && decide (v .soAckSource ≤ 1) && decide (1 ≤ v .soTestInterval ∧ v .soTestInterval ≤ 3600)
    && decide (v .soTestInterval ≤ v .soDiagInterval ∧ v .soDiagInterval ≤ 86400) && decide (100 ≤ v .soTestWidth ∧ v .soTestWidth ≤ 1000)
    && decide (60 ≤ v .soDegradedBudget ∧ v .soDegradedBudget ≤ 259200)

/-- The output's owning task is STOPPED, or there is none. -/
def State.soOwnerStopped (s : State) (n : Nat) : Bool :=
  match s.soOwner n with
  | some i => (s.taskOf i).state == .stopped
  | none => true

/-- The owner of a safety output's settings; a RETIRED output does not run. -/
def soOwnerBox (n : Nat) : Owner := { kind := .so, index := n }
def State.soRuns (s : State) (c : Cmd) : Bool := !(s.soOf c.tgtIndex).retired

/-- `SAFE.SO_CONFIGURE`. -/
def specSafeSoConfigure : CmdSpec where
  op := 0x0600
  layout := fun c => if c.expert then { ranges := [(16, 2), (20, 10), (32, 4)], masks := [(18, 3)] } else { ranges := [(16, 1), (20, 4), (32, 4)] }
  target := targetBelow 0x06 8
  needsSession := fun _ _ => true
  params := fun s c => soInRange s c.tgtIndex (soSettings c)
  owner := fun _ c => some (soOwnerBox c.tgtIndex)
  running := State.soRuns
  run := guarded
    (fun s c => firstOf
      [whenS (c.field 16 1 != s.param .soTripMode c.tgtIndex && !(s.soOwnerStopped c.tgtIndex)) .sState, whenS s.logFull .sLogFull])
    (fun e s =>
      let n := e.cmd.tgtIndex
      let l := soSettings e.cmd
      .ok ((((s.logChange e.cmd.route 0x06 0 n (soBlock s n []) (soBlock s n l)).setCommit n l).soSwitches n)))

/-- `SAFE.ACK` (R288): refused with S_STATE where it would have no effect; it waits for the end of a test pulse (R313). -/
def specSafeAck : CmdSpec where
  op := 0x0601
  target := safeOneOrAll
  owner := fun _ c => if c.tgtIndex < 8 then some (soOwnerBox c.tgtIndex) else none
  running := State.soRuns
  run := fun e s =>
    let n := e.cmd.tgtIndex
    if n < 8 then
      let x := s.soOf n
      if s.param .soAckSource n ≠ 1 then .refuse .sState s
      else if x.testing ∧ x.ackCmd.isNone then .later (s.setSo n { x with ackCmd := some e })
      else if s.soAckOk n then .ok (s.soAcknowledge n 1) else .refuse .sState s
    else
      let ok := (List.range 8).filter (fun k => s.param .soAckSource k == 1 && s.soAckOk k)
      if ok.isEmpty then .refuse .sState s
      else .ok (s.each (fun k s => s.setSo k { s.soOf k with ackSrc := some 1 }) ok)

/-- `SAFE.SO_TEST`: both switches at the next slot. -/
def specSafeSoTest : CmdSpec where
  op := 0x0602
  target := targetBelow 0x06 8
  check := fun s c =>
    let x := s.soOf c.tgtIndex
    firstOf [whenS (x.retired || x.hs.stuck || x.hs.failedOpen || x.ls.stuck || x.ls.failedOpen) .sRetired, whenS x.testCmd.isSome .sBusy]
  run := fun e s =>
    let n := e.cmd.tgtIndex
    let x := s.soOf n
    .later (s.setSo n { x with testCmd := some e, hs := { x.hs with wanted := true }, ls := { x.ls with wanted := true } })

/-- The `SAFE.STATUS` result (R565). -/
def soStatusBlock (s : State) (n : Nat) (expert : Bool) : Bytes :=
  let x := s.soOf n
  leBytes 2 (s.soStatusWord n) ++ leBytes 1 (if x.tripped then x.cause else 0xFF) ++ leBytes 1 (s.param .soTripMode n)
    ++ leBytes 4 (x.used s.tb0 / 1000000000) ++ leBytes 4 (wrapInt 32 x.hs.current) ++ leBytes 4 (wrapInt 32 x.ls.current)
    ++ leBytes 4 (s.supplyMv 5) ++ [0, 0, 0, 0]
    ++ (if expert then leBytes 8 x.hs.lastPass ++ leBytes 4 x.hs.lastEpoch ++ [0, 0, 0, 0] ++ leBytes 8 x.ls.lastPass ++ leBytes 4 x.ls.lastEpoch
          ++ leBytes 4 x.svConds else [])

/-- `SAFE.STATUS`. -/
def specSafeStatus : CmdSpec where
  op := 0x0603
  target := targetBelow 0x06 8
  long := fun _ => true
  run := fun e s => .long (soStatusBlock s e.cmd.tgtIndex e.cmd.expert) { s with free := s.free + 8 }

/-- `SAFE.BUDGET_RESET` (R300). -/
def specSafeBudgetReset : CmdSpec where
  op := 0x060B
  target := safeOneOrAll
  needsSession := fun _ _ => true
  check := fun s c => firstOf
    [whenS ((soTargets c).any (fun n => (s.soOf n).causes != 0)) .sState,
     whenS (s.logFull || decide (1024 < s.safeLog.entries.length + (soTargets c).length)) .sLogFull]
  run := fun e s =>
    .ok ((s.each (fun n s =>
      let x := s.soOf n
      (s.logChange e.cmd.route 0x06 0 n (leBytes 4 (x.used s.tb0 / 1000000000)) (leBytes 4 0)).setSo n
        { x with budgetUsed := 0, budgetOut := false, svConds := setBits x.svConds 2 2 0 }) (soTargets e.cmd)).commitSafety)

/-! ## Analogue safety pairs -/

/-- The settings a `SAFE.AI_PAIR` carries. -/
def aiSettings (c : Cmd) : List (Param × Nat) :=
  [(.aiPairEn, c.field 16 1), (.aiTrip, c.field 17 1), (.aiDev, c.field 20 4)] ++ (if c.expert then [(.aiDiscTime, c.field 24 4)] else [])

/-- Bytes 16–27 of the block of R312 with settings `l` put in. -/
def aiBlock (s : State) (n : Nat) (l : List (Param × Nat)) : Bytes :=
  let v := newValue s n l
  leBytes 1 (v .aiPairEn) ++ leBytes 1 (v .aiTrip) ++ [0, 0] ++ leBytes 4 (v .aiDev) ++ leBytes 4 (v .aiDiscTime)

/-- `SAFE.AI_PAIR`. -/
def specSafeAiPair : CmdSpec where
  op := 0x0609
  layout := fun c => if c.expert then { ranges := [(16, 2), (20, 8)] } else { ranges := [(16, 2), (20, 4)] }
  target := fun _ c => c.tgtClass == 0x06 && decide (0x0100 ≤ c.tgtIndex ∧ c.tgtIndex < 0x0110) && c.tgtSub == 0
  needsSession := fun _ _ => true
  params := fun s c =>
    let v := newValue s (c.tgtIndex - 0x0100) (aiSettings c)
    decide (v .aiPairEn ≤ 1) && decide (v .aiTrip ≤ 1) && f32.isFinite (v .aiDev) && f32.le 0 (v .aiDev)
      && decide (10 ≤ v .aiDiscTime ∧ v .aiDiscTime ≤ 10000)
  owner := fun _ c => some { kind := .aiPair, index := c.tgtIndex - 0x0100 }
  run := guarded
    (fun s c =>
      let n := c.tgtIndex - 0x0100
      firstOf [whenS (c.field 16 1 == 1 && (acIsAo (s.acMode (2 * n)) || acIsAo (s.acMode (2 * n + 1)))) .sState, whenS s.logFull .sLogFull])
    (fun e s =>
      let n := e.cmd.tgtIndex - 0x0100
      let l := aiSettings e.cmd
      let s := (s.logChange e.cmd.route 0x06 0 e.cmd.tgtIndex (aiBlock s n []) (aiBlock s n l)).setCommit n l
      let s := if s.param .aiPairEn n = 1 then s.aiPairUpdate n else s.setAiPair n {}
      .ok (s.each (fun k s => if s.aiOneOfOne k then s.soDegrade k 6 else s.soUndegrade k 6) (List.range 8)))

/-- The commands of class 0x06 of this file by opcode. -/
def specSafe : List CmdSpec :=
  [specSafeSoConfigure, specSafeAck, specSafeSoTest, specSafeStatus, specSafeSessionOpen, specSafeSessionClose, specSafeSetPassword,
   specSafeLogRead, specSafeLogAck, specSafeAiPair, specSafeBudgetReset]

/-- SAFE_SO_CONFIGURE (R312). -/
def execSafeSoConfigure (t : Nat) (c : Cmd) (s : State) : Host.Outcome State Fault Refusal := .next (specSafeSoConfigure.submit c (s.advance t))
/-- SAFE_ACK (R288). -/
def execSafeAck (t : Nat) (c : Cmd) (s : State) : Host.Outcome State Fault Refusal := .next (specSafeAck.submit c (s.advance t))
/-- SAFE_SO_TEST (R293). -/
def execSafeSoTest (t : Nat) (c : Cmd) (s : State) : Host.Outcome State Fault Refusal := .next (specSafeSoTest.submit c (s.advance t))
/-- SAFE_STATUS (R565). -/
def execSafeStatus (t : Nat) (c : Cmd) (s : State) : Host.Outcome State Fault Refusal := .next (specSafeStatus.submit c (s.advance t))
/-- SAFE_SESSION_OPEN (R302). -/
def execSafeSessionOpen (t : Nat) (c : Cmd) (s : State) : Host.Outcome State Fault Refusal := .next (specSafeSessionOpen.submit c (s.advance t))
/-- SAFE_SESSION_CLOSE (R302). -/
def execSafeSessionClose (t : Nat) (c : Cmd) (s : State) : Host.Outcome State Fault Refusal := .next (specSafeSessionClose.submit c (s.advance t))
/-- SAFE_SET_PASSWORD (R301). -/
def execSafeSetPassword (t : Nat) (c : Cmd) (s : State) : Host.Outcome State Fault Refusal := .next (specSafeSetPassword.submit c (s.advance t))
/-- SAFE_LOG_READ (R306). -/
def execSafeLogRead (t : Nat) (c : Cmd) (s : State) : Host.Outcome State Fault Refusal := .next (specSafeLogRead.submit c (s.advance t))
/-- SAFE_LOG_ACK (R306). -/
def execSafeLogAck (t : Nat) (c : Cmd) (s : State) : Host.Outcome State Fault Refusal := .next (specSafeLogAck.submit c (s.advance t))
/-- SAFE_AI_PAIR (R297). -/
def execSafeAiPair (t : Nat) (c : Cmd) (s : State) : Host.Outcome State Fault Refusal := .next (specSafeAiPair.submit c (s.advance t))
/-- SAFE_BUDGET_RESET (R300). -/
def execSafeBudgetReset (t : Nat) (c : Cmd) (s : State) : Host.Outcome State Fault Refusal := .next (specSafeBudgetReset.submit c (s.advance t))

/-! ## Events -/

/-- Runs an event on switch `sw` of output `n`. -/
def onSwitch (n sw : Nat) (s : State) (f : State → State) : Host.Outcome State Fault Refusal :=
  if n < 8 ∧ sw < 2 then .next (f s) else .fault .noSuchResource

/-- SO_OVERLOAD (R287): a closed high side, above 2.4 A or at its limit for long enough. -/
def execSoOverload (t n peak : Nat) (s : State) : Host.Outcome State Fault Refusal :=
  onResource n 8 s (fun s =>
    let s := s.advance t
    if (s.soOf n).hs.closed && decide (2400 < peak) then (s.post .data .eSoOverload (soRes n) (q24 n peak)).soLocalOff n 3 else s)
/-- SO_OVERTEMP (R287). -/
def execSoOvertemp (t n : Nat) (s : State) : Host.Outcome State Fault Refusal := onResource n 8 s (fun s => (s.advance t).soLocalOff n 4)
/-- SO_SILENCE_TRIP (R287). -/
def execSoSilenceTrip (t n : Nat) (s : State) : Host.Outcome State Fault Refusal := onResource n 8 s (fun s => (s.advance t).soSilence n)
/-- The test interval that TB0 lies in, offset by n eighths of an interval (R293). -/
def State.soSlot (s : State) (n : Nat) : Nat :=
  let len := s.param .soTestInterval n * 1000000000
  (s.tb0 + len - n * len / 8) / max 1 len

/-- SO_TEST_DUE (R293): each switch once in every `TEST_INTERVAL`. -/
def execSoTestDue (t n sw : Nat) (s : State) : Host.Outcome State Fault Refusal :=
  onSwitch n sw s (fun s =>
    let s := s.advance t
    let x := s.soOf n
    let k := s.soSlot n
    if (x.sw sw).slot = some k then s
    else (s.setSo n (x.setSw sw { x.sw sw with slot := some k })).soTestStart n sw)
/-- SO_TEST_END (R293). -/
def execSoTestEnd (t n sw : Nat) (r : SoTest) (s : State) : Host.Outcome State Fault Refusal := onSwitch n sw s (fun s => (s.advance t).soTestEnd n sw r)
/-- SO_TEST_RETRY (R294). -/
def execSoTestRetry (t n sw : Nat) (s : State) : Host.Outcome State Fault Refusal :=
  onSwitch n sw s (fun s =>
    let s := s.advance t
    let w := (s.soOf n).sw sw
    if w.retry && decide (w.retryAt + 1000000000 ≤ s.tb0) then s.soTestStart n sw else s)
/-- SO_TEST_OVERDUE (R294). -/
def execSoTestOverdue (t n sw : Nat) (s : State) : Host.Outcome State Fault Refusal := onSwitch n sw s (fun s => (s.advance t).soOverdue n sw)
/-- SO_TEST_REPEAT (R295). -/
def execSoTestRepeat (t n sw : Nat) (r : SoTest) (s : State) : Host.Outcome State Fault Refusal := onSwitch n sw s (fun s => (s.advance t).soTestRepeat n sw r)
/-- ETT_LIGHT_PULSE (R290). -/
def execEttLightPulse (t n : Nat) (load : LightPulse) (s : State) : Host.Outcome State Fault Refusal :=
  onResource n 8 s (fun s => (s.advance t).ettPulse n load.load load.hs load.ls)
/-- SO_OPEN_CHECK (R311). -/
def execSoOpenCheck (t n : Nat) (load : Int) (s : State) : Host.Outcome State Fault Refusal := onResource n 8 s (fun s => (s.advance t).soOpenCheck n load)
/-- AI_PAIR_DISCREPANCY (R297). -/
def execAiPairDiscrepancy (t n : Nat) (s : State) : Host.Outcome State Fault Refusal := onResource n 16 s (fun s => (s.advance t).aiDiscrepant n)

/-- SV_OVERTEMP (R291): at or above 125 °C for 100 ms; a reading below ends the condition. -/
def execSvOvertemp (t : Nat) (temp : Int) (s : State) : Host.Outcome State Fault Refusal :=
  let s := s.advance t
  if temp < 1250 then .next ({ s with sv := { s.sv with overtemp := false } }.each (State.svConditionEnd 5) (List.range 8))
  else if s.sv.overtemp then .next s
  else .next ((({ s with sv := { s.sv with overtemp := true } }).post .control .fSafeOvertemp { cls := 0x06, index := 0x0200 } (wrapInt 24 temp)).svAll 5 2)

/-- SV_SELFTEST_FAIL (R291): every low side open until a module reset. -/
def execSvSelftestFail (t test : Nat) (s : State) : Host.Outcome State Fault Refusal :=
  let s := s.advance t
  if s.sv.selftestFailed then .next s
  else .next ((({ s with sv := { s.sv with selftestFailed := true } }).post .control .fSvSelftest { cls := 0x06, index := 0x0200 } test).svAll 8 2)

/-- FS_FAIL (R60). -/
def execFsFail (t mv : Nat) (s : State) : Host.Outcome State Fault Refusal := .next ((s.advance t).fsFail mv)
/-- FS_RECOVERY (R60). -/
def execFsRecovery (t mv : Nat) (s : State) : Host.Outcome State Fault Refusal := .next ((s.advance t).fsRecover mv)

/-- BUDGET_PERIODIC_COMMIT (R300). -/
def execBudgetPeriodicCommit (t : Nat) (s : State) : Host.Outcome State Fault Refusal :=
  let s := s.advance t
  .next (if (List.range 8).any (fun n => (s.soOf n).budgetAt.isSome) then s.commitSafety else s)

/-- SAFETY_SESSION_TIMEOUT (R302). -/
def execSafetySessionTimeout (t : Nat) (s : State) : Host.Outcome State Fault Refusal :=
  let s := s.advance t
  .next (if s.session.handle != 0 && decide (s.session.lastUse + 1800000000000 ≤ s.tb0) then s.closeSafety else s)

/-- SAFETY_LOCKOUT_END (R303). -/
def execSafetyLockoutEnd (t : Nat) (s : State) : Host.Outcome State Fault Refusal :=
  let s := s.advance t
  .next (if s.cred.locked && decide (s.session.lockUntil ≤ s.tb0) then
    ({ s with cred := { s.cred with locked := false, fails := 0 } }).commitCred else s)

end Sys2Proof.Machine
end

