-- ==== Sys2Proof/Machine/Session.lean ====
section
/-! DEFINITION. Sessions of the Omnar and Ivpasto routes: closing (04 R115), the entries of a message (04 R111, R112),
authentication (04 R113, R114), and their rows. -/

namespace Sys2Proof.Machine

/-! ## Closing -/

/-- A command that is fetched and not dispatched is withdrawn; its completion is discarded (04 R115). -/
def State.withdraw (f : Flight) (s : State) : State :=
  let s := s.dropFlight f.entry.id
  ({ s with disp := { s.disp with queue := s.disp.queue.filter (fun q => q.id != f.entry.id) } } : State).discardCompletion
    f.entry .sAborted

/-- The commands of a route or session as it closes: undispatched ones are withdrawn, dispatched ones run on without a
completion (04 R115); a safety session bound to it closes (11 R302). -/
def State.closeRoute (r : Route) (s : State) : State :=
  let mine := s.disp.flights.filter (fun f => f.entry.cmd.route == r && !f.dispatched)
  let s := mine.foldl (fun s f => s.withdraw f) s
  ({ s with disp := { s.disp with
      flights := s.disp.flights.map (fun f => if f.entry.cmd.route = r then { f with orphan := true } else f) } } : State).closeSafetyOf r

/-- An Omnar management session closes. -/
def State.closeOmnar (id : Nat) (s : State) : State :=
  match s.omnarOf id with
  | none => s
  | some x =>
    let s := s.closeRoute (.omnar id)
    ({ s with disp := { s.disp with omnar := s.disp.omnar.filter (fun y => y.id != id) } } : State).post .management
      .eSessionClosed modRes x.station

/-- Every Omnar management session closes. -/
def State.closeAllOmnar (s : State) : State := s.disp.omnar.foldl (fun s x => s.closeOmnar x.id) s

/-- An open container transfer ends without its last byte: nothing is staged (19 R496, R501). -/
def State.dropTransfer (s : State) : State :=
  match s.upd.transfer with
  | none => s
  | some t => ({ s with upd := { s.upd with transfer := none } } : State).complete t.entry .sAborted 0 []

/-- The Ivpasto session closes; its connection ends with it (19 R491), and an address set over it takes effect (R502). -/
def State.closeIvpasto (s : State) : State :=
  let v := s.disp.ivpasto
  let s : State := { s with upd := { s.upd with ip := s.param .svcIp 0 } }
  if v.isOpen then
    let s := (s.closeRoute .ivpasto).dropTransfer
    ({ s with disp := { s.disp with ivpasto := { serial := v.serial } } } : State).post .management .eSessionClosed modRes 0xFFFFFFFF
  else { s with disp := { s.disp with ivpasto := { serial := v.serial } } }

/-! ## Entries of a message or ring (04 R97, R111) -/

/-- A 64-byte submission entry, with its opcode. -/
def parseEntry (r : Route) (slot : Nat) (e : Bytes) (block : Option Bytes) : Nat × Cmd :=
  (leNat (slice e 0 2),
   { route := r, slot := slot, flags := leNat (slice e 2 1), tgtClass := leNat (slice e 3 1), tgtIndex := leNat (slice e 4 2),
     tgtSub := leNat (slice e 6 1), rsv := leNat (slice e 7 1), tag := leNat (slice e 8 4), handle := leNat (slice e 12 4),
     params := slice e 16 48, block := block, writeFails := false })

/-- The 64 bytes of a submission entry (04 R97), as a host writes them. -/
def submissionBytes (op : Nat) (c : Cmd) : Bytes :=
  leBytes 2 op ++ leBytes 1 c.flags ++ leBytes 1 c.tgtClass ++ leBytes 2 c.tgtIndex ++ leBytes 1 c.tgtSub ++ leBytes 1 c.rsv
    ++ leBytes 4 c.tag ++ leBytes 4 c.handle ++ c.params

/-- The entries of a message body with their blocks: at most `n`; a block that the body does not hold whole is absent. -/
def parseEntries (r : Route) : Nat → Bytes → List (Nat × Cmd)
  | 0, _ => []
  | n + 1, b =>
    if b.length < 64 then [] else
    let e := b.take 64
    let rest := b.drop 64
    let len := if bitOf (leNat (slice e 2 1)) 2 then leNat (slice e 24 4) else 0
    let ind := bitOf (leNat (slice e 2 1)) 2
    let blk := if ind && decide (len ≤ rest.length) then some (rest.take len) else none
    parseEntry r 0 e blk :: parseEntries r n (rest.drop len)

/-- An entry is fetched and held for its dispatch; a session holds at most 16 in flight (04 R111, R117). -/
def State.takeEntry (x : Nat × Cmd) (s : State) : State :=
  let e := s.entryFor x.1 x.2
  (s.fetched e).enqueue e

/-! ## Omnar management messages (04 R112 to R114) -/

/-- A management message by its fields; `none` where its lengths do not agree. -/
structure MgmtMsg where
  session : Nat
  counter : Nat
  type : Nat
  count : Nat
  body : Bytes
  head : Bytes
  tag : Bytes
  deriving DecidableEq, Repr

/-- Reads a message (04 R112). -/
def parseMgmt (b : Bytes) : Option MgmtMsg :=
  let n := beNat (slice b 14 2)
  if b.length = 32 + n then
    some { session := beNat (slice b 0 4), counter := beNat (slice b 4 8), type := beNat (slice b 12 1), count := beNat (slice b 13 1),
           body := slice b 16 n, head := b.take (16 + n), tag := slice b (16 + n) 16 }
  else none

/-- The type of a message; 0 where it cannot be read. -/
def mgmtType (b : Bytes) : Nat := match parseMgmt b with | some m => m.type | none => 0

/-- An authentication failure is counted with its source station (04 R114). -/
def State.authFailed (station : Nat) (s : State) : State := s.post .management .eAuthFailed modRes station

/-- An open reply (04 R112, R113) with its tag: the session ID, 0 where the open is refused, counter 0 with bit 63, and a body that
tells the status, in a layout the spec does not give, and the module nonce (notes/assumptions/21.md). -/
def openReplyBytes (st : Status) (id : Nat) (nonce : Bytes) (tag : Bytes → Bytes) : Bytes :=
  let body := Config.resultLayout 0x0705 [(st.code : Int)] ++ nonce
  let m := beBytes 4 id ++ beBytes 8 (2 ^ 63) ++ beBytes 1 0x05 ++ beBytes 1 1 ++ beBytes 2 body.length ++ body
  m ++ tag m

/-- The reply to an accepted open, authenticated under the station key with IV = Ns[0:12] (04 R113). -/
def State.openReply (station mac : Nat) (key : Bytes) (id : Nat) (nonce : Bytes) (s : State) : State :=
  s.sendMgmt station mac (openReplyBytes .sOk id nonce (gmacTag key (nonce.take 12)))

/-- The reply to a refused open carries the status alone; without a nonce the spec gives no IV for its tag, whose value is open
(04 R114; notes/assumptions/21.md). -/
def State.openRefused (station mac : Nat) (st : Status) (s : State) : State :=
  s.sendMgmt station mac (openReplyBytes st 0 [] (fun _ => fixLen 16 (Config.resultLayout 0x0805 [(st.code : Int)])))

/-- The reply to an open that failed authentication, or that finds no station key, at most once per second for a station
(04 R114). -/
def State.refuseOpen (station mac : Nat) (st : Status) (s : State) : State :=
  let s := s.authFailed station
  let last := Tab.get (fun _ => 0) s.disp.authReplyAt station
  if last = 0 ∨ last + 1000000000 ≤ s.tb0 + 1 then
    ({ s with disp := { s.disp with authReplyAt := Tab.put (fun _ => 0) s.disp.authReplyAt station (s.tb0 + 1) } } : State).openRefused
      station mac st
  else s

/-- Opens a session for a client nonce (04 R113). -/
def State.openOmnar (station mac : Nat) (key nc : Bytes) (s : State) : State :=
  let ns := leBytes 8 s.drawn.toNat ++ leBytes 8 s.afterDraw.drawn.toNat
  let s := s.afterDraw.afterDraw
  let id := s.disp.nextSession
  let x : OmnarSession := { id := id, key := (Config.ctrKeystream key (nc.take 8 ++ ns.take 8)).take 32, station := station, mac := mac, lastAt := s.tb0 }
  let s : State := { s with disp := { s.disp with omnar := s.disp.omnar ++ [x], nextSession := id % (2 ^ 32 - 1) + 1 } }
  (s.post .management .eSessionOpened modRes station).openReply station mac key id ns

/-- An open request (04 R113, R114). -/
def State.mgmtOpen (station mac : Nat) (b : Bytes) (s : State) : State :=
  match s.cred.stationKey with
  | none => s.refuseOpen station mac .sNoCredentials
  | some key =>
    match parseMgmt b with
    | none => s.refuseOpen station mac .sAuthFailed
    | some m =>
      if m.session = 0 ∧ m.body.length = 16 ∧ m.tag = gmacTag key (m.body.take 12) m.head then
        (if 8 ≤ s.disp.omnar.length then s.openRefused station mac .sSessionLimit else s.openOmnar station mac key m.body)
      else s.refuseOpen station mac .sAuthFailed

/-- The counter of a client message is acceptable: bit 63 clear, above the highest accepted, or within the 64 below it
and not yet seen (04 R113). The highest starts at 0, so that a session's first message has a counter above 0: the spec gives no
starting value (DESIGN CHOICE, notes/assumptions/100.md). -/
def OmnarSession.fresh (x : OmnarSession) (n : Nat) : Bool :=
  decide (n < 2 ^ 63) && (decide (x.highest < n) || (decide (x.highest < n + 65) && !x.seen.contains n && n != x.highest))

/-- The session and message of an accepted message, which refreshes the session. -/
def State.mgmtAccept (s : State) (b : Bytes) : Option (MgmtMsg × OmnarSession) :=
  match parseMgmt b with
  | none => none
  | some m =>
    match s.omnarOf m.session with
    | none => none
    | some x =>
      if m.tag = gmacTag x.key (beBytes 4 m.session ++ beBytes 8 m.counter) m.head ∧ x.fresh m.counter then
        let high := max x.highest m.counter
        some (m, { x with highest := high, lastAt := s.tb0, seen := (m.counter :: x.seen).filter (fun n => decide (high < n + 65)) })
      else none

/-- One entry of a message: taken, or answered with S_ROUTE_FULL (04 R117). -/
def State.mgmtEntry (x : OmnarSession) (e : Nat × Cmd) (s : State) : State :=
  if s.routeFull (.omnar x.id) then s.answerFull (.omnar x.id) e.2.tag else s.takeEntry e

/-- A message that is neither an open request nor a close: its commands are queued, or it is dropped and counted. Of a `COUNT`
outside 1 to 16, or above the entries that the body holds, the spec gives no outcome: the module takes the entries that the body
holds whole, at most 16 and at most `COUNT` (DESIGN CHOICE, notes/assumptions/101.md). -/
def State.mgmtCommands (station _mac : Nat) (b : Bytes) (s : State) : State :=
  match s.mgmtAccept b with
  | none => s.authFailed station
  | some (m, x) =>
    let s := s.setOmnar x
    if m.type = 0x01 then
      (parseEntries (.omnar x.id) (min 16 m.count) m.body).foldl (fun s e => s.mgmtEntry x e) s
    else s

/-- A close message (04 R113). -/
def State.mgmtClose (station _mac : Nat) (b : Bytes) (s : State) : State :=
  match s.mgmtAccept b with
  | none => s.authFailed station
  | some (m, x) => (s.setOmnar x).closeOmnar m.session

/-- Takes the oldest waiting management message with its source station and MAC, where its type satisfies `p`; the management plane is up. -/
def State.mgmtTake (p : Nat → Bool) (f : Nat → Nat → Bytes → State → State) (s : State) : State :=
  match s.net.mgmtIn with
  | [] => s
  | (station, mac, b) :: r =>
    if s.power.mgmtUp && p (mgmtType b) then f station mac b { s with net := { s.net with mgmtIn := r } } else s

/-- MGMT_OPEN_REQUEST (04 R113). -/
def execMgmtOpenRequest (t : Nat) (s : State) : Host.Outcome State Fault Refusal := .next ((s.advance t).mgmtTake (· == 4) State.mgmtOpen)

/-- MGMT_MESSAGE (04 R112, R113). -/
def execMgmtMessage (t : Nat) (s : State) : Host.Outcome State Fault Refusal :=
  .next ((s.advance t).mgmtTake (fun k => k != 4 && k != 6) State.mgmtCommands)

/-- MGMT_CLOSE_MESSAGE (04 R113). -/
def execMgmtCloseMessage (t : Nat) (s : State) : Host.Outcome State Fault Refusal := .next ((s.advance t).mgmtTake (· == 6) State.mgmtClose)

/-- MGMT_SESSION_IDLE (04 R113): 60 s without an accepted message. -/
def execMgmtSessionIdle (t id : Nat) (s : State) : Host.Outcome State Fault Refusal :=
  let s := s.advance t
  .next (match s.omnarOf id with
    | some x => if x.lastAt + 60000000000 ≤ s.tb0 then s.closeOmnar id else s
    | none => s)

end Sys2Proof.Machine
end

