-- ==== Sys2Proof/Machine/Net.lean ====
section
/-! DEFINITION. The Omnar network: frames sent, the network cycle, ingress stages, policing, duplicate discard, consumed
connections (14 R375 to R401), and safety messages (11 R307 to R309). -/

namespace Sys2Proof.Machine

/-- Event sources of the network. -/
def netRes : Res := { cls := 0x0A, index := 0x2000 }
def netPortRes (k : Nat) : Res := { cls := 0x0A, index := 0x2001 + k }
def connRes (id : Nat) : Res := { cls := 0x0A, index := id }
/-- A port as a retirable resource (21 R524). -/
def portKey (k : Nat) : FaultKey := { cls := 5, index := k }

/-- Consumed connection `id` and its change. -/
def State.consOf (s : State) (id : Nat) : ConsRun := Tab.get (fun _ => {}) s.net.cons id
def State.setCons (id : Nat) (x : ConsRun) (s : State) : State :=
  { s with net := { s.net with cons := Tab.put (fun _ => {}) s.net.cons id x } }
/-- Produced connection `c` and its change. -/
def State.prodOf (s : State) (c : Nat) : ProdRun := Tab.get (fun _ => {}) s.net.prod c
def State.setProd (c : Nat) (x : ProdRun) (s : State) : State :=
  { s with net := { s.net with prod := Tab.put (fun _ => {}) s.net.prod c x } }

/-! ## Frames sent (14 R379 to R383) -/

/-- `P_STATE` (14 R383). -/
def PairState.num : PairState → Nat
  | .unpaired => 0 | .searching => 1 | .active => 2 | .syncing => 3 | .standby => 4 | .unlinked => 5 | .isolated => 6
  | .dropped => 7 | .incompatible => 8

/-- `P_ROLE`: 0 none, 1 ACTIVE, 2 STANDBY (13 R344). -/
def PairState.role : PairState → Nat
  | .unpaired => 0 | .searching => 0 | .active => 1 | .syncing => 2 | .standby => 2 | .unlinked => 2 | .isolated => 2
  | .dropped => 2 | .incompatible => 2

/-- The presence payload (14 R383). -/
def State.presence (s : State) : Bytes :=
  beBytes 1 s.side ++ beBytes 1 s.pair.st.role ++ beBytes 1 s.pair.st.num ++ beBytes 1 (s.base 1).servo.num
    ++ beBytes 4 s.pair.epoch ++ beBytes 8 (wrapInt 64 s.pair.takeover) ++ beBytes 4 (s.param .netCycle 0) ++ beBytes 4 0

/-- The module's pair state produces (13 R344, R364). -/
def State.pairProduces (s : State) : Bool :=
  match s.pair.st with
  | .unpaired => true | .active => true | .standby => true
  | .unlinked => !s.pair.hears
  | _ => false

/-- The task that owns produced connection `c` (14 R392). -/
def State.connOwner (s : State) (c : Nat) : Option Nat :=
  (List.range 16).find? (fun i => s.taskExists i && (s.taskProg i).outMap.any (MapEntry.names 0x0A c))

/-- The owner of a connection produces it: it has committed since it started, and no safe values are forwarded; a
connection without an owner is sent as zeros (14 R392). -/
def State.connLive (s : State) (c : Nat) : Bool :=
  match s.connOwner c with
  | none => true
  | some i => (s.taskOf i).forwarded && !(s.taskOf i).safeOut && (s.taskOf i).state != .stopped && (s.taskOf i).state != .halted

/-- The payload and `PRODUCE` bit for a send slot: the owner's latest commit that ended 2 µs before (14 R388). -/
def State.prodPayload (s : State) (c : Nat) : Bytes × Bool :=
  let x := s.prodOf c
  if s.connOwner c = none then ([], true)
  else if x.at0 + 2000 ≤ s.tb0 then (x.payload, x.produce) else (x.prev, x.prevProduce && !x.prev.isEmpty)

/-- The safety message of a producer (11 R307). -/
def safetyMessage (src dst key alive len : Nat) (payload : Bytes) : Bytes :=
  let m := beBytes 2 src ++ beBytes 2 dst ++ beBytes 4 key ++ beBytes 2 alive ++ beBytes 1 len ++ beBytes 1 0 ++ slice payload 0 len
  m ++ beBytes 4 (crc32c m)

/-- Connection `c` is due in the current cycle and produced (14 R392). -/
def State.produced (s : State) (c : Nat) : Bool :=
  s.param .pcEn c == 1 && s.param .pcLen c != 0
    && (s.net.cycle % s.param .pcMult c == s.param .pcPhase c % s.param .pcMult c)
    && s.connLive c && (s.prodPayload c).2 && !s.net.dup && s.pairProduces
    && !(s.param .scRole c == 1 && (s.cuRoleUnit 1).isNone)

/-- Sends the frame of connection `c`. -/
def State.produce (c : Nat) (s : State) : State :=
  if ¬ s.produced c then s else
  let x := s.prodOf c
  let safety := s.param .scRole c == 1
  let body := slice (s.prodPayload c).1 0 (s.param .pcLen c)
  let alive := (x.alive + 1) % 65536
  let pay := if safety then safetyMessage s.net.station (s.param .scPeer c) (s.param .smKey c) alive (s.param .scPlen c) body else body
  let s := if safety then s.setProd c { x with alive := alive } else s
  s.sendBoth (connMac s.net.station c) (.omnar (s.omnarFrame 1 false safety 0 c pay))

/-- The send slot (14 R388): the pair presence frame first, then the due process frames in ascending order; the first bit leaves within
1 µs of the instant. -/
def State.sendSlot (s : State) : State :=
  if ¬ s.up ∨ s.net.sent ∨ s.tb0 + 1000 < s.net.cycleAt + s.param .sendSlot 0 * 1000 then s else
  let s : State := { s with net := { s.net with sent := true } }
  let s := if s.paired && !s.net.dup then
      s.sendBoth (unicastMac (1 - s.side) s.net.station) (.omnar (s.omnarFrame 3 false false s.net.station 0 s.presence))
    else s
  s.each State.produce s.producedConns

/-! ## The network cycle (14 R385, R386, R378) -/

/-- The grid a realignment takes. -/
def State.gridWanted (s : State) : Nat := if s.paired then 2 else if (s.base 1).everSynced then 1 else 0

/-- The present instant on the grid of the network cycle. -/
def State.gridNow (s : State) : Int := if s.net.grid = 0 then (s.tb0 : Int) else if s.net.grid = 1 then s.baseNow 1 else s.pairTimer

/-- The grid is realigned at this cycle start (14 R386). -/
def State.netRealign (s : State) : State :=
  let n := (s.net.realign + 1) % 16
  ({ s with net := { s.net with grid := s.gridWanted, realign := n, realignDue := false } } : State).post .data
    .eNetCycleRealigned netRes n

/-- A new station ID takes effect (14 R378). -/
def State.netStation (s : State) : State :=
  let id := s.param .stationId 0
  let s := s.closeAllOmnar
  ({ s with net := { s.net with
      station := id, dup := false, stationSet := false,
      cons := Tab.mapVals (fun _ => {}) (fun x => { x with known := false, st := .waiting }) s.net.cons } } : State).post .data .eNetStationSet netRes id

/-- A network cycle begins: number, realignment, station change. The owners' boundaries of the cycle are the caller's. -/
def State.netCycleStart (s : State) : State :=
  let s := if s.net.realignDue then s.netRealign else s
  let len := s.param .netCycle 0 * 1000
  let n := ((s.gridNow + len / 2) / len).toNat
  let s : State := { s with net := { s.net with cycle := n, cycleAt := s.tb0, sent := false } }
  if s.net.station ≠ s.param .stationId 0 then s.netStation
  else if s.net.stationSet then { s with net := { s.net with dup := false, stationSet := false } } else s

/-! ## Policing (14 R399) -/

/-- The bucket of a key, full where it is new. -/
def State.bucket (s : State) (k : NetBucketKey) (burst : Nat) : NetBucket :=
  match s.net.buckets.find? (fun x => x.1 == k) with
  | some x => x.2
  | none => { level := burst * bucketUnit, at0 := s.tb0 }

/-- The bucket after its refill; full again, it has ceased to drop. -/
def NetBucket.refill (b : NetBucket) (rate burst now : Nat) : NetBucket :=
  let level := min (burst * bucketUnit) (b.level + rate * (now - b.at0))
  { b with level := level, at0 := now, dropSince := if level = burst * bucketUnit then none else b.dropSince }

/-- Offers `cost` units to a bucket of `rate` scaled units per ns and `burst` units: passed or dropped. -/
def State.police (k : NetBucketKey) (rate burst cost src : Nat) (s : State) : Bool × State :=
  let b := (s.bucket k burst).refill rate burst s.tb0
  let pass := decide (cost * bucketUnit ≤ b.level)
  let b' : NetBucket := if pass then { b with level := b.level - cost * bucketUnit } else
    { b with dropSince := some (match b.dropSince with | some t => t | none => s.tb0), drops := b.drops + 1, last := src }
  (pass, { s with net := { s.net with buckets := (k, b') :: s.net.buckets.filter (fun x => x.1 != k) } })

end Sys2Proof.Machine

namespace Sys2Proof.Machine

/-- Source station of a frame for the buckets: of an Omnar frame. -/
def netSource : NetBody → Nat
  | .omnar f => f.src
  | _ => 0

/-- The class of a frame (14 R420): 1 management, 2 process, 3 presence, 4 PTP, 5 supervision; 0 where the parser drops it. -/
def netClass : NetBody → Nat
  | .omnar f =>
    if f.ver ≠ 1 then 0
    else if f.ty = 1 then 2
    else if f.ty = 2 then (if bitOf f.oflags 0 then 0 else 1)
    else if f.ty = 3 ∨ f.ty = 4 then 3 else 0
  | .ptp _ => 4
  | .supervision => 5
  | .other => 0

/-- Consumed connections that are configured. -/
def State.consIds (s : State) : List Nat :=
  (s.cfg.params.filterMap (fun x => if x.1 % 512 = Param.ccEn.ctorIdx ∧ x.2 = 1 then some (x.1 / 512) else none)).eraseDups

/-- The consumed connection that a producer's frame names (14 R390, R398). -/
def State.consFor (s : State) (src conn : Nat) : Option Nat :=
  s.consIds.find? (fun id => s.param .ccSrc id == src && s.param .ccConn id == conn && s.param .ccLen id != 0)

/-- Consumed connections from a source. -/
def State.consFrom (s : State) (src : Nat) : List Nat := s.consIds.filter (fun id => s.param .ccSrc id == src)

/-- Stage 5: the policing of a frame for local delivery. -/
def State.policeLocal (k : Nat) (f : NetBody) (s : State) : Bool × State :=
  let src := netSource f
  match netClass f, f with
  | 1, .omnar o =>
    let a := s.police { port := k, cls := 1, src := src } (kbitRate (s.param .mgmtSrcRate 0)) 16384 (wireBytes o) src
    if a.1 then a.2.police { port := k, cls := 7, src := 0 } (kbitRate 50000) 65536 (wireBytes o) src else a
  | 2, _ =>
    let ids := s.consFrom src
    let rate := ids.foldl (fun acc id => acc + 2 * bucketUnit / (s.param .ccMult id * s.param .netCycle 0 * 1000)) 0
    s.police { port := k, cls := 2, src := src } rate (4 * ids.length) 1 src
  | 3, _ => s.police { port := k, cls := 3, src := src } (2 * bucketUnit / (s.param .netCycle 0 * 1000) + 1000) 4 1 src
  | 4, _ => s.police { port := k, cls := 4, src := 0 } 512000 32 1 src
  | 5, _ => s.police { port := k, cls := 5, src := 0 } 64000 8 1 src
  | _, _ => (true, s)

/-- A bucket's key as E_NET_STORM names its class. -/
def NetBucketKey.stormClass (k : NetBucketKey) : Nat := if k.cls = 7 then 1 else if k.cls = 8 then 6 else k.cls

/-! ## Consumed connections (05 R143, R145; 14 R396; 11 R308, R309) -/

/-- The watchdog interval of a connection in ns. -/
def State.wdNs (s : State) (id : Nat) : Nat := s.param .wdCycles id * s.param .ccMult id * s.param .netCycle 0 * 1000

/-- A connection expires (05 R143). -/
def State.connExpire (id : Nat) (s : State) : State :=
  ((s.setCons id { s.consOf id with st := .expired, known := false, alive := none, restore := 0 }).post .data .eConnTimeout
    (connRes id) id).errorCause 0x01 id

/-- A connection is restored (05 R145). -/
def State.connRestore (id : Nat) (s : State) : State :=
  ((s.setCons id { s.consOf id with st := .valid }).post .data .eConnRestored (connRes id) id).errorCause 0x02 id

/-- A safety message is rejected (11 R308): the connection expires at once; a restore starts again. -/
def State.safeReject (id reason : Nat) (s : State) : State :=
  let s := s.post .data .eSafeMsgReject (connRes id) (id * 256 + reason)
  if (s.consOf id).st = .expired then s.setCons id { s.consOf id with alive := none, restore := 0 } else s.connExpire id

/-- The first check of R308 that a safety message fails, 0 where it passes the five before the alive counter. -/
def State.safeCheck (s : State) (id : Nat) (m : Bytes) : Nat :=
  let n := m.length
  if beNat (slice m (n - 4) 4) ≠ crc32c (m.take (n - 4)) then 1
  else if beNat (slice m 0 2) ≠ s.param .scPeer id then 2
  else if beNat (slice m 2 2) ≠ s.net.station then 3
  else if beNat (slice m 4 4) ≠ s.param .smKey id then 4
  else if beNat (slice m 10 1) ≠ s.param .scPlen id then 5
  else 0

/-- A safety message that passed duplicate discard (11 R308, R309). -/
def State.safeMessage (id : Nat) (m : Bytes) (s : State) : State :=
  let r := s.safeCheck id m
  if r ≠ 0 then s.safeReject id r else
  let x := s.consOf id
  let a := beNat (slice m 8 2)
  let data := slice m 12 (s.param .scPlen id)
  match x.alive with
  | none =>
    if x.st = .expired then s.setCons id { x with alive := some a, restore := 0, data := data }
    else s.setCons id { x with alive := some a, data := data, st := .valid }
  | some b =>
    let d := (a + 65536 - b) % 65536
    if d = 0 ∨ s.param .aliveGap id < d then s.safeReject id 6
    else if x.st ≠ .expired then s.setCons id { x with alive := some a, data := data, st := .valid }
    else
      let n := if d = 1 then x.restore + 1 else 0
      let s := s.setCons id { x with alive := some a, restore := n, data := data }
      if n = 3 then (s.post .data .eSafeConnRestored (connRes id) id).connRestore id else s

/-- An ordinary payload that passed duplicate discard. -/
def State.plainMessage (id : Nat) (m : Bytes) (s : State) : State :=
  let x := s.consOf id
  let s := s.setCons id { x with data := m, st := if x.st = .expired then .expired else .valid }
  if x.st = .expired then s.connRestore id else s

/-- The length a connection's frames must have: a safety message carries 16 bytes more. -/
def State.consLen (s : State) (id : Nat) : Nat := s.param .ccLen id + (if s.param .scRole id = 2 then 16 else 0)

/-- Duplicate discard (14 R396). -/
def ConsRun.accepts (x : ConsRun) (f : OmnarFrame) : Bool :=
  let d := (f.seq + 2 ^ 32 - x.seq % 2 ^ 32) % 2 ^ 32
  !x.known || x.epoch != f.epoch || (decide (1 ≤ d) && decide (d ≤ 2 ^ 31 - 1))

/-- A copy arrives: its count, and both ports heard (14 R397). -/
def State.countCopy (id k : Nat) (f : OmnarFrame) (accept : Bool) (s : State) : State :=
  let x := s.consOf id
  let key := 2 * k + b2n (bitOf f.oflags 3)
  let x : ConsRun := if accept then { x with accepted := Tab.upd (fun _ => 0) x.accepted key (· + 1) }
    else { x with dropped := Tab.upd (fun _ => 0) x.dropped key (· + 1) }
  s.setCons id (if k = 0 then { x with heardA := s.tb0, single := x.single && decide (x.heardA ≥ x.heardB) }
    else { x with heardB := s.tb0, single := x.single && decide (x.heardB ≥ x.heardA) })

/-- The snapshot write of an accepted frame (14 R389, R393, R396). -/
def State.connAccept (id k : Nat) (f : OmnarFrame) (s : State) : State :=
  let s := s.countCopy id k f true
  let late := decide (s.net.cycleAt + s.param .rxClose 0 * 1000 < s.tb0)
  let x := s.consOf id
  let s := s.setCons id { x with
    known := true, epoch := f.epoch, seq := f.seq, lastAt := some s.tb0, wdAt := s.tb0,
    srcTime := if bitOf f.oflags 4 then (f.txTime : Int) + f.corr / 65536 else 0,
    late := if late then x.late + 1 else x.late }
  let s := s.postIf late .data .eNetFrameLate (connRes id) (k * 2 ^ 24 + id)
  if s.param .scRole id = 2 then s.safeMessage id f.payload else s.plainMessage id f.payload

/-- Stage 6 for a process frame of connection `id`. -/
def State.connDecide (id k : Nat) (f : OmnarFrame) (s : State) : State :=
  let x := s.consOf id
  if f.payload.length ≠ s.consLen id then
    (((s.setCons id { x with lenBad := x.lenBad + 1 }).countCopy id k f false).post .data .eNetLenMismatch (connRes id) (k * 2 ^ 24 + id))
  else if s.param .scRole id == 2 && (s.cuRoleUnit 1).isNone then s.countCopy id k f false
  else if x.accepts f then s.connAccept id k f
  else s.countCopy id k f false

/-! ## Ingress (14 R398) -/

/-- A frame is dropped at a stage and counted by port, stage and class. -/
def State.netDrop (k stage cls : Nat) (s : State) : State :=
  s.setPort k { s.port k with drops := Tab.upd (fun _ => 0) (s.port k).drops (16 * stage + cls) (· + 1) }

/-- A presence frame comes from the pair partner (14 R380). -/
def State.fromPartner (s : State) (f : OmnarFrame) : Bool :=
  s.param .pairEn 0 == 1 && f.src == s.net.station && bitOf f.oflags 2 && b2n (bitOf f.oflags 3) != s.side

/-- Another station carries this module's ID (14 R380). -/
def State.dupStation (k : Nat) (f : OmnarFrame) (s : State) : State :=
  if s.net.dup then s else
  ({ s with net := { s.net with dup := true } } : State).post .data .fNetDupStation netRes (k * 2 ^ 24 + f.oflags)

/-- Stage 7 for presence: to the redundancy unit, and the own station ID watched for. -/
def State.presenceIn (k : Nat) (mac : Nat) (f : OmnarFrame) (s : State) : State :=
  if s.fromPartner f then
    (if f.ty = 3 then { s with net := { s.net with presIn := s.net.presIn ++ [(k, mac, f)] } } else s)
  else if f.src = s.net.station then s.dupStation k f
  else s

/-- The frame is addressed to this module alone. -/
def State.forMe (s : State) (f : NetFrame) : Bool := f.dstMac == s.ownMac

/-- A multicast or broadcast address. -/
def groupMac (m : Nat) : Bool := (m / 2 ^ 40) % 2 == 1

/-- Stage 4: the address filter; the consumed connection of a process frame. -/
def State.netFilter (f : NetFrame) (s : State) : Bool :=
  match f.body with
  | .omnar o =>
    match netClass f.body with
    | 2 => (s.consFor o.src (o.conn % 1024)).isSome
    | 1 => o.dst == s.net.station && s.forMe f
    | _ => s.forMe f || f.dstMac == bcastMac || bitOf o.oflags 0
  | _ => true

/-- Stages 4 to 7. -/
def State.netDeliver (k : Nat) (f : NetFrame) (s : State) : State :=
  let cls := netClass f.body
  if ¬ s.netFilter f then s.netDrop k 4 cls else
  let p := s.policeLocal k f.body
  if ¬ p.1 then p.2.netDrop k 5 cls else
  let s := p.2
  match f.body with
  | .omnar o =>
    if cls = 2 then
      (match s.consFor o.src (o.conn % 1024) with
       | some id =>
         if o.payload.length = s.consLen id && (s.consOf id).accepts o then s.connDecide id k o
         else (s.connDecide id k o).netDrop k 6 cls
       | none => s)
    else if cls = 1 then { s with net := { s.net with mgmtIn := s.net.mgmtIn ++ [(o.src, f.srcMac, o.payload)] } }
    else s.presenceIn k f.srcMac o
  | .ptp m => { s with net := { s.net with ptpIn := s.net.ptpIn ++ [{ m with port := k }] } }
  | .supervision => s.setPort k { s.port k with supervision := (s.port k).supervision + 1 }
  | .other => s

/-- The policing of a frame that HSR forwards. -/
def State.policeForward (k : Nat) (f : NetBody) (s : State) : Bool × State :=
  match netClass f, f with
  | 1, .omnar o => s.police { port := k, cls := 8, src := o.src } (kbitRate (s.param .mgmtSrcRate 0)) 16384 (wireBytes o) o.src
  | 2, .omnar o => s.police { port := k, cls := 6, src := o.src } (kbitRate (s.param .fwdSrcRate 0 * 1000)) 32768 (wireBytes o) o.src
  | 3, .omnar o => s.police { port := k, cls := 6, src := o.src } (kbitRate (s.param .fwdSrcRate 0 * 1000)) 32768 (wireBytes o) o.src
  | _, _ => (true, s)

/-- Residence time of a forwarded frame, at most 4 µs in 2⁻¹⁶ ns: a free value within its bound (14 R376). -/
def State.residence (s : State) : Nat := s.drawn.toNat % (4000 * 65536 + 1)

/-- The frame as it leaves the other port (14 R376, R381). -/
def forwardedFrame (k res : Nat) (f : NetFrame) : NetFrame :=
  let body := match f.body with
    | .omnar o => NetBody.omnar { o with corr := o.corr + res }
    | .ptp m => NetBody.ptp { m with corr := m.corr + res }
    | b => b
  { f with port := 1 - k, body := body }

/-- The queue of a forwarded frame (14 R400): forwarded management goes last. -/
def forwardClass (f : NetBody) : Nat := if netClass f = 4 then 1 else if netClass f = 1 then 4 else 3

/-- Consumed connections with a length. -/
def State.consConfigured (s : State) : List Nat :=
  s.cfg.params.filterMap (fun x => if x.1 % 512 = Param.ccLen.ctorIdx ∧ x.2 ≠ 0 then some (x.1 / 512) else none)

/-- The forward filter's entries that it has not forgotten, the newest first (14 R377). -/
def State.forwardRecent (s : State) : List (Nat × Nat × Nat) :=
  s.net.forwarded.filter (fun x => decide (s.tb0 < x.2.2 + 400000000))

/-- Entries of the duplicate-discard table that consumed connections leave to the forward filter (14 R395); where it is full the
oldest entry is forgotten (DESIGN CHOICE, notes/assumptions/115.md). -/
def State.forwardSpace (s : State) : Nat := 8192 - s.consConfigured.length

/-- Stage 3 in HSR (14 R377, R398): the frame goes to the other port's queue, once for each copy. -/
def State.netForward (k : Nat) (f : NetFrame) (s : State) : State :=
  if s.forMe f ∨ ¬ s.portUp (1 - k) then s else
  let recent := s.forwardRecent
  let seen := match f.red with | some q => recent.any (fun x => x.1 == f.srcMac && x.2.1 == q) | none => false
  if seen then { s with net := { s.net with forwarded := recent } } else
  let p := s.policeForward k f.body
  if ¬ p.1 then p.2.netDrop k 3 (netClass f.body) else
  let s := p.2
  let s : State := { s with net := { s.net with
    forwarded := match f.red with | some q => ((f.srcMac, q, s.tb0) :: recent).take s.forwardSpace | none => recent } }
  s.afterDraw.txPut (1 - k)
    { at0 := s.tb0, cls := forwardClass f.body, bytes := bodyBytes f.body, own := false, body := .frame (forwardedFrame k s.residence f) }

/-- The frame passes the parser: a class of its own, untagged, priority-tagged or on `VLAN_ID` (14 R384). -/
def State.netParses (s : State) (f : NetFrame) : Bool :=
  netClass f.body != 0 && (match f.vid with | none => true | some v => v == 0 || v == s.param .vlanId 0)

/-- A frame arrives at port `f.port` and passes the stages in order (14 R398). -/
def State.netReceive (f : NetFrame) (s : State) : State :=
  let k := f.port
  if ¬ s.up ∨ ¬ s.portUp k then s
  else if ¬ f.fcs ∨ f.long then s.netDrop k 1 (netClass f.body)
  else if ¬ s.netParses f then s.netDrop k 2 0
  else
    let hsr := s.param .netMode 0 == 1
    if hsr && f.srcMac == s.ownMac then s else
    let s := (s.setPort k { s.port k with heard := s.tb0 }).portSeen k
    if hsr then
      let s := s.netForward k f
      if s.forMe f || groupMac f.dstMac then s.netDeliver k f else s
    else s.netDeliver k f

/-! ## Ports (14 R401) -/

/-- A port fault: the port is out of use until it is reset and its link retrained. -/
def State.portFault (k kind : Nat) (s : State) : State :=
  let s := s.txClear k
  (s.setPort k { s.port k with fault := true, faultAt := s.tb0 }).fault .data .fNetPort (netPortRes k) (k * 2 ^ 24 + kind) (portKey k)

/-- The retirement of a port, with the code of its last fault (14 R401). -/
def State.portRetire (k code last : Nat) (s : State) : State :=
  let s := (s.markRetired (portKey k) code last).txClear k
  let s := s.setPort k { s.port k with retired := true, link := false, fault := false }
  (s.faultUncounted .data .fNetPortRetired (netPortRes k) (k * 2 ^ 24 + last) (portKey k)).causeRetired 0x0A (0x2001 + k)

end Sys2Proof.Machine
end

