-- ==== Sys2Proof/Machine/NetCmd.lean ====
section
/-! DEFINITION. The commands of class 0x0A (14 R416, R418), `SAFE.CONN` (11 R312, R314), and the rows of the network. -/

namespace Sys2Proof.Machine

/-! ## Settings of the module's network -/

/-- Target 0x2000. -/
def netTarget (_ : State) (c : Cmd) : Bool := c.tgtClass == 0x0A && c.tgtIndex == 0x2000 && c.tgtSub == 0

/-- The settings a `NET.CONFIGURE` asks for. -/
def netSettings (c : Cmd) : List (Param × Nat) :=
  [(.netCycle, c.field 20 4), (.sendSlot, c.field 24 4), (.rxClose, c.field 28 4)]
    ++ (if c.expert then
          [(.netMode, c.field 16 1), (.netHops, c.field 17 1), (.vlanId, c.field 18 2), (.mgmtSrcRate, c.field 32 4),
           (.fwdSrcRate, c.field 36 4)]
        else [])

/-- Ranges of the network parameters (14 R416). -/
def netInRange (s : State) (c : Cmd) : Bool :=
  let l := netSettings c
  l.all (fun x => x.1.inRange x.2)
    && (let v := newValue s 0 l
        decide (v .sendSlot < v .rxClose) && decide (v .rxClose < v .netCycle))

/-- Every task is STOPPED. -/
def State.allStopped (s : State) : Bool := (List.range 16).all (fun i => (s.taskOf i).state == .stopped)

/-- A link restart: both links go down until the ports report them up (14 R416). -/
def State.linksRestart (s : State) : State :=
  s.each (fun k s =>
    if (s.port k).link then
      ((s.txClear k).setPort k { s.port k with link := false }).post .data .eNetLink (netPortRes k) (k * 2 ^ 24)
    else s) [0, 1]

/-- `NET.CONFIGURE`: checked and applied at a cycle start (14 R387, R416, R418; 05 R137). -/
def specNetConfigure : CmdSpec where
  op := 0x0A00
  layout := fun c => if c.expert then { ranges := [(16, 24)] } else { ranges := [(20, 12)] }
  target := netTarget
  params := netInRange
  owner := fun _ _ => some { kind := .network, index := 0 }
  running := fun s _ => s.up
  run := guarded
    (fun s c =>
      let l := netSettings c
      let v := newValue s 0 l
      let s' := s.setParams 0 l
      let moved := v .netMode != s.param .netMode 0 || v .vlanId != s.param .vlanId 0
      let timing := v .netCycle != s.param .netCycle 0 || v .sendSlot != s.param .sendSlot 0 || v .rxClose != s.param .rxClose 0
      firstOf [whenS (moved && !s.allStopped) .sState, whenS (!s'.burstFits) .sNoSpace, whenS (timing && !s'.budgetAll) .sBudget])
    (fun e s =>
      let l := netSettings e.cmd
      let v := newValue s 0 l
      let moved := v .netMode != s.param .netMode 0 || v .vlanId != s.param .vlanId 0
      let cyc := v .netCycle != s.param .netCycle 0
      let s := s.setCommit 0 l
      let s : State := if cyc then { s with net := { s.net with realignDue := true } } else s
      .ok (if moved then s.linksRestart else s))

/-- `NET.SET_STATION` (14 R378): it takes effect at the next cycle start. -/
def specNetSetStation : CmdSpec where
  op := 0x0A01
  layout := fun _ => { ranges := [(16, 2)] }
  target := netTarget
  check := fun s _ => whenS (!s.allStopped || s.param .pairEn 0 != 0) .sState
  run := fun e s =>
    let s := s.setCommit 0 [(.stationId, e.cmd.field 16 2)]
    .ok { s with net := { s.net with stationSet := true } }

/-! ## Connections (14 R391, R394) -/

/-- Bits of a payload variable: first and count. -/
def varBits (d : Nat) : Nat × Nat :=
  let ty := bitsOf d 23 20
  let off := bitsOf d 16 0
  if ty = 1 then (8 * off + bitsOf d 19 17, 1) else (8 * off, tyWidth ty)

/-- One descriptor: a known type, a bit number for BOOL only, inside `len` bytes. -/
def varOk (len d : Nat) : Bool :=
  let ty := bitsOf d 23 20
  let b := varBits d
  decide (1 ≤ ty ∧ ty ≤ 9) && (ty == 1 || bitsOf d 19 17 == 0) && decide (b.1 + b.2 ≤ 8 * len)

/-- No two variables of a payload overlap. -/
def varsApart : List Nat → Bool
  | [] => true
  | d :: r =>
    let b := varBits d
    r.all (fun e => let c := varBits e
      decide (b.1 + b.2 ≤ c.1) || decide (c.1 + c.2 ≤ b.1)) && varsApart r

/-- The variables of a payload lie inside it and apart (14 R391). -/
def varsOk (len : Nat) (vs : List Nat) : Bool := vs.all (varOk len) && varsApart vs

/-- Variable descriptors of a connection. -/
def State.connVarsOf (s : State) (id : Nat) : List Nat := Tab.get (fun _ => []) s.cfg.connVars id

/-- The descriptors of an expert block. -/
def blockVars (c : Cmd) : List Nat := (List.range (c.blk 6 2)).map (fun k => c.blk (8 + 4 * k) 4)

/-- The structure of an expert block: its length, reserved bytes and bits zero, at most 255 variables; `tail` bytes follow
the descriptors. -/
def connBlockOk (reserved tail : Nat) (c : Cmd) : Bool :=
  let n := c.blk 6 2
  c.indirect && decide (8 + 4 * n + tail ≤ c.blockBytes.length) && (reserved == 0 || c.blk reserved 1 == 0)
    && (blockVars c).all (fun d => d < 2 ^ 24) && allZero (c.blockBytes.drop (8 + 4 * n + tail))

/-- The layout of a command whose expert block is checked by its own form. -/
def expertBlock (basic : List (Nat × Nat)) (c : Cmd) : Layout := if c.expert then { ranges := [(16, 48)] } else { ranges := basic }

/-- The settings of a `NET.PRODUCE`. -/
def produceSettings (c : Cmd) : List (Param × Nat) :=
  if c.expert then [(.pcEn, c.blk 0 1), (.pcMult, c.blk 1 1), (.pcPhase, c.blk 2 1), (.pcLen, c.blk 4 2)]
  else [(.pcEn, c.field 16 1), (.pcMult, c.field 17 1), (.pcLen, c.field 20 2)]

/-- The variables a command leaves a connection with. -/
def State.newVars (s : State) (c : Cmd) : List Nat := if c.expert then blockVars c else s.connVarsOf c.tgtIndex

/-- Replaces the variables of a connection. -/
def State.setConnVars (id : Nat) (vs : List Nat) (s : State) : State :=
  { s with cfg := { s.cfg with connVars := Tab.put (fun _ => []) s.cfg.connVars id vs } }

/-- A connection's mailbox: its frames are whole events of the model, so that none is in progress at a dispatch; in a pair
a posting waits for the cycle it names (13 R357; notes/assumptions/34.md). -/
def connOwnerOf (k : OwnerKind) (_ : State) (c : Cmd) : Option Owner := some { kind := k, index := c.tgtIndex }

/-- `NET.PRODUCE` (14 R387, R391, R392, R394). -/
def specNetProduce : CmdSpec where
  op := 0x0A02
  layout := expertBlock [(16, 2), (20, 2)]
  form := fun _ c => !c.expert || connBlockOk 3 0 c
  target := fun _ c => c.tgtClass == 0x0A && decide (c.tgtIndex < 0x0400) && c.tgtSub == 0
  params := fun s c =>
    let l := produceSettings c
    let v := newValue s c.tgtIndex l
    l.all (fun x => x.1.inRange x.2) && decide (v .pcPhase < v .pcMult) && decide ((s.newVars c).length ≤ 255)
      && varsOk (v .pcLen) (s.newVars c)
  owner := connOwnerOf .produced
  running := fun s _ => s.paired
  run := guarded
    (fun s c => firstOf
      [whenS (decide (1 < (tasksWhere (fun i => s.taskExists i && (s.taskProg i).outMap.any (MapEntry.names 0x0A c.tgtIndex))).length))
        .sOwnerConflict,
       whenS (!(s.setParams c.tgtIndex (produceSettings c)).burstFits) .sNoSpace])
    (fun e s => .ok ((s.setConnVars e.cmd.tgtIndex (s.newVars e.cmd)).setCommit e.cmd.tgtIndex (produceSettings e.cmd)))

/-- The settings of a `NET.CONSUME`. -/
def consumeSettings (c : Cmd) : List (Param × Nat) :=
  if c.expert then
    [(.ccEn, c.blk 0 1), (.ccMult, c.blk 1 1), (.ccSrc, c.blk 2 2), (.ccLen, c.blk 4 2), (.ccConn, c.blk (8 + 4 * c.blk 6 2) 2)]
  else [(.ccEn, c.field 16 1), (.ccMult, c.field 17 1), (.ccSrc, c.field 18 2), (.ccLen, c.field 20 2), (.ccConn, c.field 22 2)]

/-- Another configured connection names the same station and number (14 R390). -/
def State.consTwice (s : State) (id src conn : Nat) : Bool :=
  s.consConfigured.any (fun j => j != id && s.param .ccSrc j == src && s.param .ccConn j == conn)

/-- `NET.CONSUME` (14 R390, R391, R394): a connection whose source, length or enable changes waits for a first frame. -/
def specNetConsume : CmdSpec where
  op := 0x0A03
  layout := expertBlock [(16, 8)]
  form := fun _ c => !c.expert || connBlockOk 0 2 c
  target := fun _ c => c.tgtClass == 0x0A && decide (0x1000 ≤ c.tgtIndex ∧ c.tgtIndex < 0x2000) && c.tgtSub == 0
  params := fun s c =>
    let l := consumeSettings c
    let v := newValue s c.tgtIndex l
    l.all (fun x => x.1.inRange x.2) && decide ((s.newVars c).length ≤ 255) && varsOk (v .ccLen) (s.newVars c)
      && !(v .ccLen != 0 && s.consTwice c.tgtIndex (v .ccSrc) (v .ccConn))
  owner := connOwnerOf .consumed
  running := fun s _ => s.paired
  run := fun e s =>
    let id := e.cmd.tgtIndex
    let l := consumeSettings e.cmd
    let same := [Param.ccEn, .ccSrc, .ccConn, .ccLen].all (fun p => newValue s id l p == s.param p id)
    let s := (s.setConnVars id (s.newVars e.cmd)).setCommit id l
    let s : State := { s with net := { s.net with forwarded := s.net.forwarded.take s.forwardSpace } }
    .ok (if same then s else s.setCons id { accepted := (s.consOf id).accepted, dropped := (s.consOf id).dropped })

/-- `NET.PORT` (14 R418): a port that is disabled has its link taken down. -/
def specNetPort : CmdSpec where
  op := 0x0A04
  layout := fun _ => { ranges := [(16, 1)] }
  target := fun _ c => c.tgtClass == 0x0A && (c.tgtIndex == 0x2001 || c.tgtIndex == 0x2002) && c.tgtSub == 0
  params := fun _ c => decide (c.field 16 1 ≤ 1)
  owner := fun _ c => some { kind := .port, index := c.tgtIndex - 0x2001 }
  running := fun s _ => s.paired
  run := guarded
    (fun s c => whenS (s.port (c.tgtIndex - 0x2001)).retired .sRetired)
    (fun e s =>
      let k := e.cmd.tgtIndex - 0x2001
      let on := e.cmd.field 16 1
      let s := s.setCommit k [(.portEn, on)]
      .ok (if on = 0 ∧ (s.port k).link then
          ((s.txClear k).setPort k { s.port k with link := false }).post .data .eNetLink (netPortRes k) (k * 2 ^ 24)
        else s))

/-! ## Status -/

/-- Inserts a pair into a list that falls by its second member. -/
def insertFalling (x : Nat × Nat) : List (Nat × Nat) → List (Nat × Nat)
  | [] => [x]
  | y :: r => if y.2 < x.2 then x :: y :: r else y :: insertFalling x r

/-- Drops by source station, the highest first. -/
def State.dropSources (s : State) : List (Nat × Nat) :=
  let one := s.net.buckets.foldl (fun (acc : List (Nat × Nat)) b => assocSet b.1.src (assoc 0 b.1.src acc + b.2.drops) acc) []
  (one.filter (fun x => x.2 != 0)).foldl (fun acc x => insertFalling x acc) []

/-- What `NET.STATUS` names: links, mode, drops per port, stage and class, cycle number, realignments, station, discard
entries in use; for the expert form the 16 sources with most drops. -/
def netStatusValues (s : State) (expert : Bool) : List Int :=
  let portVals := fun k => ((b2n (s.port k).link : Nat) : Int) ::
    ((List.range 7).flatMap (fun st => (List.range 7).map (fun cls => ((Tab.get (fun _ => 0) (s.port k).drops (16 * st + cls) : Nat) : Int))))
  portVals 0 ++ portVals 1
    ++ [(s.param .netMode 0 : Int), s.net.cycle, s.net.realign, s.net.station, s.consConfigured.length + s.forwardRecent.length]
    ++ (if expert then (s.dropSources.take 16).flatMap (fun x => [(x.1 : Int), (x.2 : Int)]) else [])

/-- `NET.STATUS`. -/
def specNetStatus : CmdSpec where
  op := 0x0A05
  target := netTarget
  long := fun _ => true
  run := fun e s => .long (Config.resultLayout (0x0A05 * 2 + b2n e.cmd.expert) (netStatusValues s e.cmd.expert)) s

/-- `CSTATE`; a connection with `CC_EN` 0 stays in 0 (14 R393). -/
def State.cstate (s : State) (id : Nat) : Nat :=
  if s.param .ccEn id = 0 then 0 else match (s.consOf id).st with | .waiting => 0 | .valid => 1 | .expired => 2

/-- The STAT record of a consumed connection at an instant of TB0 (14 R393). -/
def State.connStat (s : State) (id at0 : Nat) : Bytes :=
  let x := s.consOf id
  let age : Int := match x.lastAt with | some a => (at0 : Int) - a | none => -1
  leBytes 8 (wrapInt 64 age) ++ leBytes 8 (wrapInt 64 x.srcTime) ++ leBytes 4 x.seq ++ leBytes 1 (s.cstate id) ++ leBytes 3 0

/-- `NET.CONN_STATUS`. -/
def specNetConnStatus : CmdSpec where
  op := 0x0A06
  target := fun _ c => c.tgtClass == 0x0A && decide (0x1000 ≤ c.tgtIndex ∧ c.tgtIndex < 0x2000) && c.tgtSub == 0
  long := fun _ => true
  check := fun s c => whenS (s.param .ccLen c.tgtIndex == 0) .sNotFound
  run := fun e s =>
    let x := s.consOf e.cmd.tgtIndex
    let cnt := fun (t : Tab Nat) => (List.range 4).map (fun k => ((Tab.get (fun _ => 0) t k : Nat) : Int))
    .long (s.connStat e.cmd.tgtIndex s.tb0 ++ Config.resultLayout (0x0A06 * 2) (cnt x.accepted ++ cnt x.dropped ++ [(x.late : Int), (x.lenBad : Int)])) s

/-! ## Safety connections (11 R307, R312) -/

/-- The settings of a `SAFE.CONN`. -/
def safeConnSettings (c : Cmd) : List (Param × Nat) :=
  [(.scRole, c.field 18 1), (.aliveGap, c.field 19 1), (.smKey, c.field 20 4), (.scPeer, c.field 24 2), (.scPlen, c.field 26 1)]

/-- The block whose CRC-32 the change log holds: entry bytes 18 to 26. -/
def safeConnBlock (s : State) (id : Nat) (l : List (Param × Nat)) : Bytes :=
  let v := newValue s id l
  leBytes 1 (v .scRole) ++ leBytes 1 (v .aliveGap) ++ leBytes 4 (v .smKey) ++ leBytes 2 (v .scPeer) ++ leBytes 1 (v .scPlen)

/-- A configured connection of an ID. -/
def State.connConfigured (s : State) (id : Nat) : Bool :=
  if id < 0x0400 then s.param .pcLen id != 0 else decide (0x1000 ≤ id ∧ id < 0x2000) && s.param .ccLen id != 0

/-- `SAFE.CONN` (11 R304, R307, R312): a producer is a produced connection, a consumer a consumed one. -/
def specSafeConn : CmdSpec where
  op := 0x060A
  layout := fun _ => { ranges := [(16, 11)] }
  target := fun _ c => c.tgtClass == 0x06 && c.tgtIndex == 0x0200 && c.tgtSub == 0
  needsSession := fun _ _ => true
  params := fun _ c =>
    let r := c.field 18 1
    (safeConnSettings c).all (fun x => x.1.inRange x.2)
      && decide ((r = 0 ↔ c.field 20 4 = 0) ∧ (r = 0 ↔ c.field 26 1 = 0))
      && (r != 1 || decide (c.field 16 2 < 0x0400)) && (r != 2 || decide (0x1000 ≤ c.field 16 2))
  owner := fun _ c => some { kind := if c.field 16 2 < 0x0400 then .produced else .consumed, index := c.field 16 2 }
  running := fun s _ => s.paired
  run := guarded
    (fun s c => firstOf [whenS (!s.connConfigured (c.field 16 2)) .sNotFound, whenS s.logFull .sLogFull])
    (fun e s =>
      let id := e.cmd.field 16 2
      let l := safeConnSettings e.cmd
      let s := (s.logChange e.cmd.route 0x06 (id % 256) 0x0200 (safeConnBlock s id []) (safeConnBlock s id l)).setCommit id l
      .ok (if id < 0x0400 then s else s.setCons id { s.consOf id with alive := none, restore := 0 }))

/-- The commands of this file by opcode. -/
def specNet : List CmdSpec :=
  [specNetConfigure, specNetSetStation, specNetProduce, specNetConsume, specNetPort, specNetStatus, specNetConnStatus, specSafeConn]

/-- NET_CONFIGURE. -/
def execNetConfigure (t : Nat) (c : Cmd) (s : State) : Host.Outcome State Fault Refusal := .next (specNetConfigure.submit c (s.advance t))
/-- NET_SET_STATION. -/
def execNetSetStation (t : Nat) (c : Cmd) (s : State) : Host.Outcome State Fault Refusal := .next (specNetSetStation.submit c (s.advance t))
/-- NET_PRODUCE. -/
def execNetProduce (t : Nat) (c : Cmd) (s : State) : Host.Outcome State Fault Refusal := .next (specNetProduce.submit c (s.advance t))
/-- NET_CONSUME. -/
def execNetConsume (t : Nat) (c : Cmd) (s : State) : Host.Outcome State Fault Refusal := .next (specNetConsume.submit c (s.advance t))
/-- NET_PORT. -/
def execNetPort (t : Nat) (c : Cmd) (s : State) : Host.Outcome State Fault Refusal := .next (specNetPort.submit c (s.advance t))
/-- NET_STATUS. -/
def execNetStatus (t : Nat) (c : Cmd) (s : State) : Host.Outcome State Fault Refusal := .next (specNetStatus.submit c (s.advance t))
/-- NET_CONN_STATUS. -/
def execNetConnStatus (t : Nat) (c : Cmd) (s : State) : Host.Outcome State Fault Refusal := .next (specNetConnStatus.submit c (s.advance t))
/-- SAFE_CONN. -/
def execSafeConn (t : Nat) (c : Cmd) (s : State) : Host.Outcome State Fault Refusal := .next (specSafeConn.submit c (s.advance t))

/-! ## Events -/

/-- NET_LINK_CHANGE (14 R401): a port that is RETIRED or disabled reports no link. -/
def execNetLinkChange (t k : Nat) (linkUp : Bool) (s : State) : Host.Outcome State Fault Refusal :=
  onResource k 2 s (fun s =>
    let s := s.advance t
    let p := s.port k
    if p.link = linkUp ∨ (linkUp ∧ (p.retired ∨ s.param .portEn k = 0)) then s
    else ((if linkUp then s else s.txClear k).setPort k { p with link := linkUp, linkAt := if linkUp then s.tb0 else p.linkAt }).post .data .eNetLink (netPortRes k) (k * 2 ^ 24 + b2n linkUp))

/-- NETWORK_FRAME_RECEIVED (14 R398). -/
def execNetworkFrameReceived (t : Nat) (f : NetFrame) (s : State) : Host.Outcome State Fault Refusal :=
  onResource f.port 2 s (fun s => ((s.advance t).netReceive f).txRun)

/-- NETWORK_SEND_SLOT (14 R388). -/
def execNetworkSendSlot (t : Nat) (s : State) : Host.Outcome State Fault Refusal := .next (s.advance t).sendSlot.txRun

/-- STATION_PRESENCE_SEND (14 R380): every 1 s, broadcast on both ports. -/
def execStationPresenceSend (t : Nat) (s : State) : Host.Outcome State Fault Refusal :=
  let s := s.advance t
  .next (if s.up ∧ s.net.lastPresence ≤ s.tb0 then
      (({ s with net := { s.net with lastPresence := s.tb0 + 1000000000 } } : State).sendBoth bcastMac
        (.omnar (s.omnarFrame 4 true false 0 0 s.presence))).txRun
    else s)

/-- SUPERVISION_SEND (14 R376): every 2 s on both ports. -/
def execSupervisionSend (t : Nat) (s : State) : Host.Outcome State Fault Refusal :=
  let s := s.advance t
  .next (if s.up ∧ s.net.supervisionAt ≤ s.tb0 then
      (({ s with net := { s.net with supervisionAt := s.tb0 + 2000000000 } } : State).sendBoth bcastMac .supervision).txRun
    else s)

/-- NET_STORM (14 R399): a bucket that has dropped for 100 ms without a break, at most once per second. -/
def execNetStorm (t k cls src : Nat) (s : State) : Host.Outcome State Fault Refusal :=
  let s := s.advance t
  let key : NetBucketKey := { port := k, cls := cls, src := src }
  .next (match s.net.buckets.find? (fun x => x.1 == key) with
    | none => s
    | some (_, b) =>
      let due := match b.dropSince, b.lastStorm with
        | some a, none => decide (a + 100000000 ≤ s.tb0)
        | some a, some l => decide (a + 100000000 ≤ s.tb0 ∧ l + 1000000000 ≤ s.tb0)
        | none, _ => false
      if due then
        ({ s with net := { s.net with
            buckets := (key, { b with lastStorm := some s.tb0 }) :: s.net.buckets.filter (fun x => x.1 != key) } } : State).post .data
          .eNetStorm (netPortRes k) (k * 2 ^ 24 + key.stormClass * 65536 + b.last % 65536)
      else s)

/-- NET_PATH_SINGLE (14 R397): copies through one port only for 1 s while both ports have link. -/
def execNetPathSingle (t id : Nat) (s : State) : Host.Outcome State Fault Refusal :=
  if ¬ (0x1000 ≤ id ∧ id < 0x2000) then .fault .noSuchResource else
  let s := s.advance t
  let x := s.consOf id
  let viaA := decide (x.heardB + 1000000000 ≤ s.tb0 ∧ s.tb0 < x.heardA + 1000000000)
  let viaB := decide (x.heardA + 1000000000 ≤ s.tb0 ∧ s.tb0 < x.heardB + 1000000000)
  let both := [0, 1].all (fun k => (s.port k).link && decide ((s.port k).linkAt + 1000000000 ≤ s.tb0))
  .next (if s.param .ccEn id == 1 && both && !x.single && (viaA || viaB) then
      (s.setCons id { x with single := true }).post .data .eNetPathSingle (connRes id) ((if viaA then 0 else 2 ^ 24) + id)
    else s)

/-- CONN_WATCHDOG_EXPIRY (05 R143): the watchdog of a connection in use reaches `WD_CYCLES`. -/
def execConnWatchdogExpiry (t id : Nat) (s : State) : Host.Outcome State Fault Refusal :=
  if ¬ (0x1000 ≤ id ∧ id < 0x2000) then .fault .noSuchResource else
  let s := s.advance t
  let x := s.consOf id
  .next (if s.param .ccEn id = 1 ∧ x.st = .valid ∧ x.wdAt + s.wdNs id ≤ s.tb0 then s.connExpire id else s)

/-- PORT_SELFTEST (14 R401). -/
def execPortSelftest (t k : Nat) (ok : Bool) (s : State) : Host.Outcome State Fault Refusal :=
  onResource k 2 s (fun s =>
    let s := s.advance t
    if ok ∨ ¬ s.up ∨ (s.port k).retired ∨ (s.port k).fault ∨ s.param .portEn k = 0 then s else s.portFault k 1)

/-- PORT_RETRAIN (14 R401): 1 s after the fault. -/
def execPortRetrain (t k : Nat) (s : State) : Host.Outcome State Fault Refusal :=
  onResource k 2 s (fun s =>
    let s := s.advance t
    if s.tb0 < (s.port k).faultAt + 1000000000 then s else s.setPort k { s.port k with fault := false })

end Sys2Proof.Machine
end

