-- ==== Sys2Proof/Machine/Image.lean ====
section
/-! DEFINITION. Process images: the map entries of every class and their checks (05 R139, R140), the latch with its
qualities, substitutes and input forces (05 R127, R141, R143; 07 R204), and the distributor (05 R127, R138; 01 R13). -/

namespace Sys2Proof.Machine

/-! ## What an entry names: data type and bytes of its value; type 0 is a record -/

/-- An input entry's value (09 R239, 10 R276, 11 R310, 08 R227, 12 R335, 14 R391, 14 R415, 15 R439, 16 R455). -/
def State.inForm (s : State) (e : MapEntry) : Option (Nat × Nat) :=
  let n := e.index
  match e.cls with
  | 0x04 =>
    if 32 ≤ n then none
    else if e.sub = 0 ∨ e.sub = 1 then some (5, 4)
    else if e.sub = 2 then some (7, 2)
    else if 8 ≤ e.sub ∧ e.sub ≤ 11 ∧ s.param .acHartEn n = 1 then some (5, 4)
    else if e.sub = 12 ∧ s.param .acHartEn n = 1 then some (7, 2)
    else none
  | 0x05 =>
    if n = 0x0100 then (if e.sub = 0 ∧ s.param .dcLegacyFault 0 = 1 then some (1, 1) else none)
    else if 32 ≤ n then none
    else if e.sub = 0 ∧ dcReads (s.dcMode n) then some (1, 1)
    else if e.sub = 1 then some (7, 2)
    else if e.sub = 3 ∧ n % 2 = 0 ∧ s.dcMode n = 3 then some (1, 1)
    else none
  | 0x06 =>
    if n < 8 then (if e.sub = 0 then some (1, 1) else if e.sub = 1 then some (7, 2) else none)
    else if 0x0100 ≤ n ∧ n < 0x0110 then (if e.sub = 0 then some (5, 4) else if e.sub = 1 then some (7, 2) else none)
    else none
  | 0x07 => if 512 ≤ n then none else if e.sub = 0 then some (0, 24) else if e.sub = 1 then some (5, 4) else none
  | 0x08 => if 4 ≤ n then none else if e.sub = 0 then some (0, 32) else if e.sub = 1 then some (5, 4) else none
  | 0x0A =>
    if n < 0x1000 ∨ 0x2000 ≤ n then none
    else if e.sub = 0xFF then some (0, 24)
    else match (s.connVarsOf n)[e.sub]? with
      | some d => some (bitsOf d 23 20, if bitsOf d 23 20 = 1 then 1 else tyWidth (bitsOf d 23 20) / 8)
      | none => none
  | 0x0B =>
    if n < 0x0200 ∨ 0x0204 ≤ n then none
    else match e.sub with
      | 0 => some (4, 8) | 1 => some (5, 4) | 2 => some (4, 8) | 3 => some (9, 8) | 4 => some (7, 2) | _ => none
  | 0x0C =>
    if 4 ≤ n then none else if e.sub = 0 then some (0, 32)
    else if 0x10 ≤ e.sub ∧ e.sub < 0x50 then some (0, 88) else none
  | 0x0D => if n < 8 ∧ e.sub = 0 then some (0, 16) else none
  | _ => none

/-- An output entry's value. -/
def State.outForm (s : State) (e : MapEntry) : Option (Nat × Nat) :=
  let n := e.index
  match e.cls with
  | 0x04 => if n < 32 ∧ e.sub < 2 ∧ acIsAo (s.acMode n) then some (5, 4) else none
  | 0x05 =>
    if n = 0x0100 then (if e.sub = 0 ∧ s.param .dcLegacyFault 0 = 1 then some (1, 1) else none)
    else if n < 32 ∧ e.sub < 2 ∧ dcIsDo (s.dcMode n) then some (1, 1) else none
  | 0x06 => if n < 8 ∧ e.sub < 2 then some (1, 1) else none
  | 0x07 => if n < 512 ∧ e.sub = 0 then some (0, 16) else none
  | 0x08 => if n < 4 ∧ e.sub = 0 then some (0, 16) else none
  | 0x0A =>
    if 0x0400 ≤ n then none
    else if e.sub = 0xFF then some (0, 4)
    else match (s.connVarsOf n)[e.sub]? with
      | some d => some (bitsOf d 23 20, if bitsOf d 23 20 = 1 then 1 else tyWidth (bitsOf d 23 20) / 8)
      | none => none
  | 0x0C =>
    if 4 ≤ n then none else if 1 ≤ e.sub ∧ e.sub ≤ 3 then some (0, 80) else if e.sub = 4 then some (0, 4) else none
  | _ => none

/-- A safety task may not map it: loop CMD records (08 R227), digital outputs (10 R262), CAN records (06 R167, 15 R439); only a safety task maps a
safety output (11 R286). -/
def kindAllows (safety output : Bool) (e : MapEntry) : Bool :=
  if e.cls = 0x0C then !safety
  else if output && (e.cls == 0x07 || e.cls == 0x05) then !safety
  else if output && e.cls == 0x06 then safety
  else true

/-- Bits that the value covers: first and count. -/
def MapEntry.bits (e : MapEntry) (size : Nat) : Nat × Nat := if e.ty = 1 then (8 * e.off + e.bit, 1) else (8 * e.off, 8 * size)

/-- Place of the quality byte: the byte after the value, or the next byte for BOOL. -/
def MapEntry.qualAt (e : MapEntry) (size : Nat) : Nat := if e.ty = 1 then e.off + 1 else e.off + size

/-- Every bit interval that an entry covers. -/
def MapEntry.covers (e : MapEntry) (size : Nat) : List (Nat × Nat) :=
  if e.qual then [e.bits size, (8 * e.qualAt size, 8)] else [e.bits size]

/-- Two bit intervals overlap. -/
def bitsMeet (a b : Nat × Nat) : Bool := decide (a.1 < b.1 + b.2) && decide (b.1 < a.1 + a.2)

/-- The form of an entry of either image. -/
def State.form (s : State) (output : Bool) (e : MapEntry) : Option (Nat × Nat) :=
  if output then s.outForm e else s.inForm e

/-- One entry is acceptable by itself (R140): its class and mode, its type, records as DWORD, a bit number for BOOL only,
inside the image, no quality byte in an output image. -/
def State.entryOk (s : State) (safety output : Bool) (size : Nat) (e : MapEntry) : Bool :=
  match s.form output e with
  | none => false
  | some (ty, n) =>
    (if ty = 0 then e.ty == 8 else e.ty == ty) && (e.ty == 1 || e.bit == 0) && kindAllows safety output e
      && !(output && e.qual) && (e.covers n).all (fun b => decide (b.1 + b.2 ≤ 8 * size))

/-- The intervals of every entry of a map. -/
def State.mapCovers (s : State) (output : Bool) (m : List MapEntry) : List (Nat × Nat) :=
  m.flatMap (fun e => match s.form output e with | some (_, n) => e.covers n | none => [])

/-- No two intervals of a list overlap. -/
def allApart : List (Nat × Nat) → Bool
  | [] => true
  | b :: r => r.all (fun x => !(bitsMeet b x)) && allApart r

/-- A map is acceptable: at most 4,096 entries (R140), none overlapping another. -/
def State.mapOk (s : State) (safety output : Bool) (size : Nat) (m : List MapEntry) : Bool :=
  decide (m.length ≤ 4096) && m.all (s.entryOk safety output size) && allApart (s.mapCovers output m)

/-- Bytes that a map needs, up from 0. -/
def State.mapReach (s : State) (output : Bool) (m : List MapEntry) : Nat :=
  ((s.mapCovers output m).foldl (fun a b => max a (b.1 + b.2)) 0 + 7) / 8

/-- What an output entry owns (01 R15): one channel whichever sub-index; a digital or CAN output by its sub-index; whole
safety outputs, loops and axes; a variable of a connection. -/
def MapEntry.ownKey (e : MapEntry) : Nat × Nat × Nat :=
  if e.cls = 0x04 ∨ e.cls = 0x07 ∨ e.cls = 0x08 then (e.cls, e.index, 0) else (e.cls, e.index, e.sub)

/-- The resource an output entry shares with no other task: the connection and the safety output whole. -/
def MapEntry.shareKey (e : MapEntry) : Nat × Nat × Nat :=
  if e.cls = 0x06 ∨ e.cls = 0x0A then (e.cls, e.index, 0) else e.ownKey

/-- Two entries of one list own the same output. -/
def keysTwice : List (Nat × Nat × Nat) → Bool
  | [] => false
  | k :: r => r.contains k || keysTwice r

/-- An enabled loop owns the output (01 R15). -/
def State.loopOwns (s : State) (e : MapEntry) : Bool :=
  (e.cls == 0x04 && s.someLoop (fun i => s.param .loopOutDest i == 0x10000000 + e.index))
    || (e.cls == 0x08 && s.axLoop e.index)

/-- The output map `m` of task `i` takes an output that another task or loop owns, or one twice; the skipper owns XB0 of
its channel (15 R435). -/
def State.mapConflict (s : State) (i : Nat) (m : List MapEntry) : Bool :=
  keysTwice (m.map MapEntry.ownKey)
    || m.any (fun e => s.loopOwns e || (e.cls == 0x0C && e.sub == 1 && s.param .canSkipper e.index == 1)
        || (List.range 16).any (fun j => j != i && (s.taskProg j).outMap.any (fun f => f.shareKey == e.shareKey)))

/-- Image bytes that all tasks use (R139). -/
def State.imageUse (s : State) : Nat :=
  (List.range 16).foldl (fun a i => a + (s.taskProg i).inSize + 2 * (s.taskProg i).outSize) 0

/-- The share of the tasks in the image SRAM. -/
def imageSpace : Nat := 992 * 1024

/-- A map entry of 8 bytes (R140). -/
def MapEntry.ofBytes (b : Bytes) : MapEntry :=
  let p := leNat (slice b 4 3)
  { cls := leNat (slice b 0 1), index := leNat (slice b 1 2), sub := leNat (slice b 3 1), off := bitsOf p 16 0, bit := bitsOf p 19 17,
    ty := bitsOf p 23 20, qual := bitOf (leNat (slice b 7 1)) 0 }

/-- The entries of a byte string. -/
def mapEntries (b : Bytes) : List MapEntry :=
  (List.range (b.length / 8)).map (fun k => MapEntry.ofBytes (slice b (8 * k) 8))

/-- A map entry as its 8 bytes. -/
def MapEntry.bytes (e : MapEntry) : Bytes :=
  leBytes 1 e.cls ++ leBytes 2 e.index ++ leBytes 1 e.sub ++ leBytes 3 (e.off + e.bit * 2 ^ 17 + e.ty * 2 ^ 20) ++ leBytes 1 (b2n e.qual)

/-! ## Bits of an image -/

/-- Writes a value of `size` bytes (one bit for BOOL) at the place of an entry or a reference. -/
def putValue (isBool : Bool) (byte bit : Nat) (v : Bytes) (m : Tab Byte) : Tab Byte :=
  if isBool then
    Tab.upd (fun _ => 0) m byte (fun b => BitVec.ofNat 8 (setBits b.toNat bit bit (leNat v % 2)))
  else Tab.putBytes m byte v

/-- Reads the value of an entry. -/
def getValue (isBool : Bool) (byte bit size : Nat) (m : Tab Byte) : Bytes :=
  if isBool then leBytes 1 (b2n ((Tab.get (fun _ => 0) m byte).toNat.testBit bit)) else Tab.getBytes m byte size

/-! ## The latch -/

/-- The value of a payload variable, as the image holds it: a payload is big-endian (00 R3, R381). -/
def payloadVar (data : Bytes) (d : Nat) : Bytes :=
  let off := bitsOf d 16 0
  if bitsOf d 23 20 = 1 then leBytes 1 (b2n ((leNat (slice data off 1)).testBit (bitsOf d 19 17)))
  else (slice data off (tyWidth (bitsOf d 23 20) / 8)).reverse

/-- Key of variable `v` of connection `id` in the program's substitutes and safe values. -/
def varKey (id v : Nat) : Nat := id * 256 + v

/-- A consumed variable: its value, or its substitute while the connection waits or has expired (R143, R144). -/
def State.consVar (s : State) (id v d : Nat) : Bytes × Nat :=
  let x := s.consOf id
  if s.cstate id = 1 then (payloadVar x.data d, 0)
  else
    let size := if bitsOf d 23 20 = 1 then 1 else tyWidth (bitsOf d 23 20) / 8
    let safe := leBytes size (Tab.get (fun _ => 0) s.cfg.prog.safeVals (varKey id v))
    let (mode, val) := Tab.get (fun _ => (0, 0)) s.cfg.prog.subst (varKey id v)
    (match mode with
      | 1 => if x.lastAt.isSome then payloadVar x.data d else safe
      | 2 => leBytes size val
      | _ => safe, 0x01)

/-- The mode of a loop in force. -/
def State.loopMode (s : State) (i : Nat) : Nat := s.param .loopMode i

/-- The STAT record of a loop (08 R227). -/
def State.loopStat (s : State) (i : Nat) : Bytes :=
  let x := s.loopOf i
  leBytes 4 x.out ++ leBytes 4 x.pv ++ leBytes 4 (narrow x.spr) ++ leBytes 2 x.ackSeq ++ leBytes 1 (s.loopMode i)
    ++ leBytes 1 (x.lflags + 64 * b2n x.refused) ++ leBytes 8 x.sampleT

/-- What the snapshot holds for an input entry: value and quality (R141). -/
def State.latchValue (s : State) (e : MapEntry) : Bytes × Nat :=
  let n := e.index
  let size := match s.inForm e with | some (_, k) => k | none => 0
  let num := fun (p : Nat × Nat) => (leBytes size p.1, p.2)
  match e.cls with
  | 0x04 => num (s.acSource n e.sub)
  | 0x05 => if n = 0x0100 then (leBytes 1 (b2n s.dcCommon), 0) else num (s.dcSource n e.sub)
  | 0x06 => if n < 8 then num (s.soSource n e.sub) else num (s.aiSource (n - 0x0100) e.sub)
  | 0x07 => if e.sub = 0 then (s.loopStat n, 0) else (leBytes 4 (s.loopOf n).out, 0)
  | 0x08 => (s.axSource n e.sub, if (s.axOf n).st = .retired then 0x80 else 0)
  | 0x0A =>
    if e.sub = 0xFF then (s.connStat n s.tb0, 0)
    else match (s.connVarsOf n)[e.sub]? with
      | some d => s.consVar n e.sub d
      | none => ([], 0x80)
  | 0x0B =>
    let x := s.piOf (n - 0x0200)
    (match e.sub with
      | 0 => leBytes 8 (wrapInt 64 x.count)
      | 1 => leBytes 4 (s.piFreq (n - 0x0200))
      | 2 => leBytes 8 (wrapInt 64 x.capCount)
      | 3 => leBytes 8 (wrapInt 64 x.capTime)
      | _ => leBytes 2 x.status, 0)
  | 0x0C => (if e.sub = 0 then s.canStat n else s.canRecord n (e.sub - 0x10), if (s.canOf n).st = .retired then 0x80 else 0)
  | 0x0D => (s.cuRecord n, if (s.cuOf n).retired then 0x80 else 0)
  | _ => ([], 0x80)

/-- Writes the value and the quality byte of an entry into an input image. -/
def MapEntry.put (e : MapEntry) (size : Nat) (v : Bytes) (q : Nat) (m : Tab Byte) : Tab Byte :=
  let m := putValue (e.ty == 1) e.off e.bit v m
  if e.qual then Tab.put (fun _ => 0) m (e.qualAt size) (BitVec.ofNat 8 q) else m

/-! ## Forces (07 R203, R204) -/

/-- The region operand of a variable. -/
def VarDef.where? (v : VarDef) : Ref := Ref.ofNat v.ref

/-- The variable of an ID. -/
def State.varOf (s : State) (id : Nat) : Option VarDef := s.cfg.prog.vars.find? (fun v => v.id == id)

/-- The force on a variable. -/
def State.forceOf (s : State) (id : Nat) : Option Force := Tab.get (fun _ => none) s.prog.forces id

/-- The forces in effect, with their variables, in ascending VAR_ID. -/
def State.forcesNow (s : State) : List (VarDef × Nat) :=
  s.prog.forces.filterMap (fun x => match x.2, s.varOf x.1 with | some f, some v => some (v, f.value) | _, _ => none)

/-- The forces of task `i` in a space. -/
def State.forcesIn (s : State) (i space : Nat) : List (Ref × Nat) :=
  (s.forcesNow.filter (fun x => x.1.task == i && (Ref.ofNat x.1.ref).space == space)).map (fun x => (Ref.ofNat x.1.ref, x.2))

/-- Bits that a reference covers. -/
def Ref.bitSpan (r : Ref) : Nat × Nat := if r.ty = 1 then (r.off, 1) else (8 * r.addr, tyWidth r.ty)

/-- Writes a forced value into an image or region. -/
def putForce (m : Tab Byte) (f : Ref × Nat) : Tab Byte := putValue (f.1.ty == 1) f.1.addr (f.1.off % 8) (leBytes f.1.bytes f.2) m

/-- The bits of M that forces hold (R204). -/
def State.lockedM (s : State) : List (Nat × Nat) :=
  (s.forcesNow.filter (fun x => (Ref.ofNat x.1.ref).space == 3)).flatMap (fun x =>
    let r := Ref.ofNat x.1.ref
    if r.ty = 1 then [(r.addr, 2 ^ (r.off % 8))] else (List.range r.bytes).map (fun k => (r.addr + k, 255)))

/-- Input forces as the latch copies: the value, and quality FORCED unless BAD applies. -/
def State.forceInput (s : State) (m : List MapEntry) (img : Tab Byte) (f : Ref × Nat) : Tab Byte :=
  m.foldl (fun img e =>
    match s.inForm e with
    | some (_, n) =>
      if e.qual && bitsMeet (e.bits n) f.1.bitSpan then
        Tab.upd (fun _ => 0) img (e.qualAt n) (fun q => if q.toNat = 0x80 then q else 0x03)
      else img
    | none => img) (putForce img f)

/-- The latched input image of task `i` (R127, step 1). -/
def State.latchImage (s : State) (i : Nat) : Tab Byte :=
  let m := (s.taskProg i).inMap
  let img := m.foldl (fun img e =>
    match s.inForm e with
    | some (_, n) => (let p := s.latchValue e; e.put n p.1 p.2 img)
    | none => img) []
  (s.forcesIn i 1).foldl (s.forceInput m) img

/-- A latch of a pulse input's status takes its capture flag (14 R415). -/
def State.latchTakes (i : Nat) (s : State) : State :=
  (s.taskProg i).inMap.foldl (fun s e =>
    if e.cls = 0x0B ∧ e.sub = 4 then s.setPi (e.index - 0x0200) { s.piOf (e.index - 0x0200) with captured := false } else s) s

/-! ## The distributor -/

/-- The value of an output entry in a bank. -/
def State.outValue (s : State) (bank : Tab Byte) (e : MapEntry) : Bytes :=
  match s.outForm e with
  | some (_, n) => getValue (e.ty == 1) e.off e.bit n bank
  | none => []

/-- Forwards one value of a committed image. -/
def State.forward (bank : Tab Byte) (e : MapEntry) (s : State) : State :=
  let v := s.outValue bank e
  let b := leNat v % 2 == 1
  let n := e.index
  match e.cls with
  | 0x04 => s.setAc n { s.acOf n with target := some (e.sub == 0, leNat v) }
  | 0x05 =>
    if n = 0x0100 then
      let s' := if b && !s.dcCommonAck then s.dcCommonAcknowledge else s
      { s' with dcCommonAck := b }
    else
      let c := s.dcOf n
      if e.sub = 0 then s.setDc n { c with target := some b } else s.setDc n { c with ackOut := b, ack := c.ack || (b && !c.ackOut) }
  | 0x06 => if e.sub = 0 then s.soCommit n b else s.soAckOutput n b
  | 0x07 => s.setLoop n { s.loopOf n with cmd := v }
  | 0x08 => s.setAx n { s.axOf n with cmdRec := some v, started := true }
  | 0x0C => if e.sub = 4 then s.canRecReq n (leNat (slice v 0 2)) else s.canRequest n (e.sub - 1) (reqOfRecord v)
  | _ => s

/-- The payload of a produced connection from a bank, big-endian (00 R3): its mapped variables, the others 0; and its `PRODUCE` bit
(14 R391, R392). -/
def State.gather (s : State) (m : List MapEntry) (bank : Tab Byte) (c : Nat) : Bytes × Bool :=
  let vars := s.connVarsOf c
  let len := s.param .pcLen c
  let img := m.foldl (fun img e =>
    if e.names 0x0A c && e.sub != 0xFF then
      (match vars[e.sub]? with
       | some d =>
         let v := s.outValue bank e
         putValue (bitsOf d 23 20 == 1) (bitsOf d 16 0) (bitsOf d 19 17) (if bitsOf d 23 20 = 1 then v else v.reverse) img
       | none => img)
    else img) []
  let ctl := m.find? (fun e => e.names 0x0A c && e.sub == 0xFF)
  (Tab.getBytes img 0 len, match ctl with | some e => bitOf (leNat (s.outValue bank e)) 0 | none => true)

/-- The connections that a map produces. -/
def mapConns (m : List MapEntry) : List Nat := ((m.filter (fun e => e.cls == 0x0A)).map (·.index)).eraseDups

/-- A commit reaches a produced connection; the commit before it stays until a send slot may take this one. -/
def State.commitConn (m : List MapEntry) (bank : Tab Byte) (first : Bool) (c : Nat) (s : State) : State :=
  let x := s.prodOf c
  let p := s.gather m bank c
  s.setProd c { x with payload := p.1, produce := p.2, prev := if first then [] else x.payload, prevProduce := x.produce, at0 := s.tb0 }

/-- The bank with the task's output forces (07 R204). -/
def State.forcedBank (s : State) (i : Nat) (bank : Tab Byte) : Tab Byte := (s.forcesIn i 2).foldl putForce bank

/-- Forwards a committed bank of task `i`, the safety outputs' commands and every other output (R127, step 5). -/
def State.distribute (i : Nat) (s : State) : State :=
  let x := s.taskOf i
  let m := (s.taskProg i).outMap
  let bank := s.forcedBank i x.committed
  let s := (mapConns m).foldl (fun s c => s.commitConn m bank (!x.forwarded) c) s
  let s := m.foldl (fun s e => s.forward bank e) s
  s.setTask i { s.taskOf i with forwarded := true, safeOut := false }

/-- The safe value of one output (R138, R147): channels without a command, safety outputs as 11 R290 gives, no new loop,
axis or CAN request. -/
def State.forwardSafe (e : MapEntry) (s : State) : State :=
  let n := e.index
  match e.cls with
  | 0x04 => s.setAc n { s.acOf n with target := none }
  | 0x05 =>
    if n = 0x0100 then { s with dcCommonAck := false }
    else if e.sub = 0 then s.setDc n { s.dcOf n with target := none } else s.setDc n { s.dcOf n with ackOut := false }
  | 0x06 => if e.sub = 0 then s.soForwardSafe n else s
  | _ => s

/-- The distributor forwards the safe values for every output of task `i`. -/
def State.outputsSafe (i : Nat) (s : State) : State :=
  let s := (s.taskProg i).outMap.foldl (fun s e => s.forwardSafe e) s
  s.setTask i { s.taskOf i with safeOut := true }

/-- The axes whose target task `i` owns lose their owner (12 R334). -/
def State.axesLost (i : Nat) (s : State) : State :=
  (s.taskProg i).outMap.foldl (fun s e => if e.cls = 0x08 then s.axOwnerLost e.index else s) s

/-- An output that lost its task goes to its safe value; an axis stops (12 R334). -/
def State.goneSafe (e : MapEntry) (s : State) : State :=
  let s := s.forwardSafe e
  if e.cls = 0x08 then s.axOwnerLost e.index else s

/-- The entries of an old output map that the present map of task `i` does not own. -/
def State.unmapped (s : State) (old : List MapEntry) (i : Nat) : List MapEntry :=
  old.filter (fun e => !((s.taskProg i).outMap.any (fun f => f.ownKey == e.ownKey)))

/-- After a change of its output map, a kept output of task `i` keeps its value at its new place in the bank. -/
def State.rebank (old : List MapEntry) (i : Nat) (s : State) : State :=
  let x := s.taskOf i
  let bank := (s.taskProg i).outMap.foldl (fun b e =>
    match old.find? (fun f => f.cls == e.cls && f.index == e.index && f.sub == e.sub && f.ty == e.ty) with
    | some f => putValue (e.ty == 1) e.off e.bit (s.outValue x.committed f) b
    | none => b) []
  s.setTask i { x with committed := bank }

/-- A map change of task `i`: an output it no longer maps goes to its safe value. -/
def State.remap (old : List MapEntry) (i : Nat) (s : State) : State :=
  ((s.unmapped old i).foldl (fun s e => s.goneSafe e) s).rebank old i

end Sys2Proof.Machine
end

