-- ==== Sys2Proof/Machine/LoopLaw.lean ====
section
/-! DEFINITION. The control law of a loop (08 R217 to R219, R224), computed in IEEE 754 binary64 (R213). -/

namespace Sys2Proof.Machine

/-- A loop's parameters, widened to LREAL; `ts` in seconds, `neg` for `ACTION` 1. -/
structure LoopSet where
  neg : Bool
  spTrack : Bool
  kp : Nat
  ki : Nat
  kd : Nat
  n : Nat
  ts : Nat
  spLo : Nat
  spHi : Nat
  spRate : Nat
  outLo : Nat
  outHi : Nat
  outRate : Nat
  outSafe : Nat
  deriving DecidableEq, Repr

/-- What a sample latches (08 R216, R217): measurement as LREAL with its REAL form, set-point source (with `spHeld` the last good
`sp_t` in place of a bad one, R221), manual value, the destination hold, the flag bits of bad sources, and whether the output reaches
the destination from this sample on (03 R75). -/
structure LoopLatch where
  pv : Nat
  pvReal : Nat
  spSource : Nat
  spHeld : Option Nat
  man : Nat
  extHold : Bool
  flags : Nat
  driving : Bool
  deriving DecidableEq, Repr

/-- LREAL sum, difference, product, quotient. -/
def ladd (a b : Nat) : Nat := (g64.add a b).bits
def lsub (a b : Nat) : Nat := (g64.sub a b).bits
def lmul (a b : Nat) : Nat := (g64.mul a b).bits
def ldiv (a b : Nat) : Nat := (g64.div a b).bits
/-- Clamp of an LREAL. -/
def lclamp (x lo hi : Nat) : Nat := if g64.lt x lo then lo else if g64.lt hi x then hi else x
/-- LREAL of a positive parameter: above zero. -/
def lpos (a : Nat) : Bool := g64.lt 0 a

/-- `sp_t`: the set-point source between its limits; while the source is bad, its last good value (R221). -/
def LoopLatch.target (x : LoopLatch) (q : LoopSet) : Nat :=
  match x.spHeld with
  | some g => g
  | none => lclamp x.spSource q.spLo q.spHi

/-- The working set-point of a sample. -/
def sprStep (q : LoopSet) (manual : Bool) (x : LoopLatch) (spr : Nat) : Nat :=
  let target := x.target q
  if manual && q.spTrack then x.pv
  else if g64.isZero q.spRate then target
  else
    let step := lmul q.spRate q.ts
    ladd spr (lclamp (lsub target spr) (g64.neg step) step)

/-- One sample in mode 1 AUTO, 2 MANUAL or 3 OUT OF SERVICE (R217). -/
def loopSample (q : LoopSet) (mode : Nat) (x : LoopLatch) (r : LoopRun) : LoopRun :=
  let target := x.target q
  let r := { r with pv := x.pvReal, driven := r.driven || x.driving, spGood := some target }
  let r := if r.first then
      { r with first := false, pvPrev := x.pv, d := 0, uPrev := q.outSafe, spr := target, firstAuto := true } else r
  if mode = 3 then
    { r with d := 0, pvPrev := x.pv, uPrev := q.outSafe, firstAuto := true, wasOos := true, out := q.outSafe,
             lflags := x.flags + 8 * b2n x.extHold }
  else
  let r := if r.wasOos then { r with wasOos := false, pvPrev := x.pv, d := 0 } else r
  let manual := decide (mode = 2)
  let spr := sprStep q manual x r.spr
  let diff := lsub spr x.pv
  let e := if q.neg then g64.neg diff else diff
  let p := lmul q.kp e
  let kdn := lmul (lmul q.kd q.n) (lsub x.pv r.pvPrev)
  let d := ldiv (lsub r.d (if q.neg then g64.neg kdn else kdn)) (ladd (g64.ofInt 1) (lmul q.n q.ts))
  let step := lmul q.outRate q.ts
  let rate := lpos q.outRate
  -- the candidate whose limits the flags report, the integral, and u_t
  let bump := !manual && r.firstAuto
  let cand := if manual then x.man else if bump then r.uPrev else ladd (ladd p r.i) d
  let satHi := g64.le q.outHi cand
  let satLo := g64.le cand q.outLo
  let limited := rate && g64.lt step (g64.abs (lsub (lclamp cand q.outLo q.outHi) r.uPrev))
  let hold := satHi || satLo || x.extHold || limited
  let i := if manual then r.i
    else if bump then lsub (lsub r.uPrev p) d
    else if hold then r.i else ladd r.i (lmul (lmul q.ki e) q.ts)
  let ut := if manual then x.man else if bump then r.uPrev else ladd (ladd p i) d
  let u0 := lclamp ut q.outLo q.outHi
  let u := if rate then ladd r.uPrev (lclamp (lsub u0 r.uPrev) (g64.neg step) step) else u0
  let ramping := !(manual && q.spTrack) && lpos q.spRate && !(g64.eq spr target)
  { r with
    spr := spr, p := p, i := i, d := d, firstAuto := manual, pvPrev := x.pv, uPrev := u, out := u,
    lflags := x.flags + b2n satHi + 2 * b2n satLo + 4 * b2n limited + 8 * b2n x.extHold + 128 * b2n ramping }

end Sys2Proof.Machine
end

