-- ==== Sys2Proof/Machine/Loops.lean ====
section
/-! DEFINITION. The loop engine: sources, samples, modes, commands (08). -/

namespace Sys2Proof.Machine

/-- A loop as event source. -/
def loopRes (i : Nat) : Res := { cls := 0x07, index := i }
/-- A loop's mailbox. -/
def loopOwner (i : Nat) : Owner := { kind := .loop, index := i }

/-! ## Capacity (R215) -/

/-- Σ(1/TS) over the enabled loops in s⁻¹, with loop `i` as given. -/
def State.loopLoad (s : State) (i en ts : Nat) : Q :=
  (List.range 512).foldl (fun q k =>
    let e := if k = i then en else s.param .loopEn k
    let x := if k = i then ts else s.param .loopTs k
    if e = 1 then q.add { num := 100000, den := x } else q) (Q.ofInt 0)

/-! ## Sources and destinations (R220 to R222) -/

/-- The task that maps the CMD record of loop `i`. -/
def State.loopTask (s : State) (i : Nat) : Option Nat :=
  (List.range 16).find? (fun k => s.taskExists k && (s.taskProg k).outMap.any (fun e => e.names 0x07 i && e.sub == 0))

/-- The owner of the CMD record is STOPPED or HALTED, or there is none. -/
def State.loopTaskDown (s : State) (i : Nat) : Bool :=
  match s.loopTask i with
  | some k => (s.taskOf k).state == .stopped || (s.taskOf k).state == .halted
  | none => true

/-- The value of a source word as LREAL, its REAL form, and whether it is bad (R221); `off` is its field in CMD. -/
def State.loopSource (s : State) (i src off : Nat) : Nat × Nat × Bool :=
  let k := srcIndex src
  let real := fun (v : Nat) (bad : Bool) => (widen v, v, bad || !(f32.isFinite v))
  match srcKind src with
  | 1 => (let p := s.acSource k 0; real p.1 (p.2 == 0x80))
  | 2 => real (s.piFreq k) false
  | 3 => (let v := g64.ofInt (s.piOf k).count; (v, narrow v, false))
  | 4 => real (leNat (slice (s.loopOf i).cmd off 4)) (s.loopTaskDown i)
  | 5 => (let v := match s.axFeedback k with | some f => f.toLreal | none => (s.axOut k (s.axOf k).pos).toLreal
          (v, narrow v, (s.axOf k).st == .retired || !(g64.isFinite v)))
  | _ => real 0 false

/-- The measurement of loop `i` at this instant. -/
def State.loopPv (s : State) (i : Nat) : Nat × Nat × Bool := s.loopSource i (s.param .loopPvSrc i) 8

/-- The set-point source: the constant with kind 0. -/
def State.loopSp (s : State) (i : Nat) : Nat × Nat × Bool :=
  let src := s.param .loopSpSrc i
  if srcKind src = 0 then (widen (s.param .loopSpConst i), s.param .loopSpConst i, false) else s.loopSource i src 0

/-- The destination hold (R222). -/
def State.loopExtHold (s : State) (i : Nat) : Bool :=
  let d := s.param .loopOutDest i
  let k := srcIndex d
  match srcKind d with
  | 1 =>
    let c := s.acOf k
    c.st == .outOfService || c.st == .retired || bitOf (s.acStatusWord k) 1 || bitOf (s.acStatusWord k) 2
  | 5 =>
    let x := s.axOf k
    x.unref || x.st == .retired || x.st == .disabled || x.stalled
  | _ => false

/-- Its output drives: after the release of the task that owns its set-point source, or with a constant or a channel as
source at once (03 R75). -/
def State.loopDrives (s : State) (i : Nat) : Bool :=
  if srcKind (s.param .loopSpSrc i) = 4 then
    (match s.loopTask i with | some k => (s.taskOf k).lastRelease.isSome | none => false)
  else true

/-- The parameters as the law uses them. -/
def State.loopSet (s : State) (i : Nat) : LoopSet :=
  let l := fun (p : Param) => widen (s.param p i)
  { neg := s.param .loopAction i == 1, spTrack := s.param .loopSpTrack i == 1, kp := l .loopKp, ki := l .loopKi, kd := l .loopKd,
    n := l .loopN, ts := g64.ofRat (s.param .loopTs i) 100000, spLo := l .loopSpLo, spHi := l .loopSpHi, spRate := l .loopSpRate,
    outLo := l .loopOutLo, outHi := l .loopOutHi, outRate := l .loopOutRate, outSafe := l .loopOutSafe }

/-! ## Modes (R223, R224) -/

/-- The output of the previous sample; `OUT_SAFE` before the first sample after start (R224). -/
def State.loopPrev (s : State) (i : Nat) : Nat :=
  if (s.loopOf i).first then widen (s.param .loopOutSafe i) else (s.loopOf i).uPrev

/-- A mode takes effect: it is committed; a transfer to MANUAL takes the last output, a transfer to AUTO starts bumpless. -/
def State.loopSetMode (i mode : Nat) (s : State) : State :=
  let old := s.loopMode i
  if old = mode then s
  else
    let x := s.loopOf i
    let man := if old = 1 ∧ mode = 2 ∧ s.param .loopManSrc i = 0 then [(Param.loopManValue, narrow (s.loopPrev i))] else []
    ((s.setLoop i { x with firstAuto := true }).setCommit i ((.loopMode, mode) :: man)).post .control .eLoopMode (loopRes i) (i * 65536 + mode)

/-- A request for a mode cannot be met: AUTO with a bad measurement, or without one (R228). -/
def State.loopModeBad (s : State) (i mode : Nat) : Bool :=
  mode == 1 && (srcKind (s.param .loopPvSrc i) == 0 || (s.loopPv i).2.2)

/-- The record's mode request at the latch (R223, R227): acted on once per sequence, echoed in `ACKSEQ`. -/
def State.loopRequest (i : Nat) (s : State) : State :=
  let x := s.loopOf i
  let seq := leNat (slice x.cmd 12 2)
  let mode := leNat (slice x.cmd 14 1)
  if seq = x.ackSeq then s
  else
    let s := s.setLoop i { x with ackSeq := seq, refused := false }
    if mode = 0 then s
    else if 3 < mode ∨ s.param .loopModeLock i = 1 ∨ s.loopModeBad i mode then
      (s.setLoop i { s.loopOf i with refused := true }).post .control .eLoopRefused (loopRes i) (i * 65536 + Status.sState.code)
    else s.loopSetMode i mode

/-- A bad measurement in AUTO switches the loop to MANUAL before the computation (R221): the manual value of this sample. -/
def State.loopPvBad (i : Nat) (s : State) : State :=
  let x := s.loopOf i
  let v := if s.param .loopPvFail i = 1 then s.param .loopOutSafe i else narrow (s.loopPrev i)
  let man := if s.param .loopManSrc i = 0 then [(Param.loopManValue, v)] else []
  let s := ((s.setLoop i { x with firstAuto := true }).setCommit i ((.loopMode, 2) :: man)).post .control .eLoopPvBad (loopRes i) i
  s.post .control .eLoopMode (loopRes i) (i * 65536 + 2)

/-! ## A sample (R216, R217) -/

/-- The instant of the loop's time base, in ns. -/
def State.loopClock (s : State) (i : Nat) : Int :=
  if s.paired then (if s.param .releaseBase 0 = 1 ∧ s.baseSynced 1 then s.baseNow 1 else s.pairTimer)
  else if s.param .loopTimeBase i = 1 then s.baseNow 1 else s.tb0

/-- Loop `i` samples now: enabled, running, at its grid, not before the realigned instant (R214). -/
def State.loopDue (s : State) (i : Nat) : Bool :=
  s.up && s.power.restoreDone && s.param .loopEn i == 1 && decide ((s.loopOf i).notBefore ≤ s.tb0)
    && onGrid (s.loopClock i) (s.param .loopPhase i * 10000) (s.param .loopTs i * 10000)
    && (match (s.loopOf i).lastSample with | some a => decide (a + 40 < s.tb0) | none => true)
    && (!s.paired || s.pair.st == .active || s.pair.st == .standby || s.pair.st == .unlinked || s.pair.st == .isolated)

/-- The loop's output reaches its destination (R220). -/
def State.loopCommit (i : Nat) (s : State) : State :=
  let x := s.loopOf i
  let d := s.param .loopOutDest i
  if ¬ x.driven then s
  else match srcKind d with
  | 1 => s.setAc (srcIndex d) { s.acOf (srcIndex d) with target := some (true, x.out) }
  | 5 => s.setAx (srcIndex d) { s.axOf (srcIndex d) with loopTgt := some x.out }
  | _ => s

/-- A sample: latch with the record's request, the switch to MANUAL on a bad measurement, the law, the commit; a commit
`lat` ns after the sample instant is late beyond `TS`. -/
def State.loopSampleAt (i lat : Nat) (s : State) : State :=
  let s := s.loopRequest i
  let (pv0, pvReal0, pvBad0) := s.loopPv i
  let (sp0, _, spBad0) := s.loopSp i
  let standby := s.pair.st == .standby
  let x := s.loopOf i
  let (pv, pvReal, pvBad, sp, spBad) := match x.peer with
    | some (p, q) => if standby then (p, narrow p, !(g64.isFinite p), q, false) else (pv0, pvReal0, pvBad0, sp0, spBad0)
    | none => (pv0, pvReal0, pvBad0, sp0, spBad0)
  let auto := s.loopMode i == 1 && !x.memFault
  let failed := auto && (pvBad || srcKind (s.param .loopPvSrc i) == 0)
  let s := if failed then s.loopPvBad i else s
  let x := s.loopOf i
  let (held, s) : Option Nat × State := if ¬ spBad then (none, s) else match x.spGood with
    | some g => (some g, s)
    | none => (some s.drawn.toNat, s.afterDraw)
  let man := if failed then (if s.param .loopPvFail i = 1 then widen (s.param .loopOutSafe i) else s.loopPrev i)
    else if s.param .loopManSrc i = 0 then widen (s.param .loopManValue i) else widen (leNat (slice x.cmd 4 4))
  let latch : LoopLatch := {
    pv := pv, pvReal := pvReal, spSource := sp, spHeld := held, man := man, extHold := s.loopExtHold i,
    flags := 16 * b2n pvBad + 32 * b2n spBad, driving := s.loopDrives i }
  let mode := if x.memFault then 3 else s.loopMode i
  let s := if s.pair.st = .active ∧ s.pair.link then s.send (.loopState i pv sp) else s
  let y := loopSample (s.loopSet i) mode latch { x with peer := none }
  let y : LoopRun := { y with
    out := narrow y.out, sampleT := wrapInt 64 (s.loopClock i), lastSample := some s.tb0, longest := max y.longest lat }
  let ts := s.param .loopTs i * 10000
  ((s.setLoop i y).loopCommit i).postIf (decide (ts < lat)) .control .eLoopLate (loopRes i) (lat - ts)

/-- The uncorrectable error of a loop's partition (R228). -/
def State.loopMemory (i : Nat) (s : State) : State :=
  let x := s.loopOf i
  if x.memFault then s
  else
    let s := s.loopSetMode i 3
    ((s.setLoop i { s.loopOf i with memFault := true, out := s.param .loopOutSafe i }).loopCommit i).post .control .fLoopMemory (loopRes i) i

/-! ## Commands (R229) -/

/-- The target loop. -/
def loopTarget : State → Cmd → Bool := targetBelow 0x07 512

/-- An enabled loop applies its postings between two samples. -/
def State.loopRuns (s : State) (c : Cmd) : Bool := s.param .loopEn c.tgtIndex == 1

/-- The settings of a `LOOP.CONFIGURE`. -/
def loopSettings (c : Cmd) : List (Param × Nat) :=
  if c.expert then
    let f := c.blk 3 1
    [(.loopEn, c.blk 0 1), (.loopAction, c.blk 1 1), (.loopModeLock, c.blk 2 1), (.loopSpTrack, f % 2), (.loopManSrc, f / 2 % 2),
     (.loopPvFail, f / 4 % 2), (.loopTs, c.blk 4 4), (.loopPhase, c.blk 8 4), (.loopTimeBase, c.blk 12 1), (.loopPvSrc, c.blk 16 4),
     (.loopSpSrc, c.blk 20 4), (.loopOutDest, c.blk 24 4), (.loopKp, c.blk 28 4), (.loopKi, c.blk 32 4), (.loopKd, c.blk 36 4),
     (.loopN, c.blk 40 4), (.loopSpConst, c.blk 44 4), (.loopSpLo, c.blk 48 4), (.loopSpHi, c.blk 52 4), (.loopSpRate, c.blk 56 4),
     (.loopOutLo, c.blk 60 4), (.loopOutHi, c.blk 64 4), (.loopOutRate, c.blk 68 4), (.loopOutSafe, c.blk 72 4), (.loopManValue, c.blk 76 4)]
  else
    [(.loopEn, c.field 16 1), (.loopTs, c.field 20 4), (.loopPvSrc, c.field 24 4), (.loopSpSrc, c.field 28 4), (.loopOutDest, c.field 32 4)]

/-- The parameters that change only while the loop is open (R225). -/
def loopOpenParams : List Param :=
  [.loopAction, .loopKp, .loopKi, .loopKd, .loopN, .loopTs, .loopPhase, .loopTimeBase, .loopPvSrc, .loopSpSrc, .loopOutDest, .loopEn]

/-- A setting changes an open parameter of a loop in AUTO. -/
def State.loopClosed (s : State) (i : Nat) (l : List (Param × Nat)) : Bool :=
  s.loopMode i == 1 && loopOpenParams.any (fun p => newValue s i l p != s.param p i)

/-- A source word is one of R220 for its field: 0 `PV_SRC`, 1 `SP_SRC`, 2 `OUT_DEST`. -/
def State.loopSrcOk (s : State) (field v : Nat) : Bool :=
  let k := srcIndex v
  srcReserved v && (match srcKind v with
    | 0 => true
    | 1 => decide (k < 32) && (match field with
        | 0 => s.acMode k != 2
        | 1 => !acIsAo (s.acMode k)
        | _ => acIsAo (s.acMode k))
    | 2 => field != 2 && decide (k < 4)
    | 3 => field != 2 && decide (k < 4)
    | 4 => field != 2
    | 5 => field != 1 && decide (k < 4)
    | _ => false)

/-- REAL order. -/
def realLe (a b : Nat) : Bool := f32.le a b

/-- The range of one REAL parameter of a loop (R226): every one is finite. -/
def loopReal (p : Param) (v : Nat) : Bool :=
  match p with
  | .loopKp | .loopKi | .loopKd => realIn (Q.ofInt 0) (Q.ofInt 10000) v
  | .loopN => f32.isFinite v && (realQ 0x3DCCCCCD).le (realQ v) && (realQ v).le (Q.ofInt 100000)
  | .loopSpRate | .loopOutRate => realNonNeg v
  | .loopSpConst | .loopSpLo | .loopSpHi | .loopOutLo | .loopOutHi | .loopOutSafe | .loopManValue => f32.isFinite v
  | _ => true

/-- The values that a command carries are in range, each by itself (04 R105 check 7). -/
def loopValuesOk (l : List (Param × Nat)) : Bool := l.all (fun x => x.1.inRange x.2 && loopReal x.1 x.2)

/-- The loop's parameters are in range with these settings (R226): the values carried, how they stand to those in force, and the
sources that the command carries. -/
def State.loopInRange (s : State) (i : Nat) (l : List (Param × Nat)) : Bool :=
  let v := newValue s i l
  let named := fun (p : Param) => l.any (fun x => x.1 == p)
  loopValuesOk l
    && realLe (v .loopSpLo) (v .loopSpHi) && f32.lt (v .loopOutLo) (v .loopOutHi)
    && realLe (v .loopOutLo) (v .loopOutSafe) && realLe (v .loopOutSafe) (v .loopOutHi) && decide (v .loopPhase < v .loopTs)
    && (!(named .loopPvSrc) || s.loopSrcOk 0 (v .loopPvSrc)) && (!(named .loopSpSrc) || s.loopSrcOk 1 (v .loopSpSrc))
    && (!(named .loopOutDest) || s.loopSrcOk 2 (v .loopOutDest))

/-- The destination is owned by a task or another loop (01 R15). -/
def State.loopConflict (s : State) (i en dest : Nat) : Bool :=
  let k := srcIndex dest
  en == 1 && (match srcKind dest with
    | 1 => s.outMaps (MapEntry.names 0x04 k) || s.someLoop (fun j => j != i && s.param .loopOutDest j == dest)
    | 5 => (s.axTask k).isSome || s.someLoop (fun j => j != i && s.param .loopOutDest j == dest)
    | _ => false)

/-- The destination loses its loop: an analogue output goes safe, an axis stops (12 R334). -/
def State.loopReleases (i dest : Nat) (s : State) : State :=
  let k := srcIndex dest
  let s := s.setLoop i { s.loopOf i with driven := false }
  match srcKind dest with
  | 1 => s.setAc k { s.acOf k with target := none }
  | 5 => (s.setAx k { s.axOf k with loopTgt := none, lastLoop := none }).axOwnerLost k
  | _ => s

/-- The conditions of settings at the boundary: parameter values before the loop's own conditions (04 R105 checks 7 and 8). -/
def loopCheck (set : Cmd → List (Param × Nat)) (s : State) (c : Cmd) : Status :=
  let i := c.tgtIndex
  let l := set c
  let v := newValue s i l
  let moves := v .loopEn != s.param .loopEn i || v .loopTs != s.param .loopTs i
  firstOf
    [whenS (!(s.loopInRange i l)) .sBadParam,
     whenS (s.loopClosed i l) .sLoopClosed,
     whenS (s.loopConflict i (v .loopEn) (v .loopOutDest)) .sOwnerConflict,
     whenS (moves && !((s.loopLoad i (v .loopEn) (v .loopTs)).le (Q.ofInt 8000000))) .sLoopCapacity]

/-- Settings take effect; an enabled loop starts from the beginning, a disabled one gives up its destination. -/
def loopApply (set : Cmd → List (Param × Nat)) (e : Entry) (s : State) : Reply :=
  let i := e.cmd.tgtIndex
  let l := set e.cmd
  let v := newValue s i l
  let was := s.param .loopEn i
  let dest := s.param .loopOutDest i
  let s := if was = 1 ∧ (v .loopEn = 0 ∨ v .loopOutDest ≠ dest) then s.loopReleases i dest else s
  let x := s.loopOf i
  let s := if was = 0 ∧ v .loopEn = 1 then
      s.setLoop i { cmd := x.cmd, ackSeq := x.ackSeq, refused := x.refused, memFault := x.memFault, longest := x.longest } else s
  .ok (s.setCommit i l)

/-- A refusal at the boundary is recorded (R230). -/
def loopGuarded (chk : State → Cmd → Status) (f : Entry → State → Reply) (e : Entry) (s : State) : Reply :=
  let st := chk s e.cmd
  if st = .sOk then f e s
  else .later ((s.complete e st 0 []).post .control .eLoopRefused (loopRes e.cmd.tgtIndex) (e.cmd.tgtIndex * 65536 + st.code))

/-- `LOOP.CONFIGURE`. -/
def specLoopConfigure : CmdSpec where
  op := 0x0700
  layout := fun c => if c.expert then { ranges := [(16, 3), (20, 9), (32, 32)], masks := [(19, 7)] } else { ranges := [(16, 1), (20, 16)] }
  form := fun _ c => (!c.expert || (c.indirect && c.blockLen == 80)) && sourcesClean (loopSettings c)
  target := loopTarget
  owner := fun _ c => some (loopOwner c.tgtIndex)
  running := State.loopRuns
  params := fun _ c => loopValuesOk (loopSettings c)
  run := loopGuarded (loopCheck loopSettings) (loopApply loopSettings)

/-- The settings of a `LOOP.SET_COEFF`. -/
def coeffSettings (c : Cmd) : List (Param × Nat) :=
  [(.loopKp, c.field 16 4), (.loopKi, c.field 20 4), (.loopKd, c.field 24 4)]
    ++ (if c.expert then [(.loopN, c.field 28 4), (.loopAction, c.field 32 1)] else [])

/-- `LOOP.SET_COEFF`. -/
def specLoopSetCoeff : CmdSpec where
  op := 0x0701
  layout := fun c => if c.expert then { ranges := [(16, 17)] } else { ranges := [(16, 12)] }
  target := loopTarget
  owner := fun _ c => some (loopOwner c.tgtIndex)
  running := State.loopRuns
  params := fun _ c => loopValuesOk (coeffSettings c)
  run := loopGuarded (loopCheck coeffSettings) (loopApply coeffSettings)

/-- `LOOP.SET_MODE`. -/
def specLoopSetMode : CmdSpec where
  op := 0x0702
  layout := fun _ => { ranges := [(16, 1)] }
  target := loopTarget
  params := fun _ c => decide (1 ≤ c.field 16 1 ∧ c.field 16 1 ≤ 3)
  owner := fun _ c => some (loopOwner c.tgtIndex)
  running := State.loopRuns
  run := loopGuarded (fun s c => whenS (s.param .loopModeLock c.tgtIndex == 2 || s.loopModeBad c.tgtIndex (c.field 16 1)) .sState)
    (fun e s => .ok (s.loopSetMode e.cmd.tgtIndex (e.cmd.field 16 1)))

/-- The settings of a `LOOP.SET_SP`. -/
def spSettings (c : Cmd) : List (Param × Nat) :=
  (.loopSpConst, c.field 16 4) :: (if c.expert then
    [(.loopSpLo, c.field 20 4), (.loopSpHi, c.field 24 4), (.loopSpRate, c.field 28 4), (.loopSpTrack, c.field 32 1)] else [])

/-- `LOOP.SET_SP`. -/
def specLoopSetSp : CmdSpec where
  op := 0x0703
  layout := fun c => if c.expert then { ranges := [(16, 17)] } else { ranges := [(16, 4)] }
  target := loopTarget
  owner := fun _ c => some (loopOwner c.tgtIndex)
  running := State.loopRuns
  params := fun _ c => loopValuesOk (spSettings c)
  run := loopGuarded (loopCheck spSettings) (loopApply spSettings)

/-- `LOOP.SET_MANUAL`. -/
def specLoopSetManual : CmdSpec where
  op := 0x0704
  layout := fun _ => { ranges := [(16, 4)] }
  target := loopTarget
  params := fun _ c => f32.isFinite (c.field 16 4)
  owner := fun _ c => some (loopOwner c.tgtIndex)
  running := State.loopRuns
  run := loopGuarded (fun s c => whenS (s.param .loopManSrc c.tgtIndex == 1) .sState)
    (fun e s => .ok (s.setCommit e.cmd.tgtIndex [(.loopManValue, e.cmd.field 16 4)]))

/-- The settings of a `LOOP.SET_LIMITS`. -/
def limitSettings (c : Cmd) : List (Param × Nat) :=
  [(.loopOutLo, c.field 16 4), (.loopOutHi, c.field 20 4)] ++ (if c.expert then
    [(.loopOutRate, c.field 24 4), (.loopOutSafe, c.field 28 4), (.loopPvFail, c.field 32 1), (.loopModeLock, c.field 33 1),
     (.loopManSrc, c.field 34 1)] else [])

/-- `LOOP.SET_LIMITS`. -/
def specLoopSetLimits : CmdSpec where
  op := 0x0705
  layout := fun c => if c.expert then { ranges := [(16, 19)] } else { ranges := [(16, 8)] }
  target := loopTarget
  owner := fun _ c => some (loopOwner c.tgtIndex)
  running := State.loopRuns
  params := fun _ c => loopValuesOk (limitSettings c)
  run := loopGuarded (loopCheck limitSettings) (loopApply limitSettings)

/-- `LOOP.STATUS` (R563). -/
def specLoopStatus : CmdSpec where
  op := 0x0706
  target := loopTarget
  long := fun _ => true
  run := fun e s =>
    let i := e.cmd.tgtIndex
    let x := s.loopOf i
    .long (s.loopStat i ++ leBytes 8 x.p ++ leBytes 8 x.i ++ leBytes 8 x.d
      ++ (if e.cmd.expert then leBytes 8 (s.loopLoad 512 0 1).toLreal ++ leBytes 8 x.longest else [])) s

/-- The commands of class 0x07. -/
def specLoop : List CmdSpec :=
  [specLoopConfigure, specLoopSetCoeff, specLoopSetMode, specLoopSetSp, specLoopSetManual, specLoopSetLimits, specLoopStatus]

/-- LOOP_CONFIGURE (R229). -/
def execLoopConfigure (t : Nat) (c : Cmd) (s : State) : Host.Outcome State Fault Refusal := .next (specLoopConfigure.submit c (s.advance t))
/-- LOOP_SET_COEFF (R229). -/
def execLoopSetCoeff (t : Nat) (c : Cmd) (s : State) : Host.Outcome State Fault Refusal := .next (specLoopSetCoeff.submit c (s.advance t))
/-- LOOP_SET_MODE (R223). -/
def execLoopSetMode (t : Nat) (c : Cmd) (s : State) : Host.Outcome State Fault Refusal := .next (specLoopSetMode.submit c (s.advance t))
/-- LOOP_SET_SP (R229). -/
def execLoopSetSp (t : Nat) (c : Cmd) (s : State) : Host.Outcome State Fault Refusal := .next (specLoopSetSp.submit c (s.advance t))
/-- LOOP_SET_MANUAL (R229). -/
def execLoopSetManual (t : Nat) (c : Cmd) (s : State) : Host.Outcome State Fault Refusal := .next (specLoopSetManual.submit c (s.advance t))
/-- LOOP_SET_LIMITS (R229). -/
def execLoopSetLimits (t : Nat) (c : Cmd) (s : State) : Host.Outcome State Fault Refusal := .next (specLoopSetLimits.submit c (s.advance t))
/-- LOOP_STATUS (R563). -/
def execLoopStatus (t : Nat) (c : Cmd) (s : State) : Host.Outcome State Fault Refusal := .next (specLoopStatus.submit c (s.advance t))

end Sys2Proof.Machine
end

