-- ==== Sys2Proof/Machine/Pair.lean ====
section
/-! DEFINITION. The states of a pair member, takeover and handover (13 R342 to R345, R351, R360 to R368, R371). -/

namespace Sys2Proof.Machine

/-- The pair as event source. -/
def pairRes : Res := { cls := 0x09, index := 0 }

/-- The network cycle in ns. -/
def State.tNet (s : State) : Nat := s.param .netCycle 0 * 1000

/-- The module is the designated primary (R343). -/
def State.isPrimary (s : State) : Bool := s.param .pairSide 0 == s.param .desigPrimary 0

/-- A partner in STANDBY on a working link. -/
def State.hasStandby (s : State) : Bool := s.pair.link && (match s.pair.peer with | some p => p.st == 4 | none => false)

/-- A cycle ends without commit: its bank and its kept-back writes are dropped. -/
def Task.dropped (x : Task) : Task :=
  { x with executing := false, awaiting := false, writes := [], place := [], wasCommitted := false }

/-- The cycles in execution end without commit. -/
def State.dropCycles (s : State) : State :=
  s.each (fun i s => if (s.taskOf i).executing then s.setTask i (s.taskOf i).dropped else s) (List.range 16)

/-- No axis waits for the partner's bridges, nor keeps its own off for the partner (R363). -/
def State.axesFree (s : State) : State := s.each (fun n s => s.setAx n { s.axOf n with handover := false }) (List.range 4)

/-- A pair member changes its state; a state that does not execute tasks ends the cycles in execution. -/
def State.pairState (st : PairState) (s : State) : State :=
  let s := s.axesFree
  let s : State := { s with pair := { s.pair with st := st } }
  match st with
  | .active => s | .standby => s | .unlinked => s | .isolated => s | .unpaired => s
  | _ => s.dropCycles

/-- Every task's signature starts afresh: the first cycle after a join (16 R453). -/
def State.sigFresh (s : State) : State :=
  { s with tasks := Tab.mapVals (fun _ => {}) (fun x => { x with sigBase := 0xFFFFFFFF }) s.tasks }

/-- A named switchover is given up: its command ends with S_STATE (R372). -/
def State.switchOff (s : State) : State :=
  let e := s.pair.switch
  let s : State := { s with pair := { s.pair with switch := none, next := 0 } }
  match e with
  | some (some e, _, _) => s.complete e .sState 0 []
  | _ => s

/-- Resynchronisation begins at its first stage (R367). -/
def State.enterSync (s : State) : State :=
  let s := (s.switchOff.pairState .syncing).sigFresh
  let s : State := { s with prog := { s.prog with retained := [], requests := [] } }
  { s with pair := { s.pair with stage := 1, syncAt := s.tb0, slow := false, bulk := 0, dirty := 0, mismatch := none } }

/-- ACTIVE with no partner state to continue: the pair timer starts at 0 under a new, committed epoch (R351). -/
def State.activeAfresh (s : State) : State :=
  let n := (s.cfg.pairEpoch + 1) % 2 ^ 32
  let s := s.pairState .active
  ({ s with cfg := { s.cfg with pairEpoch := n },
            pair := { s.pair with epoch := n, timerOff := -(s.tb0 : Int), takeover := 0 } } : State).commitConfig

/-- Every task's last committed output image goes to the outputs (R361). -/
def State.forwardAll (s : State) : State :=
  s.each (fun i s => if (s.taskOf i).forwarded && !(s.taskOf i).safeOut then s.distribute i else s) (List.range 16)

/-- The bridges may energise after a takeover: under the hysteresis chopper, with the bridge test (R363; 12 R326, R332). -/
def State.axDrives (n : Nat) (s : State) : State :=
  let x := s.axOf n
  s.setAx n { x with handover := false, monitor := false, hyst := x.energised, hystTill := s.tb0 + 100000000, testAt := if x.energised then some s.tb0 else x.testAt }

/-- The partner's bridges of an axis are off (R363): this module's energise. -/
def State.axisOff (n : Nat) (s : State) : State :=
  if n < 4 ∧ s.pair.st = .active ∧ (s.axOf n).handover then s.axDrives n else s

/-- An axis at a takeover (R363): its generator holds the set-point until the driver has started. In a coordinated one the
bridges energise once the partner has confirmed that its own are off. In an uncoordinated one they energise at once, and an
axis that moved fast loses its reference without feedback from an analogue channel. -/
def State.axTakeover (coordinated : Bool) (n : Nat) (s : State) : State :=
  let x := s.axOf n
  let s := if !coordinated && x.fast && !(s.axAbsolute n) then s.axUnref n 5 else s
  let s := s.setAx n { s.axOf n with paused := some s.tb0 }
  if coordinated then s.setAx n { s.axOf n with handover := true } else s.axDrives n

/-- A cause of R360 is a coordinated one: the link works. -/
def State.coordinated (s : State) (cause : Nat) : Bool := cause != 2 && cause != 7 && s.pair.link

/-- Takeover (R361): the role, E_PAIR_TAKEOVER, the committed images to the field, the axes; in a coordinated one the
confirmation to the old ACTIVE partner (R362). -/
def State.takeOver (cause : Nat) (s : State) : State :=
  let co := s.coordinated cause
  let s := s.pairState .active
  let s : State := { s with pair := { s.pair with
    takeover := s.pairTimer, lastCause := cause, lastAt := s.tb0, hears := false, mismatch := none, switch := none, next := 0 } }
  let s := s.post .data .ePairTakeover pairRes cause
  let s := s.each (State.axTakeover co) (List.range 4)
  let s := s.forwardAll
  if co then s.send (.hedgerow 4 []) else s

/-- The role is handed over in a coordinated way: the partner is named the instant and the cause; this module drives on
until the partner confirms (R362, R369, R371). -/
def State.handOver (e : Option Entry) (due cause : Nat) (s : State) : State :=
  ({ s with pair := { s.pair with switch := some (e, due, cause) } } : State).send (.hedgerow 3 [due, cause])

/-- A mismatch leaves this module out of the role: an ACTIVE one drives on until the partner, which takes over with cause 3, confirms;
any other, or one whose link is down, becomes it now: 1 SYNCING, 2 DROPPED (R362, R366). -/
def State.yield (next : Nat) (s : State) : State :=
  if s.pair.st = .active ∧ s.pair.link then
    (let s := s.switchOff; { s with pair := { s.pair with switch := some (none, s.pairTimer.toNat, 3), next := next } })
  else if next = 1 then s.enterSync else s.switchOff.pairState .dropped

/-- The partner confirms that it drives: this module enters monitor mode as STANDBY, still in step (R369, step 5); where the
partner took over with an upgraded image, its own activation is due now (R370; 19 R500). -/
def State.confirmed (s : State) : State :=
  if s.pair.st ≠ .active then s
  else
    let e := s.pair.switch
    let leave := match e with | some (some e, _, _) => e.op == 0x0904 | _ => (s.cuRoleUnit 0).isNone
    let next := s.pair.next
    let s : State := { s with pair := { s.pair with switch := none, next := 0 } }
    let s := if next = 1 then s.enterSync else s.pairState (if leave || next == 2 then .dropped else .standby)
    match e with
    | some (some e, _, _) => s.complete e .sOk 0 []
    | some (none, _, cause) => if cause = 5 ∧ s.bootRec.state = 1 then s.setBoot { s.bootRec with immediate := true } else s
    | none => s

/-- A core pair of an ACTIVE module retires while the partner is STANDBY: the role is handed over with cause 6 (R371). -/
def State.coreHandOver (n : Nat) (passing : Option Nat) (s : State) : State :=
  let s : State := { s with pair := { s.pair with late := s.pair.late ++ [(n, passing)] } }
  if s.pair.switch.isSome then s else s.handOver none s.pairTimer.toNat 6

/-! ## Finding and losing the partner (R342, R345, R350, R364, R365) -/

/-- The failing condition of R342 against a partner. -/
def State.compatFault (s : State) (p : PeerInfo) : Option Nat :=
  if p.station ≠ s.net.station then some 1
  else if p.side = s.param .pairSide 0 then some 2
  else if p.primary ≠ s.param .desigPrimary 0 then some 3
  else if p.compat ≠ s.pair.compat then some 4
  else if p.lib ≠ s.libVersion then some 5
  else none

/-- The module cannot pair: INCOMPATIBLE, its outputs in monitor mode. -/
def State.incompatible (n : Nat) (s : State) : State :=
  (s.pairState .incompatible).post .data .fPairIncompatible pairRes n

/-- A SEARCHING module finds its partner (R345). -/
def State.searchFinds (p : PeerInfo) (s : State) : State :=
  let join := fun (s : State) => let s := s.enterSync; if s.param .autoJoin 0 = 1 then s else { s with pair := { s.pair with stage := 0 } }
  match p.st with
  | 2 => join s
  | 1 => if s.isPrimary then s.activeAfresh else join s
  | 4 | 5 | 6 | 7 =>
    let s := s.pairState .active
    { s with pair := { s.pair with epoch := p.epoch, takeover := s.pairTimer } }
  | _ => s

/-- No partner within 500 ms: ACTIVE alone. -/
def State.searchTimeout (s : State) : State :=
  if s.pair.st = .searching ∧ s.pair.searchAt + 500000000 ≤ s.tb0 then s.activeAfresh else s

/-- The partner is heard on some path; one of the same side is recorded as soon as it is heard (R342). -/
def State.hear (p : PeerInfo) (s : State) : State :=
  let first := match s.pair.peer with | some q => q.side != s.param .pairSide 0 | none => true
  let twin := first && p.side == s.param .pairSide 0 && s.pair.st != .searching
  let s := s.postIf twin .data .fPairIncompatible pairRes 2
  let joins := p.st == 4 && (match s.pair.peer with | some q => q.st != 4 | none => true)
  let s := if joins then s.sigFresh else s
  { s with pair := { s.pair with peer := some p, heardAt := s.tb0 } }

/-- Lanes in use. -/
def State.lanes (s : State) : Nat := 2 - s.pair.lanesOut.length

/-- Both partners are found ACTIVE on the link: the one that is not the designated primary releases and resynchronises
(R365). -/
def State.dualLink (s : State) : State :=
  if s.isPrimary then s
  else
    let d := match s.pair.dualAt with | some a => s.tb0 - a | none => 0
    (({ s with pair := { s.pair with dualAt := none } } : State).post .data .fPairDualActive pairRes (d / 1000)).enterSync

/-- A valid link frame arrives; with the first one the link is up. -/
def State.linkFrame (s : State) : State :=
  let up := !s.pair.link
  let s : State := { s with pair := { s.pair with link := true, linkAt := s.tb0, heardAt := s.tb0, lost := false } }
  s.postIf up .data .ePairLinkUp pairRes s.lanes

/-- A HEARTBEAT (R349): the partner's role and state. -/
def State.heartbeat (p : PeerInfo) (s : State) : State :=
  if ¬ s.paired then s
  else
    let s := (s.linkFrame).hear p
    match s.pair.st with
    | .searching =>
      (match s.compatFault p with
       | some n => s.incompatible n
       | none => s.searchFinds p)
    | .unlinked => if s.param .autoJoin 0 = 1 ∧ p.st = 2 then s.enterSync else s
    | .isolated => if s.param .autoJoin 0 = 1 ∧ p.st = 2 then s.enterSync else s
    | .active => if p.st = 2 then s.dualLink else s
    | _ => s

/-- The link is lost (R350, R364, R372): a STANDBY is UNLINKED, a joiner too, and a named switchover is abandoned. -/
def State.linkLost (s : State) : State :=
  if ¬ s.pair.link ∨ s.tb0 < s.pair.linkAt + 50000 then s
  else
    let role := s.pair.st.role
    let next := s.pair.next
    let s : State := { s.switchOff with pair := { s.switchOff.pair with link := false, lost := true, hears := false } }
    let s := (s.post .data .ePairLinkLost pairRes role).each (fun n s => if (s.axOf n).handover && s.fieldActive then s.axDrives n else s) (List.range 4)
    let s := if next = 0 then s else s.yield next
    match s.pair.st with
    | .standby => s.pairState .unlinked
    | .syncing => ({ s with pair := { s.pair with stage := 0 } } : State).pairState .unlinked
    | _ => s

/-- A pair presence frame of the partner arrives on a port (R345, R360, R364). -/
def State.presenceFrame (port : Nat) (p : PeerInfo) (s : State) : State :=
  if ¬ s.paired then s
  else
    let s := s.hear p
    match s.pair.st with
    | .searching =>
      (match s.compatFault p with
       | some n => s.incompatible n
       | none => s.searchFinds p)
    | .unlinked =>
      if p.st = 6 then s.takeOver 7
      else if s.pair.hears then s
      else ({ s with pair := { s.pair with hears := true } } : State).post .data .ePairSplitAvoided pairRes port
    | .standby => if p.st = 6 then s.takeOver 7 else s
    | .active =>
      if p.st = 2 ∧ s.pair.takeover < p.takeover then
        let d := match s.pair.dualAt with | some a => s.tb0 - a | none => 0
        (({ s with pair := { s.pair with dualAt := none, hears := true } } : State).post .data .fPairDualActive pairRes (d / 1000)).switchOff.pairState .unlinked
      else if p.st = 2 ∧ s.pair.dualAt.isNone then { s with pair := { s.pair with dualAt := some s.tb0 } }
      else s
    | _ => s

/-- No frame of the ACTIVE partner on any path for 3 network cycles: takeover, cause 2 (R360). -/
def State.partnerSilent (s : State) : State :=
  if (s.pair.st = .unlinked ∨ s.pair.st = .standby) ∧ s.pair.heardAt + 3 * s.tNet ≤ s.tb0 then s.takeOver 2 else s

/-- An ACTIVE module that has lost the link hears no station for 3 network cycles: ISOLATED (R364). -/
def State.stationIsolated (s : State) : State :=
  let heard := max (s.port 0).heard (s.port 1).heard
  if s.pair.st = .active ∧ s.pair.lost ∧ ¬ s.pair.link ∧ heard + 3 * s.tNet ≤ s.tb0 ∧ s.pair.linkAt + 3 * s.tNet ≤ s.tb0 then
    (s.switchOff.pairState .isolated).post .data .fPairIsolated pairRes 0
  else s

/-! ## Pair silence timeouts (R348) -/

/-- The pair silence timeout of outputs other than axes. -/
def State.pairSilence (s : State) : Nat := 3 * s.tNet + 400000

/-- The isolated side of an output enters monitor mode on its own. -/
def State.outputSilent (cls n : Nat) (s : State) : State :=
  if ¬ s.paired then s
  else if cls = 0x04 then
    let c := s.acOf n
    if acIsAo (s.acMode n) && !c.monitor && decide (c.lastFrame + s.pairSilence ≤ s.tb0) then
      (s.setAc n { c with monitor := true, safe := true, iCmd := 0, silent := some s.tb0 }).acStage n else s
  else if cls = 0x05 then
    let c := s.dcOf n
    if dcIsDo (s.dcMode n) && !c.monitor && decide (c.lastFrame + s.pairSilence ≤ s.tb0) then
      (s.setDc n { c with monitor := true, safe := true, cmd := false, silent := some s.tb0 }).dcFollow n else s
  else if cls = 0x06 then
    let x := s.soOf n
    if !x.monitor && decide (x.lastFrame + s.pairSilence ≤ s.tb0) then
      (s.setSo n { x with monitor := true, silent := true }).soSwitches n else s
  else if cls = 0x08 then
    let x := s.axOf n
    if !x.monitor && decide (x.lastFrame + 200000 ≤ s.tb0) then
      let s := if x.fast then s.axUnref n 5 else s
      s.setAx n { s.axOf n with monitor := true, silent := some s.tb0, drvCur := 0 }
    else s
  else s

end Sys2Proof.Machine
end

