-- ==== Sys2Proof/Machine/ProgCheck.lean ====
section
/-! DEFINITION. The checks of a program at load, checks 1 to 11 of 06 R168, over the program that a state's configuration
holds, and the restrictions of safety tasks (06 R167). Each check gives the first offending entry index. -/

namespace Sys2Proof.Machine

/-- The block table of a configuration. -/
def State.table (s : State) : Tab Byte := s.cfg.prog.table

/-- The initial contents, whose region K holds the constants. -/
def State.consts (s : State) : Tab Byte := s.cfg.prog.init

/-- The used ranges that task `i` executes, in list order; a task without a kind has none. -/
def State.rangesOf (s : State) (i : Nat) : List (Nat × Nat) :=
  if s.taskExists i then (s.taskProg i).ranges.filter (fun r => r.2 != 0) else []

/-- The entries that task `i` reaches, with their frame bases and depths. -/
def State.taskReach (s : State) (i : Nat) : List Reach :=
  (s.rangesOf i).flatMap (fun r => reachRange s.table s.consts 9 r.1 r.2 0)

/-- The ranges of task `i` and the callees they reach, as first entry and count. -/
def State.taskNets (s : State) (i : Nat) : List (Nat × Nat) :=
  ((s.rangesOf i) ++ (s.taskReach i).filterMap (fun r => calleeOf s.consts (Head.read s.table r.idx))).eraseDups

/-- A continuation entry. -/
def isCont (h : Head) : Bool := h.bcode == 0x00FF

/-! ## Check 1: codes and continuations (R160, R162) -/

/-- `n` continuation entries with positions 1 to `n` follow the head, inside the network that ends before `last`. -/
def contsFollow (table : Tab Byte) (i last n : Nat) : Bool :=
  (List.range n).all (fun k =>
    decide (i + 1 + k < last) && isCont (Head.read table (i + 1 + k)) && leNat (slice (entryBytes table (i + 1 + k)) 3 1) == k + 1)

/-- The counts of a block with a variable number of operands place each in a slot, none in the slot of the ENO destination; an
operand of a fixed list without a slot is an operand left out. -/
def slotsHold (h : Head) (g : Sig) : Bool :=
  let free := 9 * h.ncont - b2n h.hasEno
  (!h.hasEno || decide (0 < h.ncont))
    && (h.contIns == 0 || g.rep.isNone || h.headIns == 4)
    && ((g.rep.isNone && g.outRep.isNone) || decide ((h.nIn g - 4) + (h.nOut g - 2) ≤ free))

/-- One position of a network passes check 1. -/
def check1 (table : Tab Byte) (first count i : Nat) : Bool :=
  let h := Head.read table i
  let last := first + count
  if 16384 ≤ i then false
  else if isCont h then
    let p := leNat (slice (entryBytes table i) 3 1)
    let g := Head.read table (i - p)
    decide (1 ≤ p ∧ first + p ≤ i) && !(isCont g) && g.bcode != 0 && decide (p ≤ g.ncont)
  else if h.bcode = 0 then true
  else match sigOf h.bcode with
    | none => false
    | some g => contsFollow table i last h.ncont && slotsHold h g

/-! ## Checks 2 to 5: operands -/

/-- The operands of an entry with what the block expects: reference, argument, whether it is an output. -/
def Head.operands (h : Head) (g : Sig) : List (Ref × Arg × Bool) :=
  let n := h.nIn g
  (List.range n).map (fun k => (h.inSlot k, g.inArg k, false))
    ++ (List.range (h.nOut g)).map (fun j => (h.outSlot n j, g.outArg j, true))

/-- Types of the operands, generic operands of one type, records in their space, EN and ENO BOOL, no operand beyond those
the block takes (check 2). -/
def check2 (h : Head) (g : Sig) : Bool :=
  let ops := (h.operands g).filter (fun x => x.1.space != 0)
  let gen := (ops.filter (fun x => x.2.1.gen == 1)).map (fun x => x.1.ty)
  let n := h.nIn g
  ops.all (fun x => x.2.1.tys.contains x.1.ty && (x.2.1.space == 0 || x.2.1.space == x.1.space))
    && gen.all (fun t => t == gen.headD t)
    && (h.en.space == 0 || h.en.ty == 1) && (!h.hasEno || h.enoRef.ty == 1)
    && !(h.bcode == 0x0500 && (let x := (h.inSlot 0).ty; let y := (h.outSlot 1 0).ty; (x == 1 && y == 9) || (x == 9 && y == 1)))
    && (match g.rep with
      | some (_, _, most) => decide (n ≤ g.ins.length + most)
      | none => true)
    && (match g.outRep with
      | some (_, most) => decide (h.nOut g ≤ most)
      | none => true)
    && ((List.range 4).drop n).all (fun k => (getAt noRef h.ins k).space == 0)
    && ((List.range 2).drop (h.nOut g)).all (fun j => (getAt noRef h.outs j).space == 0)
    && ((List.range (9 * h.ncont)).drop ((n - 4) + (h.nOut g - 2))).all (fun k =>
        (getAt noRef h.cont k).space == 0 || (h.hasEno && k + 1 == 9 * h.ncont))

/-- Every reference of an entry. -/
def Head.refs (h : Head) (g : Sig) : List Ref := h.en :: h.enoRef :: (h.operands g).map (fun x => x.1)

/-- No output to I, K or S; no space 7 (check 3). -/
def check3 (h : Head) (g : Sig) : Bool :=
  (h.refs g).all (fun r => r.space != 7)
    && ((h.operands g).filter (fun x => x.2.2)).all (fun x => x.1.space == 0 || (decide (2 ≤ x.1.space) && decide (x.1.space ≤ 4)))
    && (!h.hasEno || h.enoRef.space == 0 || (decide (2 ≤ h.enoRef.space) && decide (h.enoRef.space ≤ 4)))

/-- Allocated bytes of S (05 R142, 06 R157). -/
def sAllocated (a : Nat) : Bool := decide (a < 0x22) || (decide (0x40 ≤ a) && decide (a < 0x48))

/-- A reference lies within its space for a task with these image sizes, under a frame base (check 4). -/
def refInside (inSize outSize base : Nat) (r : Ref) : Bool :=
  let stop := r.addr + r.bytes
  match r.space with
  | 0 => true
  | 1 => decide (stop ≤ inSize)
  | 2 => decide (stop ≤ outSize)
  | 3 => decide (stop ≤ 0x40000)
  | 4 => decide (base + stop ≤ storeSize)
  | 5 => decide (stop ≤ 0x40000)
  | 6 => (List.range r.bytes).all (fun k => sAllocated (r.addr + k))
  | _ => false

/-- Every input not marked optional is present (check 5). -/
def check5 (h : Head) (g : Sig) : Bool :=
  let least := g.ins.length + (match g.rep with | some (_, l, _) => l | none => 0)
  decide (least ≤ h.nIn g)
    && ((h.operands g).filter (fun x => !x.2.2)).all (fun x => x.1.space != 0 || x.2.1.opt)

/-! ## Checks 6 and 7: instances and frames -/

/-- The block has instance data. -/
def Sig.hasInst (g : Sig) (code : Nat) : Bool := g.inst != 0 || code == 0x0B00 || code == 0x0B01

/-- The heads with instance data among the entries of the tasks `ts`: index, ID, code, address, size. -/
structure InstUse where
  idx : Nat
  id : Nat
  code : Nat
  addr : Nat
  size : Nat
  deriving DecidableEq, Repr

/-- The instances of a list of reached entries, each entry once. -/
def instUses (table store : Tab Byte) (rs : List Reach) : List InstUse :=
  let idxs := (rs.map (·.idx)).eraseDups
  idxs.filterMap (fun i =>
    let h := Head.read table i
    match sigOf h.bcode with
    | none => none
    | some g =>
      if g.hasInst h.bcode then
        some { idx := i, id := h.instId, code := h.bcode, addr := h.inst, size := if g.inst = 0 then frameSize table store rs h.inst else g.inst }
      else none)

/-- Two byte intervals overlap. -/
def spansMeet (a n b m : Nat) : Bool := decide (a < b + m) && decide (b < a + n)

/-- Check 6 of one entry among all instances. -/
def check6 (all : List InstUse) (h : Head) (g : Sig) (i : Nat) : Bool :=
  if g.hasInst h.bcode then
    match all.find? (fun u => u.idx == i) with
    | none => false
    | some u =>
      h.instId != 0 && decide (regionInst ≤ u.addr) && decide (u.addr + u.size ≤ storeSize)
        && all.all (fun v => v.idx == i || (v.id != u.id && !(spansMeet u.addr u.size v.addr v.size)))
  else h.inst == 0 && h.instId == 0

/-- The frames of a task's ranges. -/
def State.rangeFrames (s : State) (i : Nat) : List (Nat × Nat) :=
  let rs := s.taskReach i
  (s.rangesOf i).map (fun r => let b := (Head.read s.table r.1).inst
    (b, frameSize s.table s.consts rs b))

/-- Check 7 of one range of task `i`: it begins with `FRAME`, and its frame overlaps none of another task's. -/
def State.check7 (s : State) (i : Nat) (r : Nat × Nat) : Bool :=
  let h := Head.read s.table r.1
  h.bcode == 0x0B01
    && (List.range 16).all (fun j => j == i || (s.rangeFrames j).all (fun f => !(spansMeet h.inst 8 f.1 f.2)))

/-! ## Checks 8 to 10 -/

/-- Two entry intervals overlap. -/
def rangesMeet (a b : Nat × Nat) : Bool := spansMeet a.1 a.2 b.1 b.2

/-- Check 8 of one reached entry: a callee outside every task range, at most 8 deep. -/
def State.check8 (s : State) (r : Reach) : Bool :=
  match calleeOf s.consts (Head.read s.table r.idx) with
  | none => true
  | some n => decide (r.depth < 9) && (List.range 16).all (fun j => (s.rangesOf j).all (fun q => !(rangesMeet n q)))

/-- A constant INT operand. -/
def constInt (store : Tab Byte) (r : Ref) : Option Int := (constOf store r).map (fun v => signed 16 v)

/-- Check 9 of one entry: constants in K and accepted by the block. -/
def check9 (store : Tab Byte) (h : Head) (g : Sig) : Bool :=
  let within := fun (k : Nat) (lo hi : Int) =>
    match constInt store (h.inSlot k) with | some v => decide (lo ≤ v ∧ v ≤ hi) | none => false
  ((h.operands g).filter (fun x => x.2.1.konst)).all (fun x => x.1.space == 5)
    && (match h.bcode with
      | 0x0803 => within 2 0 1
      | 0x0804 => within 2 0 1
      | 0x0805 => within 3 0 1
      | 0x0902 => within 2 0 3
      | 0x0B03 => within 0 0 3
      | 0x0503 => within 2 2 16
      | _ => true)

/-- Strictly ascending values of a real format. -/
def ascending (f : Fmt) : List Nat → Bool
  | a :: b :: r => f.lt a b && ascending f (b :: r)
  | _ => true

/-- Check 10 of one entry: the abscissae of a `LIN` table. -/
def check10 (store : Tab Byte) (h : Head) : Bool :=
  if h.bcode ≠ 0x0503 then true
  else
    let r := h.inSlot 1
    let w := tyWidth r.ty / 8
    let n := match constInt store (h.inSlot 2) with | some v => v.toNat | none => 0
    ascending (tyFmt r.ty) ((List.range n).map (fun k => leNat (Tab.getBytes store (regionK + r.addr + 2 * k * w) w)))

/-! ## Check 11: safety tasks (R167) -/

/-- The heads that task `i` executes. -/
def State.taskHeads (s : State) (i : Nat) : List (Nat × Head × Sig) :=
  ((s.taskReach i).map (·.idx)).eraseDups.filterMap (fun k =>
    let h := Head.read s.table k
    (sigOf h.bcode).map (fun g => (k, h, g)))

/-- The bits of M that task `i` writes, each span with its length. -/
def State.taskWritesM (s : State) (i : Nat) : List (Nat × Nat) :=
  (s.taskHeads i).flatMap (fun x => spaceWrites s.consts 3 x.2.1 x.2.2)

/-- The bits of M that task `i` reads. -/
def State.taskReadsM (s : State) (i : Nat) : List (Nat × Nat) :=
  (s.taskHeads i).flatMap (fun x => spaceReads s.consts 3 x.2.1 x.2.2)

/-- The bytes that spans of bits touch. -/
def bytesOf (l : List (Nat × Nat)) : List (Nat × Nat) := l.map (fun x => (x.1 / 8, (x.1 + x.2 + 7) / 8 - x.1 / 8))

/-- Some span of the first list overlaps one of the second. -/
def anyMeet (a b : List (Nat × Nat)) : Bool := a.any (fun x => b.any (fun y => spansMeet x.1 x.2 y.1 y.2))

/-- The spans that task `i` may not read: those that a task not bound to its SAFETY pair writes. -/
def State.foreignM (s : State) (i : Nat) : List (Nat × Nat) :=
  ((List.range 16).filter (fun j => s.taskExists j
    && !(s.param .taskPair j == s.param .taskPair i && s.param .pairMode (s.param .taskPair i) == 1))).flatMap s.taskWritesM

/-- The spans of the instance store that task `i` uses: instances, frames, variables in M. -/
def State.taskSpans (s : State) (i : Nat) : List (Nat × Nat) :=
  (instUses s.table s.consts (s.taskReach i)).map (fun u => (u.addr, u.size)) ++ s.rangeFrames i
    ++ bytesOf (s.taskReadsM i ++ s.taskWritesM i)

/-- Task `i` has data in memory bank `b` (21 R525): IS0 to IS7, BT0 and BT1 in address order, the image banks as placed. -/
def State.usesBank (s : State) (b i : Nat) : Bool :=
  if b < 8 then anyMeet [(b * 0x80000, 0x80000)] (s.taskSpans i)
  else if b < 10 then (s.taskNets i).any (fun r => rangesMeet ((b - 8) * 8192, 8192) r)
  else b < 14 && Config.imageIn b i

/-- Task `i` has data in a RETIRED bank. -/
def State.usesRetired (s : State) (i : Nat) : Bool :=
  s.faults.store.retired.any (fun r => r.key.cls == 8 && s.usesBank r.key.index i)

/-- The M rule holds of every safety task. -/
def State.mRule (s : State) : Bool :=
  (List.range 16).all (fun i => !(s.isSafetyTask i) || !(anyMeet (s.taskReadsM i) (s.foreignM i)))

/-- A block that no safety task uses. -/
def notSafe (code : Nat) : Bool := (code / 256 == 0x0A && code != 0x0A05 && code != 0x0A06) || code == 0x0B02

/-- Check 11 of one entry of safety task `i`. -/
def State.check11 (s : State) (i : Nat) (foreign : List (Nat × Nat)) (h : Head) (g : Sig) : Bool :=
  !(notSafe h.bcode) && !(anyMeet (spaceReads s.consts 3 h g) foreign)
    && (match calleeOf s.consts h with
      | none => true
      | some n => (List.range 16).all (fun j => j == i || !(s.taskExists j) || (s.taskNets j).all (fun q => !(rangesMeet n q))))

/-! ## The checks in order -/

/-- The first index of a list that fails. -/
def firstBad (ok : Nat → Bool) (l : List Nat) : Option Nat := l.find? (fun i => !(ok i))

/-- The first index among heads that fails. -/
def firstBadHead (ok : Nat → Head → Sig → Bool) (l : List (Nat × Head × Sig)) : Option Nat :=
  (l.find? (fun x => !(ok x.1 x.2.1 x.2.2))).map (fun x => x.1)

/-- A check over several tasks: the first offending entry. -/
def overTasks (ts : List Nat) (f : Nat → Option Nat) : Option Nat := ts.findSome? f

/-- Checks 1 to 11 over every entry in every task range and every callee: the number of the first that fails, with the first offending
entry. -/
def State.loadCheck (s : State) : Option (Nat × Nat) :=
  let ts := List.range 16
  let heads := fun i => s.taskHeads i
  let all := instUses s.table s.consts ((List.range 16).flatMap s.taskReach)
  let tag := fun (k : Nat) (x : Option Nat) => x.map (fun i => (k, i))
  let steps : List (Unit → Option (Nat × Nat)) :=
    [fun _ => tag 1 (overTasks ts (fun i => (s.taskNets i).findSome? (fun r =>
        firstBad (check1 s.table r.1 r.2) ((List.range r.2).map (fun k => r.1 + k))))),
     fun _ => tag 2 (overTasks ts (fun i => firstBadHead (fun _ h g => check2 h g) (heads i))),
     fun _ => tag 3 (overTasks ts (fun i => firstBadHead (fun _ h g => check3 h g) (heads i))),
     fun _ => tag 4 (overTasks ts (fun i =>
        let p := s.taskProg i
        ((s.taskReach i).find? (fun r =>
          let h := Head.read s.table r.idx
          match sigOf h.bcode with
          | some g => !((h.refs g).all (refInside p.inSize p.outSize r.base))
          | none => false)).map (·.idx))),
     fun _ => tag 5 (overTasks ts (fun i => firstBadHead (fun _ h g => check5 h g) (heads i))),
     fun _ => tag 6 (overTasks ts (fun i => firstBadHead (fun k h g => check6 all h g k) (heads i))),
     fun _ => tag 7 (overTasks ts (fun i => ((s.rangesOf i).find? (fun r => !(s.check7 i r))).map (fun r => r.1))),
     fun _ => tag 8 (overTasks ts (fun i => ((s.taskReach i).find? (fun r => !(s.check8 r))).map (·.idx))),
     fun _ => tag 9 (overTasks ts (fun i => firstBadHead (fun _ h g => check9 s.consts h g) (heads i))),
     fun _ => tag 10 (overTasks ts (fun i => firstBadHead (fun _ h _ => check10 s.consts h) (heads i))),
     fun _ => tag 11 (overTasks (List.range 16) (fun i =>
        if s.isSafetyTask i then (let f := s.foreignM i
          firstBadHead (fun _ h g => s.check11 i f h g) (heads i)) else none))]
  steps.findSome? (fun f => f ())

/-! ## The safety program of a task (07 R207) -/

/-- The parameter block of a task, in the layout of 05 R153. -/
def State.taskBlock (s : State) (i : Nat) : Bytes :=
  let p := s.taskProg i
  leBytes 1 (s.param .taskKind i) ++ leBytes 1 (s.param .taskPair i) ++ leBytes 1 (s.param .taskCore i) ++ leBytes 1 (s.param .taskTimeBase i)
    ++ leBytes 4 (s.param .taskCycle i / 10000) ++ leBytes 4 (s.param .taskPhase i / 10000) ++ leBytes 1 (s.param .taskOverrunLimit i)
    ++ leBytes 1 (s.param .taskSyncMult i) ++ leBytes 2 (s.param .taskTrigger i)
    ++ (List.range 8).flatMap (fun k => match p.ranges[k]? with | some r => leBytes 4 (r.1 + r.2 * 2 ^ 14) | none => leBytes 4 0)

/-- Bytes of K that an entry reads, a `LIN` table whole. -/
def kReads (store : Tab Byte) (h : Head) (g : Sig) : Bytes :=
  (bytesOf (spaceReads store 5 h g)).flatMap (fun r => Tab.getBytes store (regionK + r.1) r.2)

/-- The safety program of task `i`: its entries, callees, the constants they read, its parameter block, its maps, and the
substitutes of the connection variables they name. -/
def State.safetyBlock (s : State) (i : Nat) : Bytes :=
  let p := s.taskProg i
  let conns := ((p.inMap.filter (fun e => e.cls == 0x0A && e.sub != 0xFF)).map (fun e => varKey e.index e.sub))
  (s.taskNets i).flatMap (fun r => (List.range r.2).flatMap (fun k => entryBytes s.table (r.1 + k)))
    ++ (s.taskHeads i).flatMap (fun x => kReads s.consts x.2.1 x.2.2)
    ++ s.taskBlock i ++ p.inMap.flatMap MapEntry.bytes ++ p.outMap.flatMap MapEntry.bytes
    ++ conns.flatMap (fun k => let (m, v) := Tab.get (fun _ => (0, 0)) s.cfg.prog.subst k
        leBytes 1 m ++ leBytes 1 (s.param .wdCycles (k / 256)) ++ leBytes 8 v)

end Sys2Proof.Machine
end

