-- ==== Sys2Proof/Machine/Tasks.lean ====
section
/-! DEFINITION. Tasks: release, latch, execution, commit, overruns, halts, core pairs and their self-tests (05 R122 to R151).
A cycle's execution end, its commit and its boundary are one event (notes/assumptions/40.md). -/

namespace Sys2Proof.Machine

/-- A task as event source, and its mailbox. -/
def taskRes (i : Nat) : Res := { cls := 0x02, index := i }
def taskOwner (i : Nat) : Owner := { kind := .task, index := i }
/-- A core pair as event source and as a retirable resource. -/
def cpRes (n : Nat) : Res := { cls := 0x02, index := 0x0100 + n }
def cpKey (n : Nat) : FaultKey := { cls := 4, index := n }

/-- Core pair `n`. -/
def State.cpOf (s : State) (n : Nat) : CorePair := Tab.get (fun _ => {}) s.cores n
/-- Replaces core pair `n`. -/
def State.setCp (n : Nat) (x : CorePair) (s : State) : State := { s with cores := Tab.put (fun _ => {}) s.cores n x }

/-- The task states by their codes (06 R187). -/
def TaskState.num : TaskState → Nat
  | .stopped => 0 | .starting => 1 | .running => 2 | .held => 3 | .halted => 4

/-- The task is released from time to time. -/
def Task.live (x : Task) : Bool := x.state == .starting || x.state == .running || x.state == .held

/-- The tasks bound to core pair `n`. -/
def State.tasksOf (s : State) (n : Nat) : List Nat := tasksWhere (fun i => s.taskExists i && s.param .taskPair i == n)

/-- The core pair of task `i`. -/
def State.taskCp (s : State) (i : Nat) : CorePair := s.cpOf (s.param .taskPair i)

/-- The module's pair state executes tasks (13 R344). -/
def State.pairExecutes (s : State) : Bool :=
  match s.pair.st with
  | .unpaired => true | .active => true | .standby => true | .unlinked => true | .isolated => true
  | _ => false

/-- The consecutive overruns that halt task `i`; 1 for a safety task (R138). -/
def State.overrunLimit (s : State) (i : Nat) : Nat := if s.isSafetyTask i then 1 else s.param .taskOverrunLimit i

/-! ## Release (R127, R132 to R135; 03 R75) -/

/-- The first filtered value of a field channel has come, or its time has passed (03 R75). -/
def State.fieldReady (s : State) (cls n : Nat) : Bool :=
  if cls = 0x04 then (s.acOf n).delivered || decide ((s.acOf n).modeAt + s.param .acFilter n * 1000 + 20000 ≤ s.tb0)
  else (s.dcOf n).delivered || decide ((s.dcOf n).modeAt + s.param .dcFilter n * 1000 + 20000 ≤ s.tb0)

/-- Every field channel in the input image of task `i` has delivered. -/
def State.inputsReady (s : State) (i : Nat) : Bool :=
  (s.taskProg i).inMap.all (fun e =>
    if e.cls = 0x04 ∨ (e.cls = 0x05 ∧ e.index < 32) then s.fieldReady e.cls e.index
    else if e.cls = 0x06 ∧ 0x0100 ≤ e.index then
      s.fieldReady 0x04 (2 * (e.index - 0x0100)) && s.fieldReady 0x04 (2 * (e.index - 0x0100) + 1)
    else true)

/-- The clock of a task's release grid: TB0, TB1 or the pair timer. -/
def State.taskClock (s : State) (i : Nat) : Int :=
  if s.paired then (if s.param .releaseBase 0 = 1 ∧ s.baseSynced 1 then s.baseNow 1 else s.pairTimer)
  else if s.param .taskTimeBase i = 1 then s.baseNow 1 else s.tb0

/-- The scheduler may release task `i`: it runs, no cycle of it executes, its pair is not in a self-test and not RETIRED
without continuation, and no power-fail warning stands. -/
def State.taskFree (s : State) (i : Nat) : Bool :=
  let x := s.taskOf i
  let c := s.taskCp i
  s.up && s.power.restoreDone && s.sv.heartbeat && s.taskExists i && x.live && !x.executing && c.testing.isNone
    && (!c.retired || c.single.isSome) && s.pairExecutes && decide (x.notBefore ≤ s.tb0)
    && (x.state != .starting || x.lastRelease.isSome || s.inputsReady i)

/-- At least `CYCLE` has passed since the last release. -/
def State.cyclePassed (s : State) (i : Nat) : Bool :=
  match (s.taskOf i).lastRelease with
  | some a => decide (a + s.param .taskCycle i ≤ s.tb0)
  | none => true

/-- Nanoseconds into the present network cycle. -/
def State.cyclePlace (s : State) : Int := s.gridNow % (s.param .netCycle 0 * 1000 : Nat)

/-- The release rule of task `i` holds at this instant. -/
def State.releaseRule (s : State) (i : Nat) : Bool :=
  match s.param .taskKind i with
  | 2 => (s.taskOf i).trigger && s.cyclePassed i
  | 3 => decide ((s.cyclePlace - (s.param .rxClose 0 * 1000 : Nat)).natAbs ≤ 20) && s.net.cycle % s.param .taskSyncMult i == 0
      && (match (s.taskOf i).lastRelease with | some a => decide (a + 40 < s.tb0) | none => true)
  | 4 => !s.prog.errors.isEmpty && s.cyclePassed i
  | _ => onGrid (s.taskClock i) (s.param .taskPhase i) (s.param .taskCycle i)
      && (match (s.taskOf i).lastRelease with | some a => decide (a + 40 < s.tb0) | none => true)

/-- The S values of this release (R142; 06 R157). -/
def State.sysValues (s : State) (i : Nat) (cause : Nat × Nat) : Bytes :=
  let x := s.taskOf i
  let stamp : Nat := if s.paired then wrapInt 64 s.pairTimer else s.tb0
  leBytes 8 stamp ++ leBytes 4 (if s.paired then s.pair.epoch else s.power.epoch) ++ leBytes 4 x.cycleCount ++ leBytes 8 x.lastExec
    ++ leBytes 2 (b2n x.firstScan + 2 * b2n x.late + 4 * b2n (x.state == .held) + 8 * b2n s.paired)
    ++ leBytes 2 cause.1 ++ leBytes 4 cause.2 ++ leBytes 2 s.prog.errors.length ++ leBytes 30 0
    ++ leBytes 2 s.net.station ++ leBytes 2 (b2n s.paired + 2 * b2n (s.pair.st == .active)) ++ leBytes 4 s.libVersion ++ leBytes 8 0

/-- The status word of a channel; it is agreed with its value (13 R353). -/
def isStatus (e : MapEntry) : Bool :=
  (e.cls == 0x04 && (e.sub == 2 || e.sub == 12)) || ((e.cls == 0x05 || e.cls == 0x06) && e.sub == 1) || (e.cls == 0x0B && e.sub == 4)

/-- Agreement key of a source (13 R353, R373): a status word's is that of the value. -/
def agreeKey (e : MapEntry) : Nat :=
  e.cls * 2 ^ 24 + e.index * 2 ^ 8 + (if isStatus e then (if e.sub = 12 then 8 else 0) else e.sub)

/-- The source takes an agreement rule (13 R353). -/
def takesRule (e : MapEntry) : Bool := !([0x07, 0x08, 0x0A, 0x0C].contains e.cls)

/-- A partner runs in step: agreement and signature compare take place (13 R352). -/
def State.inStep (s : State) : Bool := (s.pair.st == .active && s.hasStandby) || s.pair.st == .standby

/-- The agreed entries of a cycle's input image and their qualities go to a partner in step (13 R352, R353). -/
def State.agreeSend (i : Nat) (s : State) : State :=
  let x := s.taskOf i
  let p := s.taskProg i
  if ¬ s.inStep then s
  else s.send (.agree i (((p.inMap.zip x.quals).filter (fun e => !(takesRule e.1 && s.param .agreeRule (agreeKey e.1) == 5))).map (fun e =>
    match s.inForm e.1 with
    | some (_, n) => (leBytes n (leNat (getValue (e.1.ty == 1) e.1.off e.1.bit n x.inImg)), e.2)
    | none => ([], e.2))))

/-- Task `i` is released: its latch, its S values, its deadline (R127, R129, R134). The error task takes the oldest cause. -/
def State.taskRelease (i : Nat) (s : State) : State :=
  let isErr := s.param .taskKind i == 4
  let cause := if isErr then s.prog.errors.headD (0, 0) else (0, 0)
  let s := if isErr then { s with prog := { s.prog with errors := s.prog.errors.drop 1 } } else s
  let x := s.taskOf i
  let s := s.setTask i { x with cycleCount := (x.cycleCount + 1) % 2 ^ 32 }
  let x := s.taskOf i
  let img := s.latchImage i
  let forced := s.forcesIn i 1
  let quals := (s.taskProg i).inMap.map (fun e =>
    let q := (s.latchValue e).2
    if q != 0x80 && forced.any (fun f => bitsMeet (e.bits (match s.inForm e with | some (_, n) => n | none => 0)) f.1.bitSpan) then 3 else q)
  let sys := s.sysValues i cause
  let stats := (List.range 16).map (fun k => ((s.taskOf k).state.num, (s.taskOf k).overruns))
  let clock0 : Nat := if s.paired then wrapInt 64 s.pairTimer else s.tb0
  let bases := (clock0, true) :: [1, 2, 3].map (fun b => (wrapInt 64 (s.baseNow b), if b = 3 then s.baseValid 3 else s.baseSynced b))
  let s := s.setTask i { x with
    executing := true, release := s.tb0, deadline := s.tb0 + (if s.param .taskKind i = 3 then (s.taskLimit i).toNat else s.param .taskCycle i),
    overran := false, lastRelease := some s.tb0, inImg := img, outImg := x.committed, firstScan := false, late := false, trigger := false,
    sys := sys, taskStat := stats, bases := bases, awaiting := false, agreed := false, writes := [], quals := quals, place := [] }
  (s.latchTakes i).agreeSend i

/-! ## Execution (06 R163) -/

/-- Applies instance-store writes. -/
def applyWrites (l : List (Nat × Byte)) (m : Tab Byte) : Tab Byte := l.foldl (fun m x => Tab.put (fun _ => 0) m x.1 x.2) m

/-- The context of a cycle of task `i`; `left` entries may execute. Before the first `FRAME` that is enabled, N begins with the
instance area (DESIGN CHOICE, notes/assumptions/105.md). -/
def State.taskCtx (s : State) (i : Nat) (left : Option Nat) : Ctx :=
  let x := s.taskOf i
  let p := s.taskProg i
  { table := s.cfg.prog.table, inp := x.inImg, inSize := p.inSize, out := x.outImg, outSize := p.outSize,
    store := applyWrites x.writes s.prog.store, sys := x.sys, base := regionInst, taskStat := x.taskStat, bases := x.bases,
    canBufs := p.outMap.filterMap (fun e => if e.cls = 0x0C ∧ 1 ≤ e.sub ∧ e.sub ≤ 3 then some (e.off, e.sub - 1) else none),
    locked := s.lockedM, noEdge := s.prog.noEdge, requests := s.prog.requests, left := left, free := s.free }

/-- The bytes in which two stores differ, as the second holds them. -/
def storeDiff (a b : Tab Byte) : List (Nat × Byte) :=
  b.filter (fun x => Tab.get (fun _ => 0) a x.1 != x.2) ++ (a.filter (fun x => Tab.get (fun _ => 0) b x.1 == 0)).map (fun x => (x.1, 0))

/-- The walk of task `i`'s cycle goes on from its place: a standard task's instance writes reach the store at once, a safety task's are
kept back (R130). `left` bounds the entries that execute. -/
def State.taskWalk (i : Nat) (left : Option Nat) (s : State) : State :=
  let x := s.taskOf i
  let from0 := s.taskCtx i left
  let r := walkRanges (s.taskProg i).ranges x.place from0
  let c := r.1
  let s : State := { s with free := c.free, prog := { s.prog with requests := c.requests } }
  let s : State := if s.isSafetyTask i then s else { s with prog := { s.prog with store := c.store } }
  s.setTask i { x with
    outImg := c.out, place := r.2, writes := if s.isSafetyTask i then x.writes ++ storeDiff from0.store c.store else [] }

/-- The cycle of task `i` has executed an entry. -/
def Task.begun (x : Task) : Bool := 1 < x.place.length || (match x.place with | (k, _) :: _ => k != 0 | [] => false)

/-- Lateness of an overrunning cycle, recorded once (R138, step 5). -/
def State.recordOverrun (i at0 : Nat) (s : State) : State :=
  s.postIf (s.taskOf i).overran .control .eTaskOverrun (taskRes i) ((at0 - (s.taskOf i).deadline) / 1000)

/-! ## States (R150) -/

/-- A task enters STARTING. -/
def State.taskStart (i : Nat) (s : State) : State :=
  let x := s.taskOf i
  let y : Task := { committed := x.committed, safeOut := x.safeOut, gone := x.gone, notBefore := 0, state := .starting }
  ((s.setTask i y).setCommit i [(.taskRunState, 1)]).post .control .eTaskStarted (taskRes i) i

/-- A task becomes HALTED with its outputs safe: F_TASK_HALTED and error cause 0x04 (R138, R148). -/
def State.taskHalt (i : Nat) (s : State) : State :=
  let s := s.setTask i { (s.taskOf i).dropped with state := .halted }
  (((s.outputsSafe i).axesLost i).post .control .fTaskHalted (taskRes i) i).errorCause 0x04 i

/-- A task is stopped at its boundary; its outputs take their safe values, or hold (R150, R152). -/
def State.taskStop (i : Nat) (hold : Bool) (s : State) : State :=
  if (s.taskOf i).state = .stopped then s
  else
    let s := s.setTask i { (s.taskOf i).dropped with state := .stopped }
    let s := if hold then s else s.outputsSafe i
    ((s.axesLost i).setCommit i [(.taskRunState, 0)]).post .control .eTaskStopped (taskRes i) i

/-! ## Commit (R127 step 5, R129, R138, R147, R150; 03 R75) -/

/-- The RETAIN values by VAR_ID, each plus 1, of the variables that satisfy `p`, as the store holds them. -/
def State.retainTake (p : VarDef → Bool) (s : State) : State :=
  let l := s.cfg.prog.retain.foldl (fun t id =>
    match s.varOf id with
    | some v =>
      let r := v.where?
      if p v then Tab.put (fun _ => 0) t id (1 + leNat (getValue (r.ty == 1) r.addr (r.off % 8) r.bytes s.prog.store)) else t
    | none => t) s.prog.retained
  { s with prog := { s.prog with retained := l } }

/-- The cycle's bank and kept-back writes are committed; the distributor forwards it where the task's outputs are not
held safe. -/
def State.taskCommit (i exec : Nat) (ranges : List Nat) (s : State) : State :=
  let s := s.recordOverrun i s.tb0
  let x := s.taskOf i
  let s : State := { s with prog := { s.prog with store := applyWrites x.writes s.prog.store } }
  let n := x.matchCount + 1
  let released := x.state == .held && decide (8 ≤ n)
  let forward := match x.state with
    | .held => released
    | _ => x.forwarded || !x.overran
  let s := (x.gone.filter (fun e => !(s.outMaps (fun f => f.ownKey == e.ownKey)))).foldl (fun s e => s.goneSafe e) s
  let y : Task := { x.dropped with
    gone := [], committed := x.outImg, lastExec := exec, longest := max x.longest exec, rangeExec := ranges, late := x.overran,
    consecutive := if x.overran then x.consecutive else 0, matchCount := if x.state = .held ∧ ¬ released then n else 0,
    state := if x.state = .starting ∨ released then .running else x.state, wasCommitted := true }
  let s := (s.setTask i y).retainTake (fun v => v.task == i)
  if forward then s.distribute i else s

/-- Task `i` is HELD: its outputs are held safe until its 8th matching cycle (R147). -/
def State.taskHold (i : Nat) (s : State) : State :=
  (s.setTask i { s.taskOf i with state := .held, matchCount := 0 }).outputsSafe i

/-- The comparator finds the cores of a SAFETY pair in disagreement (R147, steps 1 and 2; 11 R291): every task of the pair is held
(notes/assumptions/42.md). -/
def State.coreMismatch (i : Nat) (s : State) : State :=
  let n := s.param .taskPair i
  let s := (s.recordOverrun i s.tb0).setTask i { (s.taskOf i).dropped with state := .held, matchCount := 0 }
  let s := s.each (fun k s => if (s.soOwner k).any (fun j => s.param .taskPair j == n) then s.svCondition 2 2 k else s) (List.range 8)
  let s := s.outputsSafe i
  let s := ((s.tasksOf n).filter (fun j => j != i && (s.taskOf j).live)).foldl (fun s j => s.taskHold j) s
  let s := (s.fault .control .eCoreMismatch (cpRes n) n (cpKey n)).errorCause 0x05 n
  s.setCp n { s.cpOf n with testing := some s.tb0 }

/-- The signature of task `i`: CRC-32C of its output image before forces, from the signature that its previous cycle matched
(13 R352; 16 R453). -/
def State.taskSig (s : State) (i : Nat) : Nat :=
  crcFinish 32 true 0xFFFFFFFF
    (crcRun 32 0x1EDC6F41 true (s.taskOf i).sigBase (Tab.getBytes (s.taskOf i).outImg 0 (s.taskProg i).outSize))

/-- A task of higher priority holds the core of task `i`: its cycle has executed an entry (R124). -/
def State.coreHeld (s : State) (i : Nat) : Bool :=
  (s.coreMates i).any (fun h => decide (h < i) && (s.taskOf h).executing && !(s.taskOf h).awaiting && (s.taskOf h).begun)

/-- The cycle of task `i` may execute entries: its inputs are agreed, no task of higher priority holds its core, and its pair is in no
self-test (R127, R147). -/
def State.mayStep (s : State) (i : Nat) : Bool :=
  let x := s.taskOf i
  x.executing && !x.awaiting && (x.agreed || !s.inStep) && !(s.coreHeld i) && (s.taskCp i).testing.isNone

/-- The execution of task `i` cannot end now: a released task of higher priority on its core has latched, and the longest entry of
task `i` and the switch have passed since (R124, R136). -/
def State.preempted (s : State) (i : Nat) : Bool :=
  (s.coreMates i).any (fun h =>
    let y := s.taskOf h
    decide (h < i) && y.executing && !y.awaiting && (y.agreed || !s.inStep)
      && decide (y.release + s.taskL h + s.taskLongest i + 100 < s.tb0))

/-- Task `j` executes `n` further entries of its cycle, or what is left of it: another core at the same time, or this core until it is
preempted at the end of an entry (R124; 06 R166). -/
def State.taskStep (j n : Nat) (s : State) : State := if j < 16 ∧ s.mayStep j then s.taskWalk j (some n) else s

/-- Execution times by range; an unused range has 0 (R559). -/
def State.usedExec (s : State) (i : Nat) (l : List Nat) : List Nat :=
  (List.range 8).map (fun k => match (s.taskProg i).ranges[k]? with | some r => if r.2 = 0 then 0 else getAt 0 l k | none => 0)

/-- The execution of a cycle ends, after what the cores have executed till then (`steps`: task, entries) in that order: the walk; in a
pair the signature leaves and the compare window opens, otherwise the comparison of the cores, and the commit (R127). -/
def State.execEnd (i exec : Nat) (ranges : List Nat) (mism : Bool) (steps : List (Nat × Nat)) (s : State) : State :=
  let s := steps.foldl (fun s x => s.taskStep x.1 x.2) s
  if ¬ s.mayStep i ∨ s.preempted i then s
  else
    let ranges := s.usedExec i ranges
    let s := s.taskWalk i none
    if s.isSafetyTask i && mism && (s.taskCp i).single.isNone then s.coreMismatch i
    else if s.paired then
      (s.setTask i { s.taskOf i with awaiting := true, lastExec := exec, rangeExec := ranges }).send (.hedgerow 6 [i, s.taskSig i])
    else s.taskCommit i exec ranges

/-! ## Overruns (R138) -/

/-- The deadline passes with the cycle executing; at the limit the task halts after `left` entries. -/
def State.taskDeadline (i left : Nat) (s : State) : State :=
  let x := s.taskOf i
  if ¬ (x.executing && !x.overran) ∨ s.tb0 < x.deadline then s
  else
    let n := x.consecutive + 1
    let s := (s.setTask i { x with overran := true, consecutive := n, overruns := (x.overruns + 1) % 2 ^ 32 }).errorCause 0x03 i
    if s.overrunLimit i ≤ n then
      let s := if x.awaiting then s else s.taskWalk i (some left)
      ((s.recordOverrun i s.tb0).taskHalt i)
    else s

/-- A cycle still executing at r + 2 T is abandoned without commit after `left` entries. -/
def State.taskAbandon (i left : Nat) (s : State) : State :=
  let x := s.taskOf i
  let till := x.release + 2 * s.taskT i
  if ¬ (x.executing && x.overran) ∨ s.tb0 < till then s
  else
    let s := if x.awaiting then s else s.taskWalk i (some left)
    let s := s.recordOverrun i till
    (s.setTask i { (s.taskOf i).dropped with late := true }).post .control .fTaskAbandoned (taskRes i) i

/-! ## Event triggers (R133) -/

/-- The trigger is one that task `i` names. -/
def State.triggerMatches (s : State) (i : Nat) (g : Trigger) : Bool :=
  let v := s.param .taskTrigger i
  let e := bitsOf v 11 8
  s.param .taskKind i == 2 && bitsOf v 15 12 == g.src && bitsOf v 7 0 == g.index
    && (g.src == 1 || e == 3 || (e == 1 && g.rising) || (e == 2 && !g.rising))

/-- A trigger reaches an event task: it releases it, is held pending, or is lost. -/
def State.triggerTask (i : Nat) (s : State) : State :=
  let x := s.taskOf i
  if ¬ x.live ∨ (x.state = .starting ∧ x.lastRelease.isNone ∧ ¬ s.inputsReady i) then s
  else if s.taskFree i && s.cyclePassed i && !x.trigger then s.taskRelease i
  else if x.trigger then
    ((s.setTask i { x with triggersLost := x.triggersLost + 1 }).post .control .eEventTriggerLost (taskRes i) i).errorCause 0x08 i
  else s.setTask i { x with trigger := true }

/-- The oldest trigger reaches the event tasks that name it. -/
def State.takeTrigger (s : State) : State :=
  match s.triggers with
  | [] => s
  | g :: r =>
    let s : State := { s with triggers := r }
    s.each State.triggerTask ((List.range 16).filter (fun i => s.triggerMatches i g))

/-! ## Core pairs: retirement (R148) -/

/-- The lowest SPARE pair that is not RETIRED. -/
def State.sparePair (s : State) (n : Nat) : Option Nat :=
  (List.range 8).find? (fun m => m != n && s.param .pairMode m == 2 && !(s.cpOf m).retired)

/-- The tasks of pair `n` move to the spare `m`. -/
def State.migrate (n m : Nat) (s : State) : State :=
  let ts := s.tasksOf n
  let s := s.setParam .pairMode m (s.param .pairMode n)
  let s := ts.foldl (fun s i =>
    let x := s.taskOf i
    let s := s.setParam .taskPair i m
    (s.setTask i { x.dropped with matchCount := if x.state = .held then 7 else x.matchCount }).post .control .fTaskMigrated (taskRes i) (i * 256 + m)) s
  s.commitConfig

/-- The safety tasks of pair `n` go on without comparison on one core, each under the budget of its safety outputs; a task
without one halts. -/
def State.singleCore (n core : Nat) (s : State) : State :=
  let s := (s.setCp n { s.cpOf n with single := some core }).post .control .fNoSparePair (cpRes n) (n * 256 + core)
  (s.tasksOf n).foldl (fun s i =>
    let x := s.taskOf i
    if ¬ x.live then s
    else if (s.soOwnedBy i).isEmpty then s.taskHalt i
    else
      let s := s.setTask i { x.dropped with matchCount := if x.state = .held then 7 else x.matchCount }
      if s.hasStandby then s else s.each (fun k s => s.soDegrade k 4) (s.soOwnedBy i)) s

/-- The command that asked for a self-test is answered. -/
def State.cpAnswer (n : Nat) (st : Status) (result : Nat) (s : State) : State :=
  match (s.cpOf n).testCmd with
  | some e => (s.setCp n { s.cpOf n with testCmd := none, cmdSlices := 0 }).complete e st result []
  | none => s

/-- What follows the retirement of core pair `n` for its tasks (R148): the spare, the one core that passed, or HALTED. -/
def State.coreAfter (n : Nat) (passing : Option Nat) (s : State) : State :=
  match s.sparePair n with
  | some m => s.migrate n m
  | none =>
    match passing with
    | some c => if s.param .pairMode n = 1 then s.singleCore n c else s.each (fun i s => if (s.taskOf i).live then s.taskHalt i else s) (s.tasksOf n)
    | none => s.each (fun i s => if (s.taskOf i).live then s.taskHalt i else s) (s.tasksOf n)

/-- Core pair `n` is marked RETIRED: `last` the last fault code. A self-test that a command waits for ends with S_RETIRED
(DESIGN CHOICE, notes/assumptions/106.md). -/
def State.coreMark (n last : Nat) (s : State) : State :=
  let s := s.markRetired (cpKey n) Code.fCorePairRetired.num last
  let s := (s.setCp n { s.cpOf n with retired := true, testing := none, due := none }).cpAnswer n .sRetired 0
  (s.faultUncounted .control .fCorePairRetired (cpRes n) n (cpKey n)).errorCause 0x06 n

/-- Core pair `n` is retired, `passing` the one core that passed its self-test. With a partner in STANDBY the role is handed
over first; a STANDBY resynchronises on its spare, or is DROPPED (13 R371). -/
def State.coreRetire (n last : Nat) (passing : Option Nat) (s : State) : State :=
  if (s.cpOf n).retired then s
  else
    let s := s.coreMark n last
    if s.param .pairMode n = 2 then s
    else if s.pair.st = .active ∧ s.hasStandby then s.coreHandOver n passing
    else
      let spare := (s.sparePair n).isSome
      let s := s.coreAfter n passing
      if s.pair.st ≠ .standby then s else if spare then s.enterSync else s.pairState .dropped

/-- Core pair `n` is retired by a mismatch whose outcome decides the roles itself (13 R366). -/
def State.coreRetireAlone (n last : Nat) (passing : Option Nat) (s : State) : State :=
  if (s.cpOf n).retired then s
  else
    let s := s.coreMark n last
    if s.param .pairMode n = 2 then s else s.coreAfter n passing

/-- After a handover, or when none takes place, what 05 R148 does follows for the core pairs that waited. -/
def State.coreLate (s : State) : State :=
  if s.pair.switch.isSome then s
  else
    let l := s.pair.late
    l.foldl (fun s x => s.coreAfter x.1 x.2) { s with pair := { s.pair with late := [] } }

/-- The single-core continuation ends as the first degraded budget of its safety outputs expires (R148). -/
def State.singleEnd (n : Nat) (s : State) : State :=
  let hit := (List.range 8).filter (fun p => (s.cpOf p).single.isSome && ((s.soOwner n).any (fun i => s.param .taskPair i == p)))
  s.each (fun p s =>
    let ts := (s.tasksOf p).filter (fun i => (s.taskOf i).live)
    let sos := (s.tasksOf p).flatMap s.soOwnedBy
    let s := s.setCp p { s.cpOf p with single := none }
    let s := s.each (fun k s => s.soExpire k) (sos.filter (fun k => k != n))
    s.each State.taskHalt ts) hit

/-! ## Core-pair self-tests (R147, R149) -/

/-- The result of a self-test: the failing core alone leaves the other passing. -/
def passingCore (bad0 bad1 : Bool) : Option Nat := if bad0 && !bad1 then some 1 else if bad1 && !bad0 then some 0 else none

/-- The 60 µs self-test after a mismatch ends (R147, step 3). -/
def State.cpTestEnd (n : Nat) (bad0 bad1 : Bool) (s : State) : State :=
  match (s.cpOf n).testing with
  | none => s
  | some a =>
    if s.tb0 < a + 60000 then s
    else
      let s := s.setCp n { s.cpOf n with testing := none }
      if bad0 || bad1 then s.coreRetire n Code.eCoreMismatch.num (passingCore bad0 bad1) else s

/-- A periodic self-test falls due. -/
def State.cpTestDue (n : Nat) (s : State) : State :=
  let c := s.cpOf n
  if c.retired || c.due.isSome || decide (s.tb0 < c.lastDone + s.param .selftestPeriod n * 1000000000) then s
  else s.setCp n { c with due := some s.tb0, slices := 0, skipped := false }

/-- The pair is idle: neither core latches, executes or commits. -/
def State.cpIdle (s : State) (n : Nat) : Bool := (s.tasksOf n).all (fun i => !(s.taskOf i).executing) && (s.cpOf n).testing.isNone

/-- Slices of 1 µs of a whole self-test. -/
def testSlices : Nat := 60

/-- A slice completes in idle time; it counts for a commanded test first, else for the periodic one (DESIGN CHOICE,
notes/assumptions/106.md). With the last slice the test ends, and a failure retires the pair. -/
def State.cpSlice (n : Nat) (bad0 bad1 : Bool) (s : State) : State :=
  let c := s.cpOf n
  if c.retired || (c.due.isNone && c.testCmd.isNone) || !(s.cpIdle n) then s
  else if c.testCmd.isSome then
    if c.cmdSlices + 1 < testSlices then s.setCp n { c with cmdSlices := c.cmdSlices + 1 }
    else if bad0 || bad1 then (s.cpAnswer n .sOk 1).coreRetire n Code.eCoreMismatch.num (passingCore bad0 bad1)
    else s.cpAnswer n .sOk 0
  else if c.slices + 1 < testSlices then s.setCp n { c with slices := c.slices + 1 }
  else
    let s := s.setCp n { c with due := none, slices := 0, lastDone := s.tb0 }
    if bad0 || bad1 then s.coreRetire n Code.eCoreMismatch.num (passingCore bad0 bad1) else s

/-- A due test is not complete 2 × `SELFTEST_PERIOD` after it fell due: recorded once. -/
def State.cpSkipped (n : Nat) (s : State) : State :=
  let c := s.cpOf n
  match c.due with
  | some a =>
    if c.skipped || decide (s.tb0 < a + 2 * s.param .selftestPeriod n * 1000000000) then s
    else (s.setCp n { c with skipped := true }).post .control .eCoreSelftestSkipped (cpRes n) n
  | none => s

/-! ## The supervisor's deadline (11 R291) -/

/-- No commit of a safety task by r + T + 10 µs: the low side of every safety output it owns opens, cause 2. -/
def State.commitMissing (i : Nat) (s : State) : State :=
  let x := s.taskOf i
  if s.isSafetyTask i && x.live && (match x.lastRelease with | some r => decide (r + s.taskT i + 10000 ≤ s.tb0) | none => false)
      && (x.executing || x.state != .starting) && (x.executing || decide (s.taskT i + 10000 + x.release ≤ s.tb0)) then
    s.each (fun k s => if (s.soOf k).cmd.isSome then s.svCondition 1 2 k else s) (s.soOwnedBy i)
  else s

end Sys2Proof.Machine
end

