-- ==== Sys2Proof/Machine/TaskCmd.lean ====
section
/-! DEFINITION. The commands of class 0x02 that address tasks and core pairs (05 R152, R153, R559, R560), and the rows of
tasks and core pairs that end no mailbox wait. -/

namespace Sys2Proof.Machine

/-- A target task. -/
def taskTarget : State → Cmd → Bool := targetBelow 0x02 16
/-- A target core pair. -/
def cpTarget (_ : State) (c : Cmd) : Bool := c.tgtClass == 0x02 && decide (0x0100 ≤ c.tgtIndex ∧ c.tgtIndex < 0x0108) && c.tgtSub == 0

/-- A task that is neither STOPPED nor HALTED applies its postings at its boundary (01 R17, R19). -/
def State.taskRuns (s : State) (c : Cmd) : Bool := (s.taskOf c.tgtIndex).live

/-- The kind runs in the mode of a pair (05 R124, R125). -/
def kindFits (kind mode : Nat) : Bool := if kind = 5 then mode == 1 else mode == 0

/-- The program parts of task `i` replaced. -/
def State.setTaskProg (i : Nat) (p : TaskProg) (s : State) : State :=
  { s with cfg := { s.cfg with prog := { s.cfg.prog with tasks := Tab.put (fun _ => {}) s.cfg.prog.tasks i p } } }

/-- Bytes of the agreed entries of task `i`, quality bytes included (13 R354). -/
def State.agreedBytes (s : State) (i : Nat) : Nat :=
  (s.taskProg i).inMap.foldl (fun a e =>
    if takesRule e && s.param .agreeRule (agreeKey e) == 5 then a
    else a + (match s.inForm e with | some (_, n) => n | none => 0) + b2n e.qual) 0

/-! ## TASK.CONFIGURE (R153) -/

/-- The settings of task `i`; a safety task's core is ignored and its limit is 1. -/
def taskSettings (c : Cmd) : List (Param × Nat) :=
  let times := [(Param.taskCycle, c.field 20 4 * 10000), (.taskPhase, c.field 24 4 * 10000)]
  if c.expert then
    let safety := c.field 16 1 == 5
    [(.taskKind, c.field 16 1), (.taskPair, c.field 17 1), (.taskTimeBase, c.field 19 1), (.taskSyncMult, c.field 29 1),
     (.taskTrigger, c.field 30 2), (.taskOverrunLimit, if safety then 1 else c.field 28 1)]
      ++ (if safety then [] else [(.taskCore, c.field 18 1)]) ++ times
  else times

/-- The ranges of a block of R153: eight words, unused ones at the end left out. -/
def rangesOfBytes (b : Bytes) : List (Nat × Nat) :=
  let l := (List.range 8).map (fun k => let v := leNat (slice b (4 * k) 4); (bitsOf v 13 0, bitsOf v 28 14))
  ((l.reverse.dropWhile (fun r => r.2 == 0)).reverse)

/-- The trigger word names a source that exists (R133, R153). -/
def triggerOk (v : Nat) : Bool :=
  let e := bitsOf v 11 8
  let i := bitsOf v 7 0
  match bitsOf v 15 12 with
  | 0 => true
  | 1 => decide (i < 8)
  | 2 => decide (i < 32) && decide (1 ≤ e ∧ e ≤ 3)
  | 3 => decide (i < 4) && decide (1 ≤ e ∧ e ≤ 3)
  | _ => false

/-- The state with the settings of a `TASK.CONFIGURE` in force. -/
def State.withTask (s : State) (c : Cmd) : State :=
  let i := c.tgtIndex
  let s := s.setParams i (taskSettings c)
  if c.expert then s.setTaskProg i { s.taskProg i with ranges := rangesOfBytes (slice c.body 16 32) } else s

/-- Ranges of task `i` in place: inside the table, none overlapping another task's. -/
def State.rangesPlaced (s : State) (i : Nat) : Bool :=
  ((s.taskProg i).ranges.filter (fun r => r.2 != 0)).all (fun r => decide (r.1 + r.2 ≤ 16384)
    && (List.range 16).all (fun j => j == i || ((s.taskProg j).ranges.filter (fun q => q.2 != 0)).all (fun q => !(rangesMeet r q))))

/-- Parameters of task `i` consistent in a state that holds them. -/
def State.taskParamsOk (s : State) (i : Nat) : Bool :=
  decide (s.param .taskPhase i + 10000 ≤ s.param .taskCycle i) && triggerOk (s.param .taskTrigger i)
    && (!s.paired || decide (125000 ≤ s.param .taskCycle i)) && s.rangesPlaced i && s.mRule
    && !(s.param .taskKind i == 4 && (List.range 16).any (fun j => j != i && s.param .taskKind j == 4))

/-- Conditions at the boundary. -/
def taskConfigCheck (s : State) (c : Cmd) : Status :=
  let i := c.tgtIndex
  let n := s.withTask c
  let kind := n.param .taskKind i
  let pair := n.param .taskPair i
  firstOf
    [whenS (!c.expert && kind == 0) .sState,
     whenS (kind != 0 && !(kindFits kind (s.param .pairMode pair))) .sState,
     whenS (kind != 0 && (s.cpOf pair).retired) .sRetired,
     whenS (!(n.taskParamsOk i)) .sBadParam,
     whenS (!(n.budgetOk i)) .sBudget,
     whenS ((s.isSafetyTask i || n.isSafetyTask i) && s.logFull) .sLogFull]

/-- A change of a safety task enters the log before it takes effect: its safety program before and after (R152). -/
def State.logTask (i : Nat) (r : Route) (new : State) (s : State) : State :=
  if s.isSafetyTask i || new.isSafetyTask i then s.logChange r 0x02 0 i (s.safetyBlock i) (new.safetyBlock i) else s

/-- The settings take effect: the grid realigns at least the new `CYCLE` after the last release; a task without a kind
stops. -/
def taskConfigApply (e : Entry) (s : State) : Reply :=
  let i := e.cmd.tgtIndex
  let s := s.logTask i e.cmd.route (s.withTask e.cmd)
  let s := if (s.withTask e.cmd).param .taskKind i = 0 then s.taskStop i false else s
  let s := s.withTask e.cmd
  let x := s.taskOf i
  let s := match x.lastRelease with
    | some a => if x.live ∧ s.param .taskKind i ≠ 3 then s.setTask i { x with notBefore := a + s.param .taskCycle i } else s
    | none => s
  .ok s.commitConfig

/-- The safety session is needed where a safety task, or a SAFETY or SPARE pair, is changed (R152). -/
def taskNeedsSession (s : State) (c : Cmd) : Bool :=
  let i := c.tgtIndex
  let n := s.withTask c
  s.isSafetyTask i || n.isSafetyTask i || s.param .pairMode (s.param .taskPair i) != 0 && s.taskExists i

/-- `TASK.CONFIGURE`. -/
def specTaskConfigure : CmdSpec where
  op := 0x0200
  layout := fun c => if c.expert then { ranges := [(16, 48)] } else { ranges := [(20, 8)] }
  form := fun _ c => !c.expert || (List.range 8).all (fun k => bitsOf (c.field (32 + 4 * k) 4) 31 29 == 0)
  target := taskTarget
  needsSession := taskNeedsSession
  params := fun _ c => (taskSettings c).all (fun x => x.1.inRange x.2)
  owner := fun _ c => some (taskOwner c.tgtIndex)
  running := State.taskRuns
  run := guarded taskConfigCheck taskConfigApply

/-! ## Start, stop, status -/

/-- `TASK.START`. -/
def specTaskStart : CmdSpec where
  op := 0x0201
  target := taskTarget
  needsSession := fun s c => s.isSafetyTask c.tgtIndex
  owner := fun _ c => some (taskOwner c.tgtIndex)
  running := fun _ _ => false
  run := guarded
    (fun s c =>
      let i := c.tgtIndex
      firstOf
        [whenS ((s.taskOf i).live || !(s.taskExists i) || !(kindFits (s.param .taskKind i) (s.param .pairMode (s.param .taskPair i)))) .sState,
         whenS ((s.taskCp i).retired || s.usesRetired i) .sRetired,
         whenS (!(s.budgetOk i)) .sBudget])
    (fun e s => .ok (s.taskStart e.cmd.tgtIndex))

/-- `TASK.STOP`. -/
def specTaskStop : CmdSpec where
  op := 0x0202
  layout := fun c => if c.expert then { ranges := [(16, 1)] } else {}
  target := taskTarget
  needsSession := fun s c => s.isSafetyTask c.tgtIndex
  params := fun s c => !c.expert || decide (c.field 16 1 ≤ 1) && !(c.field 16 1 == 1 && s.isSafetyTask c.tgtIndex)
  owner := fun _ c => some (taskOwner c.tgtIndex)
  running := State.taskRuns
  run := fun e s => .ok (s.taskStop e.cmd.tgtIndex (e.cmd.expert && e.cmd.field 16 1 == 1))

/-- The result of `TASK.STATUS` (R559). -/
def taskStatusBlock (s : State) (i : Nat) (expert : Bool) : Bytes :=
  let x := s.taskOf i
  leBytes 1 x.state.num ++ leBytes 1 (s.param .taskKind i) ++ leBytes 2 0 ++ leBytes 4 x.cycleCount ++ leBytes 4 x.overruns
    ++ leBytes 4 x.consecutive ++ leBytes 8 x.longest ++ leBytes 8 x.lastExec ++ leBytes 8 (s.taskR i)
    ++ (if expert then
      (List.range 8).flatMap (fun k => leBytes 8 (getAt 0 x.rangeExec k)) ++ leBytes 2 s.prog.errors.length ++ leBytes 6 0
        ++ s.prog.errors.flatMap (fun c => leBytes 2 c.1 ++ leBytes 2 0 ++ leBytes 4 c.2)
      else [])

/-- `TASK.STATUS`. -/
def specTaskStatus : CmdSpec where
  op := 0x0203
  target := taskTarget
  long := fun _ => true
  run := fun e s => .long (taskStatusBlock s e.cmd.tgtIndex e.cmd.expert) s

/-! ## TASK.SET_IMAGE (R140, R152) -/

/-- The map entries of the block, from its byte 4. -/
def imageEntries (c : Cmd) : List MapEntry := mapEntries (c.blockBytes.drop 4)

/-- The image of a `TASK.SET_IMAGE`: its size in bytes. -/
def imageSize (s : State) (c : Cmd) : Nat :=
  if c.expert then c.blk 2 2 * 64 else (s.mapReach (c.blk 0 1 == 1) (imageEntries c) + 63) / 64 * 64

/-- The state with the new map in force. -/
def State.withImage (s : State) (c : Cmd) : State :=
  let i := c.tgtIndex
  let p := s.taskProg i
  s.setTaskProg i (if c.blk 0 1 = 1 then { p with outMap := imageEntries c, outSize := imageSize s c }
    else { p with inMap := imageEntries c, inSize := imageSize s c })

/-- The largest image of a direction (R139). -/
def imageMost (output : Bool) : Nat := if output then 0x10000 else 0x20000

/-- Conditions of a map at the boundary. -/
def imageCheck (s : State) (c : Cmd) : Status :=
  let i := c.tgtIndex
  let output := c.blk 0 1 == 1
  let size := imageSize s c
  let n := s.withImage c
  firstOf
    [whenS (decide (imageMost output < size) || !(s.mapOk (s.isSafetyTask i) output size (imageEntries c))) .sBadParam,
     whenS (decide (imageSpace < n.imageUse) || (s.paired && decide (4096 < n.agreedBytes i))) .sNoSpace,
     whenS (output && s.mapConflict i (imageEntries c)) .sOwnerConflict,
     whenS (!(n.budgetOk i)) .sBudget,
     whenS (s.isSafetyTask i && s.logFull) .sLogFull]

/-- `TASK.SET_IMAGE`. -/
def specTaskSetImage : CmdSpec where
  op := 0x0204
  layout := fun c => { ranges := [(16, 1), (20, 4096)] ++ (if c.expert then [(18, 2)] else []) }
  form := fun _ c => c.indirect && decide (4 ≤ c.blockLen) && c.blockLen % 8 == 4
    && (List.range ((c.blockLen - 4) / 8)).all (fun k => decide (c.blk (11 + 8 * k) 1 ≤ 1))
  target := taskTarget
  needsSession := fun s c => s.isSafetyTask c.tgtIndex
  params := fun _ c => decide (c.blk 0 1 ≤ 1)
  owner := fun _ c => some (taskOwner c.tgtIndex)
  running := State.taskRuns
  run := guarded imageCheck
    (fun e s =>
      let i := e.cmd.tgtIndex
      let old := (s.taskProg i).outMap
      let s := (s.logTask i e.cmd.route (s.withImage e.cmd)).withImage e.cmd
      let s := if e.cmd.blk 0 1 = 1 then s.remap old i else s
      .ok s.commitConfig)

/-! ## TASK.SET_SUBSTITUTE (R144, R152) -/

/-- The value fits the type of a descriptor. -/
def fitsType (d v : Nat) : Bool := if bitsOf d 23 20 = 1 then decide (v ≤ 1) else decide (v < 2 ^ tyWidth (bitsOf d 23 20))

/-- The state with the substitute in force. -/
def State.withSubst (s : State) (c : Cmd) : State :=
  let id := c.field 16 2
  let key := varKey id (c.field 18 2)
  let old := Tab.get (fun _ => (0, 0)) s.cfg.prog.subst key
  let new := (c.field 20 1, if c.expert then c.field 24 8 else old.2)
  let s : State := { s with cfg := { s.cfg with prog := { s.cfg.prog with subst := Tab.put (fun _ => (0, 0)) s.cfg.prog.subst key new } } }
  if c.expert then s.setParam .wdCycles id (c.field 21 1) else s

/-- The safety tasks whose images map the connection. -/
def safetyUsers (s : State) (id : Nat) : List Nat :=
  tasksWhere (fun i => s.isSafetyTask i && (s.taskProg i).inMap.any (MapEntry.names 0x0A id))

/-- Conditions of a substitute at the boundary. -/
def substCheck (s : State) (c : Cmd) : Status :=
  let id := c.field 16 2
  let users := safetyUsers s id
  firstOf
    [whenS (decide (id < 0x1000) || !(s.connConfigured id) || decide ((s.connVarsOf id).length ≤ c.field 18 2)) .sNotFound,
     whenS (c.expert && !(fitsType (getAt 0 (s.connVarsOf id) (c.field 18 2)) (c.field 24 8))) .sBadParam,
     whenS (!users.isEmpty && (s.logFull || decide (1024 < s.safeLog.entries.length + users.length))) .sLogFull]

/-- `TASK.SET_SUBSTITUTE`. -/
def specTaskSetSubstitute : CmdSpec where
  op := 0x0205
  layout := fun c => { ranges := [(16, 5)] ++ (if c.expert then [(21, 1), (24, 8)] else []) }
  target := taskTarget
  needsSession := fun s c => !(safetyUsers s (c.field 16 2)).isEmpty || s.isSafetyTask c.tgtIndex
  params := fun _ c => decide (c.field 20 1 ≤ 2) && (!c.expert || Param.wdCycles.inRange (c.field 21 1))
  owner := fun _ c => some (taskOwner c.tgtIndex)
  running := State.taskRuns
  run := guarded substCheck
    (fun e s =>
      let new := s.withSubst e.cmd
      let s := (safetyUsers s (e.cmd.field 16 2)).foldl (fun s i => s.logTask i e.cmd.route new) s
      .ok (s.withSubst e.cmd).commitConfig)

/-! ## Core pairs -/

/-- The settings of a `TASK.SET_PAIR`. -/
def pairSettings (c : Cmd) : List (Param × Nat) :=
  (.pairMode, c.field 16 1) :: (if c.expert then [(.selftestPeriod, c.field 20 4)] else [])

/-- Bytes 16–23 of the command as the settings in force would fill them. -/
def pairBlock (s : State) (n : Nat) : Bytes := leBytes 1 (s.param .pairMode n) ++ leBytes 3 0 ++ leBytes 4 (s.param .selftestPeriod n)

/-- The change of mode is one that R123 logs. -/
def pairLogged (s : State) (c : Cmd) : Bool :=
  let old := s.param .pairMode (c.tgtIndex - 0x0100)
  old != c.field 16 1 && (c.field 16 1 != 0 || old == 1)

/-- `TASK.SET_PAIR` (R123). -/
def specTaskSetPair : CmdSpec where
  op := 0x0206
  layout := fun c => if c.expert then { ranges := [(16, 1), (20, 4)] } else { ranges := [(16, 1)] }
  target := cpTarget
  needsSession := fun s c => c.field 16 1 != 0 || s.param .pairMode (c.tgtIndex - 0x0100) != 0
  params := fun _ c => (pairSettings c).all (fun x => x.1.inRange x.2)
  owner := fun _ c => some { kind := .corePair, index := c.tgtIndex - 0x0100 }
  running := fun _ _ => false
  run := guarded
    (fun s c =>
      let n := c.tgtIndex - 0x0100
      let change := c.field 16 1 != s.param .pairMode n
      let new := s.setParams n (pairSettings c)
      firstOf
        [whenS (s.cpOf n).retired .sRetired,
         whenS (change && ((s.tasksOf n).any (fun i => (s.taskOf i).live) || (c.field 16 1 == 2 && !(s.tasksOf n).isEmpty))) .sState,
         whenS (!new.mRule) .sBadParam,
         whenS (!((new.tasksOf n).all new.budgetOk)) .sBudget,
         whenS (pairLogged s c && s.logFull) .sLogFull])
    (fun e s =>
      let n := e.cmd.tgtIndex - 0x0100
      let new := s.setParams n (pairSettings e.cmd)
      let s := if pairLogged s e.cmd then s.logChange e.cmd.route 0x02 0 e.cmd.tgtIndex (pairBlock s n) (pairBlock new n) else s
      .ok (s.setCommit n (pairSettings e.cmd)))

/-- `TASK.SELFTEST`: the test runs in idle time and completes the command. -/
def specTaskSelftest : CmdSpec where
  op := 0x0207
  target := cpTarget
  check := fun s c =>
    let n := c.tgtIndex - 0x0100
    firstOf
      [whenS (s.param .pairMode n == 1 && (s.tasksOf n).any (fun i => (s.taskOf i).live)) .sBusySafety,
       whenS (s.cpOf n).retired .sRetired,
       whenS ((s.cpOf n).due.isSome || (s.cpOf n).testing.isSome || (s.cpOf n).testCmd.isSome) .sBusy]
  run := fun e s =>
    let n := e.cmd.tgtIndex - 0x0100
    .later (s.setCp n { s.cpOf n with testCmd := some e, cmdSlices := 0 })

/-- `TASK.BUDGET` (R560). -/
def specTaskBudget : CmdSpec where
  op := 0x0208
  target := taskTarget
  long := fun _ => true
  run := fun e s =>
    let i := e.cmd.tgtIndex
    .long (budgetRecord s i ++ (if e.cmd.expert then (s.coreMates i).flatMap (budgetRecord s) else [])) s

/-- The commands of this file. -/
def specTask : List CmdSpec :=
  [specTaskConfigure, specTaskStart, specTaskStop, specTaskStatus, specTaskSetImage, specTaskSetSubstitute, specTaskSetPair,
   specTaskSelftest, specTaskBudget]

/-- TASK_CONFIGURE. -/
def execTaskConfigure (t : Nat) (c : Cmd) (s : State) : Host.Outcome State Fault Refusal := .next (specTaskConfigure.submit c (s.advance t))
/-- TASK_START. -/
def execTaskStart (t : Nat) (c : Cmd) (s : State) : Host.Outcome State Fault Refusal := .next (specTaskStart.submit c (s.advance t))
/-- TASK_STOP. -/
def execTaskStop (t : Nat) (c : Cmd) (s : State) : Host.Outcome State Fault Refusal := .next (specTaskStop.submit c (s.advance t))
/-- TASK_STATUS. -/
def execTaskStatus (t : Nat) (c : Cmd) (s : State) : Host.Outcome State Fault Refusal := .next (specTaskStatus.submit c (s.advance t))
/-- TASK_SET_IMAGE. -/
def execTaskSetImage (t : Nat) (c : Cmd) (s : State) : Host.Outcome State Fault Refusal := .next (specTaskSetImage.submit c (s.advance t))
/-- TASK_SET_SUBSTITUTE. -/
def execTaskSetSubstitute (t : Nat) (c : Cmd) (s : State) : Host.Outcome State Fault Refusal := .next (specTaskSetSubstitute.submit c (s.advance t))
/-- TASK_SET_PAIR. -/
def execTaskSetPair (t : Nat) (c : Cmd) (s : State) : Host.Outcome State Fault Refusal := .next (specTaskSetPair.submit c (s.advance t))
/-- TASK_SELFTEST. -/
def execTaskSelftest (t : Nat) (c : Cmd) (s : State) : Host.Outcome State Fault Refusal := .next (specTaskSelftest.submit c (s.advance t))
/-- TASK_BUDGET. -/
def execTaskBudget (t : Nat) (c : Cmd) (s : State) : Host.Outcome State Fault Refusal := .next (specTaskBudget.submit c (s.advance t))

/-! ## Events -/

/-- TASK_RELEASE (R127, R132 to R134). -/
def execTaskRelease (t i : Nat) (s : State) : Host.Outcome State Fault Refusal :=
  onResource i 16 s (fun s =>
    let s := s.advance t
    if s.taskFree i && s.releaseRule i then s.taskRelease i else s)

/-- EVENT_TRIGGER (R133): the oldest trigger reaches the tasks that name it. -/
def execEventTrigger (t : Nat) (s : State) : Host.Outcome State Fault Refusal := .next (s.advance t).takeTrigger

/-- PAIR_SELFTEST_DUE (R149). -/
def execPairSelftestDue (t n : Nat) (s : State) : Host.Outcome State Fault Refusal :=
  onResource n 8 s (fun s => (s.advance t).cpTestDue n)

/-- SELFTEST_SKIPPED (R149). -/
def execSelftestSkipped (t n : Nat) (s : State) : Host.Outcome State Fault Refusal :=
  onResource n 8 s (fun s => (s.advance t).cpSkipped n)

/-- SAFETY_COMMIT_MISSING (11 R291). -/
def execSafetyCommitMissing (t i : Nat) (s : State) : Host.Outcome State Fault Refusal :=
  onResource i 16 s (fun s => (s.advance t).commitMissing i)

end Sys2Proof.Machine
end

