-- ==== Sys2Proof/Machine/Forces.lean ====
section
/-! DEFINITION. Forces (07 R203 to R208, R211, R562). -/

namespace Sys2Proof.Machine

/-- Replaces the force of a variable. -/
def State.setForce (id : Nat) (f : Option Force) (s : State) : State :=
  { s with prog := { s.prog with forces := Tab.put (fun _ => none) s.prog.forces id f } }

/-- A force on the variable needs the safety session (R207). -/
def VarDef.safety (v : VarDef) : Bool := bitOf v.flags 0

/-- A force entry as `VAR.LIST` reports it (R205). -/
def forceBytes (now id : Nat) (f : Force) : Bytes :=
  leBytes 4 id ++ leBytes 4 (match f.till with | some a => (a - now + 999999999) / 1000000000 | none => 0xFFFFFFFF) ++ leBytes 8 f.value

/-- The 16 bytes of a variable's entry; an absent entry counts as zeros. -/
def State.forceEntry (s : State) (id : Nat) : Bytes :=
  match s.forceOf id with
  | some f => forceBytes s.tb0 id f
  | none => leBytes 16 0

/-! ## Degraded mode (R208) -/

/-- The safety tasks that read a forced variable: the task whose image holds it, or every task that reads the location. -/
def State.forceReaders (s : State) (v : VarDef) : List Nat :=
  let r := v.where?
  match r.space with
  | 1 => if s.isSafetyTask v.task then [v.task] else []
  | 3 => tasksWhere (fun i => s.isSafetyTask i && anyMeet (s.taskReadsM i) [r.bitSpan])
  | _ => []

/-- The safety outputs whose degraded mode a force on the variable holds. -/
def State.forceOutputs (s : State) (v : VarDef) : List Nat := (s.forceReaders v).flatMap s.soOwnedBy

/-- Degraded mode of every safety output as the forces in effect give it. -/
def State.forceDegrade (s : State) : State :=
  let held := (s.forcesNow.flatMap (fun x => s.forceOutputs x.1))
  s.each (fun n s => if held.contains n then s.soDegrade n 5 else s.soUndegrade n 5) (List.range 8)

/-! ## Setting and releasing -/

/-- The location of an M variable takes the forced value, once (R204). -/
def State.forceStore (v : VarDef) (x : Nat) (s : State) : State :=
  if v.where?.space = 3 then
    ({ s with prog := { s.prog with store := putForce s.prog.store (v.where?, x) } } : State).retainTake (fun w => w.id == v.id)
  else s

/-- A change of a safety force enters the log: class 0x03 and the VAR_ID, its low half as index, the next byte as
sub-index (R207; notes/assumptions/58.md). -/
def State.logForce (r : Route) (id : Nat) (old new : Bytes) (release : Bool) (s : State) : State :=
  let sub := id / 65536 % 256
  let idx := id % 65536
  if release then s.logRelease r 0x03 sub idx old new else s.logChange r 0x03 sub idx old new

/-- A force takes effect. -/
def State.forceSet (r : Route) (v : VarDef) (f : Force) (s : State) : State :=
  let old := s.forceEntry v.id
  let s := if v.safety then s.logForce r v.id old (forceBytes s.tb0 v.id f) false else s
  ((((s.setForce v.id (some f)).forceStore v f.value).forceDegrade).post .control .eForceSet { cls := 0x03, index := 0 } v.id)

/-- A force is released, by a command or as its time runs out. -/
def State.forceDrop (r : Route) (id : Nat) (expired : Bool) (s : State) : State :=
  match s.forceOf id with
  | none => s
  | some _ =>
    let old := s.forceEntry id
    let safety := match s.varOf id with | some v => v.safety | none => false
    let s := if safety then s.logForce r id old (leBytes 16 0) true else s
    ((s.setForce id none).forceDegrade).post .control (if expired then .eForceExpired else .eForceReleased) { cls := 0x03, index := 0 } id

/-- A force whose time has run out is released at its owner's boundary. -/
def State.forceExpire (id : Nat) (s : State) : State :=
  match s.forceOf id with
  | some f => if (match f.till with | some a => decide (a ≤ s.tb0) | none => false) then s.forceDrop .host id true else s
  | none => s

/-- The variables of task `i` with a force in effect. -/
def State.forcedOf (s : State) (i : Nat) : List Nat := (s.forcesNow.filter (fun x => x.1.task == i)).map (fun x => x.1.id)

/-- Expired forces of task `i` go before a switch at the same boundary (R210). -/
def State.expireForces (i : Nat) (s : State) : State := s.each State.forceExpire (s.forcedOf i)

/-- A posting of a `VAR.RELEASE_ALL` is applied; the last of them completes the command. -/
def State.releaseTaskForces (e : Entry) (i : Nat) (s : State) : State :=
  let s := s.each (fun id s => s.forceDrop e.cmd.route id false) (s.forcedOf i)
  let l := s.prog.releaseAll.map (fun x => if x.1.id = e.id then (x.1, x.2.filter (fun j => j != i)) else x)
  let s : State := { s with prog := { s.prog with releaseAll := l.filter (fun x => !x.2.isEmpty) } }
  if l.any (fun x => x.1.id == e.id && x.2.isEmpty) then s.complete e .sOk 0 [] else s

/-! ## Commands (R211) -/

/-- The target of class 0x03. -/
def varTarget : State → Cmd → Bool := targetZero 0x03

/-- The variable that a command names. -/
def State.cmdVar (s : State) (c : Cmd) : Option VarDef := s.varOf (c.field 16 4)

/-- The owner of a variable's forces: its task. -/
def varOwner (s : State) (c : Cmd) : Option Owner := (s.cmdVar c).map (fun v => taskOwner v.task)

/-- The owner runs. -/
def varRuns (s : State) (c : Cmd) : Bool := match s.cmdVar c with | some v => (s.taskOf v.task).live | none => false

/-- Life of a force asked for: 0 means `FORCE_LIMIT`. -/
def State.forceSeconds (s : State) (c : Cmd) : Nat :=
  let t := if c.expert then c.field 20 4 else 0
  if t = 0 then s.param .forceLimit 0 else t

/-- From its acceptance to its last switch an exchange removes or re-creates the variable: the old program has it under
this VAR_ID, and the new one has not, or under another `VREF` (R195, R206). -/
def State.exchangeMoves (s : State) (id : Nat) : Bool :=
  match s.prog.exchange with
  | none => false
  | some x =>
    !x.pending.isEmpty && x.old.vars.any (fun v =>
      v.id == id && bitOf x.mask v.task && !(x.new.vars.any (fun w => w.id == v.id && w.ref == v.ref)))

/-- Conditions of a force. -/
def forceCheck (s : State) (c : Cmd) : Status :=
  if s.exchangeMoves (c.field 16 4) then .sBusy else
  match s.cmdVar c with
  | none => .sNotFound
  | some v =>
    let r := v.where?
    let lim := s.param .forceLimit 0
    firstOf
      [whenS (r.space == 2 && s.isSafetyTask v.task) .sForceSafetyOutput,
       whenS ((lim != 0 && decide (lim < s.forceSeconds c)) || decide (2 ^ tyWidth r.ty ≤ c.field 24 8)) .sBadParam,
       whenS ((s.forceOf v.id).isNone && decide (512 ≤ s.prog.forces.length)) .sForceTableFull,
       whenS (v.safety && s.logFull) .sLogFull]

/-- `VAR.FORCE`. -/
def specVarForce : CmdSpec where
  op := 0x0300
  layout := fun c => { ranges := [(16, 4), (24, 8)] ++ (if c.expert then [(20, 4)] else []) }
  target := varTarget
  needsSession := fun s c => match s.cmdVar c with | some v => v.safety | none => false
  check := fun s c => whenS (s.exchangeMoves (c.field 16 4)) .sBusy
  owner := varOwner
  running := varRuns
  run := guarded forceCheck
    (fun e s =>
      match s.cmdVar e.cmd with
      | none => .refuse .sNotFound s
      | some v =>
        let t := s.forceSeconds e.cmd
        .ok (s.forceSet e.cmd.route v { value := e.cmd.field 24 8, till := if t = 0 then none else some (s.tb0 + t * 1000000000) }))

/-- `VAR.RELEASE`. -/
def specVarRelease : CmdSpec where
  op := 0x0301
  layout := fun _ => { ranges := [(16, 4)] }
  target := varTarget
  owner := varOwner
  running := varRuns
  run := guarded (fun s c => whenS (s.forceOf (c.field 16 4)).isNone .sNotFound)
    (fun e s => .ok (s.forceDrop e.cmd.route (e.cmd.field 16 4) false))

/-- The tasks whose forces a `VAR.RELEASE_ALL` releases. -/
def State.releaseTasks (s : State) (c : Cmd) : List Nat :=
  tasksWhere (fun i => !(s.forcedOf i).isEmpty && (!c.expert || c.field 16 1 == 0xFF || c.field 16 1 == i))

/-- `VAR.RELEASE_ALL` (R562): one posting to each task; a task that does not run applies it at once. In a pair both partners release
at the instant named for each task (R209). -/
def specVarReleaseAll : CmdSpec where
  op := 0x0302
  layout := fun c => if c.expert then { ranges := [(16, 1)] } else {}
  target := varTarget
  params := fun _ c => !c.expert || decide (c.field 16 1 < 16) || c.field 16 1 == 0xFF
  check := fun s c => whenS ((s.releaseTasks c).any (fun i => (s.taskOf i).live && decide (8 ≤ s.mailCount (taskOwner i)))) .sMailboxFull
  run := fun e s =>
    let ts := s.releaseTasks e.cmd
    if ts.isEmpty then .ok s
    else
      let s : State := { s with prog := { s.prog with releaseAll := s.prog.releaseAll ++ [(e, ts)] } }
      .later (s.each (fun i s =>
        if s.postsToPartner then
          let due := s.pairDue (taskOwner i) 4
          (s.afterDraw.postMail { owner := taskOwner i, body := .releaseTask e i, due := due }).send (.hedgerow 9 [i, due])
        else if (s.taskOf i).live ∨ s.mailWaits (taskOwner i) then s.postMail { owner := taskOwner i, body := .releaseTask e i }
        else s.releaseTaskForces e i) ts)

/-- `VAR.LIST`. -/
def specVarList : CmdSpec where
  op := 0x0303
  layout := fun c => if c.expert then { ranges := [(16, 2)] } else {}
  target := varTarget
  long := fun _ => true
  run := fun e s =>
    let first := if e.cmd.expert then e.cmd.field 16 2 else 0
    let l := s.prog.forces.filterMap (fun x => x.2.map (fun f => forceBytes s.tb0 x.1 f))
    .long (((l.drop first).take 256).flatten) s

/-- `VAR.SET_LIMIT`: no task owns it, it acts at dispatch. -/
def specVarSetLimit : CmdSpec where
  op := 0x0304
  layout := fun _ => { ranges := [(20, 4)] }
  target := varTarget
  params := fun _ c => c.field 20 4 == 0 || decide (60 ≤ c.field 20 4 ∧ c.field 20 4 ≤ 259200)
  run := fun e s => .ok (s.setCommit 0 [(.forceLimit, e.cmd.field 20 4)])

/-- The commands of class 0x03. -/
def specVar : List CmdSpec := [specVarForce, specVarRelease, specVarReleaseAll, specVarList, specVarSetLimit]

/-- VAR_FORCE. -/
def execVarForce (t : Nat) (c : Cmd) (s : State) : Host.Outcome State Fault Refusal := .next (specVarForce.submit c (s.advance t))
/-- VAR_RELEASE. -/
def execVarRelease (t : Nat) (c : Cmd) (s : State) : Host.Outcome State Fault Refusal := .next (specVarRelease.submit c (s.advance t))
/-- VAR_RELEASE_ALL. -/
def execVarReleaseAll (t : Nat) (c : Cmd) (s : State) : Host.Outcome State Fault Refusal := .next (specVarReleaseAll.submit c (s.advance t))
/-- VAR_LIST. -/
def execVarList (t : Nat) (c : Cmd) (s : State) : Host.Outcome State Fault Refusal := .next (specVarList.submit c (s.advance t))
/-- VAR_SET_LIMIT. -/
def execVarSetLimit (t : Nat) (c : Cmd) (s : State) : Host.Outcome State Fault Refusal := .next (specVarSetLimit.submit c (s.advance t))

/-- FORCE_EXPIRY (R205): the release is posted to the owner; one that does not run applies it at once. In a pair the ACTIVE partner
names the instant for both, and a STANDBY in step awaits it (R209). -/
def execForceExpiry (t id : Nat) (s : State) : Host.Outcome State Fault Refusal :=
  let s := s.advance t
  .next (match s.forceOf id, s.varOf id with
    | some f, some v =>
      let o := taskOwner v.task
      if f.releasing || !(match f.till with | some a => decide (a ≤ s.tb0) | none => false) || s.pair.st == .standby then s
      else if s.postsToPartner then
        let due := s.pairDue o 4
        ((s.afterDraw.setForce id (some { f with releasing := true })).postMail { owner := o, body := .forceRelease id, due := due }).send
          (.hedgerow 10 [id, due])
      else if (s.taskOf v.task).live then
        (s.setForce id (some { f with releasing := true })).postMail { owner := taskOwner v.task, body := .forceRelease id }
      else s.forceExpire id
    | _, _ => s)

end Sys2Proof.Machine
end

