-- ==== Sys2Proof/Machine/Slots.lean ====
section
/-! DEFINITION. Program slots and images (07 R192 to R196, R211): loading, erasing, and the parsed image. -/

namespace Sys2Proof.Machine

/-- Program slot `k`. -/
def State.slot (s : State) (k : Nat) : ProgSlot := Tab.get (fun _ => {}) s.prog.slots k

/-- Replaces program slot `k`. -/
def State.setSlot (k : Nat) (x : ProgSlot) (s : State) : State :=
  { s with prog := { s.prog with slots := Tab.put (fun _ => {}) s.prog.slots k x } }

/-- A slot as event source. -/
def slotRes (k : Nat) : Res := { cls := 0x02, index := 0x0200 + k }

/-- The slot states by their codes (R561). -/
def SlotState.num : SlotState → Nat
  | .empty => 0 | .loading => 1 | .valid => 2 | .invalid => 3

/-- Adds a byte interval to those received, joined where they touch. -/
def addSpan : List (Nat × Nat) → Nat → Nat → List (Nat × Nat)
  | [], a, b => [(a, b)]
  | (x, y) :: r, a, b =>
    if b < x then (a, b) :: (x, y) :: r
    else if y < a then (x, y) :: addSpan r a b
    else addSpan r (min x a) (max y b)

/-- Bytes received so far. -/
def ProgSlot.bytes (x : ProgSlot) : Nat := x.got.foldl (fun n r => n + (r.2 - r.1)) 0

/-- The header of the image has arrived. -/
def ProgSlot.headed (x : ProgSlot) : Bool := x.got.any (fun r => r.1 == 0 && decide (32 ≤ r.2))

/-- `n` bytes of the image from `a`. -/
def ProgSlot.read (x : ProgSlot) (a n : Nat) : Bytes := Tab.getBytes x.data a n

/-- The failing header field of a whole image: 0 none, 1 `PMAGIC`, 2 `PLIB`, 3 `PCRC`, 4 `PLEN` (R196;
notes/assumptions/60.md). -/
def ProgSlot.fault (lib : Nat) (x : ProgSlot) : Nat :=
  if leNat (x.read 0 4) ≠ 0x4E505047 then 1
  else if leNat (x.read 4 4) ≠ lib then 2
  else if leNat (x.read 24 4) ≠ x.plen ∨ x.plen < 32 then 4
  else if crc32c (x.read 32 (x.plen - 32)) ≠ leNat (x.read 28 4) then 3
  else 0

/-- Image bytes arrive at offset `a`; a slot that is not LOADING, or of another length, starts a new load. -/
def State.slotWrite (k plen a : Nat) (b : Bytes) (s : State) : State :=
  let x := s.slot k
  let x : ProgSlot := if x.state = .loading ∧ x.plen = plen then x else { state := .loading, plen := plen, switched := x.switched }
  s.setSlot k { x with data := Tab.putBytes x.data a b, got := if b.isEmpty then x.got else addSpan x.got a (a + b.length) }

/-- The whole image has arrived: it is checked, and the slot becomes VALID or INVALID. -/
def State.slotLoaded (k : Nat) (s : State) : State :=
  let x := s.slot k
  let st : SlotState := if x.fault s.libVersion = 0 then .valid else .invalid
  (s.setSlot k { x with state := st }).post .control .eProgLoaded (slotRes k) (k * 256 + st.num)

/-- The load ends once `PLEN` bytes have arrived: the command completes with S_OK, or S_BAD_PARAM and the field. -/
def State.slotReply (e : Entry) (k : Nat) (s : State) : State :=
  let f := (s.slot k).fault s.libVersion
  if f = 0 then s.complete e .sOk 0 [] else s.complete e .sBadParam f []

/-- The slot belongs to the exchange in progress or goes to the partner, or a stream loads it (R209, R210). -/
def State.slotBusy (s : State) (k : Nat) : Bool :=
  (match s.prog.exchange with | some x => x.slot == k | none => false)
    || (match s.pair.image with | some e => e.cmd.tgtIndex == 0x0200 + k | none => false)
    || s.disp.streams.any (fun x => x.toHost == false && x.entry.op == 0x0210 && x.entry.cmd.tgtIndex == 0x0200 + k)

/-- A target slot. -/
def slotTarget (_ : State) (c : Cmd) : Bool := c.tgtClass == 0x02 && decide (0x0200 ≤ c.tgtIndex ∧ c.tgtIndex < 0x0204) && c.tgtSub == 0

/-- Number of the target slot. -/
def slotNo (c : Cmd) : Nat := c.tgtIndex - 0x0200

/-- `TASK.PROG_LOAD`: the stream carries the image; its completion follows its end. -/
def specTaskProgLoad : CmdSpec where
  op := 0x0210
  layout := fun _ => { ranges := [(17, 7)] }
  route := fun c => c.onHost
  target := slotTarget
  params := fun _ c => decide (c.field 17 1 < 8) && decide (32 ≤ c.field 20 4 ∧ c.field 20 4 ≤ 0x400000)
  check := fun s c => whenS (s.slotBusy (slotNo c) || s.streamOpen (c.field 18 2)) .sBusy
  run := fun e s =>
    let c := e.cmd
    .later { s with disp := { s.disp with streams := s.disp.streams ++
      [{ ring := c.field 17 1, stream := c.field 18 2, toHost := false, entry := e }] } }

/-- Stream bytes of a program load: with the first the slot is LOADING, and once `PLEN` have arrived the image is checked (R196). What
lies beyond `PLEN` is ignored; a stream that ends before it fails the field `PLEN` (DESIGN CHOICE, notes/assumptions/60.md). -/
def State.progStream (e : Entry) (a : Nat) (b : Bytes) (last : Bool) (s : State) : State :=
  let k := slotNo e.cmd
  let plen := e.cmd.field 20 4
  let here := b.take (plen - a)
  let s := if a = 0 ∧ ¬ here.isEmpty then s.setSlot k { state := .loading, plen := plen, switched := (s.slot k).switched } else s
  let s := if here.isEmpty then s else s.slotWrite k plen a here
  let s := if a < plen ∧ plen ≤ a + b.length then s.slotLoaded k else s
  if ¬ last then s
  else if plen ≤ a + b.length then s.slotReply e k
  else
    ((s.setSlot k { s.slot k with state := .invalid }).post .control .eProgLoaded (slotRes k) (k * 256 + 3)).complete e .sBadParam 4 []

/-- `TASK.PROG_WRITE`. -/
def specTaskProgWrite : CmdSpec where
  op := 0x0211
  layout := fun _ => { ranges := [(16, 8), (32, 1024)] }
  form := fun _ c => c.indirect && decide (17 ≤ c.blockLen)
  target := slotTarget
  params := fun _ c => decide (c.blockLen ≤ 1040) && decide (32 ≤ c.blk 4 4 ∧ c.blk 4 4 ≤ 0x400000)
    && decide (c.blk 0 4 + (c.blockLen - 16) ≤ c.blk 4 4)
  check := fun s c => whenS (s.slotBusy (slotNo c)) .sBusy
  run := fun e s =>
    let c := e.cmd
    let k := slotNo c
    let s := s.slotWrite k (c.blk 4 4) (c.blk 0 4) (c.blockBytes.drop 16)
    if (s.slot k).bytes = c.blk 4 4 then .later ((s.slotLoaded k).slotReply e k) else .ok s

/-- `TASK.PROG_ERASE`. -/
def specTaskProgErase : CmdSpec where
  op := 0x0215
  target := slotTarget
  check := fun s c => whenS (s.slotBusy (slotNo c)) .sBusy
  run := fun e s => .ok (s.setSlot (slotNo e.cmd) { switched := (s.slot (slotNo e.cmd)).switched })

/-- The result of `TASK.PROG_STATUS` (R561). -/
def slotStatus (s : State) (k : Nat) : Bytes :=
  let x := s.slot k
  let h := x.headed
  let here := match s.prog.exchange with | some e => e.slot == k | none => false
  let f := fun (a n : Nat) => if h then leNat (x.read a n) else 0
  let made := match s.prog.exchange with | some e => if e.slot = k then e.switched else x.switched | none => x.switched
  leBytes 1 x.state.num ++ leBytes 1 (b2n here) ++ leBytes 2 0 ++ leBytes 4 (f 8 4) ++ leBytes 4 (f 12 4) ++ leBytes 4 (f 24 4)
    ++ leBytes 4 x.bytes ++ leBytes 2 (f 16 2) ++ leBytes 2 (made.foldl (fun m i => m + 2 ^ i) 0)

/-- `TASK.PROG_STATUS`. -/
def specTaskProgStatus : CmdSpec where
  op := 0x0214
  target := slotTarget
  long := fun _ => true
  run := fun e s => .long (slotStatus s (slotNo e.cmd)) s

/-! ## Reading an image -/

/-- Bytes of a table up to its last non-zero byte between `lo` and `hi`, in units of `u`. -/
def extent (t : Tab Byte) (lo hi u : Nat) : Nat :=
  let top := t.foldl (fun m x => if lo ≤ x.1 ∧ x.1 < hi then x.1 + 1 - lo else m) 0
  (top + u - 1) / u * u

/-- The connection variables that a task consumes, by key. -/
def TaskProg.varKeys (q : TaskProg) : List Nat :=
  ((q.inMap.filter (fun e => e.cls == 0x0A && e.sub != 0xFF)).map (fun e => varKey e.index e.sub)).eraseDups

/-- The sections of the running program as an image of its own: type, task, target, content. The order and the cut of the
sections are the model's (notes/assumptions/61.md). -/
def State.progSections (s : State) : List (Nat × Nat × Nat × Bytes) :=
  let p := s.cfg.prog
  let ts := tasksWhere s.taskExists
  [(1, 0xFF, 0, Tab.getBytes p.table 0 (extent p.table 0 0x80000 32)),
   (2, 0xFF, 0, Tab.getBytes p.init regionK (extent p.init regionK regionInst 1)),
   (3, 0xFF, regionInst, Tab.getBytes p.init regionInst (extent p.init regionInst storeSize 1)),
   (4, 0xFF, 0, Tab.getBytes p.init 0 (extent p.init 0 regionK 1))]
    ++ ts.flatMap (fun i =>
      let q := s.taskProg i
      [(5, i, 0, s.taskBlock i),
       (6, i, 0, leBytes 2 0 ++ leBytes 2 (q.inSize / 64) ++ q.inMap.flatMap MapEntry.bytes),
       (6, i, 0, leBytes 2 1 ++ leBytes 2 (q.outSize / 64) ++ q.outMap.flatMap MapEntry.bytes),
       (8, i, 0, Config.safeValuesBytes ((q.varKeys).map (fun k => (k, Tab.get (fun _ => 0) p.safeVals k))))])
    ++ [(7, 0xFF, 0, p.vars.flatMap (fun v => leBytes 4 v.id ++ leBytes 3 v.ref ++ leBytes 1 v.task ++ leBytes 1 v.flags ++ leBytes 3 0)),
        (9, 0xFF, 0, p.retain.flatMap (leBytes 4))]

/-- An image of sections (R193). -/
def imageOf (lib progId build mask safe : Nat) (l : List (Nat × Nat × Nat × Bytes)) : Bytes :=
  let base := 32 + 16 * l.length
  let dir := (l.foldl (fun (acc : Bytes × Nat) x =>
    (acc.1 ++ leBytes 1 x.1 ++ leBytes 1 x.2.1 ++ leBytes 2 0 ++ leBytes 4 x.2.2.1 ++ leBytes 4 acc.2 ++ leBytes 4 x.2.2.2.length,
      acc.2 + x.2.2.2.length)) ([], base)).1
  let rest := dir ++ l.flatMap (fun x => x.2.2.2)
  leBytes 4 0x4E505047 ++ leBytes 4 lib ++ leBytes 4 progId ++ leBytes 4 build ++ leBytes 2 mask ++ leBytes 2 safe
    ++ leBytes 4 l.length ++ leBytes 4 (32 + rest.length) ++ leBytes 4 (crc32c rest) ++ rest

/-- The running program as an image. -/
def State.runningImage (s : State) : Bytes :=
  let bit := fun (p : Nat → Bool) => (tasksWhere p).foldl (fun m i => m + 2 ^ i) 0
  imageOf s.libVersion s.cfg.prog.progId s.cfg.prog.build (bit s.taskExists) (bit s.isSafetyTask) s.progSections

/-- `TASK.PROG_READ`: the image as it is at the dispatch goes to the stream. -/
def specTaskProgRead : CmdSpec where
  op := 0x0216
  layout := fun _ => { ranges := [(17, 3)] }
  route := fun c => c.onHost
  target := fun s c => slotTarget s c || (c.tgtClass == 0x02 && c.tgtIndex == 0x02FF && c.tgtSub == 0)
  params := fun _ c => decide (c.field 17 1 < 8)
  check := fun s c => firstOf
    [whenS (c.tgtIndex != 0x02FF && (s.slot (slotNo c)).state == .empty) .sState,
     whenS (s.streamOpen (c.field 18 2)) .sBusy]
  run := fun e s =>
    let c := e.cmd
    let b := if c.tgtIndex = 0x02FF then s.runningImage else (s.slot (slotNo c)).read 0 (s.slot (slotNo c)).plen
    .later { s with disp := { s.disp with streams := s.disp.streams ++
      [{ ring := c.field 17 1, stream := c.field 18 2, toHost := true, entry := e, data := b }] } }

/-! ## A parsed image (R193, R194) -/

/-- A program image: header fields and sections (type, task, target, content). -/
structure ProgImage where
  progId : Nat
  build : Nat
  mask : Nat
  safe : Nat
  sects : List (Nat × Nat × Nat × Bytes)
  deriving DecidableEq, Repr

/-- One section is well formed. -/
def sectOk (x : Nat × Nat × Nat × Bytes) : Bool :=
  let n := x.2.2.2.length
  let tgt := x.2.2.1
  let task := decide (x.2.1 < 16)
  match x.1 with
  | 1 => n % 32 == 0 && decide (tgt + n / 32 ≤ 16384)
  | 2 => decide (tgt + n ≤ 0x40000)
  | 3 => decide (regionInst ≤ tgt ∧ tgt + n ≤ storeSize)
  | 4 => decide (tgt + n ≤ 0x40000)
  | 5 => task && n == 48
  | 6 => task && decide (4 ≤ n) && n % 8 == 4 && decide (leNat (x.2.2.2.take 1) ≤ 1)
  | 7 => n % 12 == 0
  | 8 => task
  | 9 => n % 4 == 0
  | _ => false

/-- The image of a slot; `none` where its directory is not well formed. -/
def ProgSlot.image (x : ProgSlot) : Option ProgImage :=
  let n := leNat (x.read 20 4)
  if n = 0 ∨ 64 < n ∨ x.plen < 32 + 16 * n then none
  else
    let dir := (List.range n).map (fun k => x.read (32 + 16 * k) 16)
    let sects := dir.map (fun d =>
      (leNat (slice d 0 1), leNat (slice d 1 1), leNat (slice d 4 4), x.read (leNat (slice d 8 4)) (leNat (slice d 12 4))))
    if dir.all (fun d => allZero (slice d 2 2) && decide (leNat (slice d 8 4) + leNat (slice d 12 4) ≤ x.plen)
          && (leNat (slice d 1 1) == 0xFF || decide (leNat (slice d 1 1) < 16))) && sects.all sectOk then
      some { progId := leNat (x.read 8 4), build := leNat (x.read 12 4), mask := leNat (x.read 16 2), safe := leNat (x.read 18 2), sects := sects }
    else none

/-- The sections of a type. -/
def ProgImage.of (p : ProgImage) (ty : Nat) : List (Nat × Nat × Bytes) := (p.sects.filter (fun x => x.1 == ty)).map (fun x => x.2)

/-- The tasks that the image changes. -/
def ProgImage.tasks (p : ProgImage) : List Nat := (List.range 16).filter (fun i => bitOf p.mask i)

/-- The parameter block of task `i`; empty where it has none, which removes the task. -/
def ProgImage.block (p : ProgImage) (i : Nat) : Bytes := match (p.of 5).find? (fun x => x.1 == i) with | some x => x.2.2 | none => []

/-- The parameters of a block of R153. -/
def blockParams (b : Bytes) : List (Param × Nat) :=
  if b.isEmpty then [(.taskKind, 0)]
  else
    let f := fun (a n : Nat) => leNat (slice b a n)
    [(.taskKind, f 0 1), (.taskPair, f 1 1), (.taskCore, f 2 1), (.taskTimeBase, f 3 1), (.taskCycle, f 4 4 * 10000), (.taskPhase, f 8 4 * 10000),
     (.taskOverrunLimit, if f 0 1 = 5 then 1 else f 12 1), (.taskSyncMult, f 13 1), (.taskTrigger, f 14 2)]

/-- An image map section: after the direction byte the layout of `TASK.SET_IMAGE` with its size (notes/assumptions/60.md). -/
def ProgImage.map (p : ProgImage) (i dir : Nat) : Nat × List MapEntry :=
  match (p.of 6).find? (fun x => x.1 == i && leNat (x.2.2.take 1) == dir) with
  | some x => (64 * leNat (slice x.2.2 2 2), mapEntries (x.2.2.drop 4))
  | none => (0, [])

/-- The program part of task `i` in the image. -/
def ProgImage.taskProg (p : ProgImage) (i : Nat) : TaskProg :=
  if (p.block i).isEmpty then {}
  else
    { ranges := rangesOfBytes ((p.block i).drop 16), inMap := (p.map i 0).2, outMap := (p.map i 1).2,
      inSize := (p.map i 0).1, outSize := (p.map i 1).1 }

/-- The variables of the image. -/
def ProgImage.vars (p : ProgImage) : List VarDef :=
  (p.of 7).flatMap (fun x => (List.range (x.2.2.length / 12)).map (fun k =>
    let d := slice x.2.2 (12 * k) 12
    { id := leNat (slice d 0 4), ref := leNat (slice d 4 3), task := leNat (slice d 7 1), flags := leNat (slice d 8 1) }))

/-- The RETAIN list of the image, with the variables whose flag says RETAIN. -/
def ProgImage.retain (p : ProgImage) : List Nat :=
  ((p.of 9).flatMap (fun x => (List.range (x.2.2.length / 4)).map (fun k => leNat (slice x.2.2 (4 * k) 4)))
    ++ (p.vars.filter (fun v => bitOf v.flags 1)).map (·.id)).eraseDups

end Sys2Proof.Machine
end

