-- ==== Sys2Proof/Machine/Exchange.lean ====
section
/-! DEFINITION. Program exchanges (07 R197 to R202, R206, R209, R210, R561). -/

namespace Sys2Proof.Machine

/-! ## The program as it would run after the exchange -/

/-- A table without its entries in a span. -/
def Tab.without {α : Type} (t : Tab α) (a n : Nat) : Tab α := t.filter (fun x => !(decide (a ≤ x.1) && decide (x.1 < a + n)))

/-- The state with the task parts, block table and constants of an image. -/
def State.withTables (s : State) (p : ProgImage) : State :=
  let g := s.cfg.prog
  let table := (p.of 1).foldl (fun t x => Tab.putBytes t (32 * x.2.1) x.2.2) g.table
  let init := (p.of 2).foldl (fun t x => Tab.putBytes t (regionK + x.2.1) x.2.2) g.init
  let tasks := p.tasks.foldl (fun t i => Tab.put (fun _ => {}) t i (p.taskProg i)) g.tasks
  let s : State := { s with cfg := { s.cfg with prog := { g with table := table, init := init, tasks := tasks } } }
  p.tasks.foldl (fun s i => s.setParams i (blockParams (p.block i))) s

/-- The instances that some task runs. -/
def State.instAll (s : State) : List InstUse := instUses s.table s.consts ((List.range 16).flatMap s.taskReach)

/-- The instances of task `i`. -/
def State.instOf (s : State) (i : Nat) : List InstUse := instUses s.table s.consts (s.taskReach i)

/-- Instances of the new program whose ID the running program does not use. -/
def newInsts (old new : List InstUse) : List InstUse := new.filter (fun u => !(old.any (fun v => v.id == u.id)))

/-- The state after the exchange: tables, tasks, initial contents of new instances (zeros where none are given), variables,
RETAIN list and declared safe values: of the changed tasks' variables those that the image declares, 0 for the others (05 R144). -/
def State.withProgram (s : State) (p : ProgImage) : State :=
  let n := s.withTables p
  let g := n.cfg.prog
  let init := (newInsts s.instAll n.instAll).foldl (fun t u => Tab.without t u.addr u.size) g.init
  let init := (p.of 3 ++ p.of 4).foldl (fun t x => Tab.putBytes t x.2.1 x.2.2) init
  let outside := fun (v : VarDef) => !(p.tasks.contains v.task)
  let kept := (g.vars.filter outside)
  let mine := p.tasks.flatMap (fun i => (s.taskProg i).varKeys ++ (n.taskProg i).varKeys)
  let else0 := ((List.range 16).filter (fun i => !(p.tasks.contains i))).flatMap (fun i => (n.taskProg i).varKeys)
  let base := (mine.filter (fun k => !(else0.contains k))).foldl (fun t k => Tab.put (fun _ => 0) t k 0) g.safeVals
  let safe := ((p.of 8).flatMap (fun x => Config.safeValues x.2.2)).foldl (fun t x => Tab.put (fun _ => 0) t x.1 x.2) base
  { n with cfg := { n.cfg with prog := { g with
      init := init, vars := kept ++ p.vars, safeVals := safe, progId := p.progId, build := p.build,
      retain := g.retain.filter (fun id => kept.any (fun v => v.id == id)) ++ p.retain } } }

/-- The variables of the changed tasks that the new program removes or re-creates (R195, R206). -/
def removedVars (s : State) (p : ProgImage) : List VarDef :=
  (s.cfg.prog.vars.filter (fun v => p.tasks.contains v.task)).filter (fun v => !(p.vars.any (fun w => w.id == v.id && w.ref == v.ref)))

/-! ## The checks 13 to 21 (R197) -/

/-- No entry is concerned. -/
def noEntry : Nat := 0x3FFF

/-- Check 14 of a kept instance: code, address and size; a frame may grow into free instance area. -/
def keptOk (old : List InstUse) (u : InstUse) : Bool :=
  match old.find? (fun v => v.id == u.id) with
  | none => true
  | some v =>
    v.code == u.code && v.addr == u.addr
      && (v.size == u.size
          || ((u.code == 0x0B00 || u.code == 0x0B01) && decide (v.size < u.size)
            && old.all (fun w => w.id == u.id || !(spansMeet (v.addr + v.size) (u.size - v.size) w.addr w.size))))

/-- Entries that running tasks use. -/
def State.usedEntries (s : State) (k : Nat) : Bool := (List.range 16).any (fun i => (s.taskNets i).any (fun r => decide (r.1 ≤ k ∧ k < r.1 + r.2)))

/-- The bytes of K that running tasks read. -/
def State.usedK (s : State) : List (Nat × Nat) :=
  (List.range 16).flatMap (fun i => (s.taskHeads i).flatMap (fun x => bytesOf (spaceReads s.consts 5 x.2.1 x.2.2)))

/-- The bytes of M that running tasks read or write, or a variable holds. -/
def State.usedM (s : State) : List (Nat × Nat) :=
  (List.range 16).flatMap (fun i => bytesOf (s.taskReadsM i ++ s.taskWritesM i))
    ++ (s.cfg.prog.vars.filter (fun v => v.where?.space == 3)).map (fun v => (v.where?.addr, v.where?.bytes))

/-- The spans of M that kept variables hold. -/
def keptM (s : State) (p : ProgImage) : List (Nat × Nat) :=
  let gone := removedVars s p
  (s.cfg.prog.vars.filter (fun v => v.where?.space == 3 && !(gone.any (fun w => w.id == v.id)))).map (fun v => (v.where?.addr, v.where?.bytes))

/-- The span changes a byte that the running program reads. -/
def changes (old : Tab Byte) (a : Nat) (b : Bytes) (used : List (Nat × Nat)) : Bool :=
  (List.range b.length).any (fun k => getAt 0 b k != Tab.get (fun _ => 0) old (a + k) && used.any (fun u => decide (u.1 ≤ a + k ∧ a + k < u.1 + u.2)))

/-- Check 15: the first entry concerned, or none at all. -/
def State.placeFault (s n : State) (p : ProgImage) : Option Nat :=
  let old := s.instAll
  let entry := (p.of 1).findSome? (fun x => ((List.range (x.2.2.length / 32)).map (fun k => x.2.1 + k)).find? (fun k =>
    s.usedEntries k && entryBytes s.table k != entryBytes n.table k))
  let kUsed := s.usedK
  let mUsed := s.usedM
  let mKept := keptM s p
  let fresh := newInsts old n.instAll
  let mFresh := ((p.vars.filter (fun v => v.where?.space == 3 && !(s.cfg.prog.vars.any (fun w => w.id == v.id && w.ref == v.ref)))).map
    (fun v => (v.where?.addr, v.where?.bytes)))
  let moved := p.tasks.filter (fun i => (n.taskProg i).inSize != (s.taskProg i).inSize || (n.taskProg i).outSize != (s.taskProg i).outSize)
  match entry with
  | some k => some k
  | none =>
    if (p.of 2).any (fun x => changes s.consts (regionK + x.2.1) x.2.2 (kUsed.map (fun u => (regionK + u.1, u.2))))
        || fresh.any (fun u => old.any (fun v => spansMeet u.addr u.size v.addr v.size))
        || (p.of 3).any (fun x => old.any (fun v => !(n.instAll.any (fun u => u.id == v.id)) && spansMeet x.2.1 x.2.2.length v.addr v.size))
        || (p.of 4).any (fun x => (List.range x.2.2.length).any (fun k =>
            let a := x.2.1 + k
            mUsed.any (fun u => decide (u.1 ≤ a ∧ a < u.1 + u.2)) && !(mKept.any (fun u => decide (u.1 ≤ a ∧ a < u.1 + u.2)))))
        || anyMeet mFresh mUsed
        || decide (imageSpace < moved.foldl (fun a i => a + (n.taskProg i).inSize + 2 * (n.taskProg i).outSize) s.imageUse)
    then some noEntry else none

/-- Check 16: the first entry whose instance a task outside the mask uses; a VAR_ID of such a task. -/
def State.foreignFault (s n : State) (p : ProgImage) : Option Nat :=
  let others := ((List.range 16).filter (fun i => !(p.tasks.contains i))).flatMap s.instOf
  match (p.tasks.flatMap n.instOf).find? (fun u => others.any (fun v => v.id == u.id)) with
  | some u => some u.idx
  | none =>
    if p.vars.any (fun v => v.id == 0 || decide (15 < v.task) || s.cfg.prog.vars.any (fun w => w.id == v.id && !(p.tasks.contains w.task)))
        || keysTwice (p.vars.map (fun v => (v.id, 0, 0))) then some noEntry else none

/-- Check 17: an output passes from one task to another. -/
def State.passes (s n : State) (p : ProgImage) : Bool :=
  p.tasks.any (fun i => s.mapConflict i (n.taskProg i).outMap || n.mapConflict i (n.taskProg i).outMap)

/-- Bytes of the RETAIN variables. -/
def State.retainBytes (s : State) : Nat :=
  s.cfg.prog.retain.foldl (fun a id => a + (match s.varOf id with | some v => v.where?.bytes | none => 0)) 0

/-- The safety tasks before or after the exchange. -/
def safetyChanged (s n : State) (p : ProgImage) : List Nat := p.tasks.filter (fun i => s.isSafetyTask i || n.isSafetyTask i)

/-- Entry maps and parameters of the new tasks are acceptable by themselves; refused under check 4 with no entry
(notes/assumptions/60.md). -/
def State.newTasksOk (n : State) (p : ProgImage) : Bool :=
  p.tasks.all (fun i =>
    let q := n.taskProg i
    let safety := n.isSafetyTask i
    (blockParams (p.block i)).all (fun x => x.1.inRange x.2)
      && (!n.taskExists i || n.taskParamsOk i)
      && decide (q.inSize ≤ imageMost false) && decide (q.outSize ≤ imageMost true)
      && n.mapOk safety false q.inSize q.inMap && n.mapOk safety true q.outSize q.outMap)

/-- Checks 14 to 21 (R197) of an image against the running program. -/
def State.judgeExchange (s n : State) (p : ProgImage) (release : Bool) (c : Cmd) : Option (Status × Nat × Nat) :=
  let no := fun (st : Status) (chk : Nat) => some (st, chk, noEntry)
  let ts := p.tasks
  match (n.instAll).find? (fun u => ts.any (fun i => (n.instOf i).any (fun v => v.id == u.id)) && !(keptOk s.instAll u)) with
  | some u => some (.sBadParam, 14, u.idx)
  | none =>
    match s.placeFault n p with
    | some i => some (.sNoSpace, 15, i)
    | none =>
      if ts.any n.usesRetired then no .sRetired 15
      else match s.foreignFault n p with
      | some i => some (.sBadParam, 16, i)
      | none =>
        let safe := safetyChanged s n p
        if s.passes n p then no .sOwnerConflict 17
        else if !release && (removedVars s p).any (fun v => (s.forceOf v.id).isSome) then no .sForceOnRemoved 18
        else if 0x40000 < n.retainBytes then no .sRetainTooLarge 19
        else if (p.safe != 0 || !safe.isEmpty) && !(s.sessionValid c) then no .sSafetySessionRequired 20
        else if (p.safe != 0 || !safe.isEmpty) && (s.logFull || decide (1024 < s.safeLog.entries.length + safe.length)) then no .sLogFull 20
        else if s.paired && s.pair.st != .active then no .sNotActive 21
        else none

/-- The first check that fails, with its status and the entry concerned: the checks of R168 on the image that the slot holds, then
those of R197. A slot that holds no whole image has nothing for R168 to check (notes/assumptions/60.md). -/
def State.judge (s : State) (k : Nat) (release : Bool) (c : Cmd) : Option (Status × Nat × Nat) :=
  let no := fun (st : Status) (chk : Nat) => some (st, chk, noEntry)
  let busy := s.prog.exchange.isSome || s.pair.image.isSome
  match (s.slot k).image with
  | none => if (s.slot k).state ≠ .valid then no .sState 13 else no .sBadParam 1
  | some p =>
    let n := s.withProgram p
    let ts := p.tasks
    match n.loadCheck with
    | some (chk, i) => some (.sBadParam, chk, i)
    | none =>
      if ¬ n.newTasksOk p then no .sBadParam 4
      else if ¬ (ts.all n.budgetOk && (ts.flatMap s.coreMates).all (fun j => !(n.taskExists j) || n.taskPasses j)) then no .sBudget 12
      else if (s.slot k).state ≠ .valid then no .sState 13
      else if busy then no .sBusy 13
      else if ts.any (fun i => n.taskExists i && !(kindFits (n.param .taskKind i) (n.param .pairMode (n.param .taskPair i)))) then no .sState 13
      else s.judgeExchange n p release c

/-- `RESULT` of a failed check. -/
def checkResult (chk i : Nat) : Nat := chk * 65536 + i

/-! ## TASK.PROG_CHECK (R561) -/

/-- Ascending instance IDs. -/
def sortedIds (l : List InstUse) : List Nat := (l.map (·.id)).mergeSort (fun a b => decide (a ≤ b))

/-- Kept, new and removed instances of task `i`. -/
def instReport (s n : State) (i : Nat) : List Nat × List Nat × List Nat :=
  let old := s.instAll
  let all := n.instAll
  (sortedIds ((n.instOf i).filter (fun u => old.any (fun v => v.id == u.id))),
   sortedIds (newInsts old (n.instOf i)),
   sortedIds ((s.instOf i).filter (fun u => !(all.any (fun v => v.id == u.id)))))

/-- The report of a check. -/
def checkReport (s : State) (p : ProgImage) (expert : Bool) : Bytes :=
  let n := s.withProgram p
  let recs := p.tasks.map (fun i => (i, instReport s n i))
  let forced := (s.forcesNow.filter (fun x => p.tasks.contains x.1.task)).map (fun x => x.1)
  let gone := removedVars s p
  leBytes 2 recs.length ++ leBytes 2 forced.length ++ leBytes 4 0
    ++ recs.flatMap (fun r =>
      let kind := if ¬ n.taskExists r.1 then 2 else if ¬ s.taskExists r.1 then 1 else 0
      leBytes 1 r.1 ++ leBytes 1 kind ++ leBytes 2 0 ++ leBytes 4 r.2.1.length ++ leBytes 4 r.2.2.1.length ++ leBytes 4 r.2.2.2.length
        ++ leBytes 8 (if kind = 2 then 0 else n.taskR r.1))
    ++ forced.flatMap (fun v =>
      let kind := if gone.any (fun w => w.id == v.id) then (if p.vars.any (fun w => w.id == v.id) then 2 else 1) else 0
      leBytes 4 v.id ++ leBytes 1 kind ++ leBytes 3 0)
    ++ (if expert then recs.flatMap (fun r => (r.2.1 ++ r.2.2.1 ++ r.2.2.2).flatMap (leBytes 4)) else [])

/-- A linked partner takes part in the exchange (R209). -/
def State.withPartner (s : State) : Bool := s.pair.st == .active && s.pair.link

/-- The image goes to the partner before the checks are answered (R209). -/
def State.sendImage (e : Entry) (s : State) : State :=
  ({ s with pair := { s.pair with image := some e } } : State).send (.hedgerow 7 [slotNo e.cmd])

/-- The answer of a check. -/
def State.answerCheck (e : Entry) (s : State) : State :=
  match (s.slot (slotNo e.cmd)).image with
  | some p => let b := checkReport s p e.cmd.expert; s.complete e .sOk b.length b
  | none => s

/-- `TASK.PROG_CHECK`. -/
def specTaskProgCheck : CmdSpec where
  op := 0x0212
  target := slotTarget
  long := fun _ => true
  run := fun e s =>
    .later (match s.judge (slotNo e.cmd) false e.cmd with
      | some (st, chk, i) => s.complete e st (checkResult chk i) []
      | none => if s.withPartner then s.sendImage e else s.answerCheck e)

/-! ## TASK.PROG_EXCHANGE: stage, post, switch (R198, R200 to R202) -/

/-- Fills a span of a store from initial contents. -/
def fillFrom (init : Tab Byte) (a n : Nat) (t : Tab Byte) : Tab Byte := Tab.putBytes t a (Tab.getBytes init a n)

/-- Stage: the new entries, constants, instances and M variables go into their places; no running task sees them. -/
def State.stage (p : ProgImage) (s : State) : State :=
  let n := s.withProgram p
  let g := n.cfg.prog
  let old := s.instAll
  let fresh := newInsts old n.instAll
  let st := (p.of 2).foldl (fun t x => Tab.putBytes t (regionK + x.2.1) x.2.2) s.prog.store
  let st := fresh.foldl (fun t u => Tab.putBytes (fillFrom g.init u.addr u.size (Tab.without t u.addr u.size)) u.addr
    (leBytes 4 u.id ++ leBytes 4 0 ++ (if [0x0A00, 0x0A01, 0x0A02, 0x0A04].contains u.code then leBytes 2 0 else []))) st
  let st := n.instAll.foldl (fun t u =>
    match old.find? (fun v => v.id == u.id) with
    | some v => if v.size < u.size then fillFrom g.init (v.addr + v.size) (u.size - v.size) t else t
    | none => t) st
  let mKept := keptM s p
  let st := (p.of 4).foldl (fun t x => (List.range x.2.2.length).foldl (fun t k =>
    let a := x.2.1 + k
    if mKept.any (fun u => decide (u.1 ≤ a ∧ a < u.1 + u.2)) then t else Tab.put (fun _ => 0) t a (getAt 0 x.2.2 k)) t) st
  let st := (p.vars.filter (fun v => v.where?.space == 3 && !(s.cfg.prog.vars.any (fun w => w.id == v.id && w.ref == v.ref)))).foldl
    (fun t v => let r := v.where?; putForce t (r, leNat (getValue (r.ty == 1) r.addr (r.off % 8) r.bytes g.init))) st
  { s with
    cfg := { s.cfg with prog := { s.cfg.prog with table := g.table, init := g.init } },
    prog := { s.prog with store := st, requests := s.prog.requests.filter (fun x => !(fresh.any (fun u => u.addr == x.1))) } }

/-- The variables as task `i` switches to the program `x`: its own of the new program; a kept variable that passes to a task yet to
switch stays until then, so that its force does not break (R206). -/
def switchVars (x : Exchange) (i : Nat) (old : List VarDef) : List VarDef :=
  let mine := x.new.vars.filter (fun v => v.task == i)
  (old.filter (fun v => !(mine.any (fun w => w.id == v.id))
    && (v.task != i || x.new.vars.any (fun w => w.id == v.id && w.ref == v.ref && w.task != i && x.pending.contains w.task)))) ++ mine

/-- The switch of task `i` takes effect at its boundary. -/
def State.switchTask (i : Nat) (s : State) : State :=
  match s.prog.exchange with
  | none => s
  | some x =>
    if ¬ x.pending.contains i then s
    else
      let s := s.expireForces i
      let mine := s.cfg.prog.vars.filter (fun v => v.task == i)
      let gone := mine.filter (fun v => !(x.new.vars.any (fun w => w.id == v.id && w.ref == v.ref)))
      let s := if x.releaseForces then s.each (fun id s => s.forceDrop (match x.entry with | some e => e.cmd.route | none => .host) id false) (gone.map (·.id)) else s
      let was := s.taskExists i
      let l := blockParams (assocBytes i x.blocks)
      let lives := newValue s i l .taskKind != 0
      let s := if lives then s else if (s.taskOf i).state = .stopped then (s.outputsSafe i).axesLost i else s.taskStop i false
      let old := (s.taskProg i).outMap
      let q := Tab.get (fun _ => ({} : TaskProg)) x.new.tasks i
      let s := (s.setTaskProg i q).setParams i l
      let safe := q.inMap.foldl (fun t e =>
        if e.cls = 0x0A then Tab.put (fun _ => 0) t (varKey e.index e.sub) (Tab.get (fun _ => 0) x.new.safeVals (varKey e.index e.sub)) else t)
        s.cfg.prog.safeVals
      let s : State := { s with
        cfg := { s.cfg with prog := { s.cfg.prog with
          safeVals := safe,
          vars := switchVars x i s.cfg.prog.vars } },
        prog := { s.prog with exchange := some { x with pending := x.pending.filter (fun j => j != i), switched := x.switched ++ [i] } } }
      let s := (s.rebank old i).retainTake (fun v => v.task == i)
      let y := s.taskOf i
      let s := s.setTask i { y with
        gone := if lives then y.gone ++ s.unmapped old i else [],
        matchCount := 0,
        notBefore := match y.lastRelease with
          | some a => if y.live ∧ s.param .taskKind i ≠ 3 then a + s.param .taskCycle i else y.notBefore
          | none => y.notBefore }
      if x.startNew && !was && lives then s.taskStart i else s
where
  /-- The parameter block of task `i`. -/
  assocBytes (i : Nat) : List (Nat × Bytes) → Bytes
    | [] => []
    | (j, b) :: r => if j = i then b else assocBytes i r

/-- Instances, by address, that take `EDGE_INIT` as 0 after the exchange (R201). -/
def State.noEdgeAfter (s n : State) (keep : Bool) : List Nat :=
  let fresh := (newInsts s.instAll n.instAll).map (·.addr)
  let rest := s.prog.noEdge.filter (fun a => !(fresh.contains a))
  if keep then rest else rest ++ fresh

/-- The exchange is accepted: log entries of its safety tasks, stage, postings; a task that does not run switches at once. In a pair
every switch waits for the pair-timer instant that `dues` names for it (R209). -/
def State.beginExchange (entry : Option Entry) (c : Cmd) (p : ProgImage) (dues : List (Nat × Nat)) (s : State) : State :=
  let n := s.withProgram p
  let s := (safetyChanged s n p).foldl (fun s i => s.logTask i c.route n) s
  let x : Exchange := {
    slot := slotNo c, mask := p.mask, entry := entry, pending := p.tasks, releaseForces := bitOf (c.field 17 1) 0,
    startNew := c.expert && bitOf (c.field 17 1) 2, new := n.cfg.prog, blocks := p.tasks.map (fun i => (i, p.block i)),
    old := s.cfg.prog, oldParams := s.cfg.params }
  let edges := s.noEdgeAfter n (c.expert && bitOf (c.field 17 1) 1)
  let s := s.stage p
  let s : State := { s with prog := { s.prog with exchange := some x, noEdge := edges } }
  p.tasks.foldl (fun s i =>
    match dues.find? (fun d => d.1 == i) with
    | some d => s.postMail { owner := taskOwner i, body := .progSwitch (slotNo c), due := d.2 }
    | none =>
      if (s.taskOf i).live then s.postMail { owner := taskOwner i, body := .progSwitch (slotNo c) } else s.switchTask i) s

/-- An accepted exchange of a command: a pair's ACTIVE partner names the instant of each task's switch, at least 16 of its cycles
ahead, and tells the partner (R209). -/
def State.startExchange (e : Entry) (p : ProgImage) (s : State) : State :=
  if ¬ s.postsToPartner then s.beginExchange (some e) e.cmd p []
  else
    let x := p.tasks.foldl (fun (x : State × List (Nat × Nat)) i =>
      let due := x.1.pairDue (taskOwner i) 16
      (x.1.afterDraw.send (.hedgerow 8 [slotNo e.cmd, i, due]), x.2 ++ [(i, due)])) (s, [])
    x.1.beginExchange (some e) e.cmd p x.2

/-- The ACTIVE partner's exchange begins on the STANDBY too (R209). -/
def State.peerExchange (c : Cmd) (dues : List (Nat × Nat)) (s : State) : State :=
  match (s.slot (slotNo c)).image with
  | some p => if s.prog.exchange.isSome then s else s.beginExchange none c p dues
  | none => s

/-- An exchange is refused. -/
def State.refuseExchange (e : Entry) (st : Status) (chk i : Nat) (s : State) : State :=
  (s.complete e st (checkResult chk i) []).post .control .eProgRefused (slotRes (slotNo e.cmd)) chk

/-- `TASK.PROG_EXCHANGE`. -/
def specTaskProgExchange : CmdSpec where
  op := 0x0213
  layout := fun c => { masks := [(17, if c.expert then 7 else 1)] }
  target := slotTarget
  run := fun e s =>
    .later (match s.judge (slotNo e.cmd) (bitOf (e.cmd.field 17 1) 0) e.cmd with
      | some (st, chk, i) => s.refuseExchange e st chk i
      | none =>
        if s.withPartner then s.sendImage e
        else match (s.slot (slotNo e.cmd)).image with
          | some p => s.startExchange e p
          | none => s)

/-- The transfer of the image to the partner ends (R209): the checks are made again on what runs then; unequal images fail
check 21, a lost link refuses the exchange. -/
def State.imageSent (same : Bool) (s : State) : State :=
  match s.pair.image with
  | none => s
  | some e =>
    let s : State := { s with pair := { s.pair with image := none } }
    let k := slotNo e.cmd
    let check := e.op == 0x0212
    let refuse := fun (st : Status) (chk i : Nat) (s : State) =>
      if check then s.complete e st (checkResult chk i) [] else s.refuseExchange e st chk i
    if ¬ s.pair.link then (refuse .sState 21 noEntry s).post .control .eProgPairAbort (slotRes k) k
    else match s.judge k (bitOf (e.cmd.field 17 1) 0) e.cmd with
    | some (st, chk, i) => refuse st chk i s
    | none =>
      if ¬ same then refuse .sState 21 noEntry s
      else if check then s.answerCheck e
      else match (s.slot k).image with
        | some p => s.startExchange e p
        | none => s

/-- After the last switch the program is committed and the command completes (R199). -/
def State.finishExchange (s : State) : State :=
  match s.prog.exchange with
  | none => s
  | some x =>
    if ¬ x.pending.isEmpty then s
    else
      let s := s.setSlot x.slot { s.slot x.slot with switched := x.switched }
      let s : State := { s with
        cfg := { s.cfg with prog := { s.cfg.prog with progId := x.new.progId, build := x.new.build, retain := x.new.retain } },
        prog := { s.prog with exchange := none } }
      let s : State := { s with cocoon := { s.cocoon with config := s.cocoon.config.now s.settings } }
      let s := s.post .control .eProgExchanged (slotRes x.slot) x.mask
      match x.entry with
      | some e => s.complete e .sOk 0 []
      | none => s

/-- The program commands of class 0x02. -/
def specProg : List CmdSpec :=
  [specTaskProgLoad, specTaskProgWrite, specTaskProgCheck, specTaskProgExchange, specTaskProgStatus, specTaskProgErase, specTaskProgRead]

/-- TASK_PROG_LOAD. -/
def execTaskProgLoad (t : Nat) (c : Cmd) (s : State) : Host.Outcome State Fault Refusal := .next (specTaskProgLoad.submit c (s.advance t))
/-- TASK_PROG_WRITE. -/
def execTaskProgWrite (t : Nat) (c : Cmd) (s : State) : Host.Outcome State Fault Refusal := .next (specTaskProgWrite.submit c (s.advance t))
/-- TASK_PROG_CHECK. -/
def execTaskProgCheck (t : Nat) (c : Cmd) (s : State) : Host.Outcome State Fault Refusal := .next (specTaskProgCheck.submit c (s.advance t))
/-- TASK_PROG_EXCHANGE. -/
def execTaskProgExchange (t : Nat) (c : Cmd) (s : State) : Host.Outcome State Fault Refusal := .next (specTaskProgExchange.submit c (s.advance t))
/-- TASK_PROG_STATUS. -/
def execTaskProgStatus (t : Nat) (c : Cmd) (s : State) : Host.Outcome State Fault Refusal := .next (specTaskProgStatus.submit c (s.advance t))
/-- TASK_PROG_ERASE. -/
def execTaskProgErase (t : Nat) (c : Cmd) (s : State) : Host.Outcome State Fault Refusal := .next (specTaskProgErase.submit c (s.advance t))
/-- TASK_PROG_READ. -/
def execTaskProgRead (t : Nat) (c : Cmd) (s : State) : Host.Outcome State Fault Refusal := .next (specTaskProgRead.submit c (s.advance t))

/-- EXCHANGE_FINISH (R199). -/
def execExchangeFinish (t : Nat) (s : State) : Host.Outcome State Fault Refusal := .next (s.advance t).finishExchange

/-- PROG_IMAGE_TRANSFER_END (R209): `same` is the comparison of the partners' `PCRC`. -/
def execProgImageTransferEnd (t : Nat) (same : Bool) (s : State) : Host.Outcome State Fault Refusal := .next ((s.advance t).imageSent same)

end Sys2Proof.Machine
end

