-- ==== Sys2Proof/Machine/PairCmd.lean ====
section
/-! DEFINITION. The pair cycle (13 R352 to R356, R366), resynchronisation (R367), the commands of class 0x09 (R373) and the
rows of the hedgerow link. -/

namespace Sys2Proof.Machine

/-! ## Input agreement (R353) -/

/-- Order of a quality (05 R141). -/
def qualRank (q : Nat) : Nat := if q = 0x80 then 4 else if q = 3 then 3 else if q = 1 then 2 else if q = 2 then 1 else 0

/-- The higher of two qualities. -/
def qualMax (a b : Nat) : Nat := if qualRank a < qualRank b then b else a

/-- Order of two values of a type. -/
def valueLe (ty a b : Nat) : Bool := if tyReal ty then (tyFmt ty).le a b else decide (signed (tyWidth ty) a ≤ signed (tyWidth ty) b)

/-- The mean of two numeric values; where the sum of two integers is odd the spec states no rounding: `up` is free
(notes/assumptions/63.md). -/
def meanOf (ty : Nat) (up : Bool) (a b : Nat) : Nat :=
  if tyReal ty then
    let f := tyFmt ty
    if f.isFinite a && f.isFinite b then
      (if ty = 6 then ((f64.toQ a).add (f64.toQ b)).div (Q.ofInt 2) |>.toLreal else ((f32.toQ a).add (f32.toQ b)).div (Q.ofInt 2) |>.toReal)
    else (f.add a b).bits
  else
    let t := signed (tyWidth ty) a + signed (tyWidth ty) b
    wrapInt (tyWidth ty) (t / 2 + (if up ∧ t % 2 ≠ 0 then 1 else 0))

/-- The agreed value under MEAN, MAX or MIN of two valid values. -/
def ruleValue (rule ty : Nat) (up : Bool) (a b : Nat) : Nat :=
  let bits := ty == 1 || ty == 7 || ty == 8
  match rule with
  | 2 => if bits then a ||| b else meanOf ty up a b
  | 3 => if bits then a ||| b else if valueLe ty a b then b else a
  | 4 => if bits then a &&& b else if valueLe ty a b then a else b
  | _ => a

/-- The agreed value and quality of a source under a rule, from side A's and side B's value and quality. -/
def agreeRuled (rule ty : Nat) (status up : Bool) (a b : Nat × Nat) : Nat × Nat :=
  let okA := a.2 != 0x80
  let okB := b.2 != 0x80
  let comb := if status then (fun _ => a.1 ||| b.1) else (fun (_ : Unit) => ruleValue rule ty up a.1 b.1)
  if okA && !okB then a
  else if okB && !okA then b
  else if okA then (match rule with
    | 0 => a
    | 1 => b
    | _ => (comb (), qualMax a.2 b.2))
  else (match rule with
    | 0 => (a.1, 0x80)
    | 1 => (b.1, 0x80)
    | _ => (comb (), 0x80))

/-- The agreed form of one entry: this module's value and quality, the partner's. -/
def State.agreeEntry (s : State) (e : MapEntry) (own : Nat × Nat) (p : AgreeVal) : Nat × Nat :=
  let their := (leNat p.val, p.qual)
  let active := s.pair.st == .active
  if e.cls = 0x0A then
    let mine := (s.consOf e.index).seq
    if mine = p.seq then (if active then own else their) else if p.seq < mine then own else their
  else if e.cls = 0x0C ∨ e.cls = 0x07 ∨ e.cls = 0x08 then (if active then own else their)
  else
    let sideA := s.param .pairSide 0 == 0
    agreeRuled (s.param .agreeRule (agreeKey e)) e.ty (isStatus e) (s.drawn.toNat % 2 == 1) (if sideA then own else their) (if sideA then their else own)

/-- The agreed input image: the entries of the map with their qualities, the partner's in the same order. -/
def State.agreeAll (s : State) : List MapEntry → List Nat → List AgreeVal → Tab Byte → Tab Byte
  | e :: es, q :: qs, ps, img =>
    if takesRule e && s.param .agreeRule (agreeKey e) == 5 then s.agreeAll es qs ps img
    else match ps, s.inForm e with
      | p :: ps, some (_, n) =>
        let own := leNat (getValue (e.ty == 1) e.off e.bit n img)
        let r := s.agreeEntry e (own, q) p
        s.agreeAll es qs ps (e.put n (leBytes n r.1) r.2 img)
      | _, _ => img
  | _, _, _, img => img

/-- The agreement window of task `i` ends (R352, R354): without the partner's entries the cycle runs on the module's own. -/
def State.agreeEnd (i : Nat) (peer : Option (List AgreeVal)) (s : State) : State :=
  let x := s.taskOf i
  if ¬ (s.paired && x.executing && !x.agreed && !x.awaiting) ∨ s.tb0 < x.release + s.taskL i + 12000 then s
  else if ¬ s.inStep then s.setTask i { x with agreed := true }
  else match peer with
    | none => (s.setTask i { x with agreed := true, sigLate := x.sigLate + 1 }).post .data .ePairSigLate pairRes i
    | some l =>
      let img := s.agreeAll (s.taskProg i).inMap x.quals l x.inImg
      s.afterDraw.setTask i { x with agreed := true, inImg := img }

/-! ## Signature compare (R355, R366) -/

/-- The signatures differ: both partners withhold the commit and test themselves. -/
def State.signatureMismatch (i : Nat) (s : State) : State :=
  let n := s.param .taskPair i
  let s := s.recordOverrun i s.tb0
  let x := s.taskOf i
  let s := s.setTask i { x.dropped with mismatches := x.mismatches + 1, misses := 0 }
  let s := if s.isSafetyTask i then s.outputsSafe i else s
  let s := s.post .data .fPairMismatch pairRes i
  let s := s.setCp n { s.cpOf n with testing := some s.tb0 }
  { s with pair := { s.pair with mismatch := some (i, s.tb0) } }

/-- The compare window of task `i` ends with the partner's signature, or without one. -/
def State.compareEnd (i : Nat) (sig : Option Nat) (s : State) : State :=
  let x := s.taskOf i
  if ¬ (s.paired && x.executing && x.awaiting) then s
  else if ¬ s.inStep then s.taskCommit i x.lastExec x.rangeExec
  else match sig with
    | some v =>
      if v = s.taskSig i then (s.setTask i { x with misses := 0, sigBase := v }).taskCommit i x.lastExec x.rangeExec else s.signatureMismatch i
    | none =>
      let s := (s.setTask i { x with sigLate := x.sigLate + 1 }).post .data .ePairSigLate pairRes i
      if s.pair.st = .active then s.taskCommit i x.lastExec x.rangeExec
      else
        let s := s.recordOverrun i s.tb0
        let s := s.setTask i { (s.taskOf i).dropped with misses := x.misses + 1 }
        if 3 ≤ x.misses + 1 then s.enterSync else s

/-- The mismatches that count, with one now; N and W are those of core pairs (notes/assumptions/64.md). -/
def State.mismatchTimes (s : State) : List Nat :=
  (s.pair.mismatches.filter (fun a => decide (s.powered ≤ a + s.param .fltW 4 * 1000000000))) ++ [s.powered]

/-- The designated primary continues as ACTIVE. -/
def State.continues (s : State) : State := if s.pair.st = .active then s else s.takeOver 3

/-- Both partners' results are in (R366): `part` is this module's failing part, 0 where it passed, `bad0`, `bad1` its failing
cores, `peerOk` the partner's result. -/
def State.mismatchEnd (part : Nat) (bad0 bad1 peerOk : Bool) (s : State) : State :=
  match s.pair.mismatch with
  | none => s
  | some (i, a) =>
    if s.tb0 < a + 100000 then s
    else
      let n := s.param .taskPair i
      let s : State := { s with pair := { s.pair with mismatch := none } }
      let s := (s.setCp n { s.cpOf n with testing := none }).send (.hedgerow 5 [i, part])
      let fails := fun (s : State) => s.post .data .fPairSelftest pairRes part
      let local3b := fun (s : State) => if part = 1 then s.coreRetireAlone n Code.fPairMismatch.num (passingCore bad0 bad1) else s
      if part = 0 ∧ peerOk then
        let l := s.mismatchTimes
        let s : State := { s with pair := { s.pair with mismatches := l } }
        if s.isPrimary then s.continues
        else if s.param .fltN 4 ≤ l.length then (s.yield 2).post .data .fPairMismatchRepeated pairRes l.length
        else s.yield 1
      else if part = 0 then s.continues
      else if ¬ peerOk ∧ s.isPrimary then (local3b (fails s)).continues
      else if s.pair.st = .active ∧ s.pair.link then
        -- the module drives on until the partner confirms; what R147 step 3b does follows that
        let s := (fails s).yield 2
        if part ≠ 1 ∨ (s.cpOf n).retired then s
        else
          let s := s.coreMark n Code.fPairMismatch.num
          { s with pair := { s.pair with late := s.pair.late ++ [(n, passingCore bad0 bad1)] } }
      else local3b ((fails s).yield 2)

/-! ## Link frames -/

/-- A TIME frame (R351): the STANDBY's pair timer is held within ±100 ns of the reference; where inside is free. -/
def State.timeFrame (v : Int) (s : State) : State :=
  if ¬ s.paired then s
  else
    let s := s.linkFrame
    if s.pair.st = .standby ∨ s.pair.st = .syncing ∨ s.pair.st = .searching then
      let d : Int := (s.drawn.toNat % 201 : Nat) - 100
      { s.afterDraw with pair := { s.pair with timerOff := v - s.tb0 + d } }
    else s

/-- A STATE frame (R356): a STANDBY's loop takes the ACTIVE partner's sources, its axis generator the exchanged state. -/
def State.stateFrame (m : StateMsg) (s : State) : State :=
  if ¬ s.paired then s
  else
    let s := s.linkFrame
    if s.pair.st ≠ .standby then s
    else match m with
      | .loop i pv sp => if i < 512 then s.setLoop i { s.loopOf i with peer := some (pv, sp) } else s
      | .axis n pos vel acc => if n < 4 then s.setAx n { s.axOf n with pos := pos, vel := vel, acc := acc } else s

/-- A CONTROL frame (R357, R360, R369): `specOf` finds the owner of a posting's command. -/
def State.controlFrame (specOf : Nat → Option CmdSpec) (m : CtlMsg) (s : State) : State :=
  if ¬ s.paired then s
  else
    let s := s.linkFrame
    match m with
    | .posting op c due =>
      if s.pair.st ≠ .standby ∧ s.pair.st ≠ .syncing then s
      else (match specOf op with
        | some k => (match k.owner s c with
          | some o => s.postMail { owner := o, body := .pairCmd { id := 0, op := op, cmd := c }, due := due }
          | none => (match k.run { id := 0, op := op, cmd := c } s with | .done _ _ _ s' => s' | .later s' => s'))
        | none => s)
    | .departure => if s.pair.st = .standby ∨ s.pair.st = .unlinked then s.takeOver 1 else s
    | .switchover due cause => if s.pair.st = .standby ∨ (s.pair.st = .active ∧ cause = 5) then { s with pair := { s.pair with switch := some (none, due, cause) } } else s
    | .confirm => s.confirmed.coreLate
    | .axisOff n => s.axisOff n
    | .exchange c dues => if s.pair.st = .standby ∨ s.pair.st = .syncing then s.peerExchange c dues else s
    | .releaseAll c dues =>
      if s.pair.st ≠ .standby ∧ s.pair.st ≠ .syncing then s
      else dues.foldl (fun s d =>
        s.postMail { owner := taskOwner d.1, body := .releaseTask { id := 0, op := 0x0302, cmd := c } d.1, due := d.2 }) s
    | .release id due =>
      if s.pair.st ≠ .standby ∧ s.pair.st ≠ .syncing then s
      else match s.varOf id with
        | some v => s.postMail { owner := taskOwner v.task, body := .pairRelease id, due := due }
        | none => s

/-- The named switchover instant arrives at the STANDBY partner (R369). -/
def State.switchoverInstant (s : State) : State :=
  match s.pair.switch with
  | some (_, due, cause) => if s.pair.st = .standby ∧ (due : Int) ≤ s.pairTimer then s.takeOver cause else s
  | none => s

/-! ## Lanes (R350) -/

/-- A lane's frames have failed their repeat 16 times within 1 s. -/
def State.laneFailure (k : Nat) (s : State) : State :=
  if s.pair.lanesOut.any (fun x => x.1 == k) then s
  else ({ s with pair := { s.pair with lanesOut := s.pair.lanesOut ++ [(k, s.tb0)] } } : State).post .data .ePairLane pairRes k

/-- A failed lane is retried every 1 s. -/
def State.laneRetry (k : Nat) (ok : Bool) (s : State) : State :=
  match s.pair.lanesOut.find? (fun x => x.1 == k) with
  | none => s
  | some x =>
    if s.tb0 < x.2 + 1000000000 then s
    else
      let rest := s.pair.lanesOut.filter (fun y => y.1 != k)
      { s with pair := { s.pair with lanesOut := if ok then rest else rest ++ [(k, s.tb0)] } }

/-- The cable-detect input changes level. -/
def State.hdetChange (level : Bool) (s : State) : State :=
  if s.pair.hdet = level then s
  else ({ s with pair := { s.pair with hdet := level } } : State).post .data .ePairHdet pairRes (b2n level)

/-! ## Resynchronisation (R367) -/

/-- A loop takes the ACTIVE partner's state. -/
def State.loopCopy (l : LoopCopy) (s : State) : State :=
  (s.setLoop l.i { s.loopOf l.i with
    out := l.out, pv := l.pv, spr := l.spr, p := l.p, i := l.int, d := l.d, uPrev := l.uPrev, pvPrev := l.pvPrev, spGood := l.spGood,
    lflags := l.flags, ackSeq := l.ack, refused := l.refused, first := l.first, firstAuto := l.firstAuto, wasOos := l.wasOos }).setParam .loopMode l.i l.mode

/-- A loop's state as it would be copied. -/
def State.loopState (s : State) (i : Nat) : LoopCopy :=
  let x := s.loopOf i
  { i := i, out := x.out, pv := x.pv, spr := x.spr, p := x.p, int := x.i, d := x.d, uPrev := x.uPrev, pvPrev := x.pvPrev,
    spGood := x.spGood, flags := x.lflags, ack := x.ackSeq, refused := x.refused, first := x.first, firstAuto := x.firstAuto,
    wasOos := x.wasOos, mode := s.loopMode i }

/-- The parameters that stay the joiner's own. -/
def ownParam (k : Nat) : Bool := k % 512 == Param.pairSide.ctorIdx

/-- Puts one copied item into place. -/
def State.bulkItem (m : BulkMsg) (s : State) : State :=
  let prog := s.cfg.prog
  match m with
  | .hello p =>
    (match s.compatFault p with
     | some n => s.incompatible n
     | none => { s with
        cfg := { s.cfg with pairEpoch := p.epoch }, pair := { s.pair with epoch := p.epoch, stage := max 2 s.pair.stage, peer := some p } })
  | .params l => { s with cfg := { s.cfg with
      params := (l.filter (fun x => !(ownParam x.1))).foldl (fun t x => Tab.put Param.unlisted t x.1 x.2) s.cfg.params } }
  | .table a b => { s with cfg := { s.cfg with prog := { prog with table := Tab.putBytes prog.table a b } } }
  | .init a b => { s with cfg := { s.cfg with prog := { prog with init := Tab.putBytes prog.init a b } } }
  | .task i ranges inMap outMap inSize outSize =>
    s.setTaskProg i { ranges := ranges, inMap := mapEntries inMap, outMap := mapEntries outMap, inSize := inSize, outSize := outSize }
  | .vars l retain => { s with cfg := { s.cfg with prog := { prog with
      vars := l.map (fun x => { id := x.1, ref := x.2.1, task := x.2.2.1, flags := x.2.2.2 }), retain := retain } } }
  | .force id value left => s.setForce id (some { value := value, till := left.map (fun n => s.tb0 + n) })
  | .configEnd =>
    let s : State := { s with cocoon := { s.cocoon with config := s.cocoon.config.now s.settings } }
    { s with pair := { s.pair with stage := max 4 s.pair.stage } }
  | .store a b => { s with prog := { s.prog with store := Tab.putBytes s.prog.store a b } }
  | .taskState i st bank =>
    let y : TaskState := match st with | 0 => .stopped | 1 => .starting | 2 => .running | 3 => .held | _ => .halted
    s.setTask i { s.taskOf i with state := y, committed := Tab.putBytes [] 0 bank, forwarded := st == 2, safeOut := st != 2 }
  | .loop l => s.loopCopy l
  | .errors l => { s with prog := { s.prog with errors := l } }
  | .trip n latched cause used =>
    if n < 8 then s.setSo n { s.soOf n with tripped := latched, cause := cause, budgetUsed := used } else s
  | .program id build => { s with cfg := { s.cfg with prog := { prog with progId := id, build := build } } }
  | .connVars id vs => s.setConnVars id vs
  | .substitutes l => { s with cfg := { s.cfg with prog := { prog with
      subst := l.foldl (fun t x => Tab.put (fun _ => (0, 0)) t x.1 x.2) prog.subst } } }
  | .safeValues l => { s with cfg := { s.cfg with prog := { prog with
      safeVals := l.foldl (fun t x => Tab.put (fun _ => 0) t x.1 x.2) prog.safeVals } } }
  | .region k x y w h cls =>
    let reg : Option Region := if w = 0 then none else some { x := x, y := y, w := w, h := h, cls := cls }
    { s with cfg := { s.cfg with panel := { s.cfg.panel with regions := Tab.put (fun _ => none) s.cfg.panel.regions k reg } } }
  | .panelTable k b => { s with cfg := { s.cfg with panel := s.cfg.panel.withTable k (Tab.putBytes [] 0 b) } }
  | .alive c n => if c < 1024 then s.setProd c { s.prodOf c with alive := n } else s
  | .slot k plen a b => if k < 4 then s.slotWrite k plen a b else s

/-- Bytes that a BULK frame counts towards progress. -/
def bulkSize : BulkMsg → Nat
  | .params l => 8 * l.length
  | .table _ b => b.length
  | .init _ b => b.length
  | .task _ ranges i o _ _ => 4 * ranges.length + i.length + o.length
  | .vars l r => 12 * l.length + 4 * r.length
  | .force _ _ _ => 16
  | .store _ b => b.length
  | .taskState _ _ b => b.length
  | .loop _ => 64
  | .errors l => 8 * l.length
  | .trip _ _ _ _ => 8
  | .alive _ _ => 4
  | .program _ _ => 8
  | .connVars _ vs => 4 * vs.length
  | .substitutes l => 12 * l.length
  | .safeValues l => 8 * l.length
  | .region _ _ _ _ _ _ => 12
  | .panelTable _ b => b.length
  | .slot _ _ _ b => b.length
  | .hello _ => 64
  | .configEnd => 0

/-- A BULK frame (R367): copies reach a joiner; a program image the STANDBY (07 R209). -/
def State.bulkFrame (m : BulkMsg) (s : State) : State :=
  if ¬ s.paired then s
  else
    let s := s.linkFrame
    let slot := match m with | .slot _ _ _ _ => true | _ => false
    if (s.pair.st = .syncing ∧ 1 ≤ s.pair.stage) ∨ (s.pair.st = .standby ∧ slot = true) then
      let s : State := { s with pair := { s.pair with bulk := s.pair.bulk + bulkSize m } }
      s.bulkItem m
    else s

/-- A copy pass ends with `dirty` bytes written since: the next stage, or another dirty pass. -/
def State.passEnd (dirty : Nat) (s : State) : State :=
  if s.pair.st ≠ .syncing then s
  else
    let s : State := { s with pair := { s.pair with dirty := dirty } }
    match s.pair.stage with
    | 4 => { s with pair := { s.pair with stage := 5 } }
    | 5 => if dirty ≤ 65536 then { s with pair := { s.pair with stage := 6 } } else s
    | _ => s

/-- Every task and loop has joined: STANDBY. A module that an activation upgraded then takes over with cause 5 (R370). -/
def State.resyncJoin (s : State) : State :=
  if s.pair.st = .syncing ∧ s.pair.stage = 6 then
    let d := (s.tb0 - s.pair.syncAt) / 1000000
    let s := (({ s with pair := { s.pair with stage := 7 } } : State).pairState .standby).post .data .ePairSynced pairRes d
    if s.bootRec.takes then
      ((s.setBoot { s.bootRec with takes := false }).send (.hedgerow 3 [s.pairTimer.toNat, 5])).takeOver 5
    else s
  else s

/-- 30 s without completion, recorded once. -/
def State.resyncSlow (s : State) : State :=
  if s.pair.st = .syncing ∧ ¬ s.pair.slow ∧ 1 ≤ s.pair.stage ∧ s.pair.syncAt + 30000000000 ≤ s.tb0 then
    ({ s with pair := { s.pair with slow := true } } : State).post .data .ePairSyncSlow pairRes s.pair.dirty
  else s

/-- Once per second the loop partitions are compared; a STANDBY's differing loop is copied (R356). -/
def State.loopCheckPair (l : List LoopCopy) (s : State) : State :=
  if s.pair.st ≠ .standby then s
  else l.foldl (fun s x =>
    if x.i < 512 ∧ s.loopState x.i ≠ x then (s.loopCopy x).post .data .ePairLoopResync pairRes x.i else s) s

/-! ## Commands (R373) -/

/-- The settings of a `PAIR.CONFIGURE`. -/
def pairConfSettings (c : Cmd) : List (Param × Nat) :=
  [(.pairEn, c.field 16 1), (.pairSide, c.field 17 1), (.desigPrimary, c.field 18 1)]
    ++ (if c.expert then [(.releaseBase, c.field 19 1), (.autoJoin, c.field 20 1)] else [])

/-- Bytes 16 to 20 of the command as settings fill them. -/
def pairConfBlock (s : State) (l : List (Param × Nat)) : Bytes :=
  [Param.pairEn, .pairSide, .desigPrimary, .releaseBase, .autoJoin].flatMap (fun p => leBytes 1 (newValue s 0 l p))

/-- Membership or side changes. -/
def pairMoves (s : State) (c : Cmd) : Bool := c.field 16 1 != s.param .pairEn 0 || c.field 17 1 != s.param .pairSide 0

/-- `PAIR.CONFIGURE` (R343). -/
def specPairConfigure : CmdSpec where
  op := 0x0900
  layout := fun c => { ranges := [(16, if c.expert then 5 else 3)] }
  target := targetZero 0x09
  needsSession := fun s c => s.safetyConfig && pairMoves s c
  params := fun _ c => (pairConfSettings c).all (fun x => x.1.inRange x.2)
  owner := fun _ _ => some { kind := .pair, index := 0 }
  running := fun _ _ => false
  run := guarded
    (fun s c => firstOf
      [whenS (pairMoves s c && (List.range 16).any (fun i => (s.taskOf i).state != .stopped)) .sState,
       whenS (s.safetyConfig && pairMoves s c && s.logFull) .sLogFull])
    (fun e s =>
      let l := pairConfSettings e.cmd
      let moves := pairMoves s e.cmd
      let s := if s.safetyConfig && moves then s.logChange e.cmd.route 0x09 0 0 (pairConfBlock s []) (pairConfBlock s l) else s
      let was := s.param .pairEn 0
      let s := s.setCommit 0 l
      .ok (if was = 0 ∧ s.param .pairEn 0 = 1 then
          (let s := s.pairState .searching; { s with pair := { s.pair with searchAt := s.tb0, epoch := s.cfg.pairEpoch } })
        else if was = 1 ∧ s.param .pairEn 0 = 0 then s.pairState .unpaired else s))

/-- The source that a `PAIR.SET_AGREE` names. -/
def agreeSource (c : Cmd) : MapEntry := { cls := c.tgtClass, index := c.tgtIndex, sub := c.tgtSub, off := 0, bit := 0, ty := 0, qual := false }

/-- `PAIR.SET_AGREE` (R353, R354). -/
def specPairSetAgree : CmdSpec where
  op := 0x0901
  layout := fun _ => { ranges := [(16, 1)] }
  target := fun s c => takesRule (agreeSource c) && !(isStatus (agreeSource c)) && (s.inForm (agreeSource c)).isSome
  params := fun s c => decide (c.field 16 1 ≤ 5)
    && !(c.field 16 1 == 2 && (match s.inForm (agreeSource c) with | some (t, _) => !(tyReal t || tyInt t) | none => true))
  owner := fun _ _ => some { kind := .pair, index := 0 }
  running := fun _ _ => false
  run := guarded
    (fun s c =>
      let n := s.setParam .agreeRule (agreeKey (agreeSource c)) (c.field 16 1)
      whenS (s.paired && (List.range 16).any (fun i => decide (4096 < n.agreedBytes i))) .sNoSpace)
    (fun e s => .ok (s.setCommit (agreeKey (agreeSource e.cmd)) [(.agreeRule, e.cmd.field 16 1)]))

/-- The redundancy unit as owner of postings. -/
def pairOwner : Owner := { kind := .pair, index := 0 }

/-- What refuses a handover of the role. -/
def State.handOverFault (s : State) : Status :=
  firstOf [whenS (s.pair.st != .active) .sNotActive, whenS (!s.hasStandby) .sNoPartner, whenS s.pair.switch.isSome .sState]

/-- A handover that a command asks for is posted for the module's next 50 µs boundary (R369, R373). -/
def State.postSwitch (e : Entry) (s : State) : State :=
  if 8 ≤ s.mailCount pairOwner then s.complete e .sMailboxFull 0 []
  else s.postMail { owner := pairOwner, body := .pairSwitch e,
                    due := (((s.tb0 / 50000 + 1) * 50000 : Nat) + s.pair.timerOff : Int).toNat }

/-- The posting is applied: the switchover instant is named, 1 ms ahead (R369, step 1). -/
def State.pairSwitchNow (e : Entry) (s : State) : State :=
  match s.handOverFault with
  | .sOk => s.handOver (some e) (s.pairTimer + 1000000).toNat 4
  | st => s.complete e st 0 []

/-- `PAIR.SWITCHOVER` (R369). -/
def specPairSwitchover : CmdSpec where
  op := 0x0902
  target := targetZero 0x09
  check := fun s _ => s.handOverFault
  run := fun e s => .later (s.postSwitch e)

/-- `PAIR.JOIN`. -/
def specPairJoin : CmdSpec where
  op := 0x0903
  target := targetZero 0x09
  check := fun s _ =>
    let may := match s.pair.st with
      | .dropped => true | .incompatible => true | .unlinked => true | .isolated => true
      | .syncing => s.pair.stage == 0
      | _ => false
    firstOf
      [whenS (!may) .sState,
       whenS (!(s.pair.link && (match s.pair.peer with | some p => p.st == 2 | none => false))) .sNoPartner,
       whenS (match s.pair.peer with | some p => (s.compatFault p).isSome | none => false) .sIncompatible]
  run := fun _ s => .ok s.enterSync

/-- `PAIR.LEAVE`: an ACTIVE partner switches over first. -/
def specPairLeave : CmdSpec where
  op := 0x0904
  target := targetZero 0x09
  check := fun s _ =>
    match s.pair.st with
    | .unpaired => .sNoPartner
    | .searching => .sNoPartner
    | .active => firstOf [whenS (!s.hasStandby) .sNoPartner, whenS s.pair.switch.isSome .sState]
    | _ => .sOk
  run := fun e s => if s.pair.st = .active then .later (s.postSwitch e) else .ok (s.pairState .dropped)

/-- `PAIR.STATUS`; the layout of its result is not given (notes/assumptions/21.md). -/
def specPairStatus : CmdSpec where
  op := 0x0905
  target := targetZero 0x09
  long := fun _ => true
  run := fun e s =>
    let p := s.pair
    let peer : List Int := match p.peer with | some q => [(q.st : Int)] ++ (if e.cmd.expert then q.compat.map Int.ofNat else []) | none => [0]
    -- an upgraded partner that does not match is told of by its status (R370)
    let upgrade : Int := match p.peer with | some q => if q.st = 8 then (Status.sIncompatible.code : Int) else 0 | none => 0
    let v : List Int := [p.st.num, p.st.role, s.param .pairSide 0, p.epoch, p.timerOff, s.lanes, p.lastCause, p.lastAt, s.power.epoch, upgrade]
    let x : List Int := if e.cmd.expert then
      (List.range 16).flatMap (fun i => [((s.taskOf i).sigLate : Int), ((s.taskOf i).mismatches : Int)]) ++ [(p.bulk : Int)] ++ p.compat.map Int.ofNat
      else []
    .long (Config.resultLayout (0x0905 * 2 + b2n e.cmd.expert) (v ++ peer ++ x)) s

/-- `PAIR.LINK_TEST`: what the test frames find is free. -/
def specPairLinkTest : CmdSpec where
  op := 0x0906
  target := targetZero 0x09
  check := fun s _ => whenS (!(s.pair.st == .dropped || s.pair.st == .incompatible || s.pair.st == .unpaired)) .sState
  run := fun _ s => .done .sOk (s.drawn.toNat % 65536 + 65536 * (s.drawn.toNat / 65536 % 3)) [] s.afterDraw

/-- The commands of class 0x09. -/
def specPair : List CmdSpec :=
  [specPairConfigure, specPairSetAgree, specPairSwitchover, specPairJoin, specPairLeave, specPairStatus, specPairLinkTest]

/-- PAIR_CONFIGURE. -/
def execPairConfigure (t : Nat) (c : Cmd) (s : State) : Host.Outcome State Fault Refusal := .next (specPairConfigure.submit c (s.advance t))
/-- PAIR_SET_AGREE. -/
def execPairSetAgree (t : Nat) (c : Cmd) (s : State) : Host.Outcome State Fault Refusal := .next (specPairSetAgree.submit c (s.advance t))
/-- PAIR_SWITCHOVER. -/
def execPairSwitchover (t : Nat) (c : Cmd) (s : State) : Host.Outcome State Fault Refusal := .next (specPairSwitchover.submit c (s.advance t))
/-- PAIR_JOIN. -/
def execPairJoin (t : Nat) (c : Cmd) (s : State) : Host.Outcome State Fault Refusal := .next (specPairJoin.submit c (s.advance t))
/-- PAIR_LEAVE. -/
def execPairLeave (t : Nat) (c : Cmd) (s : State) : Host.Outcome State Fault Refusal := .next (specPairLeave.submit c (s.advance t))
/-- PAIR_STATUS. -/
def execPairStatus (t : Nat) (c : Cmd) (s : State) : Host.Outcome State Fault Refusal := .next (specPairStatus.submit c (s.advance t))
/-- PAIR_LINK_TEST. -/
def execPairLinkTest (t : Nat) (c : Cmd) (s : State) : Host.Outcome State Fault Refusal := .next (specPairLinkTest.submit c (s.advance t))

/-! ## Events -/

/-- PAIR_SEARCH_TIMEOUT (R345). -/
def execPairSearchTimeout (t : Nat) (s : State) : Host.Outcome State Fault Refusal := .next (s.advance t).searchTimeout
/-- TIME_FRAME (R351): the partner's pair timer at its reception. -/
def execTimeFrame (t : Nat) (v : Int) (s : State) : Host.Outcome State Fault Refusal := .next ((s.advance t).timeFrame v)
/-- AGREE_WINDOW_END (R352 to R354): the partner's agreed entries in map order, `none` where its frame is late. -/
def execAgreeWindowEnd (t i : Nat) (peer : Option (List AgreeVal)) (s : State) : Host.Outcome State Fault Refusal :=
  onResource i 16 s (fun s => (s.advance t).agreeEnd i peer)
/-- STATE_FRAME (R356). -/
def execStateFrame (t : Nat) (m : StateMsg) (s : State) : Host.Outcome State Fault Refusal := .next ((s.advance t).stateFrame m)
/-- BULK_FRAME (R367, 07 R209). -/
def execBulkFrame (t : Nat) (m : BulkMsg) (s : State) : Host.Outcome State Fault Refusal := .next ((s.advance t).bulkFrame m)
/-- LANE_FAILURE (R350). -/
def execLaneFailure (t k : Nat) (s : State) : Host.Outcome State Fault Refusal := onResource k 2 s (fun s => (s.advance t).laneFailure k)
/-- LANE_RETRY (R350). -/
def execLaneRetry (t k : Nat) (ok : Bool) (s : State) : Host.Outcome State Fault Refusal := onResource k 2 s (fun s => (s.advance t).laneRetry k ok)
/-- HEDGEROW_LINK_LOST (R350, R364, R372): an image transfer ends with it. -/
def execHedgerowLinkLost (t : Nat) (s : State) : Host.Outcome State Fault Refusal :=
  let s := (s.advance t).linkLost.coreLate
  .next (if s.pair.link then s else s.imageSent false)
/-- HDET_CHANGE (R350). -/
def execHdetChange (t : Nat) (level : Bool) (s : State) : Host.Outcome State Fault Refusal := .next ((s.advance t).hdetChange level)
/-- PARTNER_SILENT (R360). -/
def execPartnerSilent (t : Nat) (s : State) : Host.Outcome State Fault Refusal := .next (s.advance t).partnerSilent
/-- STATION_ISOLATED (R364). -/
def execStationIsolated (t : Nat) (s : State) : Host.Outcome State Fault Refusal := .next (s.advance t).stationIsolated
/-- PAIR_SILENCE_TIMEOUT (R348): class and number of the output. -/
def execPairSilenceTimeout (t cls n : Nat) (s : State) : Host.Outcome State Fault Refusal :=
  onResource n (if cls = 0x06 then 8 else if cls = 0x08 then 4 else 32) s (fun s => (s.advance t).outputSilent cls n)
/-- RESYNC_PASS_END (R367). -/
def execResyncPassEnd (t dirty : Nat) (s : State) : Host.Outcome State Fault Refusal := .next ((s.advance t).passEnd dirty)
/-- RESYNC_JOIN (R367). -/
def execResyncJoin (t : Nat) (s : State) : Host.Outcome State Fault Refusal := .next (s.advance t).resyncJoin
/-- RESYNC_SLOW (R367). -/
def execResyncSlow (t : Nat) (s : State) : Host.Outcome State Fault Refusal := .next (s.advance t).resyncSlow
/-- SWITCHOVER_INSTANT (R369). -/
def execSwitchoverInstant (t : Nat) (s : State) : Host.Outcome State Fault Refusal := .next (s.advance t).switchoverInstant
/-- LOOP_PARTITION_CHECK (R356): the ACTIVE partner's loops. -/
def execLoopPartitionCheck (t : Nat) (l : List LoopCopy) (s : State) : Host.Outcome State Fault Refusal := .next ((s.advance t).loopCheckPair l)

/-- PAIR_PRESENCE_FRAME (R364; 14 R383): the oldest presence frame of the partner that a port received. -/
def execPairPresenceFrame (t : Nat) (s : State) : Host.Outcome State Fault Refusal :=
  let s := s.advance t
  .next (match s.net.presIn with
    | [] => s
    | (k, _, f) :: r =>
      let b := f.payload
      let s : State := { s with net := { s.net with presIn := r } }
      s.presenceFrame k
        { side := beNat (slice b 0 1), st := beNat (slice b 2 1), epoch := beNat (slice b 4 4), takeover := signed 64 (beNat (slice b 8 8)),
          station := f.src, primary := s.param .desigPrimary 0, lib := s.libVersion, compat := s.pair.compat,
          staged := match s.pair.peer with | some q => q.staged | none => [] })

end Sys2Proof.Machine
end

