-- ==== Sys2Proof/Machine/Recorder.lean ====
section
/-! DEFINITION. The event recorder: sequence numbers, code slots, rate limits, offers, the history, and the commands of
class 0x0F (18; 04 R97, R102, R115). -/

namespace Sys2Proof.Machine

/-! ## Slots (18 R479, R480) -/

/-- The severity of a code. -/
def sevOf (code : Nat) : Nat := match Code.ofNum code with | some c => c.sev | none => 0

/-- The measure of an event (R480). -/
def measureOf (code q : Nat) : Int :=
  match measureForm code with
  | 1 => signed 24 q
  | 2 => ((q % 65536 : Nat) : Int)
  | _ => signed 32 q

/-- The bin of a measure (R480). -/
def binOf (lo step m : Int) : Nat := (clampInt 0 15 ((m - lo) / step)).toNat

/-- A slot bound to a code, empty. -/
def Slot.fresh (code : Nat) : Slot :=
  { code := code, hscale := 0, src := { cls := 0, index := 0 }, count := 0, firstSeq := 0, lastSeq := 0, least := 0, most := 0,
    hist := List.replicate 16 0, detail := 0, limited := 0 }

/-- One more event in bin `k`; a bin that would pass 255 units halves all of them, up to `HSCALE` 15 (R480). -/
def Slot.count1 (k : Nat) (x : Slot) : Slot :=
  let n := getAt 0 x.hist k + 1
  { x with
    hist := setAt x.hist k n,
    hscale := if 255 < n / 2 ^ x.hscale ∧ x.hscale < 15 then x.hscale + 1 else x.hscale }

/-- An event with sequence number `n` enters its slot (R479 to R481). -/
def Slot.take (e : Event) (n : Nat) (lo step : Int) (within : Bool) (x : Slot) : Slot :=
  let m := measureOf x.code e.quantity
  let y := x.count1 (binOf lo step m)
  { y with
    src := e.src, count := min (2 ^ 32 - 1) (x.count + 1), firstSeq := if x.count = 0 then n else x.firstSeq, lastSeq := n,
    least := if x.count = 0 ∨ m < x.least then m else x.least, most := if x.count = 0 ∨ x.most < m then m else x.most,
    detail := e.detail, limited := if within then x.limited else min 65535 (x.limited + 1) }

/-- A slot emptied by its close (R482): its binding stays. -/
def Slot.emptied (x : Slot) : Slot := { x with hscale := 0, count := 0, hist := List.replicate 16 0, limited := 0 }

/-- A slot as a start finds it in the cocoon: whole units in the bins, no side values (R479). -/
def Slot.restored (x : Slot) : Slot :=
  { x with hist := x.hist.map (fun n => min 255 (n / 2 ^ x.hscale) * 2 ^ x.hscale), detail := 0, limited := 0 }

/-- `SEVH`. -/
def Slot.sevh (x : Slot) : Nat := sevOf x.code + 16 * x.hscale

/-- The bins. -/
def Slot.bins (x : Slot) : Bytes := x.hist.flatMap (fun n => leBytes 1 (min 255 (n / 2 ^ x.hscale)))

/-- `COUNT` to `HIST`, as slot and record share them. -/
def Slot.counts (x : Slot) : Bytes :=
  leBytes 4 x.count ++ leBytes 6 x.firstSeq ++ leBytes 6 x.lastSeq ++ leBytes 4 (wrapInt 32 x.least) ++ leBytes 4 (wrapInt 32 x.most) ++ x.bins

/-- The source as a slot and a record lay it out. -/
def Res.bytes (r : Res) : Bytes := leBytes 1 r.sub ++ leBytes 2 r.index ++ leBytes 1 r.cls

/-- The 48 bytes of a slot (R479). -/
def Slot.bytes (x : Slot) : Bytes := leBytes 2 x.code ++ leBytes 1 x.sevh ++ x.src.bytes ++ leBytes 1 0 ++ x.counts

/-- The 64 bytes of a history record (R483). -/
def HistRec.bytes (h : HistRec) : Bytes :=
  leBytes 2 h.slot.code ++ leBytes 1 h.slot.sevh ++ leBytes 1 h.reason ++ h.slot.src.bytes ++ h.slot.counts
    ++ leBytes 8 h.slot.detail ++ leBytes 6 h.recSeq ++ leBytes 2 h.slot.limited

/-! ## The history (R482 to R484) -/

/-- A record enters the history: it overwrites the lowest `REC_SEQ` of its severity or below, or is dropped (R484). -/
def RecStore.file (h : HistRec) (x : RecStore) : RecStore :=
  if x.history.length < 8192 then { x with history := x.history ++ [h] }
  else
    let v := sevOf h.slot.code
    match x.history.find? (fun r => decide (sevOf r.slot.code ≤ v)) with
    | some o => { x with history := x.history.filter (fun r => r.recSeq != o.recSeq) ++ [h] }
    | none => { x with drops := setAt x.drops v ((getAt 0 x.drops v + 1) % 2 ^ 32) }

/-- The slot of a code. -/
def RecStore.slotOf (x : RecStore) (code : Nat) : Option Slot := x.slots.find? (fun y => y.code == code)

/-- Changes the slot of a code. -/
def RecStore.mapSlot (code : Nat) (f : Slot → Slot) (x : RecStore) : RecStore :=
  { x with slots := x.slots.map (fun y => if y.code = code then f y else y) }

/-- The slot of a code closes into the history, where it holds an event; the record takes the next number (R476, R482). -/
def RecStore.close (code reason : Nat) (x : RecStore) : RecStore :=
  match x.slotOf code with
  | none => x
  | some y =>
    if y.count = 0 then x
    else (RecStore.file { slot := y, reason := reason, recSeq := x.seq + 1 } { x with seq := x.seq + 1 }).mapSlot code Slot.emptied

/-- Changes the recorder's store. -/
def State.mapRec (f : RecStore → RecStore) (s : State) : State :=
  { s with recorder := { s.recorder with store := f s.recorder.store } }

/-- The Recorder section is committed (03 R71, R477). -/
def State.commitRec (s : State) : State :=
  let x := s.recorder.store
  { s with
    cocoon := { s.cocoon with recorder := s.cocoon.recorder.request { x with orderly := none } },
    recorder := { s.recorder with committedSeq := x.seq } }

/-- Slots close for a reason, together; the section is committed where one of them held an event. -/
def State.recClose (codes : List Nat) (reason : Nat) (s : State) : State :=
  let some1 := s.recorder.store.slots.any (fun x => codes.contains x.code && x.count != 0)
  let s := s.mapRec (fun x => codes.foldl (fun x c => x.close c reason) x)
  if some1 then s.commitRec else s

/-- Every bound code, ascending. -/
def State.recCodes (s : State) : List Nat := s.recorder.store.slots.map (·.code)

/-! ## Rate limits and offers (R481; 04 R97, R102, R115) -/

/-- The bucket of a code, filled up to now. -/
def State.bucketNow (s : State) (code : Nat) : Nat :=
  let full := s.param .recBurst code * 1000000000
  match s.recorder.buckets.find? (fun b => b.1 == code) with
  | some b => min full (b.2.level + s.param .recRate code * (s.tb0 - b.2.since))
  | none => full

/-- The event lies within its code's limit. -/
def State.recWithin (s : State) (code : Nat) : Bool := s.param .recRate code == 0 || decide (1000000000 ≤ s.bucketNow code)

/-- The bucket pays for an event within the limit. -/
def State.recPay (code : Nat) (s : State) : State :=
  if s.param .recRate code = 0 then s
  else
    let b : Bucket := { level := s.bucketNow code - (if s.recWithin code then 1000000000 else 0), since := s.tb0 }
    { s with recorder := { s.recorder with buckets := s.recorder.buckets.filter (fun x => x.1 != code) ++ [(code, b)] } }

/-- The 32-byte event entry (04 R97). -/
def eventEntry (e : Event) (n lost : Nat) (phase : Bool) : Bytes :=
  leBytes 2 e.code.num ++ leBytes 1 e.code.sev ++ leBytes 1 e.src.cls ++ leBytes 2 e.src.index ++ leBytes 1 e.src.sub ++ leBytes 1 0
    ++ leBytes 8 e.time ++ leBytes 4 e.epoch ++ leBytes 4 e.quantity ++ leBytes 6 n ++ leBytes 1 (min 255 lost) ++ leBytes 1 (b2n phase)

/-- An event that is not written to the event ring (04 R102). -/
def State.eventLost1 (s : State) : State :=
  { s with host := { s.host with eventLost := (s.host.eventLost + 1) % 2 ^ 32, eqLostSince := s.host.eqLostSince + 1 } }

/-- Offers an event to the host event ring under `EQ_FILTER` (R481; 04 R100, R102); `wf`: the link refuses the write. -/
def State.offerHost (e : Event) (n : Nat) (wf : Bool) (s : State) : State :=
  let r := s.ring 2
  if e.code.sev < s.host.eqMinSev then s
  else if ¬ r.run ∨ (r.tail + 1) % r.size = r.head then s.eventLost1
  else if wf then (s.ringFault 2 0x04).eventLost1
  else
    let s := s.hostWrite (r.base + 32 * r.tail) (eventEntry e n s.host.eqLostSince r.phase)
    let next := (r.tail + 1) % r.size
    let s := s.setRing 2 { r with tail := next, phase := if next = 0 then !r.phase else r.phase }
    ({ s with host := { s.host with eqLostSince := 0 } } : State).raiseVector 1

/-- A session's filter passes an event (04 R115, R119). -/
def EvFilter.passes (f : Option EvFilter) (e : Event) : Bool :=
  match f with
  | none => false
  | some x => decide (x.minSev ≤ e.code.sev ∧ x.lo ≤ e.code.num ∧ e.code.num ≤ x.hi)

/-- Offers an event to every session under its filter. -/
def State.offerSessions (e : Event) (n : Nat) (s : State) : State :=
  let b := eventEntry e n 0 false
  let s := (s.disp.omnar.filter (fun x => EvFilter.passes x.filter e)).foldl (fun s x =>
    match s.omnarOf x.id with
    | some y => s.sendOmnar y 0x03 1 b
    | none => s) s
  if s.disp.ivpasto.isOpen && EvFilter.passes s.disp.ivpasto.filter e then s.sendIvpasto 0x12 b else s

/-! ## Taking an event (R476, R477, R479) -/

/-- An event of the recorder itself, which passes through no intake (01 R21, R477). -/
def State.recEvent (s : State) (c : Code) (q : Nat) : Event :=
  { code := c, src := { cls := 0x0F, index := 0 }, quantity := q % 2 ^ 32, detail := 0, time := s.tb0, epoch := s.power.epoch }

/-- The bound code that a new one evicts: lowest severity, lowest last sequence number (R479). -/
def RecStore.victim (x : RecStore) : Option Slot :=
  x.slots.foldl (fun (o : Option Slot) y =>
    match o with
    | none => some y
    | some z => if sevOf y.code < sevOf z.code ∨ (sevOf y.code = sevOf z.code ∧ y.lastSeq < z.lastSeq) then some y else some z) none

/-- A new slot in its place by code. -/
def slotInsert (x : Slot) : List Slot → List Slot
  | [] => [x]
  | y :: r => if x.code < y.code then x :: y :: r else y :: slotInsert x r

/-- Binds a code without a slot: a free slot, or the evicted one, whose code is told (R479). -/
def State.recBind (code : Nat) (s : State) : State × Option Nat :=
  let x := s.recorder.store
  if (x.slotOf code).isSome then (s, none)
  else if x.slots.length < 4096 then (s.mapRec (fun x => { x with slots := slotInsert (Slot.fresh code) x.slots }), none)
  else
    match x.victim with
    | none => (s, none)
    | some v =>
      let s := s.recClose [v.code] 2
      (s.mapRec (fun x => { x with slots := slotInsert (Slot.fresh code) (x.slots.filter (fun y => y.code != v.code)) }), some v.code)

/-- An event takes its number, enters its slot and is offered (R476 to R481); `mark` is E_REC_SEQ_MARK, which closes with
its own reason. -/
def State.recEnter (e : Event) (wf mark : Bool) (s : State) : State :=
  let code := e.code.num
  let within := s.recWithin code
  let s := s.recPay code
  let lo := signed 32 (s.param .histLo code)
  let step : Int := (max 1 (s.param .histStep code) : Nat)
  let n := s.recorder.store.seq + 1
  let s := s.mapRec (fun x => ({ x with seq := n } : RecStore).mapSlot code (Slot.take e n lo step within))
  let s := if within then (s.offerHost e n wf).offerSessions e n else s
  if mark then s.recClose [code] 4
  else if within && decide (s.param .recCloseSev 0 ≤ e.code.sev) then s.recClose [code] 1
  else s

/-- An event is taken; the eviction that it may cause is an event of its own (R479). -/
def State.recTake : Nat → Event → Bool → Bool → State → State
  | 0, _, _, _, s => s
  | f + 1, e, wf, mark, s =>
    match s.recBind e.code.num with
    | (s, none) => s.recEnter e wf mark
    | (s, some v) => State.recTake f (s.recEvent .eRecSlotEvicted v) wf false (s.recEnter e wf mark)

/-- E_REC_SEQ_MARK once 32,768 numbers have been given since the last commit of the section (R477). -/
def State.recMark (wf : Bool) (s : State) : State :=
  if s.recorder.store.seq < s.recorder.committedSeq + 32768 then s
  else s.recTake 3 (s.recEvent .eRecSeqMark ((s.recorder.store.seq + 1) % 2 ^ 24)) wf true

/-- The recorder takes an event. -/
def State.recTakes (e : Event) (wf : Bool) (s : State) : State := (s.recTake 3 e wf false).recMark wf

/-! ## Draining (R476; 01 R21) -/

/-- The retirable resource of a fault event (21 R522, R524), which the fault manager learns of. -/
def faultKeyOf (e : Event) : Option FaultKey :=
  match e.code with
  | .fAcReference | .fAcReadback | .fAcThermal | .fAcCoupler | .fAcRetired => some { cls := 1, index := e.src.index }
  | .fDcSwitch | .fDcThermal | .fDcCoupler | .fDcInputTest | .fDcRetired => some { cls := 2, index := e.src.index }
  | .fSoSwitch | .fSoSwitchRetired => some { cls := 3, index := e.src.index, sub := e.quantity % 2 + 1 }
  | .fSoRetired | .fSoEttLost | .fSoCannotTrip => some { cls := 3, index := e.src.index }
  | .eCoreMismatch | .fCorePairRetired => some { cls := 4, index := e.src.index - 0x0100 }
  | .fNetPort | .fNetPortRetired => some { cls := 5, index := e.src.index - 0x2001 }
  | .fHartModem | .fHartModemRetired => some { cls := 6, index := e.src.index - 0x0100 }
  | .fCanTransceiver | .fCanMemory | .fCanRetired => some { cls := 7, index := e.src.index }
  | .fMemEcc | .fMemRetired => some { cls := 8, index := e.src.index }
  | .fAxisBridge | .fAxisThermal | .fAxisCoupler | .fAxisSelftest | .fAxisRetired => some { cls := 9, index := e.src.index }
  | .fCuSelftest | .fCuRetired => some { cls := 10, index := e.src.index }
  | _ => none

/-- The recorder runs: the management plane is up and no power-fail warning is asserted (R486). -/
def State.recRuns (s : State) : Bool := s.power.mgmtUp && s.power.phase == .running

/-- The planes by their numbers (R488). -/
def planeOf (k : Nat) : Plane := if k % 3 = 0 then .control else if k % 3 = 1 then .data else .management

/-- The plane whose turn it is: the first from `drainNext` on whose FIFO holds an entry. -/
def State.drainTurn (s : State) : Option Nat :=
  [0, 1, 2].findSome? (fun k =>
    let p := (s.recorder.drainNext + k) % 3
    if (s.intake (planeOf p)).queue.isEmpty then none else some p)

/-- One intake entry is drained; a FIFO that lost events and is empty now raises E_INTAKE_OVERFLOW (01 R21). -/
def State.recDrain (wf : Bool) (s : State) : State :=
  match s.drainTurn with
  | none => s
  | some p =>
    match (s.intake (planeOf p)).queue with
    | [] => s
    | e :: rest =>
      let q := s.intake (planeOf p)
      let missed := if rest.isEmpty then q.lossSince else 0
      let s := s.setIntake (planeOf p) { q with queue := rest, lossSince := if rest.isEmpty then 0 else q.lossSince }
      let s : State := { s with
        recorder := { s.recorder with drainNext := (p + 1) % 3 },
        faults := { s.faults with inbox := if (faultKeyOf e).isSome then s.faults.inbox ++ [e] else s.faults.inbox } }
      let s := s.recTakes e wf
      if missed = 0 then s else s.recTakes (s.recEvent .eIntakeOverflow (p * 2 ^ 24 + min (2 ^ 24 - 1) missed)) wf

/-- The periodic close is due: a multiple of `REC_CLOSE_PERIOD` on TB0 has passed since the last one (R482). -/
def State.recPeriodDue (s : State) : Bool :=
  let p := s.param .recClosePeriod 0 * 1000000000
  decide (s.recorder.lastPeriodic < s.tb0 / p * p)

/-- The periodic close (R482), made as soon as the recorder runs. -/
def State.recPeriodic (s : State) : State :=
  if s.recRuns && s.recPeriodDue then
    (({ s with recorder := { s.recorder with lastPeriodic := s.tb0 } } : State).recClose s.recCodes 0).recMark false
  else s

/-- RECORDER_DRAIN: `wf` tells that the link refuses the write of an event entry. -/
def execRecorderDrain (t : Nat) (wf : Bool) (s : State) : Host.Outcome State Fault Refusal :=
  let s := s.advance t
  .next (if s.recRuns then s.recDrain wf else s)

/-- REC_PERIODIC_CLOSE. -/
def execRecPeriodicClose (t : Nat) (s : State) : Host.Outcome State Fault Refusal := .next (s.advance t).recPeriodic

/-! ## Commands (R485, R487, R568) -/

/-- The module as target of class 0x0F. -/
def recTarget : State → Cmd → Bool := targetZero 0x0F

/-- A code as target. -/
def recCodeTarget (_ : State) (c : Cmd) : Bool := c.tgtClass == 0x0F && decide (c.tgtIndex < 65536) && c.tgtSub == 0

/-- History records from a number on, of a severity at least. -/
def State.recordsFrom (s : State) (first sev : Nat) : List HistRec :=
  s.recorder.store.history.filter (fun h => decide (first ≤ h.recSeq) && decide (sev ≤ sevOf h.slot.code))

/-- The lowest severity that an expert command names at `off`. -/
def recMinSev (off : Nat) (c : Cmd) : Nat := if c.expert then c.field off 1 else 0

/-- `REC.READ`. -/
def specRecRead : CmdSpec where
  op := 0x0F00
  layout := fun c => { ranges := [(16, if c.expert then 7 else 6)] }
  long := fun _ => true
  target := recTarget
  params := fun _ c => decide (recMinSev 22 c ≤ 7)
  run := fun e s =>
    let c := e.cmd
    let n := if c.indirect then min 64 (c.blockLen / 64) else 64
    let l := (s.recordsFrom (c.field 16 6) (recMinSev 22 c)).take n
    .done .sOk l.length (l.flatMap HistRec.bytes) s

/-- `REC.DUMP`: records go to the stream as its buffers come; `consumed` counts the numbers already passed. -/
def specRecDump : CmdSpec where
  op := 0x0F01
  layout := fun c => { ranges := [(17, if c.expert then 10 else 9)] }
  route := fun c => c.onHost
  target := recTarget
  params := fun _ c => decide (c.field 17 1 < 8) && decide (recMinSev 26 c ≤ 7)
  check := fun s c => whenS (s.streamOpen (c.field 18 2)) .sBusy
  run := fun e s =>
    let c := e.cmd
    .later { s with disp := { s.disp with streams := s.disp.streams ++
      [{ ring := c.field 17 1, stream := c.field 18 2, toHost := true, entry := e, consumed := c.field 20 6 }] } }

/-- The records of a dump that still go to its stream. -/
def State.dumpLeft (x : Stream) (s : State) : List HistRec := s.recordsFrom x.consumed (recMinSev 26 x.entry.cmd)

/-- The codes that `REC.SLOTS` names: one, or a range (R487). -/
def recSlotRange (c : Cmd) : Nat × Nat := (c.field 16 2, if c.expert then c.field 18 2 else c.field 16 2)

/-- The slots that `REC.SLOTS` returns. -/
def State.recSlotsOf (s : State) (c : Cmd) : List Slot :=
  (s.recorder.store.slots.filter (fun x => decide ((recSlotRange c).1 ≤ x.code ∧ x.code ≤ (recSlotRange c).2))).take (if c.expert then 80 else 1)

/-- `REC.SLOTS`; the basic form's target is the module or the code itself. -/
def specRecSlots : CmdSpec where
  op := 0x0F02
  layout := fun c => { ranges := [(16, if c.expert then 4 else 2)] }
  long := fun _ => true
  target := fun s c => recTarget s c || (recCodeTarget s c && !c.expert && c.tgtIndex == c.field 16 2)
  check := fun s c => whenS (s.recSlotsOf c).isEmpty .sNotFound
  run := fun e s =>
    let l := s.recSlotsOf e.cmd
    .done .sOk l.length (l.flatMap (fun x => x.bytes ++ leBytes 8 x.detail ++ leBytes 2 x.limited ++ leBytes 6 0)) s

/-- `REC.CLOSE`. -/
def specRecClose : CmdSpec where
  op := 0x0F03
  target := fun s c => recTarget s c || (recCodeTarget s c && (Code.ofNum c.tgtIndex).isSome)
  run := fun e s => .ok ((s.recClose (if e.cmd.tgtIndex = 0 then s.recCodes else [e.cmd.tgtIndex]) 3).recMark false)

/-- `REC.CLEAR`: the records up to a number leave the history. -/
def specRecClear : CmdSpec where
  op := 0x0F04
  layout := fun c => { ranges := [(16, 6)], masks := if c.expert then [(22, 1)] else [] }
  target := recTarget
  needsSession := fun s c => s.recorder.store.history.any (fun h => decide (h.recSeq ≤ c.field 16 6) && decide (6 ≤ sevOf h.slot.code))
  check := fun s _ => whenS (s.disp.streams.any (fun x => x.entry.op == 0x0F01)) .sBusy
  run := fun e s =>
    let c := e.cmd
    let n := (s.recorder.store.history.filter (fun h => decide (h.recSeq ≤ c.field 16 6))).length
    let drops := c.expert && bitOf (c.field 22 1) 0
    let s := s.mapRec (fun x => { x with
      history := x.history.filter (fun h => decide (c.field 16 6 < h.recSeq)),
      drops := if drops then List.replicate 8 0 else x.drops })
    let s := if n ≠ 0 ∨ drops then s.commitRec else s
    .ok (if n = 0 then s else s.recTakes (s.recEvent .eRecCleared n) false)

/-- The parameters of `REC.SET_CODE`. -/
def recCodeParams (c : Cmd) : List (Param × Nat) :=
  [(.recRate, c.field 16 2), (.recBurst, c.field 18 2)] ++ (if c.expert then [(.histLo, c.field 20 4), (.histStep, c.field 24 4)] else [])

/-- `REC.SET_CODE`. -/
def specRecSetCode : CmdSpec where
  op := 0x0F05
  layout := fun c => { ranges := [(16, if c.expert then 12 else 4)] }
  target := recCodeTarget
  params := fun _ c => decide (c.field 16 2 ≤ 10000) && decide (1 ≤ c.field 18 2 ∧ c.field 18 2 ≤ 1000)
    && (!c.expert || decide (1 ≤ c.field 24 4 ∧ c.field 24 4 < 2 ^ 31))
  check := fun _ c => whenS (Code.ofNum c.tgtIndex).isNone .sNotFound
  run := fun e s => .ok (s.setCommit e.cmd.tgtIndex (recCodeParams e.cmd))

/-- `REC.SET_CLOSE`; the next periodic close falls at the next multiple of the new period. -/
def specRecSetClose : CmdSpec where
  op := 0x0F06
  layout := fun _ => { ranges := [(16, 5)] }
  target := recTarget
  params := fun _ c => decide (60 ≤ c.field 16 4 ∧ c.field 16 4 ≤ 86400) && decide (c.field 20 1 ≤ 8)
  run := fun e s =>
    let s : State := { s with recorder := { s.recorder with lastPeriodic := if s.recPeriodDue then s.recorder.lastPeriodic else s.tb0 } }
    .ok (s.setCommit 0 [(.recClosePeriod, e.cmd.field 16 4), (.recCloseSev, e.cmd.field 20 1)])

/-- A slot in its place by descending `COUNT`, lower code first at equal counts. -/
def rankInsert (x : Slot) : List Slot → List Slot
  | [] => [x]
  | y :: r => if y.count < x.count ∨ (y.count = x.count ∧ x.code < y.code) then x :: y :: r else y :: rankInsert x r

/-- The result of `REC.STATUS` (R568). -/
def recStatus (s : State) (expert : Bool) : Bytes :=
  let x := s.recorder.store
  let top := ((x.slots.foldl (fun l y => rankInsert y l) []).take 16).flatMap (fun y => leBytes 2 y.code ++ leBytes 2 0 ++ leBytes 4 y.count)
  leBytes 6 (x.seq + 1) ++ leBytes 2 x.slots.length
    ++ (List.range 8).flatMap (fun v => leBytes 2 (x.history.filter (fun h => sevOf h.slot.code == v)).length)
    ++ x.drops.flatMap (leBytes 4) ++ leBytes 4 s.inControl.lost ++ leBytes 4 s.inData.lost ++ leBytes 4 s.inManagement.lost ++ leBytes 4 0
    ++ (if expert then slice top 0 128 else [])

/-- `REC.STATUS`. -/
def specRecStatus : CmdSpec where
  op := 0x0F07
  long := fun _ => true
  target := recTarget
  run := fun e s => .long (recStatus s e.cmd.expert) s

/-- One code of the result of `REC.CODES` (R568). -/
def recCodeBytes (c : Code) : Bytes :=
  leBytes 2 c.num ++ leBytes 1 c.sev ++ leBytes 1 (measureForm c.num) ++ leBytes 2 (recRateFactory c.num) ++ leBytes 2 20
    ++ leBytes 4 (histLoFactory c.num) ++ leBytes 4 (histStepFactory c.num)

/-- `REC.CODES`; the codes are listed in ascending order. -/
def specRecCodes : CmdSpec where
  op := 0x0F08
  layout := fun _ => { ranges := [(16, 2)] }
  long := fun _ => true
  target := recTarget
  run := fun e s => .long ((Code.all.filter (fun c => decide (e.cmd.field 16 2 ≤ c.num))).flatMap recCodeBytes) s

/-- The commands of class 0x0F by opcode. -/
def specRec : List CmdSpec :=
  [specRecRead, specRecDump, specRecSlots, specRecClose, specRecClear, specRecSetCode, specRecSetClose, specRecStatus, specRecCodes]

/-- REC_READ. -/
def execRecRead (t : Nat) (c : Cmd) (s : State) : Host.Outcome State Fault Refusal := .next (specRecRead.submit c (s.advance t))
/-- REC_DUMP. -/
def execRecDump (t : Nat) (c : Cmd) (s : State) : Host.Outcome State Fault Refusal := .next (specRecDump.submit c (s.advance t))
/-- REC_SLOTS. -/
def execRecSlots (t : Nat) (c : Cmd) (s : State) : Host.Outcome State Fault Refusal := .next (specRecSlots.submit c (s.advance t))
/-- REC_CLOSE. -/
def execRecClose (t : Nat) (c : Cmd) (s : State) : Host.Outcome State Fault Refusal := .next (specRecClose.submit c (s.advance t))
/-- REC_CLEAR. -/
def execRecClear (t : Nat) (c : Cmd) (s : State) : Host.Outcome State Fault Refusal := .next (specRecClear.submit c (s.advance t))
/-- REC_SET_CODE. -/
def execRecSetCode (t : Nat) (c : Cmd) (s : State) : Host.Outcome State Fault Refusal := .next (specRecSetCode.submit c (s.advance t))
/-- REC_SET_CLOSE. -/
def execRecSetClose (t : Nat) (c : Cmd) (s : State) : Host.Outcome State Fault Refusal := .next (specRecSetClose.submit c (s.advance t))
/-- REC_STATUS. -/
def execRecStatus (t : Nat) (c : Cmd) (s : State) : Host.Outcome State Fault Refusal := .next (specRecStatus.submit c (s.advance t))
/-- REC_CODES. -/
def execRecCodes (t : Nat) (c : Cmd) (s : State) : Host.Outcome State Fault Refusal := .next (specRecCodes.submit c (s.advance t))

end Sys2Proof.Machine
end

