-- ==== Sys2Proof/Machine/Faults.lean ====
section
/-! DEFINITION. The fault manager: histories, retirement, memory banks, reinstatement, and the commands of class 0x12 (21). -/

namespace Sys2Proof.Machine

/-! ## Memory banks (R525) -/

/-- A memory bank as event source and as retirable resource. -/
def memRes (b : Nat) : Res := { cls := 0x12, index := b }
def memKey (b : Nat) : FaultKey := { cls := 8, index := b }
/-- The quantity of class 0x12 (R534). -/
def fltQ (k : FaultKey) : Nat := k.cls * 2 ^ 24 + k.index
/-- The plane of a bank. -/
def memPlane (b : Nat) : Plane := if b < 14 then .control else .management

/-- The store of initial contents: the Configuration's, with the header of every instance (06 R158). -/
def State.initialStore (s : State) : Tab Byte :=
  s.instAll.foldl (fun t u => Tab.putBytes t u.addr (leBytes 4 u.id ++ leBytes 4 0)) s.cfg.prog.init

/-- A span of the instance store takes its initial contents. -/
def State.rewriteStore (a n : Nat) (s : State) : State :=
  let new := s.initialStore.filter (fun x => decide (a ≤ x.1 ∧ x.1 < a + n))
  ({ s with prog := { s.prog with store := new.foldl (fun t x => Tab.put (fun _ => 0) t x.1 x.2) (Tab.without s.prog.store a n) } }
    : State).retainTake (fun v => !(s.taskOf v.task).executing)

/-- A cycle is abandoned without commit; the next one of the task is late. -/
def State.cycleLost (i : Nat) (s : State) : State :=
  if (s.taskOf i).executing then s.setTask i { (s.taskOf i).dropped with late := true } else s

/-- The line of an image is cleared. -/
def State.clearImage (i part off : Nat) (s : State) : State :=
  let x := s.taskOf i
  let z := fun (m : Tab Byte) => Tab.without m off 64
  s.setTask i (match part with
    | 0 => { x with inImg := z x.inImg }
    | 1 => { x with outImg := z x.outImg }
    | _ => { x with committed := z x.committed })

/-- The commit in progress of a section, by its row of 03 R71, is lost and written once more. -/
def State.recommit (k : Nat) (s : State) : State :=
  let c := s.cocoon
  { s with cocoon := match k with
    | 0 => { c with header := c.header.retry }
    | 1 => { c with config := c.config.retry }
    | 2 => { c with retirement := c.retirement.retry }
    | 3 => { c with credentials := c.credentials.retry }
    | 4 => { c with safetyLog := c.safetyLog.retry }
    | 5 => { c with retain := c.retain.retry }
    | 6 => { c with axisState := c.axisState.retry }
    | 7 => { c with recorder := c.recorder.retry }
    | 8 => { c with panel := c.panel.retry }
    | _ => { c with safety := c.safety.retry } }

/-- The first reaction to an uncorrectable error in line `line` of bank `b`, and the retry it starts. -/
def State.memError (b line : Nat) (user : MemUser) (s : State) : State :=
  let s :=
    if b < 8 then s.each (fun i s => if (s.taskOf i).live && anyMeet [(b * 0x80000 + 64 * line, 64)] (s.taskSpans i) then s.taskHalt i else s) (List.range 16)
    else match user with
      | .task i => if b < 14 then s.cycleLost i else s
      | .image i _ _ => if 10 ≤ b ∧ b < 14 then s.cycleLost i else s
      | .loop i => if 10 ≤ b ∧ b < 14 then s.loopMemory i else s
      | .commit k => if 14 ≤ b then s.recommit k else s
      | .idle => s
  let s := s.fault (memPlane b) .fMemEcc (memRes b) (fltQ (memKey b)) (memKey b)
  if b < 8 ∨ (10 ≤ b ∧ b < 14) then { s with faults := { s.faults with march := s.faults.march ++ [(b, line, user)] } } else s

/-- The march test of a bank ends (R525): its lines are rewritten or cleared, or the test is a further fault. -/
def State.marchEnd (b : Nat) (ok : Bool) (s : State) : State :=
  let mine := s.faults.march.filter (fun x => x.1 == b)
  if mine.isEmpty then s
  else if ¬ ok then s.fault (memPlane b) .fMemEcc (memRes b) (fltQ (memKey b)) (memKey b)
  else
    let s : State := { s with faults := { s.faults with march := s.faults.march.filter (fun x => x.1 != b) } }
    mine.foldl (fun s x =>
      if b < 8 then s.rewriteStore (b * 0x80000 + 64 * x.2.1) 64
      else match x.2.2 with
        | .image i part off => s.clearImage i part off
        | .loop i => s.setLoop i { out := (s.loopOf i).out, driven := (s.loopOf i).driven, longest := (s.loopOf i).longest }
        | _ => s) s

/-- The buffers in RETIRED banks take no commit. -/
def State.avoidBanks (s : State) : State :=
  let f := fun (k : Nat) (x : Bool) => s.isRetired (memKey (Config.bufferBank k x))
  let c := s.cocoon
  { s with cocoon := {
    header := c.header.avoid (f 0), config := c.config.avoid (f 1), retirement := c.retirement.avoid (f 2),
    credentials := c.credentials.avoid (f 3), safetyLog := c.safetyLog.avoid (f 4), retain := c.retain.avoid (f 5),
    axisState := c.axisState.avoid (f 6), recorder := c.recorder.avoid (f 7), panel := c.panel.avoid (f 8), safety := c.safety.avoid (f 9) } }

/-- The retirement of a bank: what uses it halts or goes out of service. -/
def State.memRetire (b code : Nat) (s : State) : State :=
  if s.isRetired (memKey b) then s
  else
    let s := s.markRetired (memKey b) Code.fMemRetired.num code
    let s : State := { s with faults := { s.faults with march := s.faults.march.filter (fun x => x.1 != b) } }
    let s := (s.faultUncounted (memPlane b) .fMemRetired (memRes b) (fltQ (memKey b)) (memKey b)).causeRetired 0x12 b
    let s := s.each (fun i s => if (s.taskOf i).live && s.usesBank b i then s.taskHalt i else s) (List.range 16)
    let s := if 10 ≤ b ∧ b < 14 then s.each (fun i s => if s.param .loopEn i == 1 && Config.loopIn b i then s.loopMemory i else s) (List.range 512) else s
    s.avoidBanks

/-! ## Retirement (R520 to R523, R526) -/

/-- Unit CU0, CU1 or CU2 retires without a taker of its role: without CU0 a paired module leaves the pair (16 R454). -/
def State.cuRetired (u code : Nat) (s : State) : State :=
  let had := s.cuRoleUnit 0
  let s := s.cuRetire u Code.fCuRetired.num code
  if had.isSome && (s.cuRoleUnit 0).isNone && s.paired then
    let s := s.post .data .fPairSelftest pairRes 2
    if s.pair.st = .active then (if s.hasStandby then s.handOver none (s.pairTimer + 1000000).toNat 4 else s)
    else if s.pair.st = .searching then s else s.pairState .dropped
  else s

/-- A resource becomes RETIRED with the code of its last fault. -/
def State.retire (k : FaultKey) (code : Nat) (s : State) : State :=
  if s.isRetired k then s
  else match k.cls with
  | 1 => s.acRetire k.index code
  | 2 => s.dcRetire k.index code
  | 4 => s.coreRetire k.index code none
  | 5 => s.portRetire k.index Code.fNetPortRetired.num code
  | 6 => s.modemRetire k.index code
  | 7 => s.canRetire k.index Code.fCanRetired.num code
  | 8 => s.memRetire k.index code
  | 9 => s.axRetire k.index code
  | 10 => s.cuRetired k.index code
  | _ => s

/-- The owner that takes a retirement at its boundary; `none` where the resource has no boundary or does not run (01 R17,
R19; R522). -/
def State.retireOwner (s : State) (k : FaultKey) : Option Owner :=
  match k.cls with
  | 1 => (match (s.acOf k.index).st with | .powerOn => none | .outOfService => none | _ => some { kind := .ac, index := k.index })
  | 2 => (match (s.dcOf k.index).st with | .powerOn => none | .outOfService => none | _ => some { kind := .dc, index := k.index })
  | 7 => if (List.range 3).any (fun b => (s.canBuf k.index b).sof) then some { kind := .can, index := k.index } else none
  | 9 => some { kind := .axis, index := k.index }
  | _ => none

/-- A retirement of the key is posted already. -/
def State.retirePosted (s : State) (k : FaultKey) : Bool :=
  s.mail.any (fun p => match p.body with | .retire r _ => r.cls == k.cls && r.index == k.index && r.sub == k.sub | _ => false)

/-- The key of a posted retirement. -/
def Res.key (r : Res) : FaultKey := { cls := r.cls, index := r.index, sub := r.sub }

/-- The fault instants of a resource with `n` more: the last 15 (R521). -/
def historyWith (k : FaultKey) (n t : Nat) (l : List History) : List History :=
  let old := match l.find? (fun h => h.key == k) with | some h => h.times | none => []
  let new := old ++ List.replicate n t
  l.filter (fun h => h.key != k) ++ [{ key := k, times := new.drop (new.length - 15) }]

/-- A history holds N faults within W (R521, R528). -/
def nWithin (n w : Nat) (times : List Nat) : Bool :=
  decide (n ≤ times.length) && decide (getAt 0 times (times.length - 1) ≤ getAt 0 times (times.length - n) + w)

/-- The faults that an event reveals: its sequence number less the last one seen (R522). -/
def State.newFaults (s : State) (k : FaultKey) (e : Event) : Nat := (e.detail % 256 + 256 - assoc 0 k s.faults.seen) % 256

/-- An event waits for the self-test of its core pair, which decides whether the mismatch was transient (05 R147). -/
def State.faultWaits (s : State) (e : Event) : Bool :=
  match faultKeyOf e with
  | some k => k.cls == 4 && (s.cpOf k.index).testing.isSome
  | none => false

/-- The decision on one drained fault event: counted at its powered time, committed, and at N within W the retirement is
posted (R520 to R522). -/
def State.faultDecide (k : FaultKey) (e : Event) (s : State) : State :=
  let n := s.newFaults k e
  let s : State := { s with faults := { s.faults with seen := assocSet k (e.detail % 256) s.faults.seen } }
  if n = 0 then s
  else
    let t := s.faults.base + e.time
    let st := s.faults.store
    let s := ({ s with faults := { s.faults with store := { st with hist := historyWith k n t st.hist } } } : State).commitRetire
    let times := match s.faults.store.hist.find? (fun h => h.key == k) with | some h => h.times | none => []
    if k.cls = 3 ∨ s.isRetired k ∨ s.retirePosted k ∨ nWithin (s.param .fltN k.cls) (s.param .fltW k.cls * 1000000000) times = false then s
    else match s.retireOwner k with
    | some o => s.postMail { owner := o, body := .retire { cls := k.cls, index := k.index, sub := k.sub } e.code.num }
    | none => s.retire k e.code.num

/-- The fault manager takes the oldest drained event that does not wait. -/
def State.faultManager (s : State) : State :=
  if ¬ s.power.mgmtUp then s
  else match s.faults.inbox.find? (fun e => !(s.faultWaits e)) with
  | none => s
  | some e =>
    let s : State := { s with faults := { s.faults with inbox := s.faults.inbox.erase e } }
    match faultKeyOf e with
    | some k => s.faultDecide k e
    | none => s

/-! ## Reinstatement (R527, R532, R533) -/

/-- The resource that a `FLT.REINSTATE` names. -/
def reinstKey (c : Cmd) : Option FaultKey :=
  let i := c.tgtIndex
  let key := fun (cls index n : Nat) => if c.tgtSub = 0 ∧ index < n then some ({ cls := cls, index := index } : FaultKey) else none
  match c.tgtClass with
  | 0x02 => if 0x0100 ≤ i then key 4 (i - 0x0100) 8 else none
  | 0x04 => if 0x0100 ≤ i then key 6 (i - 0x0100) 8 else key 1 i 32
  | 0x05 => key 2 i 32
  | 0x06 => if i < 8 ∧ c.tgtSub ≤ 2 then some { cls := 3, index := i, sub := c.tgtSub } else none
  | 0x08 => key 9 i 4
  | 0x0A => if 0x2001 ≤ i then key 5 (i - 0x2001) 2 else none
  | 0x0C => key 7 i 4
  | 0x0D => key 10 i 8
  | 0x12 => key 8 i 18
  | _ => none

/-- The reinstatement belongs to the safety functions: safety session and log (R527). -/
def State.reinstSafety (s : State) (k : FaultKey) : Bool :=
  match k.cls with
  | 1 => s.acInSafety k.index
  | 2 => s.dcInSafety k.index
  | 3 => true
  | 4 => s.param .pairMode k.index != 0
  | _ => false

/-- A property of the resource that a command names. -/
def withKey (c : Cmd) (d : Bool) (f : FaultKey → Bool) : Bool := match reinstKey c with | some k => f k | none => d

/-- The resource's self-test runs. -/
def State.reinstating (s : State) (k : FaultKey) : Bool := s.faults.testing.any (fun t => t.key == k)

/-- A switch of an output that still runs degraded: the one reinstatement that waits for a boundary (R527, step 1). -/
def reinstDegraded (s : State) (c : Cmd) : Bool :=
  c.tgtClass == 0x06 && c.tgtSub != 0 && (s.soOf c.tgtIndex).causes != 0 && !(s.soOf c.tgtIndex).retired

/-- `FLT.REINSTATE`: the self-test begins; its end answers the command. Retirements are each partner's own, so both
partners take the command (notes/assumptions/71.md). -/
def specFltReinstate : CmdSpec where
  op := 0x1200
  target := fun _ c => (reinstKey c).isSome
  needsSession := fun s c => withKey c false s.reinstSafety
  owner := fun s c => if reinstDegraded s c then some { kind := .so, index := c.tgtIndex } else none
  run := guarded
    (fun s c => firstOf
      [whenS (withKey c false s.reinstating) .sBusy,
       whenS (withKey c true (fun k => !(s.isRetired k))) .sNotRetired,
       whenS (withKey c false s.reinstSafety && s.logFull) .sLogFull])
    (fun e s => match reinstKey e.cmd with
      | some k => .later { s with faults := { s.faults with testing := s.faults.testing ++ [{ key := k, entry := e }] } }
      | none => .refuse .sBadTarget s)

/-- The 8-byte block of a log entry. -/
def reinstBlock (k : FaultKey) (retired : Bool) (code : Nat) : Bytes :=
  leBytes 1 k.cls ++ leBytes 1 (b2n retired) ++ leBytes 2 k.index ++ leBytes 1 k.sub ++ leBytes 1 0 ++ leBytes 2 (if retired then code else 0)

/-- The state that the resource's chapter gives it after its reinstatement. -/
def State.reinstated (k : FaultKey) (s : State) : State :=
  let n := k.index
  match k.cls with
  | 1 =>
    if (s.acOf n).powered then
      let s := s.acStart n
      s.setAc n { s.acOf n with st := .safe }
    else s.setAc n { s.acOf n with st := .powerOn }
  | 2 =>
    let s := s.dcStart n
    s.setDc n { s.dcOf n with st := .safe }
  | 3 =>
    let x := s.soOf n
    let s := if k.sub = 0 then s.setSo n { x with retired := false }
      else s.setSo n (x.setSw (k.sub - 1) { x.sw (k.sub - 1) with
        stuck := false, failedOpen := false, failedOnce := false, overdue := false, lastPass := s.tb0, lastEpoch := s.power.epoch, since := s.tb0 })
    let x := s.soOf n
    (if x.hs.stuck || x.ls.stuck then s else s.soUndegrade n 1).soSwitches n
  | 4 =>
    let s := if (s.cpOf n).single.isSome then s.each (fun i s => s.each (fun m s => s.soUndegrade m 4) (s.soOwnedBy i)) (s.tasksOf n) else s
    s.setCp n { lastDone := s.tb0 }
  | 5 => s.setPort n { s.port n with retired := false, fault := false }
  | 6 => (s.setModem n { s.modemOf n with retired := false, failed := false }).modemsNext
  | 7 => s.setCan n { s.canOf n with retest := false, st := if s.param .canEn n = 1 then .integrating else .disabled }
  | 8 => (if n < 8 then s.rewriteStore (n * 0x80000) 0x80000
      else if n < 10 then s
      else if n < 14 then s.each (fun i s => if Config.loopIn n i then s.setLoop i { s.loopOf i with memFault := false } else s) (List.range 512)
      else s).avoidBanks
  | 9 => s.setAx n { s.axOf n with st := .disabled, unref := true }
  | _ =>
    let s := s.setCu n { s.cuOf n with retired := false, retest := false }
    if n < 3 then s.each (fun u s => if (s.cuOf u).role = some n then s.setCu u { s.cuOf u with role := none } else s) (List.range 8) else s

/-- The self-test of a reinstatement ends: the log entry, the emptied history, the state after it, the record, the
completion; or the resource stays RETIRED. -/
def State.reinstateEnd (k : FaultKey) (ok : Bool) (s : State) : State :=
  match s.faults.testing.find? (fun t => t.key == k) with
  | none => s
  | some t =>
    let s : State := { s with faults := { s.faults with testing := s.faults.testing.filter (fun u => u.key != k) } }
    let c := t.entry.cmd
    let src : Res := { cls := c.tgtClass, index := c.tgtIndex, sub := c.tgtSub }
    if ok && !t.failed && !(s.reinstSafety k && s.logFull) then
      let code := match s.faults.store.retired.find? (fun r => r.key == k) with | some r => r.code | none => 0
      let s := if s.reinstSafety k then s.logChange c.route c.tgtClass c.tgtSub c.tgtIndex (reinstBlock k true code) (reinstBlock k false 0) else s
      let st := s.faults.store
      let s := ({ s with faults := { s.faults with store := {
        retired := st.retired.filter (fun r => r.key != k), hist := st.hist.filter (fun h => h.key != k) } } } : State).commitRetire
      ((s.reinstated k).post .management .eFltReinstated src (fltQ k)).complete t.entry .sOk 0 []
    else (s.post .management .fReinstateFailed src (fltQ k)).complete t.entry (if ok && !t.failed then .sLogFull else .sState) 0 []

/-! ## Policy and status -/

/-- `FLT.SET_POLICY` (R528). -/
def specFltSetPolicy : CmdSpec where
  op := 0x1201
  layout := fun _ => { ranges := [(16, 2), (20, 4)] }
  target := targetZero 0x12
  params := fun _ c => decide (1 ≤ c.field 16 1 ∧ c.field 16 1 ≤ 10) && c.field 16 1 != 3
    && Param.fltN.inRange (c.field 17 1) && Param.fltW.inRange (c.field 20 4)
  run := fun e s => .ok (s.setCommit (e.cmd.field 16 1) [(.fltN, e.cmd.field 17 1), (.fltW, e.cmd.field 20 4)])

/-- `FLT.STATUS`; the layout of its result is not given (notes/assumptions/21.md). -/
def specFltStatus : CmdSpec where
  op := 0x1202
  target := targetZero 0x12
  long := fun _ => true
  run := fun e s =>
    let st := s.faults.store
    let l : List Nat := st.retired.flatMap (fun r => [r.key.cls, r.key.index, r.key.sub, r.code, r.time])
    let x : List Nat := if e.cmd.expert then s.powered :: st.hist.flatMap (fun h => [h.key.cls, h.key.index, h.key.sub] ++ h.times) else []
    .long (Config.resultLayout (0x1202 * 2 + b2n e.cmd.expert) ((l ++ x).map Int.ofNat)) s

/-- The commands of class 0x12. -/
def specFlt : List CmdSpec := [specFltReinstate, specFltSetPolicy, specFltStatus]

/-- FLT_REINSTATE. -/
def execFltReinstate (t : Nat) (c : Cmd) (s : State) : Host.Outcome State Fault Refusal := .next (specFltReinstate.submit c (s.advance t))
/-- FLT_SET_POLICY. -/
def execFltSetPolicy (t : Nat) (c : Cmd) (s : State) : Host.Outcome State Fault Refusal := .next (specFltSetPolicy.submit c (s.advance t))
/-- FLT_STATUS. -/
def execFltStatus (t : Nat) (c : Cmd) (s : State) : Host.Outcome State Fault Refusal := .next (specFltStatus.submit c (s.advance t))

/-- REINSTATE_SELFTEST_END (R527): class of R524, index and sub-index of the resource. -/
def execReinstateSelftestEnd (t cls index sub : Nat) (ok : Bool) (s : State) : Host.Outcome State Fault Refusal :=
  .next ((s.advance t).reinstateEnd { cls := cls, index := index, sub := sub } ok)
/-- MEMORY_ECC_CORRECTED (R525): recorded; not a fault. -/
def execMemoryEccCorrected (t b : Nat) (s : State) : Host.Outcome State Fault Refusal :=
  onResource b 18 s (fun s => (s.advance t).post (memPlane b) .eMemCorrected (memRes b) (fltQ (memKey b)))
/-- MEMORY_MARCH_TEST_END (R525). -/
def execMemoryMarchTestEnd (t b : Nat) (ok : Bool) (s : State) : Host.Outcome State Fault Refusal :=
  onResource b 18 s (fun s => (s.advance t).marchEnd b ok)

end Sys2Proof.Machine
end

