-- ==== Sys2Proof/Machine/Panel.lean ====
section
/-! DEFINITION. The status LEDs (02 R51) and the local panel: compensation, updates, waveforms, strip and low-power mode
(20 R504 to R515). -/

namespace Sys2Proof.Machine

/-! ## Status LEDs (02 R51): colour and flashing by number, in the order of each row, 0 the last -/

/-- SAFE: 2 red, 1 yellow, 0 off. -/
def State.ledSafe (s : State) : Nat :=
  if (List.range 8).any (fun n => (s.soOf n).tripped) then 2
  else if (List.range 8).any (fun n => (s.soOf n).budgetAt.isSome) then 1 else 0

/-- FLT: 2 red flashing, 1 red steady, 0 off. -/
def State.ledFlt (s : State) : Nat :=
  if s.faults.sev7.isSome || s.power.phase == .pllHeld then 2 else if s.faults.store.retired.isEmpty then 0 else 1

/-- ROLE: 3 yellow flashing (resynchronising), 2 yellow (STANDBY), 1 green (ACTIVE), 0 off. -/
def State.ledRole (s : State) : Nat :=
  match s.pair.st with
  | .syncing => 3
  | st => st.role

/-- PWR: 1 green steady, 0 green flashing. -/
def State.ledPwr (s : State) : Nat := b2n (!(Tab.get (fun _ => false) s.power.failFlags 0 || Tab.get (fun _ => false) s.power.failFlags 1))

/-- RUN: 2 flashing 2 Hz, 1 flashing 0.5 Hz, 0 steady. A HELD task is neither stopped nor waiting for its first cycle, and the rule
does not say how RUN shows it: it counts as running (DESIGN CHOICE, notes/assumptions/103.md). -/
def State.ledRun (s : State) : Nat :=
  let ts := tasksWhere s.taskExists
  if !s.power.restoreDone || ts.any (fun i => (s.taskOf i).state == .starting) then 2
  else if ts.any (fun i => (s.taskOf i).state == .stopped || (s.taskOf i).state == .halted) then 1 else 0

/-- A frame was sent or received on the port lately: within 100 ms, for which the rule gives no time (DESIGN CHOICE,
notes/assumptions/104.md). -/
def State.portTraffic (s : State) (k : Nat) : Bool :=
  match (s.txPort k).trafficAt with
  | some a => decide (s.tb0 < a + 100000000)
  | none => false

/-- NA, NB: 3 yellow (RETIRED), 2 green flickering (link with traffic), 1 green steady (link), 0 off. -/
def State.ledPort (s : State) (k : Nat) : Nat :=
  if (s.port k).retired then 3 else if ¬ (s.port k).link then 0 else if s.portTraffic k then 2 else 1

/-- SVC: 2 flashing (transfer), 1 steady (session), 0 off. -/
def State.ledSvc (s : State) : Nat := if s.upd.transfer.isSome then 2 else b2n s.disp.ivpasto.isOpen

/-- What an LED shows: its colour (0 off, 1 green, 2 yellow, 3 red) and whether it is steady (0), flashes at 0.5 Hz (1) or 2 Hz (2),
or flickers (3). -/
structure LedShow where
  colour : Nat
  rate : Nat := 0
  deriving DecidableEq, Repr

/-- At power-up every LED lights yellow for 0.5 s: while TB0, which starts with the clocks, is below it (DEDUCED,
notes/assumptions/104.md). -/
def State.lampTest (s : State) : Bool :=
  s.power.phase == .running && (s.power.lastCause == 0x01 || s.power.lastCause == 0x02) && decide (s.tb0 < 500000000)

/-- The status LEDs from left to right (R51): PWR, RUN, ROLE, SAFE, FLT, NA, NB, SVC. -/
def State.leds (s : State) : List LedShow :=
  if s.lampTest then List.replicate 8 { colour := 2 }
  else
    let port := fun (k : Nat) => (match s.ledPort k with
      | 3 => { colour := 2 } | 2 => { colour := 1, rate := 3 } | 1 => { colour := 1 } | _ => { colour := 0 } : LedShow)
    [if s.ledPwr = 1 then { colour := 1 } else { colour := 1, rate := 2 },
     { colour := 1, rate := s.ledRun.min 2 },
     (match s.ledRole with | 3 => { colour := 2, rate := 2 } | 2 => { colour := 2 } | 1 => { colour := 1 } | _ => { colour := 0 }),
     (match s.ledSafe with | 2 => { colour := 3 } | 1 => { colour := 2 } | _ => { colour := 0 }),
     (match s.ledFlt with | 2 => { colour := 3, rate := 2 } | 1 => { colour := 3 } | _ => { colour := 0 }),
     port 0, port 1,
     (match s.ledSvc with | 2 => { colour := 2, rate := 2 } | 1 => { colour := 2 } | _ => { colour := 0 })]

/-! ## Geometry -/

/-- The panel as event source. -/
def panelRes : Res := { cls := 0x11, index := 0 }

/-- `PNL_KIND`. -/
def State.pnlKind (s : State) : Nat := s.param .pnlKind 0

/-- Region `i`; 32 is the privet strip (R514), 33 the whole glass. -/
def State.region (s : State) (i : Nat) : Option Region :=
  if i < 32 then Tab.get (fun _ => none) s.cfg.panel.regions i
  else if i = 32 then
    (if s.param .privetLines 0 = 0 then none
     else some { x := 0, y := 0, w := s.param .pnlWidth 0, h := min (s.param .privetLines 0) (s.param .pnlHeight 0), cls := 0 })
  else some { x := 0, y := 0, w := s.param .pnlWidth 0, h := s.param .pnlHeight 0, cls := 0 }

/-- The regions there are, the strip among them. -/
def State.regionsIn (s : State) : List Nat := (List.range 33).filter (fun i => (s.region i).isSome)

/-- A pixel's number. -/
def pixel (x y : Nat) : Nat := y * 1024 + x

/-- The pixels of a rectangle. -/
def Region.pixels (r : Region) : List Nat :=
  (List.range r.h).flatMap (fun j => (List.range r.w).map (fun i => pixel (r.x + i) (r.y + j)))

/-- Two rectangles share a pixel. -/
def Region.overlaps (a b : Region) : Bool :=
  decide (a.x < b.x + b.w ∧ b.x < a.x + a.w ∧ a.y < b.y + b.h ∧ b.y < a.y + a.h)

/-- Bytes of a whole update of a rectangle (R507). -/
def Region.size (kind : Nat) (r : Region) : Nat := if kind = 1 then 3 * r.w * r.h else (r.w + 1) / 2 * r.h

/-! ## The image and its compensation (R507 to R510) -/

/-- What an unlisted pixel of the DRAM image reads as: DRAM holds none. -/
def noPixel : Nat → Nat := fun _ => 256

/-- The level of an image cell: an LCD's cells are colours, 3 to a pixel. -/
def State.level (s : State) (k : Nat) : Nat :=
  let v := Tab.get noPixel s.panel.image k
  if v = 256 then (if s.pnlKind = 2 then 15 else 0) else v

/-- Puts the pixels of a rectangle into the image (R507). -/
def State.putPixels (r : Region) (b : Bytes) (s : State) : State :=
  let cells := (List.range r.h).flatMap (fun j => (List.range r.w).flatMap (fun i =>
    let p := pixel (r.x + i) (r.y + j)
    if s.pnlKind = 1 then (List.range 3).map (fun c => (3 * p + c, leNat (slice b (3 * (j * r.w + i) + c) 1) % 64))
    else [(p, leNat (slice b (j * ((r.w + 1) / 2) + i / 2) 1) / (if i % 2 = 0 then 1 else 16) % 16)]))
  { s with panel := { s.panel with image := cells.foldl (fun t x => Tab.put noPixel t x.1 x.2) s.panel.image } }

/-- A byte of a correction table. -/
def tableByte (t : Tab Byte) (a : Nat) : Nat := (Tab.get (fun _ => (0 : Byte)) t a).toNat

/-- Gamma of colour `c` (R508). -/
def State.gamma (s : State) (c v : Nat) : Nat := tableByte s.cfg.panel.gamma (64 * c + v)

/-- The overdrive level of colour `c` from `p` to `n` (R509): bilinear, rounded to the nearest, within 0 to 63. -/
def State.overdrive (s : State) (c p n : Nat) : Nat :=
  if p = n then n
  else
    let i := min 15 (16 * p / 63)
    let j := min 15 (16 * n / 63)
    let fp := 16 * p - 63 * i
    let fn := 16 * n - 63 * j
    let a := fun (i j : Nat) => tableByte s.cfg.panel.overdrive (289 * c + 17 * i + j)
    let v := (63 - fp) * (63 - fn) * a i j + (63 - fp) * fn * a i (j + 1) + fp * (63 - fn) * a (i + 1) j + fp * fn * a (i + 1) (j + 1)
    min 63 ((2 * v + 3969) / 7938)

/-- The waveform of a previous and a next level (R510). -/
def waveOf (select : Tab Byte) (p n : Nat) : Nat := tableByte select (17 * p + n)

/-- The drive code of a phase of a waveform in a band: 16 bytes hold 64 phases, the first in the low bits
(notes/assumptions/69.md). -/
def driveCode (set : Tab Byte) (band w phase : Nat) : Nat :=
  tableByte set ((band * 256 + w) * 16 + phase / 4) / 4 ^ (phase % 4) % 4

/-- Phases of a waveform: up to its last code that drives. -/
def waveLen (set : Tab Byte) (band w : Nat) : Nat :=
  (List.range 64).foldl (fun n k => if driveCode set band w k = 0 then n else k + 1) 0

/-- The temperature band, from 0.1 °C (R510). -/
def waveBand (temp : Int) : Nat := (clampInt 0 7 ((temp + 250) / 120)).toNat

/-- The drive code of a pixel now: equal levels are not driven (R510), and the tables are those in force at the start (R517). -/
def Wave.drive (w : Wave) (c : Nat × Nat × Nat) : Nat :=
  if c.2.1 = c.2.2 ∨ w.len ≤ w.phase then 0 else driveCode w.set w.band (waveOf w.select c.2.1 c.2.2) w.phase

/-! ## The strip (R514) -/

/-- The state word: 0 TRIP, 1 FAULT, 2 DEGRADED, 3 OK. -/
def State.stripWord (s : State) : Nat :=
  if s.ledSafe = 2 then 0 else if s.ledFlt ≠ 0 then 1 else if s.ledSafe = 1 then 2 else 3

/-- What the strip shows. -/
def State.stripNow (s : State) : Strip := { station := s.net.station, role := s.ledRole, side := s.param .pairSide 0, word := s.stripWord }

/-- The colour of a state word on an LCD: bit 0 red, bit 1 green, bit 2 blue. -/
def wordColour (word : Nat) : Nat := match word with | 0 => 1 | 1 => 3 | 2 => 3 | _ => 2

/-- The levels of a state word and of its ground on e-paper: black on white, dark grey, light grey, white on black; the rule gives
no ground for the greys. -/
def wordLevel (word : Nat) : Nat × Option Nat := match word with | 0 => (0, some 15) | 1 => (5, none) | 2 => (10, none) | _ => (15, some 0)

/-- The level of a cell of the strip as last drawn: the state word has the colour of its row, and the rest of the drawing is
uninterpreted within the 8 colours, or the levels 0, 5, 10 and 15 (notes/assumptions/69.md). The low two bits of `stripPixel` say what
the pixel belongs to: 0 the word, 1 its ground, else the rest. -/
def State.stripCell (s : State) (p c : Nat) : Nat :=
  match s.panel.strip with
  | none => 0
  | some t =>
    let v := Config.stripPixel [s.pnlKind, t.station, t.role, t.side, t.word, p % 1024, p / 1024]
    let rest := v / 4
    if s.pnlKind = 1 then (if v % 4 = 0 then wordColour t.word else rest % 8) / 2 ^ c % 2 * 63
    else match v % 4 with
      | 0 => (wordLevel t.word).1
      | 1 => (wordLevel t.word).2.getD (rest % 4 * 5)
      | _ => rest % 4 * 5

/-- The target drive level of a cell: pixel `p`, colour `c` of region `i`. -/
def State.target (s : State) (i p c : Nat) : Nat :=
  let v := if i = 32 then s.stripCell p c else s.level (if s.pnlKind = 1 then 3 * p + c else p)
  if s.pnlKind = 1 then s.gamma c v else tableByte s.cfg.panel.grey v

/-! ## The mark (R512) -/

/-- The mark last committed or being committed. -/
def State.panelMarkLast (s : State) : Option Bool :=
  match s.cocoon.panel.busy with
  | some true => s.cocoon.panel.b.map (·.payload)
  | some false => s.cocoon.panel.a.map (·.payload)
  | none => s.cocoon.panel.newest.map (·.payload)

/-- The mark that the module's state asks for; until the panel's first frame after a start the mark that stands, or its absence,
still asks for the full clear (R512, R513, R517; 03 R69). In low-power mode only the strip's waveforms run (R515). -/
def State.panelMarkNow (s : State) : Bool :=
  s.pnlKind == 2 &&
    (if s.panel.on then !s.panel.waves.isEmpty || s.panel.waiting.any (fun i => !s.panel.low || i == 32) || s.panel.clearing.isSome
     else s.panelMarkLast != some false)

/-- The set mark stands in the cocoon. -/
def State.panelMarked (s : State) : Bool := s.cocoon.panel.busy.isNone && s.panelMarkLast == some true

/-- The mark is committed where it changes. -/
def State.panelTouch (s : State) : State :=
  if s.panelMarkLast = some s.panelMarkNow then s
  else { s with cocoon := { s.cocoon with panel := s.cocoon.panel.request s.panelMarkNow } }

/-! ## Updates and frames (R511, R513, R515) -/

/-- Low-power mode begins or ends; after it the full image is shown again, from the next frame on an LCD and by redraw on e-paper. -/
def State.panelLow (low : Bool) (s : State) : State :=
  if s.panel.low = low then s
  else
    let redraw : Bool := !low && s.pnlKind == 2
    let s : State := { s with panel := { s.panel with
      low := low, waiting := if redraw then (s.regionsIn ++ s.panel.waiting).eraseDups else s.panel.waiting } }
    (s.post .management .ePanelLowPower panelRes (b2n low)).panelTouch

/-- An update of region `i` is complete. -/
def State.panelUpdated (i : Nat) (s : State) : State :=
  let s := s.postIf (s.pnlKind == 2 && s.panel.waiting.contains i) .management .ePanelSuperseded panelRes i
  let s : State := { s with panel := { s.panel with lastUpdate := s.tb0, waiting := if s.panel.waiting.contains i then s.panel.waiting else s.panel.waiting ++ [i] } }
  (s.panelLow false).panelTouch

/-- The regions that a frame shows: the strip alone in low-power mode. -/
def State.panelShown (s : State) : List Nat := if s.panel.low then [32] else s.regionsIn

/-- An LCD frame (R509): a live region's update shows with overdrive in its first frame. -/
def State.lcdFrame (s : State) : State :=
  let cells := s.panelShown.flatMap (fun i =>
    match s.region i with
    | none => []
    | some r => r.pixels.flatMap (fun p => (List.range 3).map (fun c =>
        let n := s.target i p c
        let before := Tab.get (fun _ => 0) s.panel.driven (3 * p + c)
        (3 * p + c, if r.cls = 1 ∧ s.panel.waiting.contains i = true then s.overdrive c before n else n))))
  { s with panel := { s.panel with
      driven := cells.foldl (fun t x => Tab.put (fun _ => 0) t x.1 x.2) [], waiting := s.panel.waiting.filter (fun i => !s.panelShown.contains i) } }

/-- What an unlisted pixel of the previous-level memory reads as: white, as a full clear leaves it. -/
def whitePixel : Nat → Nat := fun _ => 15

/-- A waveform of region `i` starts (R510, R511); the full clear drives every pixel from row 16 to white. -/
def State.waveStart (temp : Int) (i : Nat) (s : State) : State :=
  match s.region i with
  | none => { s with panel := { s.panel with waiting := s.panel.waiting.filter (fun k => k != i) } }
  | some r =>
    let band := waveBand temp
    let cells := r.pixels.map (fun p => (p, if i = 33 then (16, 15) else (Tab.get whitePixel s.panel.prev p, s.target i p 0)))
    let t := s.cfg.panel
    let len := cells.foldl (fun n c => if c.2.1 = c.2.2 then n else max n (waveLen t.waves band (waveOf t.select c.2.1 c.2.2))) 0
    let w : Wave := { region := i, cells := cells, band := band, len := len, select := t.select, set := t.waves }
    { s with panel := { s.panel with
        band := band, waves := s.panel.waves ++ [w],
        waiting := s.panel.waiting.filter (fun k => k != i) } }

/-- An e-paper frame (R510, R511, R513): running waveforms drive their next phase; the full clear, or the waiting updates whose
region has none running, start once the mark stands. -/
def State.paperFrame (temp : Int) (s : State) : State :=
  let s : State := { s with panel := { s.panel with waves := s.panel.waves.map (fun w => { w with phase := min w.len (w.phase + 1) }) } }
  if ¬ s.panelMarked then s
  else if s.panel.clearing.isSome then (if s.panel.waves.isEmpty then s.waveStart temp 33 else s)
  else
    let may := s.panel.waiting.filter (fun i => s.panelShown.contains i && !s.panel.waves.any (fun w => w.region == i))
    may.foldl (fun s i => s.waveStart temp i) s

/-- The strip is drawn anew where what it shows has changed; a change to TRIP ends low-power mode (R514, R515). -/
def State.stripRedraw (s : State) : State :=
  let t := s.stripNow
  if s.panel.strip = some t then s
  else
    let trip := t.word == 0 && (match s.panel.strip with | some o => o.word != 0 | none => true)
    let s : State := { s with panel := { s.panel with
      strip := some t, waiting := if s.panel.waiting.contains 32 ∨ (s.region 32).isNone then s.panel.waiting else s.panel.waiting ++ [32] } }
    (if trip then s.panelLow false else s).panelTouch

/-- A panel frame begins. -/
def State.panelFrame (temp : Int) (s : State) : State :=
  if ¬ (s.power.mgmtUp ∧ s.panel.on ∧ s.panel.pen) ∨ s.power.phase ≠ .running then s
  else
    let s := s.stripRedraw
    if s.pnlKind = 1 then s.lcdFrame else s.paperFrame temp

/-- The full clear is asked for (R513). -/
def State.panelClear (cause : Nat) (l : List Entry) (s : State) : State :=
  let x := match s.panel.clearing with | some (k, m) => (k, m ++ l) | none => (cause, l)
  ({ s with panel := { s.panel with clearing := some x } } : State).panelTouch

/-- The full clear, if one was asked for, is done: E_PANEL_CLEARED and the completions of its commands (R513). -/
def State.clearDone (s : State) : State :=
  match s.panel.clearing with
  | none => s
  | some (c, l) =>
    let s : State := { s with panel := { s.panel with clearing := none } }
    l.foldl (fun (s : State) (e : Entry) => s.complete e .sOk 0 []) (s.post .management .ePanelCleared panelRes c)

/-- A waveform ends (R512): its levels go into the previous-level memory; after the full clear everything is redrawn. -/
def State.waveEnd (i : Nat) (s : State) : State :=
  match s.panel.waves.find? (fun w => w.region == i && decide (w.len ≤ w.phase)) with
  | none => s
  | some w =>
    let s : State := { s with panel := { s.panel with waves := s.panel.waves.filter (fun x => x.region != i) } }
    if i = 33 then
      let s : State := { s with panel := { s.panel with prev := [], waiting := s.regionsIn } }
      s.clearDone.panelTouch
    else
      ({ s with panel := { s.panel with prev := w.cells.foldl (fun t c => Tab.put whitePixel t c.1 c.2.2) s.panel.prev } } : State).panelTouch

/-- The panel's identity is read (R505): PEN rises where kind, width and height agree. A panel that is not driven has nothing to
clear, so a clear still asked for is done. -/
def State.panelCheck (s : State) : State :=
  let off := fun (s : State) => ({ s with panel := { s.panel with pen := false, on := false } } : State).clearDone
  if s.pnlKind = 0 then off s
  else
    let b := match s.panel.idMem with | some b => b | none => []
    if s.panel.idMem.isSome ∧ leNat (slice b 0 1) = s.pnlKind ∧ leNat (slice b 2 2) = s.param .pnlWidth 0 ∧ leNat (slice b 4 2) = s.param .pnlHeight 0 then
      { s with panel := { s.panel with pen := true, penAt := s.tb0, on := false } }
    else (off s).post .management .ePanelMismatch panelRes (leNat (slice b 0 4))

/-- The first frame, 50 ms after PEN rises: the image is redrawn; on e-paper a set or missing mark makes the previous levels
invalid, so that a full clear comes first (R505, R513). -/
def State.panelFirst (s : State) : State :=
  if ¬ s.power.mgmtUp ∨ ¬ s.panel.pen ∨ s.panel.on ∨ s.tb0 < s.panel.penAt + 50000000 then s
  else
    let s : State := { s with panel := { s.panel with on := true, strip := some s.stripNow, lastUpdate := s.tb0 } }
    if s.pnlKind = 1 then ({ s.clearDone with panel := { s.clearDone.panel with waiting := [] } } : State).lcdFrame
    else if s.panelMarkLast ≠ some false then s.panelClear 0 []
    else ({ s with panel := { s.panel with waiting := s.regionsIn } } : State).panelTouch

/-- The panel at a reset of the management plane or the module: the image in DRAM is lost, waveforms stop where they are. -/
def State.panelReset (s : State) : State :=
  { s with panel := { s.panel with on := false, low := false, image := [], driven := [], waiting := [], waves := [], clearing := none, strip := none } }

/-- `PNL_IDLE` without an update (R515). -/
def State.panelIdle (s : State) : State :=
  let n := s.param .pnlIdle 0
  if s.panel.on ∧ n ≠ 0 ∧ s.panel.lastUpdate + n * 1000000000 ≤ s.tb0 then s.panelLow true else s

/-! ## The pins of XP (R504, R515) -/

/-- BLP: the backlight in percent, on an LCD alone. -/
def State.backlight (s : State) : Nat :=
  if s.pnlKind = 1 ∧ s.panel.on then s.param (if s.panel.low then .privetBl else .pnlBl) 0 else 0

/-- GOE is up on a row: a running LCD drives its rows, in low-power mode those of the strip. -/
def State.rowEnabled (s : State) (row : Nat) : Bool :=
  s.panel.on && (if s.pnlKind = 1 ∧ s.panel.low then decide (row < s.param .privetLines 0) else decide (row < s.param .pnlHeight 0))

/-- The 2-bit drive code of a pixel of e-paper in this frame: that of the waveform that drives it, else none. -/
def State.columnCode (s : State) (p : Nat) : Nat :=
  match s.panel.waves.findSome? (fun w => (w.cells.find? (fun c => c.1 == p)).map (fun c => w.drive c)) with
  | some d => d
  | none => 0

end Sys2Proof.Machine
end

