-- ==== Sys2Proof/Machine/PanelCmd.lean ====
section
/-! DEFINITION. The commands of class 0x11 (20 R504, R506, R516, R518) and the rows of the panel. -/

namespace Sys2Proof.Machine

/-- The module as target of class 0x11, or one region. -/
def panelTarget : State → Cmd → Bool := targetZero 0x11
def regionTarget : State → Cmd → Bool := targetBelow 0x11 32

/-- The parameters of `PANEL.CONFIGURE`. -/
def panelSettings (c : Cmd) : List (Param × Nat) :=
  [(.pnlKind, c.field 16 1), (.privetLines, c.field 17 1), (.pnlBl, c.field 18 1)]
    ++ (if c.expert then
      [(.privetBl, c.field 19 1), (.pnlWidth, c.field 20 2), (.pnlHeight, c.field 22 2), (.pnlHblank, c.field 24 2),
       (.pnlVblank, c.field 26 2), (.pnlPclk, c.field 28 4), (.pnlIdle, c.field 32 4)] else [])

/-- Size and frame rate suit the kind (R504): an LCD runs at 30 to 85 Hz, e-paper at 50 or 85 Hz to the nearest hertz
(notes/assumptions/69.md). -/
def panelShapeOk (kind w h hb vb pclk : Nat) : Bool :=
  let cols := if kind = 2 then (w + 13) / 14 else w
  let total := (cols + hb) * (h + vb)
  let hz := (2 * pclk * 1000 + total) / (2 * total)
  match kind with
  | 1 => decide (1 ≤ w ∧ w ≤ 1024 ∧ 1 ≤ h ∧ h ≤ 600) && decide (30 * total ≤ pclk * 1000 ∧ pclk * 1000 ≤ 85 * total)
  | 2 => decide (1 ≤ w ∧ w ≤ 1024 ∧ 1 ≤ h ∧ h ≤ 768) && (hz == 50 || hz == 85)
  | _ => true

/-- The ranges of R516. -/
def panelRanges (s : State) (l : List (Param × Nat)) : Bool :=
  let v := newValue s 0 l
  let lines := v .privetLines
  l.all (fun x => x.1.inRange x.2) && (lines == 0 || decide (8 ≤ lines)) && (v .pnlIdle == 0 || decide (10 ≤ v .pnlIdle))
    && panelShapeOk (v .pnlKind) (v .pnlWidth) (v .pnlHeight) (v .pnlHblank) (v .pnlVblank) (v .pnlPclk)
    && (List.range 32).all (fun i => match s.region i with | some r => decide (lines ≤ r.y) | none => true)

/-- `PANEL.CONFIGURE`: the identity is read again. -/
def specPanelConfigure : CmdSpec where
  op := 0x1100
  layout := fun c => { ranges := [(16, if c.expert then 20 else 3)] }
  target := panelTarget
  params := fun s c => panelRanges s (panelSettings c)
  check := fun s _ => whenS (!s.panel.waves.isEmpty) .sBusy
  run := fun e s => .ok (s.setCommit 0 (panelSettings e.cmd)).panelCheck

/-- The region that a `PANEL.REGION` describes. -/
def regionOfCmd (c : Cmd) : Region := { x := c.field 16 2, y := c.field 18 2, w := c.field 20 2, h := c.field 22 2, cls := c.field 24 1 }

/-- A region lies on the panel, outside every other one and the strip (R506). -/
def State.regionOk (s : State) (i : Nat) (r : Region) : Bool :=
  decide (1 ≤ r.h ∧ r.x + r.w ≤ s.param .pnlWidth 0 ∧ r.y + r.h ≤ s.param .pnlHeight 0 ∧ r.cls ≤ 1)
    && (List.range 33).all (fun k => k == i || (match s.region k with | some q => !(q.overlaps r) | none => true))

/-- `PANEL.REGION`. -/
def specPanelRegion : CmdSpec where
  op := 0x1101
  layout := fun _ => { ranges := [(16, 9)] }
  target := regionTarget
  params := fun s c => (regionOfCmd c).w == 0 || s.regionOk c.tgtIndex (regionOfCmd c)
  check := fun s c => whenS (s.panel.waves.any (fun w => w.region == c.tgtIndex)) .sBusy
  run := fun e s =>
    let r := regionOfCmd e.cmd
    let s : State := { s with cfg := { s.cfg with panel := { s.cfg.panel with
      regions := Tab.put (fun _ => none) s.cfg.panel.regions e.cmd.tgtIndex (if r.w = 0 then none else some r) } } }
    .ok s.commitConfig

/-- `PANEL.FRAME`: the stream carries the whole region. -/
def specPanelFrame : CmdSpec where
  op := 0x1102
  layout := fun _ => { ranges := [(17, 3)] }
  route := fun c => c.onHost
  target := regionTarget
  params := fun _ c => decide (c.field 17 1 < 8)
  check := fun s c => firstOf
    [whenS (s.region c.tgtIndex).isNone .sNotFound, whenS (s.streamOpen (c.field 18 2)) .sBusy]
  run := fun e s =>
    .later { s with disp := { s.disp with streams := s.disp.streams ++
      [{ ring := e.cmd.field 17 1, stream := e.cmd.field 18 2, toHost := false, entry := e }] } }

/-- The stream of a `PANEL.FRAME` has ended: a byte count other than the region's leaves it unchanged (R507). -/
def State.panelStream (e : Entry) (b : Bytes) (s : State) : State :=
  match s.region e.cmd.tgtIndex with
  | some r =>
    if b.length = r.size s.pnlKind ∧ s.pnlKind ≠ 0 then ((s.putPixels r b).panelUpdated e.cmd.tgtIndex).complete e .sOk 0 []
    else s.complete e .sBadParam 0 []
  | none => s.complete e .sBadParam 0 []

/-- The sub-rectangle of a `PANEL.PATCH`. -/
def patchRect (c : Cmd) : Region := { x := c.blk 0 2, y := c.blk 2 2, w := c.blk 4 2, h := c.blk 6 2, cls := 0 }

/-- `PANEL.PATCH`; the reserved bits of an LCD's colours are 0. -/
def specPanelPatch : CmdSpec where
  op := 0x1103
  layout := fun _ => { ranges := [(16, 48)] }
  form := fun s c => c.indirect && decide (8 ≤ c.blockLen) && (s.pnlKind != 1 || (c.blockBytes.drop 8).all (fun x => decide (x.toNat < 64)))
  target := regionTarget
  params := fun s c =>
    let q := patchRect c
    match s.region c.tgtIndex with
    | none => true
    | some r => decide (1 ≤ q.w ∧ 1 ≤ q.h ∧ q.x + q.w ≤ r.w ∧ q.y + q.h ≤ r.h) && c.blockLen == 8 + q.size s.pnlKind && s.pnlKind != 0
  check := fun s c => whenS (s.region c.tgtIndex).isNone .sNotFound
  run := fun e s =>
    match s.region e.cmd.tgtIndex with
    | none => .refuse .sNotFound s
    | some r =>
      let q := patchRect e.cmd
      .ok ((s.putPixels { q with x := r.x + q.x, y := r.y + q.y } (e.cmd.blockBytes.drop 8)).panelUpdated e.cmd.tgtIndex)

/-- Bytes of a correction table, and the limit of a byte (R508 to R510). -/
def tableSize (k : Nat) : Nat × Nat :=
  match k with | 1 => (192, 64) | 2 => (867, 64) | 3 => (16, 16) | 4 => (289, 256) | _ => (32768, 256)

/-- Installs a correction table. -/
def State.putTable (k : Nat) (b : Bytes) (s : State) : State :=
  ({ s with cfg := { s.cfg with panel := s.cfg.panel.withTable k (Tab.putBytes [] 0 b) } } : State).commitConfig

/-- `PANEL.LOAD_TABLE`. -/
def specPanelLoadTable : CmdSpec where
  op := 0x1104
  layout := fun _ => { ranges := [(16, 48)] }
  form := fun _ c => c.indirect
  route := fun c => c.onHost || c.blk 0 1 != 5
  target := panelTarget
  params := fun _ c =>
    let k := c.blk 0 1
    if k = 5 then c.expert && decide (c.blk 1 1 < 8) && c.blockLen == 4
    else decide (1 ≤ k ∧ k ≤ 4) && c.blockLen == 1 + (tableSize k).1 && (c.blockBytes.drop 1).all (fun x => decide (x.toNat < (tableSize k).2))
  check := fun s c => whenS (c.blk 0 1 == 5 && s.streamOpen (c.blk 2 2)) .sBusy
  run := fun e s =>
    let c := e.cmd
    if c.blk 0 1 = 5 then
      .later { s with disp := { s.disp with streams := s.disp.streams ++ [{ ring := c.blk 1 1, stream := c.blk 2 2, toHost := false, entry := e }] } }
    else .ok (s.putTable (c.blk 0 1) (c.blockBytes.drop 1))

/-- The stream of a waveform set has ended. -/
def State.wavesStream (e : Entry) (b : Bytes) (s : State) : State :=
  if b.length = 32768 then (s.putTable 5 b).complete e .sOk 0 [] else s.complete e .sBadParam 0 []

/-- `PANEL.SET_POWER`. -/
def specPanelSetPower : CmdSpec where
  op := 0x1105
  layout := fun _ => { ranges := [(16, 1)] }
  target := panelTarget
  params := fun _ c => decide (c.field 16 1 ≤ 1)
  run := fun e s => .ok (s.panelLow (e.cmd.field 16 1 == 1))

/-- `PANEL.CLEAR`: on e-paper it completes when the clear has ended. -/
def specPanelClear : CmdSpec where
  op := 0x1106
  target := panelTarget
  run := fun e s =>
    if s.pnlKind = 2 ∧ s.panel.on then .later (s.panelClear 1 [e])
    else .ok (s.post .management .ePanelCleared panelRes 1)

/-- `PANEL.STATUS`. -/
def specPanelStatus : CmdSpec where
  op := 0x1107
  long := fun _ => true
  target := panelTarget
  run := fun e s =>
    let p := s.panel
    let id : List Int := (slice (match p.idMem with | some b => b | none => []) 0 16).map (fun x => (x.toNat : Int))
    .long (Config.resultLayout (0x220E + b2n e.cmd.expert)
      ([(s.pnlKind : Int)] ++ id ++ [(b2n p.low : Int), (b2n (s.panelMarkLast != some false) : Int), (p.waves.length : Int), (p.waiting.length : Int)]
        ++ (if e.cmd.expert then [(p.band : Int)] else []))) s

/-- The commands of class 0x11 by opcode. -/
def specPanel : List CmdSpec :=
  [specPanelConfigure, specPanelRegion, specPanelFrame, specPanelPatch, specPanelLoadTable, specPanelSetPower, specPanelClear, specPanelStatus]

/-- PANEL_CONFIGURE. -/
def execPanelConfigure (t : Nat) (c : Cmd) (s : State) : Host.Outcome State Fault Refusal := .next (specPanelConfigure.submit c (s.advance t))
/-- PANEL_REGION. -/
def execPanelRegion (t : Nat) (c : Cmd) (s : State) : Host.Outcome State Fault Refusal := .next (specPanelRegion.submit c (s.advance t))
/-- PANEL_FRAME. -/
def execPanelFrame (t : Nat) (c : Cmd) (s : State) : Host.Outcome State Fault Refusal := .next (specPanelFrame.submit c (s.advance t))
/-- PANEL_PATCH. -/
def execPanelPatch (t : Nat) (c : Cmd) (s : State) : Host.Outcome State Fault Refusal := .next (specPanelPatch.submit c (s.advance t))
/-- PANEL_LOAD_TABLE. -/
def execPanelLoadTable (t : Nat) (c : Cmd) (s : State) : Host.Outcome State Fault Refusal := .next (specPanelLoadTable.submit c (s.advance t))
/-- PANEL_SET_POWER. -/
def execPanelSetPower (t : Nat) (c : Cmd) (s : State) : Host.Outcome State Fault Refusal := .next (specPanelSetPower.submit c (s.advance t))
/-- PANEL_CLEAR. -/
def execPanelClear (t : Nat) (c : Cmd) (s : State) : Host.Outcome State Fault Refusal := .next (specPanelClear.submit c (s.advance t))
/-- PANEL_STATUS. -/
def execPanelStatus (t : Nat) (c : Cmd) (s : State) : Host.Outcome State Fault Refusal := .next (specPanelStatus.submit c (s.advance t))

/-- PANEL_FIRST_FRAME (R505). -/
def execPanelFirstFrame (t : Nat) (s : State) : Host.Outcome State Fault Refusal := .next (s.advance t).panelFirst
/-- PANEL_VERTICAL_BLANK (R511): the baseplate is at `temp` (0.1 °C). -/
def execPanelVerticalBlank (t : Nat) (temp : Int) (s : State) : Host.Outcome State Fault Refusal := .next ((s.advance t).panelFrame temp)
/-- WAVEFORM_END (R512): of region `i`, of the strip (32) or of the full clear (33). -/
def execWaveformEnd (t i : Nat) (s : State) : Host.Outcome State Fault Refusal := .next ((s.advance t).waveEnd i)
/-- PANEL_IDLE_TIMEOUT (R515). -/
def execPanelIdleTimeout (t : Nat) (s : State) : Host.Outcome State Fault Refusal := .next (s.advance t).panelIdle

end Sys2Proof.Machine
end

