-- ==== Sys2Proof/Machine/Update.lean ====
section
/-! DEFINITION. The service port: Ivpasto records and sessions (19 R489 to R492), image containers and staging (R493 to R496),
and the commands of class 0x10 (R497, R500, R502). -/

namespace Sys2Proof.Machine

/-- The update unit as event source. -/
def updRes : Res := { cls := 0x10, index := 0 }

/-! ## Containers (R493 to R496) -/

/-- The largest `CLEN` of a component (R494). -/
def clenMax (comp : Nat) : Nat :=
  (match comp with | 1 => 1 | 2 => 1 | 3 => 32 | 4 => 4 | 5 => 4 | 6 => 2 | 7 => 8 | 8 => 8 | _ => 0) * 1048576

/-- `COMPONENT`, `CVERSION`, `ARB`, `CLEN` and `SCC` of a container. -/
def contComp (b : Bytes) : Nat := leNat (slice b 6 2)
def contVersion (b : Bytes) : Nat := leNat (slice b 8 4)
def contArb (b : Bytes) : Nat := leNat (slice b 12 4)
def contLen (b : Bytes) : Nat := leNat (slice b 20 4)
def contScc (b : Bytes) : Nat := leNat (slice b 24 4)

/-- The content key under a wrapping key (R493). -/
def contKey (wrapKey b : Bytes) : Option Bytes := gcmOpen wrapKey (slice b 48 12) [] (slice b 64 48)

/-- The anti-rollback counter that the module stores of a component. -/
def State.arbOf (s : State) (comp : Nat) : Nat := Tab.get (fun _ => 0) s.upd.arb comp

/-- The checks of R496 over the header, of which check 2 opens the wrap with `wrapKey`; `full` applies checks 3 and 4 to
every component, as an activation does (R499). The number of the first that fails; 0 where none does. -/
def State.contCheck (s : State) (wrapKey b : Bytes) (full : Bool) : Nat :=
  let comp := contComp b
  let checked := full || decide (comp ≤ 2)
  if ¬ (leNat (slice b 0 4) = 0x4E504946 ∧ leNat (slice b 4 2) = 1 ∧ 1 ≤ comp ∧ comp ≤ 8 ∧ 1 ≤ contLen b ∧ contLen b ≤ clenMax comp
      ∧ contLen b + 208 = b.length) then 1
  else if (contKey wrapKey b).isNone then 2
  else if checked ∧ ¬ (leNat (slice b 16 2) = 0x0640 ∧ leNat (slice b 18 2) ≤ Config.hwIssue) then 3
  else if checked ∧ ¬ (contArb b ≤ 63 ∧ s.arbOf comp ≤ contArb b) then 4
  else 0

/-- The container with its content key wrapped again under the module's own key with a fresh `WIV` (R495). -/
def rewrapped (fresh b : Bytes) : Bytes :=
  match contKey Config.productImageKey b with
  | none => b
  | some k =>
    let w := slice (gcmSeal Config.moduleKey fresh [] k) 0 48
    b.take 48 ++ fresh ++ slice b 60 4 ++ w ++ b.drop 112

/-- A component in its place by number, replacing the one before. -/
def compPut (comp : Nat) (b : Bytes) : List (Nat × Bytes) → List (Nat × Bytes)
  | [] => [(comp, b)]
  | (k, v) :: r => if comp < k then (comp, b) :: (k, v) :: r else if comp = k then (comp, b) :: r else (k, v) :: compPut comp b r

/-- The last byte of a container has arrived: the staging checks (R496). -/
def State.staged (t : Transfer) (s : State) : State :=
  let b := t.got
  let comp := contComp b
  let n := s.contCheck Config.productImageKey b false
  let s : State := { s with upd := { s.upd with transfer := none } }
  if n = 0 then
    let fresh := leBytes 8 s.drawn.toNat ++ leBytes 4 s.afterDraw.drawn.toNat
    let s := s.afterDraw.afterDraw
    let s : State := { s with upd := { s.upd with chrysalis := compPut comp (rewrapped fresh b) s.upd.chrysalis } }
    (s.post .management .eUpdStaged updRes (comp * 65536 + contVersion b % 65536)).complete t.entry .sOk 0 []
  else
    (s.post .management .eUpdRejected updRes (comp * 65536 + n)).complete t.entry (if n = 4 then .sRollback else .sImageRejected) 0 []

/-- Container bytes arrive; beyond the named length they are dropped. -/
def State.containerBytes (b : Bytes) (s : State) : State :=
  match s.upd.transfer with
  | none => s
  | some t =>
    let t : Transfer := { t with got := t.got ++ b.take (t.length - t.got.length) }
    if t.length ≤ t.got.length then s.staged t else { s with upd := { s.upd with transfer := some t } }

/-! ## The Ivpasto connection (R489 to R492) -/

/-- The opened body of an encrypted record: its header names its length and its tag holds under the next counter. -/
def State.ivOpen (s : State) (b : Bytes) : Option Bytes :=
  let v := s.disp.ivpasto
  if b.length = 20 + beNat (slice b 0 2) ∧ leNat (slice b 3 1) = 0 ∧ beNat (slice b 0 2) ≤ 16384 then
    gcmOpen v.key (ivIv 1 v.inCounter) (b.take 4) (b.drop 4)
  else none

/-- Changes the Ivpasto session. -/
def State.setIv (v : IvpastoSession) (s : State) : State := { s with disp := { s.disp with ivpasto := v } }

/-- A HELLO passes the checks of R491 and R492: its certificate and its signature. -/
def State.helloOk (s : State) (b : Bytes) : Bool :=
  let cert := slice b 85 144
  let fleet := leNat (slice cert 4 4)
  b.length == 293 && beNat (slice b 0 2) == 289 && leNat (slice b 3 1) == 0
    && leNat (slice cert 0 4) == 0x4E505343 && Config.verifySignature Config.serviceAuthorityKey (cert.take 80) (cert.drop 80)
    && (s.cred.fleet == 0 || fleet == s.cred.fleet)
    && Config.verifySignature (slice cert 16 64) (slice b 4 81) (slice b 229 64)

/-- A HELLO (R491): the reply and the keys, or S_AUTH_FAILED at most once per second and the connection's end. -/
def State.hello (b : Bytes) (s : State) : State :=
  if s.helloOk b then
    let nc := slice b 4 16
    let qc := slice b 20 65
    let ns := leBytes 8 s.drawn.toNat ++ leBytes 8 s.afterDraw.drawn.toNat
    let s := s.afterDraw.afterDraw
    let qm := slice (Config.helloKey (nc ++ ns)) 0 65
    let body := beBytes 2 0 ++ ns ++ qm ++ slice Config.identityCertificate 0 144 ++ slice (Config.helloSignature (nc ++ ns ++ qc ++ qm)) 0 64
    let k := Config.ivpastoKeys qc qm (nc ++ ns)
    (s.send (.ivpasto (ivHeader 2 body.length ++ body))).setIv { s.disp.ivpasto with
      helloDone := true, roles := leNat (slice b 97 1) % 8, serial := leNat (slice b 93 4), key := slice k 0 32, keyOut := slice k 32 32,
      inCounter := 0, outCounter := 0 }
  else
    let s := s.post .management .eAuthFailed modRes 0xFFFFFFFF
    let s := if s.upd.helloReplyAt = 0 ∨ s.upd.helloReplyAt + 1000000000 ≤ s.tb0 + 1 then
        ({ s with upd := { s.upd with helloReplyAt := s.tb0 + 1 } } : State).send
          (.ivpasto (ivHeader 2 2 ++ beBytes 2 Status.sAuthFailed.code))
      else s
    s.closeIvpasto

/-- FINISH: the session is open (R491). -/
def State.ivFinish (s : State) : State :=
  let v := s.disp.ivpasto
  (s.setIv { v with isOpen := true, inCounter := v.inCounter + 1, lastAt := s.tb0, filter := none, dispatched := 0, refused := 0 }).post
    .management .eSessionOpened modRes 0xFFFFFFFF

/-- The entries of a commands record: taken, or answered with S_ROUTE_FULL beyond 16 in flight (04 R111, R117). -/
def State.ivCommands (body : Bytes) (s : State) : State :=
  (parseEntries .ivpasto (body.length / 64) body).foldl (fun s e =>
    if s.routeFull .ivpasto then s.answerFull .ivpasto e.2.tag else s.takeEntry e) s

/-- A record on the service port (R490): what does not authenticate, or has no meaning where it stands, closes the session. -/
def State.ivRecord (b : Bytes) (s : State) : State :=
  let v := s.disp.ivpasto
  let ty := leNat (slice b 2 1)
  if ¬ (s.power.mgmtUp ∧ v.connected) then s
  else if ¬ v.helloDone then (if ty = 1 then s.hello b else s.closeIvpasto)
  else match s.ivOpen b with
    | none => s.closeIvpasto
    | some body =>
      if ¬ v.isOpen then (if ty = 3 ∧ body = [] then s.ivFinish else s.closeIvpasto)
      else
        let s := s.setIv { v with inCounter := v.inCounter + 1, lastAt := s.tb0 }
        if ty = 0x10 then s.ivCommands body
        else if ty = 0x20 then s.containerBytes body
        else s.closeIvpasto

/-- XS_TCP_CONNECT: a connection to address `ip`; a second one is reset (R489). -/
def execXsTcpConnect (t ip : Nat) (s : State) : Host.Outcome State Fault Refusal :=
  let s := s.advance t
  .next (if s.power.mgmtUp ∧ ip = s.upd.ip ∧ ¬ s.disp.ivpasto.connected then s.setIv { s.disp.ivpasto with connected := true } else s)

/-- HELLO. -/
def execHello (t : Nat) (b : Bytes) (s : State) : Host.Outcome State Fault Refusal := .next ((s.advance t).ivRecord b)
/-- FINISH. -/
def execFinish (t : Nat) (b : Bytes) (s : State) : Host.Outcome State Fault Refusal := .next ((s.advance t).ivRecord b)
/-- IVPASTO_COMMAND_RECORD. -/
def execIvpastoCommandRecord (t : Nat) (b : Bytes) (s : State) : Host.Outcome State Fault Refusal := .next ((s.advance t).ivRecord b)
/-- IVPASTO_CONTAINER_RECORD. -/
def execIvpastoContainerRecord (t : Nat) (b : Bytes) (s : State) : Host.Outcome State Fault Refusal := .next ((s.advance t).ivRecord b)
/-- IVPASTO_CLOSE_RECORD. -/
def execIvpastoCloseRecord (t : Nat) (b : Bytes) (s : State) : Host.Outcome State Fault Refusal := .next ((s.advance t).ivRecord b)

/-- IVPASTO_IDLE_TIMEOUT (R491). -/
def execIvpastoIdleTimeout (t : Nat) (s : State) : Host.Outcome State Fault Refusal :=
  let s := s.advance t
  .next (if s.disp.ivpasto.isOpen ∧ s.disp.ivpasto.lastAt + s.param .svcIdle 0 * 1000000000 ≤ s.tb0 then s.closeIvpasto else s)

/-- XS_LINK_DROP (R491). -/
def execXsLinkDrop (t : Nat) (s : State) : Host.Outcome State Fault Refusal := .next (s.advance t).closeIvpasto

/-! ## Commands (R496, R497, R500, R502) -/

/-- The module as target of class 0x10. -/
def updTarget : State → Cmd → Bool := targetZero 0x10

/-- An activation is scheduled. -/
def State.updScheduled (s : State) : Bool := s.bootRec.state == 1

/-- `UPD.STAGE`: its completion follows the last container byte. -/
def specUpdStage : CmdSpec where
  op := 0x1000
  layout := fun _ => { ranges := [(16, 4)] }
  route := fun c => c.onXs
  target := updTarget
  check := fun s c => firstOf
    [whenS (s.upd.transfer.isSome || s.updScheduled) .sBusy,
     whenS (decide (67108864 < s.upd.chrysalis.foldl (fun n x => n + x.2.length) 0 + c.field 16 4)) .sNoSpace]
  run := fun e s =>
    let t : Transfer := { entry := e, length := e.cmd.field 16 4 }
    .later (if t.length = 0 then s.staged t else { s with upd := { s.upd with transfer := some t } })

/-- The header of a component in a boot slot: as installed, or as manufactured. -/
def State.headerIn (s : State) (k comp : Nat) : Bytes :=
  match s.installed k comp with
  | some b => b.take 128
  | none => Config.manufactured comp

/-- `UPD.LIST`. -/
def specUpdList : CmdSpec where
  op := 0x1001
  long := fun _ => true
  target := updTarget
  run := fun _ s =>
    let hdr := fun (b : Bytes) => ((slice b 0 28).map (fun x => (x.toNat : Int)))
    .long (Config.resultLayout 0x2002 ((List.range 8).flatMap (fun k =>
      hdr (s.headerIn 0 (k + 1)) ++ hdr (s.headerIn 1 (k + 1))
        ++ (match s.upd.chrysalis.find? (fun x => x.1 == k + 1) with | some x => hdr x.2 | none => []) ++ [(s.arbOf (k + 1) : Int)])
      ++ [(s.upd.active : Int)])) s

/-- `UPD.DISCARD`. -/
def specUpdDiscard : CmdSpec where
  op := 0x1002
  route := fun c => c.onXs
  target := fun _ c => c.tgtClass == 0x10 && decide (1 ≤ c.tgtIndex ∧ c.tgtIndex ≤ 8) && c.tgtSub == 0
  check := fun s c => firstOf
    [whenS s.updScheduled .sBusy, whenS (!s.upd.chrysalis.any (fun x => x.1 == c.tgtIndex)) .sNotFound]
  run := fun e s => .ok { s with upd := { s.upd with chrysalis := s.upd.chrysalis.filter (fun x => x.1 != e.cmd.tgtIndex) } }

/-- A staged component whose state-compatibility code is not the running one's. -/
def State.sccDiffers (s : State) : Bool :=
  s.upd.chrysalis.any (fun x => contScc x.2 != contScc (s.headerIn s.upd.active x.1))

/-- Staged components whose activation is a safety change (R497). -/
def State.updSafety (s : State) : List (Nat × Bytes) :=
  if s.safetyConfig then s.upd.chrysalis.filter (fun x => x.1 == 2 || x.1 == 4) else []

/-- Digests of the staged containers as delivered, for the partner's comparison (R500; notes/assumptions/68.md). -/
def State.stagedDigest (s : State) : List Nat :=
  s.upd.chrysalis.flatMap (fun x => [x.1, leNat (Config.sha256 (x.2.take 48 ++ List.replicate 64 0 ++ x.2.drop 112))])

/-- `ALLOW_SCC` and immediate activation. -/
def allowScc (c : Cmd) : Bool := c.expert && bitOf (c.field 17 1) 0
def updNow (c : Cmd) : Bool := c.expert && bitOf (c.field 17 1) 1

/-- A base meets the condition of R497. -/
def State.updBaseOk (s : State) (b : Nat) : Bool := if b = 1 then s.baseSynced 1 else s.tb3FromTb1

/-- `UPD.ACTIVATE`. -/
def specUpdActivate : CmdSpec where
  op := 0x1003
  layout := fun c => { ranges := [(16, 1), (24, 8)], masks := if c.expert then [(17, 3)] else [] }
  target := updTarget
  needsSession := fun s _ => !s.updSafety.isEmpty
  params := fun _ c => updNow c || c.field 16 1 == 1 || c.field 16 1 == 3
  check := fun s c => firstOf
    [whenS s.standbyRole .sNotActive,
     whenS s.upd.chrysalis.isEmpty .sNotFound,
     whenS (updNow c && s.paired) .sState,
     whenS (!updNow c && !s.updBaseOk (c.field 16 1)) .sTimeUnsynced,
     whenS (!updNow c && decide (signed 64 (c.field 24 8) < s.baseNow (c.field 16 1) + 1000000000)) .sTooLate,
     whenS (s.sccDiffers && !allowScc c) .sIncompatible,
     whenS (s.paired && !(match s.pair.peer with | some p => s.pair.link && p.st == 4 && p.staged == s.stagedDigest | none => false)) .sState,
     whenS (!s.updSafety.isEmpty && (s.logFull || decide (1024 < s.safeLog.entries.length + s.updSafety.length))) .sLogFull]
  run := fun e s =>
    let c := e.cmd
    let s := s.updSafety.foldl (fun s x =>
      s.logChange c.route 0x10 0 x.1 (s.headerIn s.upd.active x.1) (x.2.take 128)) s
    let mask := s.upd.chrysalis.foldl (fun m x => m + 2 ^ x.1) 0
    let s := s.setBoot
      { state := 1, slot := 1 - s.upd.active, mask := mask, base := c.field 16 1, instant := signed 64 (c.field 24 8), immediate := updNow c }
    let s := s.post .management .eUpdScheduled updRes mask
    .ok (if s.pair.st = .active then s.send (.hedgerow 1 [0x1003, c.field 16 1, c.field 24 8]) else s)

/-- The scheduled activation is given up: 0 command, 1 base unsynchronised, 2 instant missed; the containers remain. -/
def State.updCancel (reason : Nat) (s : State) : State := (s.setBoot {}).post .management .eUpdCancelled updRes reason

/-- `UPD.CANCEL`. -/
def specUpdCancel : CmdSpec where
  op := 0x1004
  target := updTarget
  check := fun s _ => firstOf
    [whenS (!s.updScheduled) .sNotFound,
     whenS (!s.standbyRole && s.pair.st != .active && (s.bootRec.immediate || decide (s.bootRec.instant ≤ s.baseNow s.bootRec.base))) .sTooLate]
  run := fun _ s =>
    let s := s.updCancel 0
    .ok (if s.pair.st = .active then s.send (.hedgerow 1 [0x1004]) else s)

/-- The values of a boot record. -/
def BootRecord.values (b : BootRecord) : List Int := [b.state, b.slot, b.mask, b.trials, b.base, b.instant]

/-- `UPD.STATUS`. -/
def specUpdStatus : CmdSpec where
  op := 0x1005
  long := fun _ => true
  target := updTarget
  run := fun e s =>
    let b := s.bootRec
    let o := s.upd.outcome
    let copy := fun (c : Option (Copy BootRecord)) => match c with | some c => (c.seqHdr : Int) :: c.payload.values | none => []
    .long (Config.resultLayout (0x200A + b2n e.cmd.expert)
      ([(b.state : Int), b.instant, (b.base : Int), (o.1 : Int), (o.2.1 : Int), (o.2.2.1 : Int), (o.2.2.2 : Int)]
        ++ (if e.cmd.expert then copy s.upd.boot.a ++ copy s.upd.boot.b else []))) s

/-- A unicast IPv4 address. -/
def unicastIp (a : Nat) : Bool := decide (0x01000000 ≤ a ∧ a < 0xE0000000)

/-- `UPD.SET_SERVICE` (R489): the fleet ID lies in the Credentials section. -/
def specUpdSetService : CmdSpec where
  op := 0x1006
  layout := fun c => { ranges := [(16, 5), (24, if c.expert then 8 else 4)] }
  route := fun c => c.onXs
  target := updTarget
  params := fun _ c => unicastIp (c.field 16 4) && decide (8 ≤ c.field 20 1 ∧ c.field 20 1 ≤ 30) && decide (60 ≤ c.field 24 4 ∧ c.field 24 4 ≤ 3600)
  run := fun e s =>
    let c := e.cmd
    let s := s.setCommit 0 [(.svcIp, c.field 16 4), (.svcMask, c.field 20 1), (.svcIdle, c.field 24 4)]
    .ok (if c.expert then ({ s with cred := { s.cred with fleet := c.field 28 4 } } : State).commitCred else s)

/-- The commands of class 0x10 by opcode. -/
def specUpd : List CmdSpec :=
  [specUpdStage, specUpdList, specUpdDiscard, specUpdActivate, specUpdCancel, specUpdStatus, specUpdSetService]

/-- UPD_STAGE. -/
def execUpdStage (t : Nat) (c : Cmd) (s : State) : Host.Outcome State Fault Refusal := .next (specUpdStage.submit c (s.advance t))
/-- UPD_LIST. -/
def execUpdList (t : Nat) (c : Cmd) (s : State) : Host.Outcome State Fault Refusal := .next (specUpdList.submit c (s.advance t))
/-- UPD_DISCARD. -/
def execUpdDiscard (t : Nat) (c : Cmd) (s : State) : Host.Outcome State Fault Refusal := .next (specUpdDiscard.submit c (s.advance t))
/-- UPD_ACTIVATE. -/
def execUpdActivate (t : Nat) (c : Cmd) (s : State) : Host.Outcome State Fault Refusal := .next (specUpdActivate.submit c (s.advance t))
/-- UPD_CANCEL. -/
def execUpdCancel (t : Nat) (c : Cmd) (s : State) : Host.Outcome State Fault Refusal := .next (specUpdCancel.submit c (s.advance t))
/-- UPD_STATUS. -/
def execUpdStatus (t : Nat) (c : Cmd) (s : State) : Host.Outcome State Fault Refusal := .next (specUpdStatus.submit c (s.advance t))
/-- UPD_SET_SERVICE. -/
def execUpdSetService (t : Nat) (c : Cmd) (s : State) : Host.Outcome State Fault Refusal := .next (specUpdSetService.submit c (s.advance t))

end Sys2Proof.Machine
end

