-- ==== Sys2Proof/Machine/Host.lean ====
section
/-! DEFINITION. The PCIe endpoint: set-up registers, doorbells, ring protocol and bulk streams (04 R87 to R104, R118; 17 R463). -/

namespace Sys2Proof.Machine

/-! ## The endpoint (R87) -/

/-- What configuration space says of the endpoint: vendor and device ID, class code, the sizes of its two BARs, MSI-X vectors with
the places of their table and pending-bit array in BAR2, the largest payload and read request. -/
structure PciConfig where
  vendor : Nat := 0x1F3C
  device : Nat := 0x0640
  classCode : Nat := 0x088000
  bar0 : Nat := 65536
  bar2 : Nat := 8192
  vectors : Nat := 32
  tableAt : Nat := 0x0000
  pendingAt : Nat := 0x1000
  maxPayload : Nat := 256
  maxRead : Nat := 512
  deriving DecidableEq, Repr

/-- What a read of BAR2 at an aligned offset returns: of a vector's MSI-X entry the word with its mask bit, or a word of the
pending-bit array; message addresses and data are the host's own. -/
def State.bar2 (s : State) (o : Nat) : Nat :=
  let c : PciConfig := {}
  if o % 16 = 12 ∧ o < 16 * c.vectors then b2n (Tab.get (fun _ => false) s.host.msixMasked (o / 16))
  else if o = c.pendingAt then
    (List.range 32).foldl (fun n k => n + 2 ^ k * b2n (Tab.get (fun _ => false) s.host.msixPending k)) 0
  else 0

/-! ## Register reads (R91 to R96; 17 R463) -/

/-- The identity and status registers (R91) by offset; they are valid while READY is 0. -/
def State.idReg (s : State) (o : Nat) : Nat :=
  match o with
  | 0x0000 => 0x4E505336
  | 0x0004 => 0x0100
  | 0x0008 => Config.serialNumber % 2 ^ 32
  | 0x000C => Config.serialNumber / 2 ^ 32 % 256
  | 0x0010 => Config.hwIssue % 65536
  | 0x0014 => contVersion ((match s.installed s.upd.active 3 with | some b => b | none => Config.manufactured 3)) % 65536
  | 0x0018 => 12 + 4 * 16 + 8 * 256 + 32 * 65536 + 128 * 2 ^ 24
  | 0x001C => s.net.station % 65536 + 2 ^ 16 * b2n s.paired + 2 ^ 17 * b2n (s.pair.st == .active)
  | 0x0020 => b2n s.host.ready + 2 * b2n s.power.cocoonValid + 4 * b2n (s.baseValid 3) + 8 * b2n s.power.restoreDone
      + 256 * (s.power.lastCause % 256)
  | 0x0024 => s.power.epoch % 2 ^ 32
  | _ => 0

/-- The ring that a base or size register belongs to, and which of its registers it is: 0 LO, 4 HI, 8 size (R92). -/
def ringReg (o : Nat) : Option (Nat × Nat) :=
  let f := o % 16
  if f = 0 ∨ f = 4 ∨ f = 8 then
    if 0x0100 ≤ o ∧ o < 0x0130 then some ((o - 0x0100) / 16, f)
    else if 0x0140 ≤ o ∧ o < 0x01C0 then some (8 + (o - 0x0140) / 16, f)
    else none
  else none

/-- The vector register at an offset (R94). -/
def vecReg (o : Nat) : Option Nat :=
  if o % 4 ≠ 0 then none
  else if 0x0200 ≤ o ∧ o ≤ 0x0208 then some ((o - 0x0200) / 4)
  else if 0x0210 ≤ o ∧ o < 0x0230 then some (3 + (o - 0x0210) / 4)
  else none

/-- The ring that a doorbell serves (R96). -/
def doorbellReg (o : Nat) : Option Nat :=
  match o with
  | 0x1000 => some 0
  | 0x1004 => some 1
  | 0x1008 => some 2
  | _ => if o % 4 = 0 ∧ 0x1020 ≤ o ∧ o < 0x1040 then some (8 + (o - 0x1020) / 4) else none

/-- The rings with their bit in `RING_CTRL` and `RING_STATUS` (R92). -/
def ringBits : List (Nat × Nat) := [(0, 0), (1, 1), (2, 2)] ++ (List.range 8).map (fun k => (8 + k, 8 + k))

/-- A word with one bit per ring. -/
def State.ringWord (s : State) (f : Ring → Bool) : Nat := ringBits.foldl (fun n b => n + 2 ^ b.2 * b2n (f (s.ring b.1))) 0

/-- The ring, vector and doorbell registers. -/
def State.ringRegs (s : State) (o : Nat) : Nat :=
  match ringReg o with
  | some (k, 0) => (s.ring k).base % 2 ^ 32
  | some (k, 4) => (s.ring k).base / 2 ^ 32
  | some (k, _) => (s.ring k).log2 + 256 * b2n (s.ring k).dir
  | none =>
    match vecReg o with
    | some k => Tab.get vectorUnlisted s.host.vectors k
    | none =>
      match doorbellReg o with
      | some k => (s.ring k).db
      | none =>
        match o with
        | 0x011C => s.host.coalesceCount + 256 * s.host.coalesceDelayUs
        | 0x012C => s.host.eqMinSev
        | 0x01C0 => s.ringWord (·.en)
        | 0x01C4 => s.ringWord (·.run) + 65536 * s.ringWord (·.fault)
        | 0x01C8 => s.host.faultCause + 256 * s.host.faultRing
        | 0x01CC => s.host.lostCompletions
        | 0x01D0 => s.host.eventLost
        | _ => 0

/-- The backup-domain window; the calendar reads its shadows while frozen (17 R463, R466). -/
def State.windowReg (s : State) (o : Nat) : Nat :=
  let c := match s.rtc.frozen with | some (_, r) => r | none => s.calNow
  match o with
  | 0x0800 => s.rtc.ctrl
  | 0x0804 => s.rtc.flags
  | 0x0810 => c.sub
  | 0x0814 => c.time
  | 0x0818 => c.date
  | 0x0820 => wrapInt 16 s.rtc.offset
  | 0x0824 => wrapInt 16 s.rtc.temp + 65536 * wrapInt 16 s.rtc.corr
  | 0x0828 => s.rtc.vbkStatus
  | 0x08F0 => s.power.lastCause
  | 0x08F4 => s.power.lastCauseEpoch
  | _ =>
    if 0x0840 ≤ o ∧ o < 0x08C0 then
      let b := s.beOf ((o - 0x0840) / 32)
      match (o - 0x0840) % 32 with
      | 0 => b.edge + 256 * b.filter + 65536 * b2n b.level
      | 4 => b.count + 65536 * b2n b.invalid
      | 8 => b.first % 2 ^ 32
      | 12 => (match b.latchFirst with | some h => h | none => b.first / 2 ^ 32) % 4096
      | 16 => b.last % 2 ^ 32
      | 20 => (match b.latchLast with | some h => h | none => b.last / 2 ^ 32) % 4096
      | _ => 0
    else 0

/-- What a read of the register at offset `o` of BAR0 returns (R88 to R96). -/
def State.readReg (s : State) (o : Nat) : Nat :=
  if o ≤ 0x0024 then s.idReg o
  else if 0x0800 ≤ o ∧ o < 0x0900 then s.windowReg o
  else if s.host.ready then s.ringRegs o
  else 0

/-! ## Ring set-up (R92, R93, R99) -/

/-- The largest size of a ring, log2. -/
def ringMaxLog2 (k : Nat) : Nat := if k < 8 then 12 else 10

/-- The first bulk ring has number 8. -/
def bulkRing (k : Nat) : Nat := 8 + k

/-- The streams open on a bulk ring. -/
def State.streamsOn (s : State) (k : Nat) : List Stream := s.disp.streams.filter (fun x => x.ring == k)

/-- Replaces a stream. -/
def State.setStream (x : Stream) (s : State) : State :=
  { s with disp := { s.disp with streams := s.disp.streams.map (fun y => if y.ring = x.ring ∧ y.stream = x.stream then x else y) } }

/-- The streams of a command close; pass-through and burst streams end with them. -/
def State.closeStreams (id : Nat) (s : State) : State :=
  { s with
    disp := { s.disp with streams := s.disp.streams.filter (fun x => x.entry.id != id) },
    hart := { s.hart with
      passes := s.hart.passes.filter (fun p => p.entry.id != id),
      bursts := s.hart.bursts.filter (fun b => b.1.id != id) } }

/-- The command of a stream ends with S_ABORTED and the number of bulk entries consumed (R108, R118). -/
def State.abortStream (x : Stream) (s : State) : State :=
  let n := s.disp.streams.foldl (fun n y => if y.entry.id = x.entry.id then n + y.entries else n) 0
  (s.closeStreams x.entry.id).complete x.entry .sAborted n []

/-- Every stream on a bulk ring ends as the ring is disabled. -/
def State.abortRing (k : Nat) (s : State) : State :=
  (s.streamsOn k).foldl (fun s x => if s.disp.streams.any (fun y => y.entry.id == x.entry.id) then s.abortStream x else s) s

/-- A write of a ring's enable bit (R93): a rise takes base and size and starts the ring unless its fault stands; a fall stops
it. The completion ring forgets what it has not signalled; a bulk ring's streams end. -/
def State.ringEnable (k : Nat) (on : Bool) (s : State) : State :=
  let r := s.ring k
  if ¬ s.host.ready ∨ r.en = on then s
  else if on then
    let s := s.setRing k { r with en := true, run := !r.fault, head := 0, tail := 0, phase := true }
    let s := if k = 1 then { s with host := { s.host with unsignalled := 0 } } else s
    if r.log2 < 4 ∨ ringMaxLog2 k < r.log2 then s.ringFault k 0x01 else s
  else
    let s := s.setRing k { r with en := false, run := false }
    if 8 ≤ k then s.abortRing (k - 8) else s

/-- A doorbell write (R96, R99, R100). -/
def State.doorbell (k v : Nat) (s : State) : State :=
  let r := s.ring k
  let v := v % (if k < 8 then 4096 else 1024)
  if ¬ s.host.ready ∨ ¬ r.en then s
  else if r.size ≤ v then (s.setRing k { r with db := v }).ringFault k 0x02
  else
    let r := { r with db := v }
    s.setRing k (if ¬ r.run then r else if k = 1 ∨ k = 2 then { r with head := v } else { r with tail := v })

/-- Fault bits are cleared; with the last one the cause reads 0 again (R99). -/
def State.faultClear (v : Nat) (s : State) : State :=
  if ¬ s.host.ready then s
  else
    let s := ringBits.foldl (fun (s : State) b => if bitOf v (16 + b.2) then s.setRing b.1 { s.ring b.1 with fault := false } else s) s
    if ringBits.any (fun b => (s.ring b.1).fault) then s
    else { s with host := { s.host with faultCause := 0, faultRing := 0 } }

/-- A write of a ring's base or size register (R92, R93). -/
def State.ringSetup (k f v : Nat) (s : State) : State :=
  let r := s.ring k
  if r.en then s.ringFault k 0x05
  else if f = 0 then s.setRing k { r with base := r.base / 2 ^ 32 * 2 ^ 32 + v / 4096 * 4096 }
  else if f = 4 then s.setRing k { r with base := r.base % 2 ^ 32 + v * 2 ^ 32 }
  else s.setRing k { r with log2 := v % 16, dir := decide (8 ≤ k) && bitOf v 8 }

/-- The completion vector fires where `COUNT` completions wait unsignalled (R103). -/
def State.coalesceCheck (s : State) : State :=
  if s.host.unsignalled ≠ 0 ∧ max 1 s.host.coalesceCount ≤ s.host.unsignalled then
    ({ s with host := { s.host with unsignalled := 0 } } : State).raiseVector 0
  else s

/-- A write of a register of the rings, vectors, coalescing or filter (R92, R94). -/
def State.hostReg (o v : Nat) (s : State) : State :=
  if ¬ s.host.ready then s else
  match ringReg o with
  | some (k, f) => s.ringSetup k f v
  | none =>
    match vecReg o with
    | some k => { s with host := { s.host with vectors := Tab.put vectorUnlisted s.host.vectors k (v % 32 + 2 ^ 31 * b2n (bitOf v 31)) } }
    | none =>
      match o with
      | 0x011C => ({ s with host := { s.host with coalesceCount := v % 256, coalesceDelayUs := bitsOf v 23 8 } } : State).coalesceCheck
      | 0x012C => { s with host := { s.host with eqMinSev := v % 8 } }
      | 0x01C0 => ringBits.foldl (fun (s : State) b => s.ringEnable b.1 (bitOf v b.2)) s
      | 0x01C4 => s.faultClear v
      | _ =>
        match doorbellReg o with
        | some k => s.doorbell k v
        | none => s

/-- A write of a register of the backup-domain window (17 R463 to R465); a value outside a field's range changes nothing. -/
def State.windowWrite (o v : Nat) (s : State) : State :=
  let cal := fun (f : CalRegs → CalRegs) =>
    match s.rtc.halt with
    | some (a, r) => ({ s with rtc := { s.rtc with halt := some (a, f r) } } : State)
    | none => s
  match o with
  | 0x0800 =>
    let s := if bitOf v 3 = s.rtc.trimEn then s else s.rtcTrim s.rtc.offset (bitOf v 3)
    if bitOf v 0 then
      if s.rtc.halt.isSome then s else { s with rtc := { s.rtc with halt := some ((s.tb0 : Int), calRegs s.rtcTicks) } }
    else s.rtcRelease
  | 0x0804 =>
    { s with rtc := { s.rtc with badDate := s.rtc.badDate && !bitOf v 1, haltTimeout := s.rtc.haltTimeout && !bitOf v 2 } }
  | 0x0810 => cal (fun r => { r with sub := v % 1024 })
  | 0x0814 => cal (fun r => { r with time := v % 64 + 256 * bitsOf v 13 8 + 65536 * bitsOf v 20 16 + 2 ^ 24 * bitsOf r.time 26 24 })
  | 0x0818 => cal (fun r => { r with date := v % 65536 + 65536 * bitsOf v 19 16 + 2 ^ 24 * bitsOf v 28 24 })
  | 0x0820 => if (signed 16 v).natAbs ≤ 20000 then s.rtcTrim (signed 16 v) s.rtc.trimEn else s
  | _ =>
    if 0x0840 ≤ o ∧ o < 0x08C0 ∧ (o - 0x0840) % 32 = 0 then
      let n := (o - 0x0840) / 32
      let b := if bitOf v 31 then (s.beOf n).cleared else s.beOf n
      let e := bitsOf v 1 0
      let f := bitsOf v 12 8
      s.setBe n { b with edge := if e = 0 then b.edge else e, filter := if f = 0 then b.filter else f }
    else s

/-! ## Submission ring (R99, R101) -/

/-- The module fetches the submission entry at its head: `rd` is the entry, or none where the link refuses the read. -/
def State.sqFetch (rd : Option Bytes) (block : Option Bytes) (wf : Bool) (s : State) : State :=
  let r := s.ring 0
  if ¬ (s.host.ready && !s.host.d3hot && s.power.mgmtUp && r.run && r.head != r.tail && s.fetchRoom) then s
  else match rd with
    | none => s.ringFault 0 0x03
    | some b =>
      let x := parseEntry .host r.head b block
      (s.setRing 0 { r with head := (r.head + 1) % r.size }).takeEntry (x.1, { x.2 with writeFails := wf })

/-- The completion vector's delay has passed (R103). -/
def State.coalesceTimeout (s : State) : State :=
  if s.host.unsignalled ≠ 0 ∧ s.host.unsignalledAt + s.host.coalesceDelayUs * 1000 ≤ s.tb0 then
    ({ s with host := { s.host with unsignalled := 0 } } : State).raiseVector 0
  else s

/-! ## Bulk rings (R97, R104) -/

/-- A bulk entry is marked done, and its ring moves on; `fin`: its `END` bit. -/
def State.bulkMark (k used stream : Nat) (fin err wf : Bool) (s : State) : State :=
  let r := s.ring (bulkRing k)
  if wf then s.ringFault (bulkRing k) 0x04
  else
    let s := s.hostWrite (r.base + 16 * r.head + 8)
      (leBytes 4 used ++ leBytes 2 stream ++ leBytes 1 (b2n r.phase + 2 * b2n fin + 4 * b2n err) ++ leBytes 1 0)
    let next := (r.head + 1) % r.size
    (s.setRing (bulkRing k) { r with head := next, phase := if next = 0 then !r.phase else r.phase }).raiseVector (3 + k)

/-- The bytes of a stream to the module reach its command; `fin`: the last entry. -/
def State.streamIn (x : Stream) (b : Bytes) (fin : Bool) (s : State) : State :=
  let y : Stream := { x with entries := x.entries + 1, bytes := x.bytes + b.length }
  match x.entry.op with
  | 0x0210 =>
    let s := if fin then s.closeStreams x.entry.id else s.setStream y
    s.progStream x.entry x.bytes b fin
  | 0x0407 =>
    let s := (s.setStream y).hartRequest x.entry.id b
    if fin then
      let s := s.setPass x.entry.id (fun p => { p with ended := true })
      { s with
        disp := { s.disp with streams := s.disp.streams.filter (fun z => !(z.ring == x.ring && z.stream == x.stream)) } }
    else s
  | 0x1102 => if fin then (s.closeStreams x.entry.id).panelStream x.entry (x.data ++ b) else s.setStream { y with data := x.data ++ b }
  | 0x1104 => if fin then (s.closeStreams x.entry.id).wavesStream x.entry (x.data ++ b) else s.setStream { y with data := x.data ++ b }
  | _ => s.setStream { y with data := x.data ++ b }

/-- What a stream to the host sends next into a buffer of `len` bytes: the bytes, whether they end the stream, and the state
without them; none while it has nothing to send. -/
def State.streamOut (x : Stream) (len : Nat) (s : State) : Option (Bytes × Bool × State) :=
  let y : Stream := { x with entries := x.entries + 1 }
  match x.entry.op with
  | 0x0F01 =>
    let l := s.dumpLeft x
    let now := l.take (len / 64)
    let next := match now.getLast? with | some h => h.recSeq + 1 | none => x.consumed
    some (now.flatMap HistRec.bytes, (l.drop (len / 64)).isEmpty, s.setStream { y with consumed := next })
  | 0x0407 =>
    match s.hart.passes.find? (fun p => p.entry.id == x.entry.id) with
    | none => none
    | some p =>
      match p.replies with
      | r :: rest =>
        let n := p.outstanding - 1
        some (r.take len, p.ended && n == 0 && rest.isEmpty,
          (s.setPass p.entry.id (fun p => { p with replies := rest, outstanding := n })).setStream y)
      | [] => if p.ended ∧ p.outstanding = 0 then some ([], true, s) else none
  | 0x0408 =>
    match s.hart.bursts.find? (fun b => b.1.id == x.entry.id) with
    | some (_, _, r :: rest) =>
      some (r.take len, x.closing && rest.isEmpty,
        ({ s with hart := { s.hart with bursts := s.hart.bursts.map (fun b => if b.1.id = x.entry.id then (b.1, b.2.1, rest) else b) } } : State).setStream y)
    | _ => if x.closing then some ([], true, s) else none
  | _ => some (x.data.take len, (x.data.drop len).isEmpty, s.setStream { y with data := x.data.drop len })

/-- The streams that an entry of a module-to-host ring may carry: the one it names, or any with 0xFFFF. -/
def State.outStreams (s : State) (k stream : Nat) : List Stream :=
  (s.streamsOn k).filter (fun x => x.toHost && (x.stream == stream || stream == 0xFFFF))

/-- The first of some streams that has something to send. -/
def State.outNext (s : State) (len : Nat) : List Stream → Option (Stream × Bytes × Bool × State)
  | [] => none
  | x :: r =>
    match s.streamOut x len with
    | some (b, fin, s') => some (x, b, fin, s')
    | none => s.outNext len r

/-! ## READY, PERST# (R89, R118; 02 R49; 03 R80) -/

/-- READY is set (R89): the counts of the host route start, and the fault vector tells of the change (R94). -/
def State.setReady (s : State) : State :=
  if s.power.mgmtUp && s.host.endpointUp && !s.host.ready then
    ({ s with host := { s.host with ready := true, dispatched := 0, refused := 0 } } : State).raiseVector 2
  else s

/-- The host registers at their factory values; host memory and the count of interrupts are the host's, and the MSI-X table and the
power state are PCI Express structures of the endpoint, no set-up registers (R87, R90). -/
def HostIf.factory (h : HostIf) : HostIf :=
  { mem := h.mem, irqs := h.irqs, endpointUp := h.endpointUp, msixMasked := h.msixMasked, msixPending := h.msixPending, d3hot := h.d3hot }

/-- READY goes to 0: the fault vector tells of the change (R94). -/
def State.clearReady (s : State) : State := if s.host.ready then s.raiseVector 2 else s

/-- PERST# is asserted: the endpoint and the host rings are reset; undispatched commands of the host are withdrawn, dispatched
ones lose their completions, and streams end (R118; 03 R80). -/
def State.perst (s : State) : State :=
  let s := s.clearReady
  let s : State := { s with host := { s.host.factory with endpointUp := false, msixMasked := [], msixPending := [], d3hot := false } }
  let s := (s.disp.flights.filter (fun f => f.entry.cmd.route == .host && !f.dispatched)).foldl (fun (s : State) f => s.withdraw f) s
  let s : State := { s with disp := { s.disp with
    flights := s.disp.flights.map (fun f => if f.entry.cmd.route = .host then { f with orphan := true } else f) } }
  (List.range 8).foldl (fun (s : State) k => s.abortRing k) s

/-- PERST. -/
def execPerst (t : Nat) (s : State) : Host.Outcome State Fault Refusal := .next (s.advance t).perst

/-- PERST_RELEASE: the endpoint answers again, and READY follows where the management plane is up. -/
def execPerstRelease (t : Nat) (s : State) : Host.Outcome State Fault Refusal :=
  let s := s.advance t
  .next (if s.host.endpointUp then s else ({ s with host := { s.host with endpointUp := true } } : State).setReady)

/-! ## Rows of the registers and rings -/

/-- DB_SQ_TAIL. -/
def execDbSqTail (t v : Nat) (s : State) : Host.Outcome State Fault Refusal := .next ((s.advance t).doorbell 0 v)
/-- DB_CQ_HEAD. -/
def execDbCqHead (t v : Nat) (s : State) : Host.Outcome State Fault Refusal := .next ((s.advance t).doorbell 1 v)
/-- DB_EQ_HEAD. -/
def execDbEqHead (t v : Nat) (s : State) : Host.Outcome State Fault Refusal := .next ((s.advance t).doorbell 2 v)
/-- DB_BULK_TAIL. -/
def execDbBulkTail (t k v : Nat) (s : State) : Host.Outcome State Fault Refusal :=
  onResource k 8 s (fun s => (s.advance t).doorbell (bulkRing k) v)

/-- SQ_EN. -/
def execSqEn (t : Nat) (on : Bool) (s : State) : Host.Outcome State Fault Refusal := .next ((s.advance t).ringEnable 0 on)
/-- CQ_EN. -/
def execCqEn (t : Nat) (on : Bool) (s : State) : Host.Outcome State Fault Refusal := .next ((s.advance t).ringEnable 1 on)
/-- EQ_EN. -/
def execEqEn (t : Nat) (on : Bool) (s : State) : Host.Outcome State Fault Refusal := .next ((s.advance t).ringEnable 2 on)
/-- BULK_EN. -/
def execBulkEn (t k : Nat) (on : Bool) (s : State) : Host.Outcome State Fault Refusal :=
  onResource k 8 s (fun s => (s.advance t).ringEnable (bulkRing k) on)

/-- RING_FAULT_CLEAR: the value written to `RING_STATUS`. -/
def execRingFaultClear (t v : Nat) (s : State) : Host.Outcome State Fault Refusal := .next ((s.advance t).faultClear v)

/-- SQ_FETCH: `rd` is the submission entry, none where the link refuses the read; `block` its indirect block. -/
def execSqFetch (t : Nat) (rd : Option Bytes) (block : Option Bytes) (wf : Bool) (s : State) : Host.Outcome State Fault Refusal :=
  .next ((s.advance t).sqFetch rd block wf)

/-- CQ_COALESCE_TIMEOUT. -/
def execCqCoalesceTimeout (t : Nat) (s : State) : Host.Outcome State Fault Refusal := .next (s.advance t).coalesceTimeout

end Sys2Proof.Machine
end

