-- ==== Sys2Proof/Machine/Power.lean ====
section
/-! DEFINITION. Resets, hold-up, supplies, rails, button and cocoon commits (03 R60 to R69, R73, R77 to R81; 16 R453). -/

namespace Sys2Proof.Machine

/-! ## Commits of the cocoon (03 R70, R71, R73) -/

/-- A reset in the middle of commits. -/
def Cocoon.cut (c : Cocoon) : Cocoon :=
  { header := c.header.cut, config := c.config.cut, retirement := c.retirement.cut, credentials := c.credentials.cut,
    safetyLog := c.safetyLog.cut, retain := c.retain.cut, recorder := c.recorder.cut, panel := c.panel.cut, safety := c.safety.cut,
    axisState := c.axisState.cut }

/-- The RETAIN values by VAR_ID, each plus 1, as the report ports read them: those of each task's last commit; of a variable whose task
has committed nothing, what the store holds (01 R22). -/
def State.retainNow (s : State) : Tab Nat :=
  let all := (s.retainTake (fun _ => true)).prog.retained
  s.cfg.prog.retain.foldl (fun t id =>
    match Tab.get (fun _ => 0) s.prog.retained id with
    | 0 => t
    | n => Tab.put (fun _ => 0) t id n) (all.filter (fun x => s.cfg.prog.retain.contains x.1))

/-- The RETAIN values of a copy enter the instance store. -/
def State.retainLoad (p : Tab Nat) (s : State) : State :=
  s.cfg.prog.retain.foldl (fun (s : State) id =>
    match s.varOf id, Tab.get (fun _ => 0) p id with
    | some v, n + 1 => { s with prog := { s.prog with store := putForce s.prog.store (v.where?, n) } }
    | _, _ => s) s

/-- The sections of the power-fail commit begin; a commit already running completes first (R73). -/
def State.failBegin (s : State) : State :=
  let c := s.cocoon
  { s with cocoon := { c with
      config := (c.config.ended s.settings).finish,
      retain := c.retain.finish.begin s.retainNow, axisState := c.axisState.finish.begin s.axStore,
      safety := c.safety.finish.begin s.safetyStore, panel := c.panel.finish.begin s.panelMarkNow,
      recorder := c.recorder.finish.begin { s.recorder.store with orderly := some s.power.epoch } } }

/-- Their commit marks. -/
def State.failEnd (s : State) : State :=
  let c := s.cocoon
  { s with cocoon := { c with
      retain := c.retain.finish, axisState := c.axisState.finish, safety := c.safety.finish, panel := c.panel.finish,
      recorder := c.recorder.finish } }

/-- A `MOD.COMMIT` completes once neither of its sections is being committed. -/
def State.commitAnswer (st : Status) (s : State) : State :=
  match s.power.commitCmd with
  | some e =>
    if s.cocoon.retain.busy.isNone && s.cocoon.axisState.busy.isNone then
      ({ s with power := { s.power with commitCmd := none } } : State).complete e st 0 []
    else s
  | none => s

/-- A commit of section `k` (its row of R71) ends: its mark is written and a waiting commit begins; or CU2 found the copy
different, which a second time is a fault of the buffer's bank (16 R453). -/
def State.commitEnd (k : Nat) (mism : Bool) (s : State) : State :=
  let c := s.cocoon
  let two := fun (busy : Option Bool) (second : Bool) (t : State) =>
    match busy with
    | some b =>
      if mism && second then
        let bank := Config.bufferBank k b
        (t.fault .management .fMemEcc (memRes bank) (fltQ (memKey bank)) (memKey bank)).commitAnswer .sState
      else if mism then t else t.commitAnswer .sOk
    | none => t
  match k with
  | 0 => s
  | 1 => two c.config.busy c.config.second
      { s with cocoon := { c with config := if mism then c.config.mismatch s.settings else c.config.ended s.settings } }
  | 5 => two c.retain.busy c.retain.second
      { s with cocoon := { c with retain := if mism then c.retain.mismatch s.retainNow else c.retain.ended s.retainNow } }
  | 6 => two c.axisState.busy c.axisState.second
      { s with cocoon := { c with axisState := if mism then c.axisState.mismatch s.axStore else c.axisState.ended s.axStore } }
  | 7 =>
    let x := { s.recorder.store with orderly := none }
    two c.recorder.busy c.recorder.second
      { s with cocoon := { c with recorder := if mism then c.recorder.mismatch x else c.recorder.ended x } }
  | 8 => two c.panel.busy c.panel.second
      { s with cocoon := { c with panel := if mism then c.panel.mismatch s.panelMarkNow else c.panel.ended s.panelMarkNow } }
  | 9 => two c.safety.busy c.safety.second
      { s with cocoon := { c with safety := if mism then c.safety.mismatch s.safetyStore else c.safety.ended s.safetyStore } }
  | _ => s

/-- COCOON_COMMIT_END: the section by its row of R71 from 0; `mism`: CU2 finds the copy different. -/
def execCocoonCommitEnd (t k : Nat) (mism : Bool) (s : State) : Host.Outcome State Fault Refusal :=
  onResource k 10 s (fun s => (s.advance t).commitEnd k mism)

/-- A RETAIN commit at a multiple of `RETAIN_COMMIT_PERIOD` (R71). -/
def State.retainPeriodic (s : State) : State :=
  let p := s.param .retainCommitPeriod 0 * 1000000000
  if s.power.phase = .running ∧ s.power.retainCommitAt < s.tb0 / p * p then
    { s with power := { s.power with retainCommitAt := s.tb0 }, cocoon := { s.cocoon with retain := s.cocoon.retain.request s.retainNow } }
  else s

/-- RETAIN_PERIODIC_COMMIT. -/
def execRetainPeriodicCommit (t : Nat) (s : State) : Host.Outcome State Fault Refusal := .next (s.advance t).retainPeriodic

/-! ## Module resets (R77, R78, R80) -/

/-- A count that runs on after a reset, from TB0 to a TB0 that restarts at 0. -/
def State.remaining (s : State) (till : Nat) : Nat :=
  if s.power.phase = .running ∨ s.power.phase = .holdUp then till - s.tb0 else till

/-- The module held in reset: what R80 keeps, with a cause written to the reset record; a commit in progress is lost. -/
def State.heldReset (cause : Nat) (s : State) : State :=
  let s := s.clearReady.txRun
  let ran := s.power.phase == .running || s.power.phase == .holdUp
  let p := s.power
  let h : State := {
    tb0 := s.tb0, free := s.free, cocoon := s.cocoon.cut, rtc := s.rtc, sent := s.sent, pending := s.pending, dcGroups := s.dcGroups,
    host := s.host.factory,
    power := {
      supplies := p.supplies, failFlags := p.failFlags, warnFlags := p.warnFlags, railsOk := p.railsOk,
      buttonStuck := p.buttonStuck, buttonFree := s.remaining p.buttonFree, epoch := p.epoch, lastCause := cause, lastCauseEpoch := p.epoch,
      pllFailed := p.pllFailed, loaded := p.loaded }
    prog := { slots := s.prog.slots, lostForces := if ran then s.forcesNow.length else s.prog.lostForces }
    session := { lockUntil := s.remaining s.session.lockUntil }
    sv := { fsFail := s.sv.fsFail, fsLow := s.sv.fsLow, overtemp := s.sv.overtemp }
    pair := { hdet := s.pair.hdet }
    panel := { idMem := s.panel.idMem, prev := s.panel.prev }
    upd := { chrysalis := s.upd.chrysalis, slotA := s.upd.slotA, slotB := s.upd.slotB, active := s.upd.active, arb := s.upd.arb,
             boot := s.upd.boot.cut, outcome := s.upd.outcome } }
  h

/-- The departure notice on a working hedgerow link (R67, step 4). -/
def State.departs (s : State) : State := if s.paired && s.pair.link then s.send (.hedgerow 2 []) else s

/-- The partner is told that the axis drivers are disabled (13 R363). -/
def State.axesOff (s : State) : State :=
  if s.paired && s.pair.link then s.each (fun n s => s.send (.hedgerow 11 [n])) (List.range 4) else s

/-- An orderly reset of the running module (R77): cycles in execution end without commit, outputs go safe, the power-fail
commit is made where `commit`, and the module is held in reset. -/
def State.moduleReset (cause : Nat) (commit : Bool) (s : State) : State :=
  if s.power.phase ≠ .running then s
  else
    let s := s.dropCycles.departs.axesOff
    (if commit then s.failBegin.failEnd else s).heldReset cause

/-- A reset without warning: a rail, the supervisor, a clock (R62, R66, R77). -/
def State.hardReset (cause : Nat) (s : State) : State :=
  if s.power.phase = .running ∨ s.power.phase = .holdUp then s.heldReset cause else s

/-- MOD_RESET_REG (04 R94): the key resets the module, READY or not. -/
def State.resetRegister (v : Nat) (s : State) : State :=
  if s.host.endpointUp ∧ v = 0x0000A55A then s.moduleReset 0x09 true else s

/-- MOD_RESET_REG. -/
def execModResetReg (t v : Nat) (s : State) : Host.Outcome State Fault Refusal := .next ((s.advance t).resetRegister v)

/-- A write to BAR0 at offset `o` with byte enables `be` (04 R88): aligned 32-bit accesses alone count; a register with a row of its
own acts as that row. -/
def State.registerWrite (o v be : Nat) (s : State) : State :=
  let v := v % 2 ^ 32
  if o % 4 ≠ 0 ∨ be ≠ 15 ∨ s.host.d3hot then s
  else if o = 0x0300 then s.resetRegister v
  else if 0x0800 ≤ o ∧ o < 0x0900 then (if s.windowUp then s.windowWrite o v else s)
  else s.hostReg o v

/-- REGISTER_WRITE. -/
def execRegisterWrite (t offset : Nat) (v : BusWrite) (s : State) : Host.Outcome State Fault Refusal :=
  .next ((s.advance t).registerWrite offset v.value v.be)

/-! ## Hold-up (R67 to R69, R73) -/

/-- The power-fail warning: every listed task has executed that many further entries of its cycle; cycles end without commit, outputs
and drivers go safe, and the power-fail commit begins. -/
def State.powerFail (cycles : List (Nat × Nat)) (s : State) : State :=
  if s.power.phase ≠ .running then s
  else
    let s := cycles.foldl (fun (s : State) c => s.taskStep c.1 c.2) s
    let s := s.dropCycles
    let s : State := { s with power := { s.power with phase := .holdUp } }
    let s := s.departs
    let s := s.each (fun n s => (s.setSo n { s.soOf n with hsCmd := false }).soSwitches n) (List.range 8)
    let s := ((s.each State.dcToSafe (List.range 32)).each State.acToSafe (List.range 32)).each State.axDisable (List.range 4)
    s.axesOff.failBegin

/-- POWER_FAIL_WARNING. -/
def execPowerFailWarning (t : Nat) (cycles : List (Nat × Nat)) (s : State) : Host.Outcome State Fault Refusal :=
  .next ((s.advance t).powerFail cycles)

/-- POWER_FAIL_COMMIT_END: the marks are written and the module holds itself in reset with cause 0x02. -/
def execPowerFailCommitEnd (t : Nat) (s : State) : Host.Outcome State Fault Refusal :=
  let s := s.advance t
  .next (if s.power.phase = .holdUp then s.failEnd.heldReset 0x02 else s)

/-! ## Management-plane resets (R77, R80; 04 R118) -/

/-- The management plane is reset: the host registers take their factory values, commands lose their completions, sessions
close, and what DRAM held is lost. A power-fail warning has already held it (R81). -/
def State.mgmtReset (cause : Nat) (s : State) : State :=
  if s.power.phase ≠ .running ∨ ¬ s.power.mgmtUp then s
  else
    let s : State := { s with power := { s.power with lastCause := cause, lastCauseEpoch := s.power.epoch } }
    let s := s.clearReady
    let s : State := { s with host := s.host.factory }
    let s := (s.disp.flights.filter (fun f => !f.dispatched)).foldl (fun (s : State) f => s.withdraw f) s
    let s : State := { s with disp := { s.disp with flights := s.disp.flights.map (fun f => { f with orphan := true }) } }
    let s := ((List.range 8).foldl (fun (s : State) k => s.abortRing k) s).closeAllOmnar.closeIvpasto.closeSafety
    let clearing := match s.panel.clearing with | some (_, l) => l | none => []
    let s := (clearing ++ (match s.power.commitCmd with | some e => [e] | none => [])).foldl (fun (s : State) e => s.complete e .sAborted 0 []) s
    ({ s with power := { s.power with mgmtUp := false, gather := none, commitCmd := none } } : State).panelReset

/-- One E_RTC_BE_EDGE for every input whose count has changed unseen (17 R470). -/
def State.beMissed (s : State) : State :=
  s.each (fun n s =>
    let b := s.beOf n
    if b.count = b.seen then s
    else (s.setBe n { b with seen := b.count }).post .management .eRtcBeEdge (beRes n) (n * 2 ^ 24 + b.count)) (List.range 4)

/-- E_RTC_LOST of a LOST latch that set while nothing could record it (17 R471). -/
def State.lostMissed (s : State) : State :=
  if s.rtc.lost && !s.rtc.lostTold then
    ({ s with rtc := { s.rtc with lostTold := true } } : State).post .management .eRtcLost rtcRes s.rtc.flags
  else s

/-- E_RESET with the reset record (R78). -/
def State.tellReset (s : State) : State :=
  s.post .management .eReset modRes (s.power.lastCause % 256 * 2 ^ 24 + s.power.lastCauseEpoch % 2 ^ 24)

/-- MANAGEMENT_RESET_END; VDDQ stands above its brown-out threshold again (R557). -/
def execManagementResetEnd (t : Nat) (s : State) : Host.Outcome State Fault Refusal :=
  let s := s.advance t
  .next (if s.power.phase ≠ .running ∨ s.power.mgmtUp then s
    else (((((({ s with power := { s.power with mgmtUp := true, railsOk := Tab.put (fun _ => true) s.power.railsOk 4 true } } : State).tellReset).beMissed).lostMissed).setReady).panelCheck).recPeriodic)

/-- MANAGEMENT_WATCHDOG. -/
def execManagementWatchdog (t : Nat) (s : State) : Host.Outcome State Fault Refusal := .next ((s.advance t).mgmtReset 0x0E)
/-- MANAGEMENT_LOCKSTEP_ERROR. -/
def execManagementLockstepError (t : Nat) (s : State) : Host.Outcome State Fault Refusal := .next ((s.advance t).mgmtReset 0x0F)

/-! ## Rails, clocks and the supervisor (R62, R63, R65, R66; 11 R291) -/

/-- RAIL_BROWN_OUT: 0 VCORE, 1 VIO, 2 VAUX, 3 VSV, 4 VDDQ. -/
def execRailBrownOut (t k : Nat) (s : State) : Host.Outcome State Fault Refusal :=
  onResource k 5 s (fun s =>
    let s := s.advance t
    let s : State := { s with power := { s.power with railsOk := Tab.put (fun _ => true) s.power.railsOk k false } }
    if k = 4 then s.mgmtReset 0x07 else s.hardReset (3 + k))

/-- A delay monitor loses margin (R63). -/
def State.vcoreUp (s : State) : State :=
  if s.power.vcore < 1050 then { s with power := { s.power with vcore := min 1050 (s.power.vcore + 20), vcoreStepAt := s.tb0 } }
  else if s.power.marginLost then s
  else ({ s with power := { s.power with marginLost := true } } : State).post .management .fVcoreMargin modRes s.power.vcore

/-- The adaptation lowers VCORE by a step, no faster than one per millisecond (R63). -/
def State.vcoreDown (s : State) : State :=
  if s.tb0 < s.power.vcoreStepAt + 1000000 ∨ s.power.vcore < 910 then s
  else { s with power := { s.power with vcore := s.power.vcore - 10, vcoreStepAt := s.tb0, marginLost := false } }

/-- VCORE_MARGIN_LOST. -/
def execVcoreMarginLost (t : Nat) (s : State) : Host.Outcome State Fault Refusal :=
  let s := s.advance t
  .next (if s.up then s.vcoreUp else s)

/-- VCORE_STEP_DOWN. -/
def execVcoreStepDown (t : Nat) (s : State) : Host.Outcome State Fault Refusal :=
  let s := s.advance t
  .next (if s.up then s.vcoreDown else s)

/-- Lock attempts of a PLL at this start; the first is under way. -/
def State.pllTries (s : State) (k : Nat) : Nat := Tab.get (fun _ => 1) s.power.pllAttempts k

/-- PLL_LOCK_TIMEOUT: the PLL is restarted, or after its third try the module stays held; the next start, of which a timeout in the
held module tells, makes three tries of its own (R65). 0 core, 1 loop engine, 2 management, 3 hedgerow link, 4 CAN. -/
def execPllLockTimeout (t k : Nat) (s : State) : Host.Outcome State Fault Refusal :=
  onResource k 5 s (fun s =>
    let s := s.advance t
    if s.power.phase ≠ .heldReset ∧ s.power.phase ≠ .pllHeld then s
    else if s.pllTries k < 3 then
      { s with power := { s.power with phase := .heldReset, pllAttempts := Tab.put (fun _ => 1) s.power.pllAttempts k (s.pllTries k + 1) } }
    else { s with power := { s.power with
      phase := .pllHeld, pllAttempts := [], lastCause := 0x10, lastCauseEpoch := s.power.epoch, pllFailed := k } })

/-- SV_CLOCK_FAULT (R66). -/
def execSvClockFault (t : Nat) (s : State) : Host.Outcome State Fault Refusal := .next ((s.advance t).hardReset 0x0C)

/-- SCHEDULER_HEARTBEAT_MISSING (11 R291). -/
def execSchedulerHeartbeatMissing (t : Nat) (s : State) : Host.Outcome State Fault Refusal := .next ((s.advance t).hardReset 0x0D)

/-- HEARTBEAT_MISSING_FRAMES_STOP (13 R348): no coupler frame and no link frame leaves the module any more. -/
def execHeartbeatMissingFramesStop (t : Nat) (s : State) : Host.Outcome State Fault Refusal :=
  let s := s.advance t
  .next (if s.up then { s with sv := { s.sv with heartbeat := false } } else s)

/-! ## Supplies (R60, R61) -/

/-- Lower and upper warning threshold of a supply, in mV (R60). -/
def supplyLimits (k : Nat) : Nat × Option Nat :=
  match k with
  | 0 => (18000, some 33000)
  | 1 => (18000, some 33000)
  | 6 => (24000, some 50000)
  | 7 => (1200, none)
  | _ => (18000, none)

/-- A supply crosses its warning threshold: outwards it is recorded, inwards the warning ends. Of VBK, `mv` is the supercapacitor's
voltage and `cell` the backup cell's (02 R52). -/
def State.supplyWarn (k mv cell : Nat) (s : State) : State :=
  let cap := mv
  let mv := if k = 7 then max mv cell else mv
  let (lo, hi) := supplyLimits k
  let out := decide (mv < lo) || (match hi with | some h => decide (h < mv) | none => false)
  let fail := Tab.get (fun _ => false) s.power.failFlags k
  let was := Tab.get (fun _ => false) s.power.warnFlags k
  if k = 3 ∨ k = 4 then s.fdSag (k - 3) mv
  else
    let s := s.setSupply k mv (out || fail) fail
    let s : State := if k = 5 then { s with sv := { s.sv with fsLow := out || s.sv.fsFail } } else s
    let s : State := if k = 7 then { s with rtc := { s.rtc with capMv := cap, cellMv := cell } } else s
    if out && !was then s.tellSupply (supplyWarning k mv) else s

/-- SUPPLY_WARNING: 0 LA, 1 LB, 2 FA, 3 FD0, 4 FD1, 5 FS, 6 FM, 7 VBK. -/
def execSupplyWarning (t k : Nat) (mv : SupplyMeas) (s : State) : Host.Outcome State Fault Refusal :=
  onResource k 8 s (fun s => (s.advance t).supplyWarn k mv.mv mv.cell)

/-- LOGIC_SUPPLY_FAIL: LA (0) or LB (1) below 16.0 V. -/
def execLogicSupplyFail (t k mv : Nat) (s : State) : Host.Outcome State Fault Refusal :=
  onResource k 2 s (fun s =>
    let s := s.advance t
    if 16000 ≤ mv ∨ Tab.get (fun _ => false) s.power.failFlags k = true then s
    else (s.setSupply k mv true true).tellSupply (supplyLost (s.param .logicDualFeed 0 != 0) k mv))

/-- LOGIC_SUPPLY_RECOVERY. -/
def execLogicSupplyRecovery (t k mv : Nat) (s : State) : Host.Outcome State Fault Refusal :=
  onResource k 2 s (fun s =>
    let s := s.advance t
    if mv ≤ 18000 then s else s.setSupply k mv (decide (33000 < mv)) false)

/-! ## The reset button (R79, R81) -/

/-- A press of `ms` milliseconds is released; one that began in a start in progress, or too soon after a stuck button, is ignored
(R79, R81). -/
def State.buttonRelease (ms : Nat) (s : State) : State :=
  if s.power.buttonStuck then { s with power := { s.power with buttonStuck := false, buttonFree := s.tb0 + 1000000000 } }
  else if ¬ s.up ∨ s.tb0 < max s.power.buttonFree s.power.startedAt + ms * 1000000 then s
  else if ms < 50 then s
  else if ms < 100 then s.post .management .eResetButtonShort modRes ms
  else if ms ≤ 2000 then s.moduleReset 0x08 true
  else if ms ≤ 10000 then s.post .management .eResetButtonLong modRes ms
  else s

/-- RESET_BUTTON_RELEASE: held for `ms`. -/
def execResetButtonRelease (t ms : Nat) (s : State) : Host.Outcome State Fault Refusal := .next ((s.advance t).buttonRelease ms)

/-- RESET_BUTTON_STUCK: held for 10 s. -/
def execResetButtonStuck (t : Nat) (s : State) : Host.Outcome State Fault Refusal :=
  let s := s.advance t
  .next (if s.up ∧ ¬ s.power.buttonStuck then
      ({ s with power := { s.power with buttonStuck := true } } : State).post .management .fResetButtonStuck modRes 10
    else s)

/-! ## The baseplate (22 R538) -/

/-- BASEPLATE_HOT: its temperature in 0.1 °C; recorded when the condition begins and once per minute while it holds, and ended
below 68 °C. -/
def execBaseplateHot (t : Nat) (temp : Int) (s : State) : Host.Outcome State Fault Refusal :=
  let s := s.advance t
  .next (if ¬ s.up then s
    else if temp < 680 then { s with power := { s.power with hotAt := none } }
    else
      let due := match s.power.hotAt with | some a => decide (a + 60000000000 ≤ s.tb0) | none => decide (720 ≤ temp)
      if due then ({ s with power := { s.power with hotAt := some s.tb0 } } : State).post .management .eBaseplateHot modRes (wrapInt 32 temp)
      else s)

end Sys2Proof.Machine
end

