-- ==== Sys2Proof/Machine/ConfigFile.lean ====
section
/-! DEFINITION. Configuration files: `MOD.CONFIG_SAVE` and `MOD.CONFIG_LOAD` (03 R85, R86). The spec gives the file its header and
leaves the layout of the two payloads open: they are uninterpreted (notes/assumptions/72.md). -/

namespace Sys2Proof.Config

open Machine

/-- The bytes of a Configuration payload and of a RETAIN payload, and the payloads they spell. -/
opaque encodeSettings : Settings → Bytes
opaque decodeSettings : Bytes → Option Settings
opaque encodeRetain : Tab Nat → Bytes
opaque decodeRetain : Bytes → Option (Tab Nat)

/-- Bytes that the Configuration section holds (03 R86). -/
opaque configSpace : Nat

end Sys2Proof.Config

namespace Sys2Proof.Machine

/-- The format code of the Configuration section that the firmware accepts (R85). -/
def configFormat : Nat := 1

/-- The file of a Configuration copy (R85). -/
def State.configFile (s : State) (c : Copy Settings) (withRetain : Bool) : Bytes :=
  let p := Config.encodeSettings c.payload
  let r := if withRetain then Config.encodeRetain s.retainNow else []
  leBytes 4 0x4E504346 ++ leBytes 4 c.payload.format ++ leBytes 5 Config.serialNumber
    ++ leBytes 1 (b2n withRetain + 2 * b2n c.payload.safety) ++ leBytes 2 (c.payload.value .stationId 0) ++ leBytes 4 c.seqHdr
    ++ leBytes 4 s.power.epoch ++ leBytes 4 s.libVersion ++ leBytes 4 p.length ++ leBytes 4 r.length ++ leBytes 4 (crc32 (p ++ r))
    ++ List.replicate 24 0 ++ p ++ r

/-- The valid Configuration copy with sequence number `n`, or the newest one for 0. -/
def State.configCopy (s : State) (n : Nat) : Option (Copy Settings) :=
  let x := s.cocoon.config
  if n = 0 then x.newest
  else if validSeq x.a = some n then x.a
  else if validSeq x.b = some n then x.b
  else none

/-- The file a `MOD.CONFIG_SAVE` names in its expert form; empty where its copy stands no longer. -/
def savedFile (s : State) (c : Cmd) : Bytes :=
  match s.configCopy (c.blk 4 4) with
  | some x => s.configFile x (bitOf (c.blk 8 1) 0)
  | none => []

/-- E_CONFIG_SAVED (R84, R85). -/
def State.tellSaved (seq : Nat) (s : State) : State := s.post .management .eConfigSaved modRes seq

/-- `MOD.CONFIG_SAVE`. -/
def specModConfigSave : CmdSpec where
  op := 0x0115
  layout := fun c => if c.expert then { ranges := [(16, 8), (25, 39)], masks := [(24, 1)] } else { ranges := [(17, 3)], masks := [(20, 1)] }
  form := fun _ c => !c.expert || (c.indirect && decide (9 ≤ c.blockLen))
  route := fun c => c.expert || c.onHost
  target := targetZero 0x01
  params := fun s c =>
    if c.expert then (s.configCopy (c.blk 4 4)).isNone || decide (c.blk 0 4 < (savedFile s c).length) else decide (c.field 17 1 < 8)
  check := fun s c =>
    if c.expert then whenS (s.configCopy (c.blk 4 4)).isNone .sState
    else firstOf [whenS (s.streamOpen (c.field 18 2)) .sBusy, whenS (s.configCopy 0).isNone .sState]
  run := fun e s =>
    let c := e.cmd
    if c.expert then
      let f := savedFile s c
      let piece := (f.drop (c.blk 0 4)).take c.blockLen
      let seq := match s.configCopy (c.blk 4 4) with | some x => x.seqHdr | none => 0
      .done .sOk f.length piece (if c.blk 0 4 + piece.length = f.length then s.tellSaved seq else s)
    else
      match s.configCopy 0 with
      | some x =>
        .later { s with disp := { s.disp with streams := s.disp.streams ++
          [{ ring := c.field 17 1, stream := c.field 18 2, toHost := true, entry := e, data := s.configFile x (bitOf (c.field 20 1) 0),
             consumed := x.seqHdr }] } }
      | none => .refuse .sState s

/-! ## Loading (R86) -/

/-- A file's payloads, with what its header says of them. -/
structure CfgFile where
  settings : Settings
  retain : Option (Tab Nat)
  seq : Nat
  flags : Nat
  deriving DecidableEq, Repr

/-- First check: magic, CRC and lengths. -/
def cfgFormed (f : Bytes) : Bool :=
  let cfgLen := leNat (slice f 28 4)
  let retLen := leNat (slice f 32 4)
  decide (64 ≤ f.length) && leNat (slice f 0 4) == 0x4E504346 && crc32 (f.drop 64) == leNat (slice f 36 4)
    && f.length == 64 + cfgLen + retLen && (retLen == 0 || bitOf (leNat (slice f 13 1)) 0)

/-- The payloads of a well-formed file. -/
def cfgParse (f : Bytes) : Option CfgFile :=
  let cfgLen := leNat (slice f 28 4)
  let flags := leNat (slice f 13 1)
  match Config.decodeSettings ((f.drop 64).take cfgLen) with
  | none => none
  | some p =>
    let r := if bitOf flags 0 then Config.decodeRetain (f.drop (64 + cfgLen)) else none
    if bitOf flags 0 && r.isNone then none else some { settings := p, retain := r, seq := leNat (slice f 16 4), flags := flags }

/-- The session is needed for this file. -/
def State.cfgNeeds (s : State) (f : Bytes) : Bool := s.safetyConfig || bitOf (leNat (slice f 13 1)) 1

/-- The checks of a whole file in their order. -/
def State.cfgCheck (s : State) (f : Bytes) : Status :=
  if ¬ cfgFormed f then .sMalformed
  else if leNat (slice f 4 4) ≠ configFormat ∨ leNat (slice f 24 4) ≠ s.libVersion then .sIncompatible
  else if Config.configSpace < leNat (slice f 28 4) ∨ 0x40000 < leNat (slice f 32 4) then .sNoSpace
  else if (cfgParse f).isNone = true then .sMalformed
  else if (s.cfgNeeds f && s.logFull) = true then .sLogFull
  else .sOk

/-- The Safety state of a loaded configuration: every DTT output tripped with cause 0, no budget used. -/
def Settings.trippedStore (c : Settings) : SafeStore :=
  { outs := (List.range 8).map (fun n => (c.value .soTripMode n != 1, 0, 0, false)) }

/-- The file is installed: change log, commits, completion, and a module reset with cause 0x0A without commit first. No axis keeps its
stored state (notes/assumptions/73.md). -/
def State.cfgInstall (e : Entry) (f : Bytes) (s : State) : State :=
  match cfgParse f with
  | none => s
  | some x =>
    let old := Config.encodeSettings s.settings
    let s := if s.cfgNeeds f then s.logChange e.cmd.route 0x01 0 1 old (Config.encodeSettings x.settings) else s
    let k := s.cocoon
    let s : State := { s with cocoon := { k with
      config := k.config.now x.settings,
      retain := (match x.retain with | some r => k.retain.now r | none => k.retain),
      safety := k.safety.now x.settings.trippedStore, axisState := { only := k.axisState.only } } }
    let s : State := { s with power := { s.power with gather := none, loaded := some x.seq } }
    (s.complete e .sOk 0 []).moduleReset 0x0A false

/-- A configuration may be loaded now. -/
def State.cfgReady (s : State) : Status :=
  whenS (!(tasksWhere (fun i => (s.taskOf i).state != .stopped)).isEmpty || s.param .pairEn 0 == 1) .sState

/-- The gathering after a chunk: a new one where its length differs. -/
def State.gatherWith (s : State) (c : Cmd) : Nat × List (Nat × Byte) × List (Nat × Nat) :=
  let len := c.blk 4 4
  let data := c.blockBytes.drop 16
  let (bytes, got) := match s.power.gather with
    | some (n, b, g) => if n = len then (b, g) else ([], [])
    | none => ([], [])
  (len, Tab.putBytes bytes (c.blk 0 4) data, addSpan got (c.blk 0 4) (c.blk 0 4 + data.length))

/-- A chunk shows that the file holds safety configuration. -/
def State.chunkSafety (s : State) (c : Cmd) : Bool :=
  let g := s.gatherWith c
  c.expert && g.2.2.any (fun r => decide (r.1 ≤ 13 ∧ 13 < r.2)) && bitOf (Tab.get (fun _ => (0 : Byte)) g.2.1 13).toNat 1

/-- `MOD.CONFIG_LOAD`. -/
def specModConfigLoad : CmdSpec where
  op := 0x0116
  layout := fun c => if c.expert then { ranges := [(16, 8), (32, 1024)] } else { ranges := [(17, 7)] }
  form := fun _ c => !c.expert || (c.indirect && decide (17 ≤ c.blockLen ∧ c.blockLen ≤ 1040))
  route := fun c => c.expert || c.onHost
  target := targetZero 0x01
  needsSession := fun s c => s.safetyConfig || s.chunkSafety c
  params := fun _ c =>
    if c.expert then decide (c.blk 0 4 + (c.blockLen - 16) ≤ c.blk 4 4) else decide (c.field 17 1 < 8)
  check := fun s c => firstOf [s.cfgReady, whenS (!c.expert && s.streamOpen (c.field 18 2)) .sBusy]
  run := fun e s =>
    let c := e.cmd
    if c.expert then
      let g := s.gatherWith c
      if g.2.2 = [(0, g.1)] then
        let f := Tab.getBytes g.2.1 0 g.1
        (if s.cfgCheck f = .sOk then .later (s.cfgInstall e f) else .refuse (s.cfgCheck f) s)
      else .ok { s with power := { s.power with gather := some g } }
    else
      .later { s with disp := { s.disp with streams := s.disp.streams ++
        [{ ring := c.field 17 1, stream := c.field 18 2, toHost := false, entry := e }] } }

/-- The last entry of a stream that carries a configuration file: the length it named, the session its flags ask for, and the checks
of the file. -/
def State.cfgStreamEnd (e : Entry) (f : Bytes) (s : State) : State :=
  let st : Status :=
    if f.length ≠ e.cmd.field 20 4 then .sMalformed
    else if (cfgFormed f && s.cfgNeeds f && !(s.sessionValid e.cmd)) = true then .sSafetySessionRequired
    else firstOf [s.cfgReady, s.cfgCheck f]
  if st = .sOk then s.cfgInstall e f else s.complete e st 0 []

/-- MOD_CONFIG_SAVE. -/
def execModConfigSave (t : Nat) (c : Cmd) (s : State) : Host.Outcome State Fault Refusal := .next (specModConfigSave.submit c (s.advance t))
/-- MOD_CONFIG_LOAD. -/
def execModConfigLoad (t : Nat) (c : Cmd) (s : State) : Host.Outcome State Fault Refusal := .next (specModConfigLoad.submit c (s.advance t))

end Sys2Proof.Machine
end

