-- ==== Sys2Proof/Machine/ModCmd.lean ====
section
/-! DEFINITION. Commands of class 0x01 (03 R82, R83, R556, R557; 04 R107, R119, R120, R558) and the entries of the bulk rings
(04 R104). -/

namespace Sys2Proof.Machine

/-! ## Resets and commits (03 R82, R83, R556) -/

/-- `MOD.RESET`: the command completes, then the module or the management plane is reset. -/
def specModReset : CmdSpec where
  op := 0x0110
  layout := fun c => { ranges := [(16, 1)], masks := if c.expert then [(17, 1)] else [] }
  target := targetZero 0x01
  params := fun _ c => decide (c.field 16 1 ≤ 1)
  run := fun e s =>
    let s := s.complete e .sOk 0 []
    .later (if e.cmd.field 16 1 = 0 then s.moduleReset 0x0A (!(e.cmd.expert && bitOf (e.cmd.field 17 1) 0)) else s.mgmtReset 0x0B)

/-- `MOD.COMMIT`: it completes with the later of the two commit marks. -/
def specModCommit : CmdSpec where
  op := 0x0111
  target := targetZero 0x01
  check := fun s _ => whenS (s.cocoon.retain.busy.isSome || s.cocoon.axisState.busy.isSome || s.power.commitCmd.isSome) .sBusy
  run := fun e s =>
    .later { s with
      power := { s.power with commitCmd := some e },
      cocoon := { s.cocoon with retain := s.cocoon.retain.request s.retainNow, axisState := s.cocoon.axisState.request s.axStore } }

/-- The factory content of the sections that `MOD.FACTORY` writes; `cred` erases the credentials as well. -/
def State.factorySections (cred : Bool) (s : State) : State :=
  let k := s.cocoon
  { s with cocoon := { k with
      config := k.config.now {}, credentials := if cred then k.credentials.now {} else k.credentials,
      retain := k.retain.now [], axisState := k.axisState.now {}, panel := k.panel.now false, safety := k.safety.now {},
      recorder := k.recorder.now { seq := s.recorder.store.seq, orderly := some s.power.epoch } } }

/-- `MOD.FACTORY`. -/
def specModFactory : CmdSpec where
  op := 0x0112
  layout := fun c => { masks := if c.expert then [(16, 1)] else [] }
  target := targetZero 0x01
  needsSession := fun s _ => s.safetyConfig
  check := fun s _ => firstOf
    [whenS (!(tasksWhere (fun i => (s.taskOf i).state == .running || (s.taskOf i).state == .starting || (s.taskOf i).state == .held)).isEmpty) .sBusy,
     whenS s.logFull .sLogFull]
  run := fun e s =>
    let s := s.logChange e.cmd.route 0x01 0 0 (Config.encodeSettings s.settings) (Config.encodeSettings {})
    let s := s.factorySections (e.cmd.expert && bitOf (e.cmd.field 16 1) 0)
    .later ((s.complete e .sOk 0 []).moduleReset 0x0A false)

/-! ## Power (03 R61, R82, R557) -/

/-- A byte of flags. -/
def flagByte (n : Nat) (f : Nat → Bool) : Nat := (List.range n).foldl (fun m k => m + 2 ^ k * b2n (f k)) 0

/-- The result of `MOD.POWER_STATUS`; the hold-up capacitor's voltage is a measurement, free here. -/
def powerStatus (s : State) (expert : Bool) : Bytes :=
  let p := s.power
  (List.range 8).flatMap (fun k => leBytes 4 (s.supplyMv k))
    ++ leBytes 1 (flagByte 5 (fun k => Tab.get (fun _ => true) p.railsOk k))
    ++ leBytes 1 (flagByte 7 (fun k => Tab.get (fun _ => false) p.failFlags k))
    ++ leBytes 1 p.lastCause ++ leBytes 1 0 ++ leBytes 4 p.epoch ++ leBytes 4 p.lastCauseEpoch ++ leBytes 4 0
    ++ (if expert then
          leBytes 4 p.vcore ++ (List.range 5).flatMap (fun k => leBytes 1 (s.pllTries k)) ++ leBytes 3 0
            ++ leBytes 4 (Config.freeValue (s.free + 8)).toNat
        else [])

/-- `MOD.POWER_STATUS`. -/
def specModPowerStatus : CmdSpec where
  op := 0x0113
  target := targetZero 0x01
  long := fun _ => true
  run := fun e s => .long (powerStatus s e.cmd.expert) { s with free := s.free + 9 }

/-- What `MOD.SET_POWER` sets: bytes 16–19 the period in seconds, byte 20 `LOGIC_DUAL_FEED`. -/
def powerSettings (c : Cmd) : List (Param × Nat) :=
  (.retainCommitPeriod, c.field 16 4) :: (if c.expert then [(.logicDualFeed, c.field 20 1)] else [])

/-- `MOD.SET_POWER`. -/
def specModSetPower : CmdSpec where
  op := 0x0114
  layout := fun c => { ranges := [(16, if c.expert then 5 else 4)] }
  target := targetZero 0x01
  params := fun _ c => (powerSettings c).all (fun x => x.1.inRange x.2)
  run := fun e s => .ok (s.setCommit 0 (powerSettings e.cmd))

/-! ## The route's own commands (04 R107, R119, R120, R558) -/

/-- What the expert `MOD.IDENTIFY` tells of a route: sessions, commands in flight, authentication, dispatched, refused. -/
def State.routeFacts (s : State) (r : Route) : Bytes :=
  let f := fun (a b k d n : Nat) => leBytes 2 a ++ leBytes 2 b ++ leBytes 1 k ++ leBytes 3 0 ++ leBytes 8 d ++ leBytes 8 n
  match r with
  | .host => f 1 128 0 s.host.dispatched s.host.refused
  | .omnar id => (match s.omnarOf id with | some x => f 8 16 1 x.dispatched x.refused | none => f 8 16 1 0 0)
  | .ivpasto => f 1 16 2 s.disp.ivpasto.dispatched s.disp.ivpasto.refused

/-- `MOD.IDENTIFY`. -/
def specModIdentify : CmdSpec where
  op := 0x0100
  target := targetZero 0x01
  long := fun _ => true
  run := fun e s =>
    .long ((List.range 10).flatMap (fun k => leBytes 4 (s.idReg (4 * k))) ++ (if e.cmd.expert then s.routeFacts e.cmd.route else [])) s

/-- `MOD.NOP`. -/
def specModNop : CmdSpec where
  op := 0x0101
  target := targetZero 0x01
  run := fun _ s => .ok s

/-- The command in flight that a `MOD.ABORT` names. -/
def State.abortTarget (s : State) (c : Cmd) : Option Flight :=
  s.disp.flights.find? (fun f => f.entry.cmd.route == c.route && f.entry.cmd.tag == c.field 16 4)

/-- `MOD.ABORT`. -/
def specModAbort : CmdSpec where
  op := 0x0102
  layout := fun _ => { ranges := [(16, 4)] }
  target := targetZero 0x01
  check := fun s c =>
    match s.abortTarget c with
    | none => .sNotFound
    | some f => whenS f.dispatched .sTooLate
  run := fun e s =>
    match s.abortTarget e.cmd with
    | some f =>
      .ok (({ s with disp := { s.disp with queue := s.disp.queue.filter (fun q => q.id != f.entry.id) } } : State).complete f.entry .sAborted 0 [])
    | none => .refuse .sNotFound s

/-- The filter that `MOD.SET_EVENT_FILTER` asks for; the basic form keeps the code range in force. -/
def filterOf (c : Cmd) (old : Option EvFilter) : EvFilter :=
  let (lo, hi) := match old with | some f => (f.lo, f.hi) | none => (0, 0xFFFF)
  if c.expert then { minSev := c.field 16 1, lo := c.field 20 2, hi := c.field 22 2 } else { minSev := c.field 16 1, lo := lo, hi := hi }

/-- `MOD.SET_EVENT_FILTER`. -/
def specModSetEventFilter : CmdSpec where
  op := 0x0103
  layout := fun c => { ranges := (16, 1) :: (if c.expert then [(20, 4)] else []) }
  route := fun c => !c.onHost
  target := targetZero 0x01
  params := fun _ c => decide (c.field 16 1 ≤ 7) && (!c.expert || decide (c.field 20 2 ≤ c.field 22 2))
  run := fun e s =>
    match e.cmd.route with
    | .omnar id =>
      (match s.omnarOf id with
       | some x => .ok (s.setOmnar { x with filter := some (filterOf e.cmd x.filter) })
       | none => .ok s)
    | _ =>
      let v := s.disp.ivpasto
      .ok { s with disp := { s.disp with ivpasto := { v with filter := some (filterOf e.cmd v.filter) } } }

/-- `MOD.SESSION_CLOSE`: the session closes after its completion has been sent. -/
def specModSessionClose : CmdSpec where
  op := 0x0104
  route := fun c => !c.onHost
  target := targetZero 0x01
  run := fun e s =>
    let s := s.complete e .sOk 0 []
    .later (match e.cmd.route with | .omnar id => s.closeOmnar id | _ => s.closeIvpasto)

/-- `MOD.PROVISION_KEY`. -/
def specModProvisionKey : CmdSpec where
  op := 0x0105
  layout := fun c => { ranges := [(16, if c.expert then 33 else 32)] }
  route := fun c => c.onXs
  target := targetZero 0x01
  params := fun _ c => !(allZero (slice c.body 0 32)) && (!c.expert || decide (c.field 48 1 ≤ 1))
  run := fun e s =>
    let s := ({ s with cred := { s.cred with stationKey := some (slice e.cmd.body 0 32) } } : State).commitCred
    let s := if e.cmd.expert && e.cmd.field 48 1 == 1 then s.closeAllOmnar else s
    .ok (s.post .management .eKeyProvisioned modRes 0)

/-- The commands of class 0x01. -/
def specMod : List CmdSpec :=
  [specModReset, specModCommit, specModFactory, specModPowerStatus, specModSetPower, specModConfigSave, specModConfigLoad, specModIdentify,
   specModNop, specModAbort, specModSetEventFilter, specModSessionClose, specModProvisionKey]

/-- MOD_RESET. -/
def execModReset (t : Nat) (c : Cmd) (s : State) : Host.Outcome State Fault Refusal := .next (specModReset.submit c (s.advance t))
/-- MOD_COMMIT. -/
def execModCommit (t : Nat) (c : Cmd) (s : State) : Host.Outcome State Fault Refusal := .next (specModCommit.submit c (s.advance t))
/-- MOD_FACTORY. -/
def execModFactory (t : Nat) (c : Cmd) (s : State) : Host.Outcome State Fault Refusal := .next (specModFactory.submit c (s.advance t))
/-- MOD_POWER_STATUS. -/
def execModPowerStatus (t : Nat) (c : Cmd) (s : State) : Host.Outcome State Fault Refusal := .next (specModPowerStatus.submit c (s.advance t))
/-- MOD_SET_POWER. -/
def execModSetPower (t : Nat) (c : Cmd) (s : State) : Host.Outcome State Fault Refusal := .next (specModSetPower.submit c (s.advance t))
/-- MOD_IDENTIFY. -/
def execModIdentify (t : Nat) (c : Cmd) (s : State) : Host.Outcome State Fault Refusal := .next (specModIdentify.submit c (s.advance t))
/-- MOD_NOP. -/
def execModNop (t : Nat) (c : Cmd) (s : State) : Host.Outcome State Fault Refusal := .next (specModNop.submit c (s.advance t))
/-- MOD_ABORT. -/
def execModAbort (t : Nat) (c : Cmd) (s : State) : Host.Outcome State Fault Refusal := .next (specModAbort.submit c (s.advance t))
/-- MOD_SET_EVENT_FILTER. -/
def execModSetEventFilter (t : Nat) (c : Cmd) (s : State) : Host.Outcome State Fault Refusal :=
  .next (specModSetEventFilter.submit c (s.advance t))
/-- MOD_SESSION_CLOSE. -/
def execModSessionClose (t : Nat) (c : Cmd) (s : State) : Host.Outcome State Fault Refusal := .next (specModSessionClose.submit c (s.advance t))
/-- MOD_PROVISION_KEY. -/
def execModProvisionKey (t : Nat) (c : Cmd) (s : State) : Host.Outcome State Fault Refusal := .next (specModProvisionKey.submit c (s.advance t))

/-! ## Bulk entries (04 R97, R99, R104) -/

/-- The entry of a host-to-module ring: its bytes reach the stream it names. One that names an open stream of the other direction is
an `ERROR` entry of that stream and ends its command (R104); no chapter gives the status, which is S_ABORTED here (DESIGN CHOICE,
notes/assumptions/102.md). -/
def State.bulkIn (k : Nat) (rd : BulkRead) (wf : Bool) (s : State) : State :=
  let fin := bitOf rd.flags 1
  match (s.streamsOn k).find? (fun x => x.stream == rd.stream && !x.toHost) with
  | none =>
    let s' := s.bulkMark k 0 rd.stream fin true wf
    match s.disp.streams.find? (fun x => x.stream == rd.stream && x.toHost) with
    | some x => if wf then s' else s'.abortStream x
    | none => s'
  | some x =>
    match rd.data with
    | none => s.ringFault (bulkRing k) 0x03
    | some b =>
      let b := slice b 0 rd.len
      let s := s.bulkMark k rd.len rd.stream fin false wf
      if x.entry.op = 0x0116 ∧ fin = true then (s.closeStreams x.entry.id).cfgStreamEnd x.entry (x.data ++ b) else s.streamIn x b fin

/-- The entry of a module-to-host ring: the module fills its buffer from a stream that has something to send; the entry waits
where none has. -/
def State.bulkOut (k : Nat) (rd : BulkRead) (wf : Bool) (s : State) : State :=
  let l := s.outStreams k rd.stream
  if l.isEmpty ∧ rd.stream ≠ 0xFFFF then s.bulkMark k 0 rd.stream false true wf
  else if wf then s.ringFault (bulkRing k) 0x04
  else
    match s.outNext rd.len l with
    | none => s
    | some (x, b, fin, s) =>
      let s := (s.hostWrite rd.addr b).bulkMark k b.length x.stream fin false false
      if ¬ fin then s
      else
        let s := s.closeStreams x.entry.id
        (if x.entry.op = 0x0115 then s.tellSaved x.consumed else s).complete x.entry .sOk 0 []

/-- The module takes the entry at the head of bulk ring `k`. -/
def State.bulkEntry (k : Nat) (rd : Option BulkRead) (wf : Bool) (s : State) : State :=
  let r := s.ring (bulkRing k)
  if ¬ (s.host.ready && s.up && s.power.mgmtUp && r.run && r.head != r.tail) then s
  else match rd with
    | none => s.ringFault (bulkRing k) 0x03
    | some rd =>
      if rd.rsv ≠ 0 ∨ 8 ≤ rd.flags ∨ rd.len < 1 ∨ 65536 < rd.len then s.ringFault (bulkRing k) 0x06
      else if r.dir then s.bulkOut k rd wf
      else s.bulkIn k rd wf

/-- BULK_ENTRY: `rd` is the entry at the ring's head, none where the link refuses the read; `wf`: it refuses the write. -/
def execBulkEntry (t k : Nat) (rd : Option BulkRead) (wf : Bool) (s : State) : Host.Outcome State Fault Refusal :=
  onResource k 8 s (fun s => (s.advance t).bulkEntry k rd wf)

end Sys2Proof.Machine
end

