-- ==== Sys2Proof/Machine/Boundary.lean ====
section
/-! DEFINITION. The boundaries of the owners, at which their mailboxes are applied (01 R17 to R19), the rows at which they
stand, and the dispatcher's turn (04 R105). -/

namespace Sys2Proof.Machine

/-- Every command of the module. -/
def allSpecs : List CmdSpec :=
  specMod ++ specTask ++ specProg ++ specVar ++ specAc ++ specDc ++ specSafe ++ specLoop ++ specAxis ++ specPair ++ specNet ++ specTime
    ++ specCan ++ specCu ++ specRtc ++ specRec ++ specUpd ++ specPanel ++ specFlt

/-- The command of an opcode. -/
def specOf (op : Nat) : Option CmdSpec := allSpecs.find? (fun k => k.op == op)

/-- Applies a posting of the module's own (01 R18). -/
def ownPosting (o : Owner) (b : PostBody) (s : State) : State :=
  match b with
  | .retire r code => s.retire r.key code
  | .forceRelease id => s.forceExpire id
  | .releaseTask e i => s.releaseTaskForces e i
  | .progSwitch _ => s.switchTask o.index
  | .pairRelease id => s.forceDrop .host id true
  | .pairSwitch e => s.pairSwitchNow e
  | _ => s

/-- The boundary of an owner. -/
def State.atBoundary (o : Owner) (s : State) : State := s.boundary specOf (ownPosting o) o

/-- An owner with no cycle running: a posting applies without a boundary (01 R19). -/
def State.ownerIdle (s : State) (o : Owner) : Bool :=
  match o.kind with
  | .task => !(s.taskOf o.index).live
  | .loop => s.param .loopEn o.index != 1
  | .can => (List.range 3).all (fun b => !(s.canBuf o.index b).sof)
  | .pg => !(s.pgOf o.index).pulse
  | .ac => false
  | .dc => false
  | .so => false
  | .aiPair => false
  | .axis => false
  | .network => false
  | _ => true

/-- The postings that reached owners with no cycle running are applied. -/
def State.settle (s : State) : State :=
  if ¬ s.up then s
  else (s.mail.map (fun p => p.owner)).foldl (fun s o => if s.ownerIdle o then s.atBoundary o else s) s

/-! ## Tasks and core pairs -/

/-- A safety task whose cycle was not committed waits with a program switch for the boundary after a committed one (07 R202). -/
def State.switchWaits (s : State) (i : Nat) : Bool :=
  s.isSafetyTask i && !(s.taskOf i).wasCommitted && (s.taskOf i).live
    && s.mail.any (fun p => p.owner == taskOwner i && (match p.body with | .progSwitch _ => true | _ => false))

/-- Does `f`, then the boundary of task `i` if its cycle has ended, and of the tasks that no longer run. -/
def State.cycleEnd (i : Nat) (f : State → State) (s : State) : State :=
  if ¬ s.up then s
  else
    let was := (s.taskOf i).executing
    let s := f s
    (if was && !(s.taskOf i).executing && !(s.switchWaits i) then s.atBoundary (taskOwner i) else s).settle

/-- EXECUTION_END (05 R127, R147): `exec` is the execution and `ranges` the execution times of the ranges, `mism` the comparator's result. -/
def execExecutionEnd (t i : Nat) (exec : ExecRun) (ranges : List Nat) (mism : Bool) (s : State) : Host.Outcome State Fault Refusal :=
  onResource i 16 s (fun s => (s.advance t).cycleEnd i (State.execEnd i exec.time ranges mism exec.steps))

/-- TASK_DEADLINE (05 R138): `left` entries have executed where the cycle halts. -/
def execTaskDeadline (t i left : Nat) (s : State) : Host.Outcome State Fault Refusal :=
  onResource i 16 s (fun s => (s.advance t).cycleEnd i (State.taskDeadline i left))

/-- TASK_ABANDON (05 R138). -/
def execTaskAbandon (t i left : Nat) (s : State) : Host.Outcome State Fault Refusal :=
  onResource i 16 s (fun s => (s.advance t).cycleEnd i (State.taskAbandon i left))

/-- COMPARE_WINDOW_END (13 R355): the partner's signature, `none` where it is late. -/
def execCompareWindowEnd (t i : Nat) (sig : Option Nat) (s : State) : Host.Outcome State Fault Refusal :=
  onResource i 16 s (fun s => (s.advance t).cycleEnd i (State.compareEnd i sig))

/-- PAIR_SELFTEST_END (05 R147): the cores that fail. -/
def execPairSelftestEnd (t n : Nat) (bad0 bad1 : Bool) (s : State) : Host.Outcome State Fault Refusal :=
  onResource n 8 s (fun s => let s := s.advance t; if s.up then (s.cpTestEnd n bad0 bad1).settle else s)

/-- SELFTEST_SLICE (05 R149). -/
def execSelftestSlice (t n : Nat) (bad0 bad1 : Bool) (s : State) : Host.Outcome State Fault Refusal :=
  onResource n 8 s (fun s => let s := s.advance t; if s.up then (s.cpSlice n bad0 bad1).settle else s)

/-- MISMATCH_SELFTEST_END (13 R366). -/
def execMismatchSelftestEnd (t part : Nat) (bad0 bad1 peerOk : Bool) (s : State) : Host.Outcome State Fault Refusal :=
  let s := s.advance t
  .next (if s.up then (s.mismatchEnd part bad0 bad1 peerOk).settle else s)

/-! ## Loops (08 R217) -/

/-- LOOP_SAMPLE: the postings since the last sample, then the sample, unless they moved or disabled the loop. -/
def execLoopSample (t i lat : Nat) (s : State) : Host.Outcome State Fault Refusal :=
  onResource i 512 s (fun s =>
    let s := s.advance t
    if ¬ s.loopDue i then s
    else
      let s := s.atBoundary (loopOwner i)
      if s.loopDue i then s.loopSampleAt i lat else s)

/-! ## Coupler frames (09 R233, 10 R263, 11 R287, 12 R317, R331) -/

/-- The resource of a point exists. -/
def pointOk : FieldPoint → Bool
  | .ac n => decide (n < 32)
  | .dc n => decide (n < 32)
  | .so n => decide (n < 8)
  | .axis n => decide (n < 4)

/-- The boundary at the start of a frame; in the hold-up nothing is applied (03 R67). -/
def State.frameBoundary (o : Owner) (s : State) : State := if s.up then s.atBoundary o else s

/-- COUPLER_FRAME_OUT: an owner's boundary and its frame, which is discarded where its CRC is wrong. The settings of an analogue
safety pair apply with the frame of its even channel. -/
def execCouplerFrameOut (t : Nat) (p : FrameOut) (s : State) : Host.Outcome State Fault Refusal :=
  if ¬ pointOk p.point then .fault .noSuchResource
  else
    let s := s.advance t
    .next (if ¬ s.framesSent then s
      else match p.point with
      | .ac n =>
        let s := s.frameBoundary (acOwner n)
        (if n % 2 = 0 then s.frameBoundary { kind := .aiPair, index := n / 2 } else s).acFrame n p.bad
      | .dc n => (s.frameBoundary (dcOwner n)).dcFrame n p.bad
      | .so n => (let s := s.frameBoundary (soOwnerBox n); if p.bad then s else s.soFrame n)
      | .axis n => if p.bad then s.axBadFrame n true else s.axFrame n)

/-- The point a frame comes from. -/
def framePoint : FieldFrame → FieldPoint
  | .ac n _ => .ac n
  | .dc n _ => .dc n
  | .so n _ => .so n
  | .axis n _ => .axis n

/-- COUPLER_FRAME_IN: `bad` where its CRC is wrong. -/
def execCouplerFrameIn (t : Nat) (f : FieldFrame) (bad : Bool) (s : State) : Host.Outcome State Fault Refusal :=
  if ¬ pointOk (framePoint f) then .fault .noSuchResource
  else
    let s := s.advance t
    .next (if ¬ (s.power.restoreDone && (s.power.phase == .running || s.power.phase == .holdUp)) then s
      else match f with
      | .ac n m => (s.acFrameIn n bad m).aiPairUpdate (n / 2)
      | .dc n m => s.dcFrameIn n bad m
      | .so n m => s.soFrameIn n bad m
      | .axis n m => s.axFrameIn n bad m)

/-- AXIS_PROFILE_UPDATE (12 R317): the axis's boundary, then the update, on the 50 µs grid of TB0; `m` is what the driver
measures, `bad` the phase a bridge test finds faulty. -/
def execAxisProfileUpdate (t n : Nat) (m : AxMeasure) (bad : Option Nat) (s : State) : Host.Outcome State Fault Refusal :=
  onResource n 4 s (fun s =>
    let s := s.advance t
    if s.up && s.power.restoreDone && s.sv.heartbeat && s.tb0 % 50000 == 0 && ((s.axOf n).stat.isEmpty || decide ((s.axOf n).updT < s.tb0))
    then ((s.atBoundary (axOwner n)).axUpdate n m bad).settle else s)

/-- DEGRADED_BUDGET_EXPIRY (11 R300; 05 R148): the trip, and the end of a single-core continuation. -/
def execDegradedBudgetExpiry (t n : Nat) (s : State) : Host.Outcome State Fault Refusal :=
  onResource n 8 s (fun s =>
    let s := s.advance t
    let x := s.soOf n
    if x.causes = 0 ∨ x.used s.tb0 < s.soBudget n then s
    else ((if x.budgetOut then s else s.soExpire n).singleEnd n).settle)

/-! ## The pair's postings (13 R357) -/

/-- HEARTBEAT (13 R349): what the partner tells; the postings of the redundancy unit whose 50 µs boundary has come are applied. -/
def execHeartbeat (t : Nat) (p : PeerInfo) (s : State) : Host.Outcome State Fault Refusal := .next ((s.advance t).heartbeat p).settle

/-- CONTROL_FRAME. -/
def execControlFrame (t : Nat) (m : CtlMsg) (s : State) : Host.Outcome State Fault Refusal :=
  .next ((s.advance t).controlFrame specOf m)

/-! ## The network cycle (14 R385, R386) -/

/-- A network cycle begins now: at its grid; a realigned one at least a cycle after the last began. -/
def State.netCycleDue (s : State) : Bool :=
  let len := s.param .netCycle 0 * 1000
  let grid : Int := match (if s.net.realignDue then s.gridWanted else s.net.grid) with
    | 0 => s.tb0
    | 1 => s.baseNow 1
    | _ => s.pairTimer
  s.up && onGrid grid 0 len
    && (if s.net.realignDue then decide (s.net.cycleAt + len ≤ s.tb0 + 20) else s.net.cycleAt == 0 || decide (s.net.cycleAt + 40 < s.tb0))

/-- NETWORK_CYCLE_START: the cycle begins; the network's configuration changes apply, and postings that wait for no
boundary of their own. -/
def execNetworkCycleStart (t : Nat) (s : State) : Host.Outcome State Fault Refusal :=
  let s := s.advance t
  .next (if ¬ s.netCycleDue then s
    else
      let s := s.netCycleStart.atBoundary { kind := .network, index := 0 }
      (if s.net.station ≠ s.param .stationId 0 then s.netStation else s).txRun.settle)

/-! ## Pulse generators (14 R410) -/

/-- PG_PULSE_END, the boundary of a generator. -/
def execPgPulseEnd (t k : Nat) (s : State) : Host.Outcome State Fault Refusal :=
  onResource k 8 s (fun s => ((s.advance t).pgPulseEnd k).settle)

/-! ## CAN (15 R428, R430, R433) -/

/-- CAN_FRAME_TRANSMITTED: the frame of buffer `b`, its SOF at `sof`; the end of a frame is the channel's boundary. -/
def execCanFrameTransmitted (t n b sof : Nat) (s : State) : Host.Outcome State Fault Refusal :=
  onResource n 4 s (fun s => ((s.advance t).canSent n b sof).settle)

/-- CAN_ARBITRATION_LOST. -/
def execCanArbitrationLost (t n b : Nat) (s : State) : Host.Outcome State Fault Refusal :=
  onResource n 4 s (fun s => ((s.advance t).canLost n b).settle)

/-- CAN_BUS_ERROR. -/
def execCanBusError (t n : Nat) (e : CanErr) (s : State) : Host.Outcome State Fault Refusal :=
  onResource n 4 s (fun s => ((s.advance t).canError n e).settle)

/-! ## Faults (21 R522, R525) -/

/-- FAULT_MANAGER_DECISION: the oldest drained fault that waits for no self-test. -/
def execFaultManagerDecision (t : Nat) (s : State) : Host.Outcome State Fault Refusal := .next ((s.advance t).faultManager).settle

/-- MEMORY_ECC_ERROR: bank, line and what uses it. -/
def execMemoryEccError (t b line : Nat) (user : MemUser) (s : State) : Host.Outcome State Fault Refusal :=
  onResource b 18 s (fun s => ((s.advance t).memError b line user).settle)

/-! ## The dispatcher's turn (04 R105) -/

/-- An entry is dispatched: an opcode that no command has fails check 2 (04 R105), after the read of its block (R118). -/
def State.dispatchEntry (e : Entry) (s : State) : State :=
  let s := s.started e
  match specOf e.op with
  | some k => k.dispatch e s
  | none => (((s.countDispatched e.cmd.route).touchSession e.cmd).indirectFault e.cmd).complete e (if e.cmd.entryWellFormed then .sUnknownOpcode else .sMalformed) 0 []

/-- COMMAND_DISPATCH. -/
def execCommandDispatch (t : Nat) (s : State) : Host.Outcome State Fault Refusal :=
  let s := s.advance t
  .next (match s.inTurn with
    | some e => s.dispatchEntry e
    | none => s)

end Sys2Proof.Machine
end

