-- ==== Sys2Proof/Machine/Start.lean ====
section
/-! DEFINITION. The start of the module (03 R72, R74, R75), the boot loader and the activation of an update (19 R498, R499). -/

namespace Sys2Proof.Machine

/-! ## The boot loader (19 R499) -/

/-- What the boot loader found: the failed activation (component, reason), the slot abandoned, no slot that verifies, cut short. -/
structure BootFound where
  failed : Option (Nat × Nat) := none
  abandoned : Option Nat := none
  dead : Bool := false
  cut : Bool := false
  deriving DecidableEq, Repr

/-- The reason for which a staged container fails VERIFY: 1 signature or tag, 2 header, 3 rollback; 0 none. -/
def State.verifyReason (s : State) (b : Bytes) : Nat :=
  match s.contCheck Config.moduleKey b true with
  | 0 =>
    let n := contLen b
    let payload := match contKey Config.moduleKey b with
      | some k => gcmOpen k (slice b 28 12) (b.take 48) ((b.drop 128).take (n + 16))
      | none => none
    let whole := b.take (144 + n)
    if payload.isNone then 1
    else if Config.verifySignature Config.imageSigningKey (whole.take 48 ++ List.replicate 64 0 ++ whole.drop 112) (b.drop (144 + n)) then 0 else 1
  | 2 => 1
  | 4 => 3
  | _ => 2

/-- The staged containers of a component mask. -/
def State.stagedIn (s : State) (mask : Nat) : List (Nat × Bytes) := s.upd.chrysalis.filter (fun x => bitOf mask x.1)

/-- The first component that fails VERIFY. -/
def State.verifyStaged (s : State) (mask : Nat) : Option (Nat × Nat) :=
  ((s.stagedIn mask).map (fun x => (x.1, s.verifyReason x.2))).find? (fun x => x.2 != 0)

/-- INSTALL: the target slot holds the active slot's components with the staged ones in their places. -/
def State.install (b : BootRecord) (s : State) : State :=
  let new := (s.stagedIn b.mask).foldl (fun l x => compPut x.1 x.2 l) (s.slotSet s.upd.active)
  { s with upd := { s.upd with slotA := if b.slot = 0 then new else s.upd.slotA, slotB := if b.slot = 0 then s.upd.slotB else new } }

/-- A trial start from the new slot, or the way back after the third. -/
def State.trial (b : BootRecord) (s : State) : State × Option (Nat × Nat) :=
  if 3 ≤ b.trials then
    (({ s with upd := { s.upd with active := 1 - b.slot } } : State).setBoot {}, some (0, 4))
  else (({ s with upd := { s.upd with active := b.slot } } : State).setBoot { b with state := 5, trials := b.trials + 1 }, none)

/-- The activation in progress runs on; `cut` ends the start in VERIFY (1), INSTALL (2) or before the new record of SWITCH stands (3). -/
def State.activation (cut : Nat) (s : State) : State × BootFound :=
  let b := s.bootRec
  let installs := fun (s : State) =>
    if cut = 2 then (s, ({ cut := true } : BootFound))
    else
      let s := s.install b
      if cut = 3 then (s, { cut := true })
      else
        let r := s.trial { b with trials := 0 }
        (r.1, { failed := r.2 })
  match b.state with
  | 2 =>
    if cut = 1 then (s, { cut := true })
    else match s.verifyStaged b.mask with
      | some f => (s.setBoot {}, { failed := some f })
      | none => installs (s.setBoot { b with state := 3 })
  | 3 => installs s
  | 4 => let r := s.trial { b with trials := 0 }; (r.1, { failed := r.2 })
  | 5 => let r := s.trial b; (r.1, { failed := r.2 })
  | _ => (s, {})

/-- The slot that verifies: the active one, or the other; `bad` lists the slots that do not. -/
def State.bootSlot (bad : List Nat) (x : State × BootFound) : State × BootFound :=
  let (s, f) := x
  let k := s.upd.active
  if f.cut ∨ bad.contains k = false then x
  else if bad.contains (1 - k) then (s, { f with dead := true })
  else ({ s with upd := { s.upd with active := 1 - k } }, { f with abandoned := some k })

/-! ## Restore from the cocoon (03 R70 to R72) -/

/-- Copies whose payload CRC does not match any more, by section and buffer. -/
def Sec.spoil {α : Type} (bad : List (Nat × Bool)) (k : Nat) (x : Sec α) : Sec α :=
  let f := fun (b : Bool) (c : Option (Copy α)) => if bad.contains (k, b) then c.map (fun c => { c with crcOk := false }) else c
  { x with a := f false x.a, b := f true x.b }

/-- The same over every section by its row of R71, and the boot record as 10. -/
def State.spoil (bad : List (Nat × Bool)) (s : State) : State :=
  let c := s.cocoon
  { s with
    cocoon := { header := c.header.spoil bad 0, config := c.config.spoil bad 1, retirement := c.retirement.spoil bad 2,
                credentials := c.credentials.spoil bad 3, safetyLog := c.safetyLog.spoil bad 4, retain := c.retain.spoil bad 5,
                axisState := c.axisState.spoil bad 6, recorder := c.recorder.spoil bad 7, panel := c.panel.spoil bad 8,
                safety := c.safety.spoil bad 9 },
    upd := { s.upd with boot := s.upd.boot.spoil bad 10 } }

/-- The payload of a section's valid copy. -/
def Sec.payload {α : Type} (x : Sec α) : Option α := x.newest.map (·.payload)

/-- The header copy that the firmware accepts. -/
def Cocoon.head (c : Cocoon) : Option HeaderData :=
  match c.header.payload with
  | some h => if h.format = configFormat then some h else none
  | none => none

/-- The Configuration copy in a format that the firmware accepts. -/
def Cocoon.settings (c : Cocoon) : Option Settings :=
  match c.config.payload with
  | some x => if x.format = configFormat then some x else none
  | none => none

/-- The row of R71 that makes the cocoon invalid (R72). -/
def Cocoon.fault (c : Cocoon) : Option Nat :=
  if c.head.isNone then some 0 else if c.settings.isNone then some 1 else if c.retirement.payload.isNone then some 2 else none

/-- The power epoch of this start (R72; R74, step 6). -/
def State.nextEpoch (s : State) : Nat :=
  let h := match s.cocoon.header.payload with | some h => h.epoch | none => 0
  ((if s.cocoon.fault.isSome then max h s.power.lastCauseEpoch else h) + 1) % 2 ^ 32

/-- The header payload of a commit at this start. -/
def headerOf (epoch recSeq : Nat) : HeaderData := { serial := Config.serialNumber, epoch := epoch, recSeq := recSeq }

/-- The counter that the recorder resumes at (18 R477) under the new epoch; `had` is the Header that the start found. -/
def State.recResume (had : Option HeaderData) (s : State) : RecStore :=
  match s.cocoon.recorder.payload with
  | some r =>
    let n := if r.orderly = some (s.power.epoch - 1) then r.seq else r.seq + 32768
    { r with seq := n % 2 ^ 48, slots := r.slots.map Slot.restored, orderly := none }
  | none =>
    match had with
    | some h => { seq := (h.recSeq + 2 ^ 40) % 2 ^ 48 }
    | none => {}

/-- The highest fault instant of a Retirement section (21 R521). -/
def RetireStore.highest (x : RetireStore) : Nat :=
  x.hist.foldl (fun m h => h.times.foldl max m) (x.retired.foldl (fun m r => max m r.time) 0)

/-- Step 7: the sections are read, the recorder resumes, and the Header is committed a second time; after an invalid cocoon the
Factory Configuration and an empty Retirement section are committed as well (R72). `bad` and `had` are the invalid row and the
Header that the start found before step 6. -/
def State.restore (bad : Option Nat) (had : Option HeaderData) (s : State) : State :=
  let k := s.cocoon
  let s : State := { s with
    cfg := if bad.isSome then {} else k.settings.getD {},
    faults := { store := if bad.isSome then {} else k.retirement.payload.getD {} },
    cred := k.credentials.payload.getD {},
    safeLog := k.safetyLog.payload.getD { lost := true },
    recorder := { store := s.recResume had } }
  let s : State := { s with faults := { s.faults with base := s.faults.store.highest }, recorder := { s.recorder with committedSeq := s.recorder.store.seq } }
  let s := s.avoidBanks
  let c := s.cocoon
  { s with
    power := { s.power with cocoonValid := bad.isNone, restoreDone := true },
    cocoon := { c with
      header := c.header.now (headerOf s.power.epoch s.recorder.store.seq),
      config := if bad.isSome then c.config.now {} else c.config,
      retirement := if bad.isSome then c.retirement.now {} else c.retirement } }

/-! ## Step 8 and 9: the resources -/

/-- A user unit takes the role of a RETIRED one, as it did before the reset (16 R454). -/
def State.cuReplay (k : FaultKey) (s : State) : State :=
  let u := k.index
  let role := s.cuRole u
  let s := s.setCu u { retired := true }
  match role with
  | none => s
  | some r =>
    match [7, 6, 5, 4, 3].find? (fun u => !(s.cuOf u).retired && (s.cuOf u).role.isNone) with
    | some m => s.setCu m { role := some r, taken := (s.cuOf m).taken ++ [r] }
    | none => s

/-- RETIRED resources that no channel state says are so. -/
def State.retiredStart (s : State) : State :=
  s.faults.store.retired.foldl (fun (s : State) r =>
    match r.key.cls with
    | 4 => s.setCp r.key.index { retired := true }
    | 5 => s.setPort r.key.index { retired := true }
    | 6 => s.setModem r.key.index { retired := true }
    | 10 => s.cuReplay r.key
    | _ => s) s

/-- A CAN channel at the start: an enabled one makes the loopback test of 15 R442, whose outcome is the transceiver's (a free value,
notes/assumptions/35.md). -/
def State.canStart (n : Nat) (s : State) : State :=
  let on := s.param .canEn n == 1 && !s.isRetired (canKey n)
  let s := s.setCan n { st := if s.isRetired (canKey n) then .retired else if s.param .canEn n = 1 then .integrating else .disabled }
  if ¬ on then s else if bitOf s.drawn.toNat 0 then s.afterDraw else s.afterDraw.canFault n 2

/-- A loop at the start: its previous output is `OUT_SAFE` (08 R224); one in a RETIRED bank is out of service (21 R525). -/
def State.loopStart (i : Nat) (s : State) : State :=
  if s.param .loopEn i ≠ 1 then s
  else
    let s := s.setLoop i { out := s.param .loopOutSafe i }
    if [10, 11, 12, 13].any (fun b => s.isRetired (memKey b) && Config.loopIn b i) then s.loopMemory i else s

/-- A task whose run state was running (R74, step 9): it starts, or is halted where what it needs is RETIRED. -/
def State.taskResume (i : Nat) (s : State) : State :=
  if s.param .taskRunState i ≠ 1 ∨ ¬ s.taskExists i then s
  else if (s.taskCp i).retired ∨ s.usesRetired i then s.taskHalt i
  else (s.setTask i { state := .starting }).post .control .eTaskStarted (taskRes i) i

/-- Field channels and outputs hold their configured safe states; one side without its supply has none (R74, step 8). -/
def State.fieldStart (s : State) : State :=
  let s := s.each State.acStart (List.range 32)
  let s := if Tab.get (fun _ => false) s.power.failFlags 2 then s.each State.acPowerLoss (List.range 32) else s
  let s := s.each State.dcStart (List.range 32)
  let s := s.each (State.soStart s.cocoon.safety.payload) (List.range 8)
  let s := if s.sv.fsFail then s.svAll 4 6 else s
  let s := if s.sv.overtemp then s.svAll 5 2 else s
  s.each (State.axBegin s.cocoon.axisState.payload) (List.range 4)

/-- A module with `PAIR_EN` 1 searches its partner (13 R345), and drives no field output meanwhile (13 R347;
notes/assumptions/111.md). -/
def State.pairStart (s : State) : State :=
  if s.param .pairEn 0 ≠ 1 then s
  else { s with pair := { s.pair with st := .searching, searchAt := s.tb0, epoch := s.cfg.pairEpoch } }

/-- Ports, bases and generators (R74, step 9). -/
def State.netStart (s : State) : State :=
  let s : State := { s with
    net := { s.net with station := s.param .stationId 0, grid := if s.paired then 2 else 0 },
    upd := { s.upd with ip := s.param .svcIp 0 },
    pair := { s.pair with compat := (List.range 8).map (fun k => contScc (s.headerIn s.upd.active (k + 1))) } }
  ((s.each State.canStart (List.range 4)).each State.skipperLeads (List.range 4)).each State.pgStart (List.range 8)

/-- The store holds its initial contents and the RETAIN values of the last commit (R71, R80). -/
def State.storeStart (s : State) : State :=
  let s : State := { s with prog := { s.prog with store := s.initialStore, requests := [], retained := [] } }
  (match s.cocoon.retain.payload with
  | some p => s.retainLoad p
  | none => s).retainTake (fun _ => true)

/-- The backup domain's counts move to the new TB0; `gap` ns pass between the last command and TB0 = 0. -/
def State.rtcRebase (gap : Nat) (s : State) : State :=
  let z := s.tb0 + gap
  let back := fun (x : Option (Int × CalRegs)) => x.map (fun (y : Int × CalRegs) => ((y.1 - (z : Int), y.2) : Int × CalRegs))
  let n := ({ s with tb0 := z } : State).rtcTicks
  { s with rtc := { s.rtc with tick0 := n, at0 := 0, halt := back s.rtc.halt, frozen := back s.rtc.frozen } }

/-- The supplies that stand beyond a threshold of R60 as the module starts are recorded: nothing told of them before. -/
def State.suppliesTold (s : State) : State :=
  s.each (fun k s =>
    let mv := s.supplyMv k
    if k = 3 ∨ k = 4 then s.fdTold (k - 3) mv
    else
      let s := if Tab.get (fun _ => false) s.power.warnFlags k then s.tellSupply (supplyWarning k mv) else s
      if Tab.get (fun _ => false) s.power.failFlags k then s.tellSupply (supplyLost (s.param .logicDualFeed 0 != 0) k mv) else s) (List.range 8)

/-- What the start records. -/
def State.startEvents (f : BootFound) (invalid : Option Nat) (lost : Bool) (s : State) : State :=
  let s := s.tellReset
  let s := s.postIf (s.power.lastCause == 0x10) .management .fPllLock modRes s.power.pllFailed
  let s := match f.abandoned with | some k => s.post .management .fBootSlot updRes k | none => s
  let s := match f.failed with
    | some (c, r) =>
      ({ s with upd := { s.upd with outcome := (Code.fUpdActivationFailed.num, c, r, s.power.epoch) } } : State).post .management
        .fUpdActivationFailed updRes (c * 65536 + r)
    | none => s
  let s := match invalid with | some k => s.post .management .fCocoonInvalid modRes k | none => s
  let s := s.postIf lost .management .fRecHistoryLost { cls := 0x0F, index := 0 } 0
  let s := s.postIf s.cocoon.retain.payload.isNone .management .fRetainLost modRes 0
  let s := s.postIf (s.prog.lostForces != 0) .control .eForcesCleared { cls := 0x03, index := 0 } s.prog.lostForces
  let s := match s.power.loaded with
    | some q => ({ s with power := { s.power with loaded := none } } : State).post .management .eConfigLoaded modRes q
    | none => s
  s.beMissed.lostMissed.suppliesTold

/-- Steps 7 to 9, to the instant at which the module runs. -/
def State.startRun (t : Nat) (f : BootFound) (idMem : Option Bytes) (invalid : Option Nat) (had : Option HeaderData) (s : State) : State :=
  let lost := s.cocoon.recorder.payload.isNone
  let s := s.restore invalid had
  let s : State := { s with
    tb0 := t, panel := { s.panel with idMem := idMem },
    power := { s.power with phase := .running, mgmtUp := true, startedAt := t, railsOk := [],
                            lastCause := if s.power.lastCause = 0 then 0x01 else s.power.lastCause } }
  let s := (s.startEvents f invalid lost).storeStart.retiredStart.pairStart.fieldStart
  let s := s.each State.loopStart (List.range 512)
  let s := (s.netStart.each State.taskResume (List.range 16)).panelReset.panelCheck
  let s := if s.updScheduled && s.bootRec.base == 3 && !s.bootRec.immediate && s.baseValid 3 && decide (s.bootRec.instant ≤ s.baseNow 3)
    then s.updCancel 2 else s
  ({ s with prog := { s.prog with lostForces := 0 } } : State).setReady

/-- The Header's commit of step 6 under the new epoch. -/
def State.stepSix (s : State) : State :=
  let e := s.nextEpoch
  let n := match s.cocoon.header.payload with | some h => h.recSeq | none => 0
  { s with power := { s.power with epoch := e }, cocoon := { s.cocoon with header := s.cocoon.header.now (headerOf e n) } }

/-- A start that a reset cuts short: the module is held again, with the cause in the reset record. -/
def State.startCut (t : Nat) (cause : Option Nat) (s : State) : State :=
  let c := match cause with | some c => c | none => 0x01
  { s with tb0 := t, cocoon := s.cocoon.cut, power := { s.power with
    phase := .heldReset, pllAttempts := [], lastCause := c, lastCauseEpoch := s.power.epoch } }

/-- The Header's commit of step 6 or 7 has begun, and its mark is not written. -/
def State.headerBegun (h : HeaderData) (s : State) : State := { s with cocoon := { s.cocoon with header := s.cocoon.header.begin h } }

/-- The module starts (R74). `cut` names where a reset ends the start and its cause: 0 before the boot loader, 1 VERIFY, 2 INSTALL,
3 SWITCH, 4 after the boot loader, 5 in the Header commit of step 6, 6 after it, 7 in that of step 7. -/
def State.moduleStart (t gap : Nat) (bad : List Nat) (crc : List (Nat × Bool)) (idMem : Option Bytes) (cut : Option (Nat × Option Nat))
    (s : State) : State :=
  if s.power.phase ≠ .heldReset ∧ s.power.phase ≠ .pllHeld then s
  else
    let s := (s.rtcRebase gap).spoil crc
    let (at0, cause) := match cut with | some (k, c) => (k, c) | none => (8, none)
    if at0 = 0 then s.startCut t cause
    else
      let (s, f) := State.bootSlot bad (s.activation at0)
      if f.cut then s.startCut t cause
      else if f.dead then { s with tb0 := t }
      else if at0 ≤ 4 then s.startCut t cause
      else if at0 = 5 then
        (s.headerBegun (headerOf s.nextEpoch 0)).startCut t cause
      else
        let valid := s.cocoon.fault
        let had := s.cocoon.header.payload
        let s := s.stepSix
        if at0 = 6 then s.startCut t cause
        else if at0 = 7 then (s.headerBegun (headerOf s.power.epoch 0)).startCut t cause
        else s.startRun t f idMem valid had

/-- MODULE_START. -/
def execModuleStart (t gap : Nat) (bad : List Nat) (crc : List (Nat × Bool)) (idMem : Option Bytes) (cut : Option (Nat × Option Nat))
    (s : State) : Host.Outcome State Fault Refusal := .next (s.moduleStart t gap bad crc idMem cut)

/-! ## Activation (19 R498, R499) -/

/-- The scheduled instant (R498): the module resets with commit first and the boot loader takes over; in a pair the STANDBY alone
does so at the instant (R500; 13 R370). -/
def State.activationInstant (s : State) : State :=
  let b := s.bootRec
  let may := !s.paired || s.pair.st == .standby
  if ¬ s.up ∨ b.state ≠ 1 then s
  else if b.immediate then
    (if may || s.pair.st == .active then (s.setBoot { b with state := 2 }).moduleReset 0x0A true else s)
  else if ¬ may ∨ s.baseNow b.base < b.instant then s
  else if ¬ s.updBaseOk b.base then s.updCancel 1
  else if b.instant < s.baseAt b.base s.power.startedAt then s.updCancel 2
  else (s.setBoot { b with state := 2, takes := s.paired }).moduleReset 0x0A true

/-- UPD_ACTIVATION_INSTANT. -/
def execUpdActivationInstant (t : Nat) (s : State) : Host.Outcome State Fault Refusal := .next (s.advance t).activationInstant

/-- 10 s after a trial start without a fault of severity 7 (R499): the counters rise, the staged containers go. -/
def State.trialConfirm (s : State) : State :=
  let b := s.bootRec
  let till := s.power.startedAt + 10000000000
  let bad := match s.faults.sev7 with | some a => decide (a ≤ till) | none => false
  if ¬ s.up ∨ b.state ≠ 5 ∨ s.upd.active ≠ b.slot ∨ s.tb0 < till ∨ bad = true then s
  else
    let l := s.stagedIn b.mask
    let s : State := { s with upd := { s.upd with
      arb := l.foldl (fun t x => Tab.put (fun _ => 0) t x.1 (max (s.arbOf x.1) (contArb x.2))) s.upd.arb,
      chrysalis := s.upd.chrysalis.filter (fun x => !(bitOf b.mask x.1)),
      outcome := (Code.eUpdActivated.num, 0, 0, s.power.epoch) } }
    l.foldl (fun (s : State) x => s.post .management .eUpdActivated updRes (x.1 * 65536 + contVersion x.2 % 65536)) (s.setBoot { takes := b.takes })

/-- UPD_TRIAL_CONFIRM. -/
def execUpdTrialConfirm (t : Nat) (s : State) : Host.Outcome State Fault Refusal := .next (s.advance t).trialConfirm

end Sys2Proof.Machine
end

