-- ==== Sys2Proof/Machine/Dispatch.lean ====
section
/-! DEFINITION. One arm per command: its meaning. -/

namespace Sys2Proof.Machine

/-- The effect of a command on everything but the queue. -/
def exec (i : Instr) (s : State) : Host.Outcome State Fault Refusal :=
  match i with
  | .modReset t c => Sys2Proof.Machine.execModReset t c s
  | .modCommit t c => Sys2Proof.Machine.execModCommit t c s
  | .modFactory t c => Sys2Proof.Machine.execModFactory t c s
  | .modPowerStatus t c => Sys2Proof.Machine.execModPowerStatus t c s
  | .modSetPower t c => Sys2Proof.Machine.execModSetPower t c s
  | .modConfigSave t c => Sys2Proof.Machine.execModConfigSave t c s
  | .modConfigLoad t c => Sys2Proof.Machine.execModConfigLoad t c s
  | .modIdentify t c => Sys2Proof.Machine.execModIdentify t c s
  | .modNop t c => Sys2Proof.Machine.execModNop t c s
  | .modAbort t c => Sys2Proof.Machine.execModAbort t c s
  | .modSetEventFilter t c => Sys2Proof.Machine.execModSetEventFilter t c s
  | .modSessionClose t c => Sys2Proof.Machine.execModSessionClose t c s
  | .modProvisionKey t c => Sys2Proof.Machine.execModProvisionKey t c s
  | .taskConfigure t c => Sys2Proof.Machine.execTaskConfigure t c s
  | .taskStart t c => Sys2Proof.Machine.execTaskStart t c s
  | .taskStop t c => Sys2Proof.Machine.execTaskStop t c s
  | .taskStatus t c => Sys2Proof.Machine.execTaskStatus t c s
  | .taskSetImage t c => Sys2Proof.Machine.execTaskSetImage t c s
  | .taskSetSubstitute t c => Sys2Proof.Machine.execTaskSetSubstitute t c s
  | .taskSetPair t c => Sys2Proof.Machine.execTaskSetPair t c s
  | .taskSelftest t c => Sys2Proof.Machine.execTaskSelftest t c s
  | .taskBudget t c => Sys2Proof.Machine.execTaskBudget t c s
  | .taskProgLoad t c => Sys2Proof.Machine.execTaskProgLoad t c s
  | .taskProgWrite t c => Sys2Proof.Machine.execTaskProgWrite t c s
  | .taskProgCheck t c => Sys2Proof.Machine.execTaskProgCheck t c s
  | .taskProgExchange t c => Sys2Proof.Machine.execTaskProgExchange t c s
  | .taskProgStatus t c => Sys2Proof.Machine.execTaskProgStatus t c s
  | .taskProgErase t c => Sys2Proof.Machine.execTaskProgErase t c s
  | .taskProgRead t c => Sys2Proof.Machine.execTaskProgRead t c s
  | .varForce t c => Sys2Proof.Machine.execVarForce t c s
  | .varRelease t c => Sys2Proof.Machine.execVarRelease t c s
  | .varReleaseAll t c => Sys2Proof.Machine.execVarReleaseAll t c s
  | .varList t c => Sys2Proof.Machine.execVarList t c s
  | .varSetLimit t c => Sys2Proof.Machine.execVarSetLimit t c s
  | .acConfigure t c => Sys2Proof.Machine.execAcConfigure t c s
  | .acSetService t c => Sys2Proof.Machine.execAcSetService t c s
  | .acTestOutput t c => Sys2Proof.Machine.execAcTestOutput t c s
  | .acCalibrate t c => Sys2Proof.Machine.execAcCalibrate t c s
  | .acSelftest t c => Sys2Proof.Machine.execAcSelftest t c s
  | .acStatus t c => Sys2Proof.Machine.execAcStatus t c s
  | .acHartConfig t c => Sys2Proof.Machine.execAcHartConfig t c s
  | .acHartPass t c => Sys2Proof.Machine.execAcHartPass t c s
  | .acHartBurst t c => Sys2Proof.Machine.execAcHartBurst t c s
  | .dcConfigure t c => Sys2Proof.Machine.execDcConfigure t c s
  | .dcSetService t c => Sys2Proof.Machine.execDcSetService t c s
  | .dcTestOutput t c => Sys2Proof.Machine.execDcTestOutput t c s
  | .dcAck t c => Sys2Proof.Machine.execDcAck t c s
  | .dcSelftest t c => Sys2Proof.Machine.execDcSelftest t c s
  | .dcStatus t c => Sys2Proof.Machine.execDcStatus t c s
  | .dcSetLegacy t c => Sys2Proof.Machine.execDcSetLegacy t c s
  | .safeSoConfigure t c => Sys2Proof.Machine.execSafeSoConfigure t c s
  | .safeAck t c => Sys2Proof.Machine.execSafeAck t c s
  | .safeSoTest t c => Sys2Proof.Machine.execSafeSoTest t c s
  | .safeStatus t c => Sys2Proof.Machine.execSafeStatus t c s
  | .safeSessionOpen t c => Sys2Proof.Machine.execSafeSessionOpen t c s
  | .safeSessionClose t c => Sys2Proof.Machine.execSafeSessionClose t c s
  | .safeSetPassword t c => Sys2Proof.Machine.execSafeSetPassword t c s
  | .safeLogRead t c => Sys2Proof.Machine.execSafeLogRead t c s
  | .safeLogAck t c => Sys2Proof.Machine.execSafeLogAck t c s
  | .safeAiPair t c => Sys2Proof.Machine.execSafeAiPair t c s
  | .safeConn t c => Sys2Proof.Machine.execSafeConn t c s
  | .safeBudgetReset t c => Sys2Proof.Machine.execSafeBudgetReset t c s
  | .loopConfigure t c => Sys2Proof.Machine.execLoopConfigure t c s
  | .loopSetCoeff t c => Sys2Proof.Machine.execLoopSetCoeff t c s
  | .loopSetMode t c => Sys2Proof.Machine.execLoopSetMode t c s
  | .loopSetSp t c => Sys2Proof.Machine.execLoopSetSp t c s
  | .loopSetManual t c => Sys2Proof.Machine.execLoopSetManual t c s
  | .loopSetLimits t c => Sys2Proof.Machine.execLoopSetLimits t c s
  | .loopStatus t c => Sys2Proof.Machine.execLoopStatus t c s
  | .axisConfigure t c => Sys2Proof.Machine.execAxisConfigure t c s
  | .axisMove t c => Sys2Proof.Machine.execAxisMove t c s
  | .axisStop t c => Sys2Proof.Machine.execAxisStop t c s
  | .axisHome t c => Sys2Proof.Machine.execAxisHome t c s
  | .axisPark t c => Sys2Proof.Machine.execAxisPark t c s
  | .axisEnable t c => Sys2Proof.Machine.execAxisEnable t c s
  | .axisSegLoad t c => Sys2Proof.Machine.execAxisSegLoad t c s
  | .axisSegStart t c => Sys2Proof.Machine.execAxisSegStart t c s
  | .axisStatus t c => Sys2Proof.Machine.execAxisStatus t c s
  | .axisTest t c => Sys2Proof.Machine.execAxisTest t c s
  | .axisSetHome t c => Sys2Proof.Machine.execAxisSetHome t c s
  | .pairConfigure t c => Sys2Proof.Machine.execPairConfigure t c s
  | .pairSetAgree t c => Sys2Proof.Machine.execPairSetAgree t c s
  | .pairSwitchover t c => Sys2Proof.Machine.execPairSwitchover t c s
  | .pairJoin t c => Sys2Proof.Machine.execPairJoin t c s
  | .pairLeave t c => Sys2Proof.Machine.execPairLeave t c s
  | .pairStatus t c => Sys2Proof.Machine.execPairStatus t c s
  | .pairLinkTest t c => Sys2Proof.Machine.execPairLinkTest t c s
  | .netConfigure t c => Sys2Proof.Machine.execNetConfigure t c s
  | .netSetStation t c => Sys2Proof.Machine.execNetSetStation t c s
  | .netProduce t c => Sys2Proof.Machine.execNetProduce t c s
  | .netConsume t c => Sys2Proof.Machine.execNetConsume t c s
  | .netPort t c => Sys2Proof.Machine.execNetPort t c s
  | .netStatus t c => Sys2Proof.Machine.execNetStatus t c s
  | .netConnStatus t c => Sys2Proof.Machine.execNetConnStatus t c s
  | .timeRead t c => Sys2Proof.Machine.execTimeRead t c s
  | .timeConfigure t c => Sys2Proof.Machine.execTimeConfigure t c s
  | .timeRestep t c => Sys2Proof.Machine.execTimeRestep t c s
  | .timeStatus t c => Sys2Proof.Machine.execTimeStatus t c s
  | .timePgConfigure t c => Sys2Proof.Machine.execTimePgConfigure t c s
  | .timePiConfigure t c => Sys2Proof.Machine.execTimePiConfigure t c s
  | .timePiSetCount t c => Sys2Proof.Machine.execTimePiSetCount t c s
  | .canConfigure t c => Sys2Proof.Machine.execCanConfigure t c s
  | .canFilter t c => Sys2Proof.Machine.execCanFilter t c s
  | .canSend t c => Sys2Proof.Machine.execCanSend t c s
  | .canCancel t c => Sys2Proof.Machine.execCanCancel t c s
  | .canRecover t c => Sys2Proof.Machine.execCanRecover t c s
  | .canRead t c => Sys2Proof.Machine.execCanRead t c s
  | .canStatus t c => Sys2Proof.Machine.execCanStatus t c s
  | .canSelftest t c => Sys2Proof.Machine.execCanSelftest t c s
  | .cuConfigure t c => Sys2Proof.Machine.execCuConfigure t c s
  | .cuReadValue t c => Sys2Proof.Machine.execCuReadValue t c s
  | .cuWriteValue t c => Sys2Proof.Machine.execCuWriteValue t c s
  | .cuStatus t c => Sys2Proof.Machine.execCuStatus t c s
  | .cuSelftest t c => Sys2Proof.Machine.execCuSelftest t c s
  | .rtcRead t c => Sys2Proof.Machine.execRtcRead t c s
  | .rtcSet t c => Sys2Proof.Machine.execRtcSet t c s
  | .rtcTrim t c => Sys2Proof.Machine.execRtcTrim t c s
  | .rtcBeConfigure t c => Sys2Proof.Machine.execRtcBeConfigure t c s
  | .rtcBeRead t c => Sys2Proof.Machine.execRtcBeRead t c s
  | .rtcBeClear t c => Sys2Proof.Machine.execRtcBeClear t c s
  | .rtcStatus t c => Sys2Proof.Machine.execRtcStatus t c s
  | .recRead t c => Sys2Proof.Machine.execRecRead t c s
  | .recDump t c => Sys2Proof.Machine.execRecDump t c s
  | .recSlots t c => Sys2Proof.Machine.execRecSlots t c s
  | .recClose t c => Sys2Proof.Machine.execRecClose t c s
  | .recClear t c => Sys2Proof.Machine.execRecClear t c s
  | .recSetCode t c => Sys2Proof.Machine.execRecSetCode t c s
  | .recSetClose t c => Sys2Proof.Machine.execRecSetClose t c s
  | .recStatus t c => Sys2Proof.Machine.execRecStatus t c s
  | .recCodes t c => Sys2Proof.Machine.execRecCodes t c s
  | .updStage t c => Sys2Proof.Machine.execUpdStage t c s
  | .updList t c => Sys2Proof.Machine.execUpdList t c s
  | .updDiscard t c => Sys2Proof.Machine.execUpdDiscard t c s
  | .updActivate t c => Sys2Proof.Machine.execUpdActivate t c s
  | .updCancel t c => Sys2Proof.Machine.execUpdCancel t c s
  | .updStatus t c => Sys2Proof.Machine.execUpdStatus t c s
  | .updSetService t c => Sys2Proof.Machine.execUpdSetService t c s
  | .panelConfigure t c => Sys2Proof.Machine.execPanelConfigure t c s
  | .panelRegion t c => Sys2Proof.Machine.execPanelRegion t c s
  | .panelFrame t c => Sys2Proof.Machine.execPanelFrame t c s
  | .panelPatch t c => Sys2Proof.Machine.execPanelPatch t c s
  | .panelLoadTable t c => Sys2Proof.Machine.execPanelLoadTable t c s
  | .panelSetPower t c => Sys2Proof.Machine.execPanelSetPower t c s
  | .panelClear t c => Sys2Proof.Machine.execPanelClear t c s
  | .panelStatus t c => Sys2Proof.Machine.execPanelStatus t c s
  | .fltReinstate t c => Sys2Proof.Machine.execFltReinstate t c s
  | .fltSetPolicy t c => Sys2Proof.Machine.execFltSetPolicy t c s
  | .fltStatus t c => Sys2Proof.Machine.execFltStatus t c s
  | .modResetReg t v => Sys2Proof.Machine.execModResetReg t v s
  | .dbSqTail t v => Sys2Proof.Machine.execDbSqTail t v s
  | .dbCqHead t v => Sys2Proof.Machine.execDbCqHead t v s
  | .dbEqHead t v => Sys2Proof.Machine.execDbEqHead t v s
  | .dbBulkTail t k v => Sys2Proof.Machine.execDbBulkTail t k v s
  | .sqEn t on => Sys2Proof.Machine.execSqEn t on s
  | .cqEn t on => Sys2Proof.Machine.execCqEn t on s
  | .eqEn t on => Sys2Proof.Machine.execEqEn t on s
  | .bulkEn t k on => Sys2Proof.Machine.execBulkEn t k on s
  | .ringFaultClear t v => Sys2Proof.Machine.execRingFaultClear t v s
  | .rtcHalt t value => Sys2Proof.Machine.execRtcHalt t value s
  | .rtcHaltRelease t value => Sys2Proof.Machine.execRtcHaltRelease t value s
  | .calSubsecRead t => Sys2Proof.Machine.execCalSubsecRead t s
  | .calDateRead t => Sys2Proof.Machine.execCalDateRead t s
  | .beClearBit t n value => Sys2Proof.Machine.execBeClearBit t n value s
  | .beStampLoRead t n last => Sys2Proof.Machine.execBeStampLoRead t n last s
  | .registerWrite t offset v => Sys2Proof.Machine.execRegisterWrite t offset v s
  | .perst t => Sys2Proof.Machine.execPerst t s
  | .sqFetch t rd block wf => Sys2Proof.Machine.execSqFetch t rd block wf s
  | .commandDispatch t => Sys2Proof.Machine.execCommandDispatch t s
  | .cqCoalesceTimeout t => Sys2Proof.Machine.execCqCoalesceTimeout t s
  | .bulkEntry t k rd wf => Sys2Proof.Machine.execBulkEntry t k rd wf s
  | .mgmtOpenRequest t => Sys2Proof.Machine.execMgmtOpenRequest t s
  | .mgmtMessage t => Sys2Proof.Machine.execMgmtMessage t s
  | .mgmtCloseMessage t => Sys2Proof.Machine.execMgmtCloseMessage t s
  | .mgmtSessionIdle t id => Sys2Proof.Machine.execMgmtSessionIdle t id s
  | .xsTcpConnect t ip => Sys2Proof.Machine.execXsTcpConnect t ip s
  | .hello t b => Sys2Proof.Machine.execHello t b s
  | .finish t b => Sys2Proof.Machine.execFinish t b s
  | .ivpastoCommandRecord t b => Sys2Proof.Machine.execIvpastoCommandRecord t b s
  | .ivpastoContainerRecord t b => Sys2Proof.Machine.execIvpastoContainerRecord t b s
  | .ivpastoCloseRecord t b => Sys2Proof.Machine.execIvpastoCloseRecord t b s
  | .ivpastoIdleTimeout t => Sys2Proof.Machine.execIvpastoIdleTimeout t s
  | .xsLinkDrop t => Sys2Proof.Machine.execXsLinkDrop t s
  | .supplyWarning t k mv => Sys2Proof.Machine.execSupplyWarning t k mv s
  | .logicSupplyFail t k mv => Sys2Proof.Machine.execLogicSupplyFail t k mv s
  | .logicSupplyRecovery t k mv => Sys2Proof.Machine.execLogicSupplyRecovery t k mv s
  | .powerFailWarning t cycles => Sys2Proof.Machine.execPowerFailWarning t cycles s
  | .powerFailCommitEnd t => Sys2Proof.Machine.execPowerFailCommitEnd t s
  | .faFail t mv => Sys2Proof.Machine.execFaFail t mv s
  | .faRecovery t mv => Sys2Proof.Machine.execFaRecovery t mv s
  | .fsFail t mv => Sys2Proof.Machine.execFsFail t mv s
  | .fsRecovery t mv => Sys2Proof.Machine.execFsRecovery t mv s
  | .fmFail t mv => Sys2Proof.Machine.execFmFail t mv s
  | .fmRecovery t mv => Sys2Proof.Machine.execFmRecovery t mv s
  | .railBrownOut t k => Sys2Proof.Machine.execRailBrownOut t k s
  | .vcoreMarginLost t => Sys2Proof.Machine.execVcoreMarginLost t s
  | .vcoreStepDown t => Sys2Proof.Machine.execVcoreStepDown t s
  | .pllLockTimeout t k => Sys2Proof.Machine.execPllLockTimeout t k s
  | .svClockFault t => Sys2Proof.Machine.execSvClockFault t s
  | .schedulerHeartbeatMissing t => Sys2Proof.Machine.execSchedulerHeartbeatMissing t s
  | .managementWatchdog t => Sys2Proof.Machine.execManagementWatchdog t s
  | .managementLockstepError t => Sys2Proof.Machine.execManagementLockstepError t s
  | .moduleStart t gap bad crc idMem cut => Sys2Proof.Machine.execModuleStart t gap bad crc idMem cut s
  | .resetButtonRelease t ms => Sys2Proof.Machine.execResetButtonRelease t ms s
  | .resetButtonStuck t => Sys2Proof.Machine.execResetButtonStuck t s
  | .cocoonCommitEnd t k mism => Sys2Proof.Machine.execCocoonCommitEnd t k mism s
  | .retainPeriodicCommit t => Sys2Proof.Machine.execRetainPeriodicCommit t s
  | .taskRelease t n => Sys2Proof.Machine.execTaskRelease t n s
  | .executionEnd t n exec ranges mism => Sys2Proof.Machine.execExecutionEnd t n exec ranges mism s
  | .taskDeadline t n left => Sys2Proof.Machine.execTaskDeadline t n left s
  | .taskAbandon t n left => Sys2Proof.Machine.execTaskAbandon t n left s
  | .eventTrigger t => Sys2Proof.Machine.execEventTrigger t s
  | .pairSelftestEnd t n bad0 bad1 => Sys2Proof.Machine.execPairSelftestEnd t n bad0 bad1 s
  | .pairSelftestDue t n => Sys2Proof.Machine.execPairSelftestDue t n s
  | .selftestSlice t n bad0 bad1 => Sys2Proof.Machine.execSelftestSlice t n bad0 bad1 s
  | .selftestSkipped t n => Sys2Proof.Machine.execSelftestSkipped t n s
  | .connWatchdogExpiry t id => Sys2Proof.Machine.execConnWatchdogExpiry t id s
  | .exchangeFinish t => Sys2Proof.Machine.execExchangeFinish t s
  | .progImageTransferEnd t same => Sys2Proof.Machine.execProgImageTransferEnd t same s
  | .forceExpiry t id => Sys2Proof.Machine.execForceExpiry t id s
  | .loopSample t n lat => Sys2Proof.Machine.execLoopSample t n lat s
  | .couplerFrameOut t p => Sys2Proof.Machine.execCouplerFrameOut t p s
  | .couplerFrameIn t f bad => Sys2Proof.Machine.execCouplerFrameIn t f bad s
  | .acModeSwitchEnd t n => Sys2Proof.Machine.execAcModeSwitchEnd t n s
  | .acSilenceTimeout t n => Sys2Proof.Machine.execAcSilenceTimeout t n s
  | .acDiagnostic t n k m => Sys2Proof.Machine.execAcDiagnostic t n k m s
  | .acThermal t n temp => Sys2Proof.Machine.execAcThermal t n temp s
  | .acThermalRecovery t n => Sys2Proof.Machine.execAcThermalRecovery t n s
  | .acReferenceCheck t n ppm m => Sys2Proof.Machine.execAcReferenceCheck t n ppm m s
  | .acReadbackRecheck t n m => Sys2Proof.Machine.execAcReadbackRecheck t n m s
  | .acCalibrationEnd t n gain offset => Sys2Proof.Machine.execAcCalibrationEnd t n gain offset s
  | .hartTransactionEnd t m r => Sys2Proof.Machine.execHartTransactionEnd t m r s
  | .hartPollDue t n => Sys2Proof.Machine.execHartPollDue t n s
  | .hartPollStale t n => Sys2Proof.Machine.execHartPollStale t n s
  | .hartBurstFrame t n b => Sys2Proof.Machine.execHartBurstFrame t n b s
  | .hartModemLoopback t m ok => Sys2Proof.Machine.execHartModemLoopback t m ok s
  | .dcModeSwitchEnd t n => Sys2Proof.Machine.execDcModeSwitchEnd t n s
  | .dcLevelAccepted t n mv => Sys2Proof.Machine.execDcLevelAccepted t n mv s
  | .dcSilenceTimeout t n => Sys2Proof.Machine.execDcSilenceTimeout t n s
  | .dcOverload t n peak => Sys2Proof.Machine.execDcOverload t n peak s
  | .dcOlRetry t n => Sys2Proof.Machine.execDcOlRetry t n s
  | .dcThermal t n temp => Sys2Proof.Machine.execDcThermal t n temp s
  | .dcThermalRecovery t n => Sys2Proof.Machine.execDcThermalRecovery t n s
  | .dcDiagnostic t n k m => Sys2Proof.Machine.execDcDiagnostic t n k m s
  | .dcSwitchRetest t n m => Sys2Proof.Machine.execDcSwitchRetest t n m s
  | .fdSag t g mv => Sys2Proof.Machine.execFdSag t g mv s
  | .fdUndervoltage t g mv => Sys2Proof.Machine.execFdUndervoltage t g mv s
  | .fdRecovery t g mv => Sys2Proof.Machine.execFdRecovery t g mv s
  | .dcInputSelftest t n ok => Sys2Proof.Machine.execDcInputSelftest t n ok s
  | .dcDiscrepancy t n => Sys2Proof.Machine.execDcDiscrepancy t n s
  | .safetyCommitMissing t n => Sys2Proof.Machine.execSafetyCommitMissing t n s
  | .svOvertemp t temp => Sys2Proof.Machine.execSvOvertemp t temp s
  | .svSelftestFail t test => Sys2Proof.Machine.execSvSelftestFail t test s
  | .soOverload t n peak => Sys2Proof.Machine.execSoOverload t n peak s
  | .soOvertemp t n => Sys2Proof.Machine.execSoOvertemp t n s
  | .soSilenceTrip t n => Sys2Proof.Machine.execSoSilenceTrip t n s
  | .soTestDue t n sw => Sys2Proof.Machine.execSoTestDue t n sw s
  | .soTestEnd t n sw r => Sys2Proof.Machine.execSoTestEnd t n sw r s
  | .soTestRetry t n sw => Sys2Proof.Machine.execSoTestRetry t n sw s
  | .soTestOverdue t n sw => Sys2Proof.Machine.execSoTestOverdue t n sw s
  | .soTestRepeat t n sw r => Sys2Proof.Machine.execSoTestRepeat t n sw r s
  | .ettLightPulse t n load => Sys2Proof.Machine.execEttLightPulse t n load s
  | .soOpenCheck t n load => Sys2Proof.Machine.execSoOpenCheck t n load s
  | .degradedBudgetExpiry t n => Sys2Proof.Machine.execDegradedBudgetExpiry t n s
  | .budgetPeriodicCommit t => Sys2Proof.Machine.execBudgetPeriodicCommit t s
  | .aiPairDiscrepancy t n => Sys2Proof.Machine.execAiPairDiscrepancy t n s
  | .safetySessionTimeout t => Sys2Proof.Machine.execSafetySessionTimeout t s
  | .safetyLockoutEnd t => Sys2Proof.Machine.execSafetyLockoutEnd t s
  | .axisProfileUpdate t n m bad => Sys2Proof.Machine.execAxisProfileUpdate t n m bad s
  | .axisStall t n follow ratios => Sys2Proof.Machine.execAxisStall t n follow ratios s
  | .axisHoldDelay t n => Sys2Proof.Machine.execAxisHoldDelay t n s
  | .axisParkDelay t n => Sys2Proof.Machine.execAxisParkDelay t n s
  | .axisSilence t n => Sys2Proof.Machine.execAxisSilence t n s
  | .axisBridgeFault t n phase ma => Sys2Proof.Machine.execAxisBridgeFault t n phase ma s
  | .axisThermal t n temp => Sys2Proof.Machine.execAxisThermal t n temp s
  | .axisFaultRetry t n bad => Sys2Proof.Machine.execAxisFaultRetry t n bad s
  | .axisOpenPhase t n phase => Sys2Proof.Machine.execAxisOpenPhase t n phase s
  | .axisChopperChange t n => Sys2Proof.Machine.execAxisChopperChange t n s
  | .axisSegStartTime t n => Sys2Proof.Machine.execAxisSegStartTime t n s
  | .pairSearchTimeout t => Sys2Proof.Machine.execPairSearchTimeout t s
  | .heartbeat t p => Sys2Proof.Machine.execHeartbeat t p s
  | .timeFrame t v => Sys2Proof.Machine.execTimeFrame t v s
  | .agreeWindowEnd t n peer => Sys2Proof.Machine.execAgreeWindowEnd t n peer s
  | .compareWindowEnd t n sig => Sys2Proof.Machine.execCompareWindowEnd t n sig s
  | .mismatchSelftestEnd t part bad0 bad1 peerOk => Sys2Proof.Machine.execMismatchSelftestEnd t part bad0 bad1 peerOk s
  | .stateFrame t m => Sys2Proof.Machine.execStateFrame t m s
  | .controlFrame t m => Sys2Proof.Machine.execControlFrame t m s
  | .bulkFrame t m => Sys2Proof.Machine.execBulkFrame t m s
  | .laneFailure t k => Sys2Proof.Machine.execLaneFailure t k s
  | .laneRetry t k ok => Sys2Proof.Machine.execLaneRetry t k ok s
  | .hedgerowLinkLost t => Sys2Proof.Machine.execHedgerowLinkLost t s
  | .hdetChange t level => Sys2Proof.Machine.execHdetChange t level s
  | .pairPresenceFrame t => Sys2Proof.Machine.execPairPresenceFrame t s
  | .partnerSilent t => Sys2Proof.Machine.execPartnerSilent t s
  | .stationIsolated t => Sys2Proof.Machine.execStationIsolated t s
  | .pairSilenceTimeout t cls n => Sys2Proof.Machine.execPairSilenceTimeout t cls n s
  | .resyncPassEnd t dirty => Sys2Proof.Machine.execResyncPassEnd t dirty s
  | .resyncJoin t => Sys2Proof.Machine.execResyncJoin t s
  | .resyncSlow t => Sys2Proof.Machine.execResyncSlow t s
  | .switchoverInstant t => Sys2Proof.Machine.execSwitchoverInstant t s
  | .loopPartitionCheck t l => Sys2Proof.Machine.execLoopPartitionCheck t l s
  | .netLinkChange t k linkUp => Sys2Proof.Machine.execNetLinkChange t k linkUp s
  | .networkFrameReceived t f => Sys2Proof.Machine.execNetworkFrameReceived t f s
  | .networkCycleStart t => Sys2Proof.Machine.execNetworkCycleStart t s
  | .networkSendSlot t => Sys2Proof.Machine.execNetworkSendSlot t s
  | .stationPresenceSend t => Sys2Proof.Machine.execStationPresenceSend t s
  | .supervisionSend t => Sys2Proof.Machine.execSupervisionSend t s
  | .netStorm t k cls src => Sys2Proof.Machine.execNetStorm t k cls src s
  | .netPathSingle t id => Sys2Proof.Machine.execNetPathSingle t id s
  | .portSelftest t k ok => Sys2Proof.Machine.execPortSelftest t k ok s
  | .portRetrain t k => Sys2Proof.Machine.execPortRetrain t k s
  | .ptpMessageReceived t => Sys2Proof.Machine.execPtpMessageReceived t s
  | .ptpAnnounceTimeout t b => Sys2Proof.Machine.execPtpAnnounceTimeout t b s
  | .holdoverExpiry t b => Sys2Proof.Machine.execHoldoverExpiry t b s
  | .ptpSyncSend t b => Sys2Proof.Machine.execPtpSyncSend t b s
  | .tb3LeapSecond t inserted => Sys2Proof.Machine.execTb3LeapSecond t inserted s
  | .tb3RtcWrite t => Sys2Proof.Machine.execTb3RtcWrite t s
  | .pgFire t k => Sys2Proof.Machine.execPgFire t k s
  | .pgPulseEnd t k => Sys2Proof.Machine.execPgPulseEnd t k s
  | .piEdge t n onB level => Sys2Proof.Machine.execPiEdge t n onB level s
  | .canFrameReceived t n f sof => Sys2Proof.Machine.execCanFrameReceived t n f sof s
  | .canFrameTransmitted t n b sof => Sys2Proof.Machine.execCanFrameTransmitted t n b sof s
  | .canArbitrationLost t n b => Sys2Proof.Machine.execCanArbitrationLost t n b s
  | .canBusError t n e => Sys2Proof.Machine.execCanBusError t n e s
  | .canIntegrationEnd t n => Sys2Proof.Machine.execCanIntegrationEnd t n s
  | .canRecoveryEnd t n => Sys2Proof.Machine.execCanRecoveryEnd t n s
  | .canReferenceDue t n => Sys2Proof.Machine.execCanReferenceDue t n s
  | .canReferenceLost t n => Sys2Proof.Machine.execCanReferenceLost t n s
  | .canSkipperResume t n => Sys2Proof.Machine.execCanSkipperResume t n s
  | .canDominantTimeout t n => Sys2Proof.Machine.execCanDominantTimeout t n s
  | .cuStreamEnd t k sel sent bs busy => Sys2Proof.Machine.execCuStreamEnd t k sel sent bs busy s
  | .cuPeriodicSelftest t u bad => Sys2Proof.Machine.execCuPeriodicSelftest t u bad s
  | .beEdge t n closed => Sys2Proof.Machine.execBeEdge t n closed s
  | .rtcHaltTimeout t => Sys2Proof.Machine.execRtcHaltTimeout t s
  | .freezeTimeout t => Sys2Proof.Machine.execFreezeTimeout t s
  | .rtcOscStop t => Sys2Proof.Machine.execRtcOscStop t s
  | .rtcRateCompare t dev => Sys2Proof.Machine.execRtcRateCompare t dev s
  | .rtcTempMeasure t temp => Sys2Proof.Machine.execRtcTempMeasure t temp s
  | .rtcRangeEnd t => Sys2Proof.Machine.execRtcRangeEnd t s
  | .vbdBelowRetention t => Sys2Proof.Machine.execVbdBelowRetention t s
  | .recorderDrain t wf => Sys2Proof.Machine.execRecorderDrain t wf s
  | .recPeriodicClose t => Sys2Proof.Machine.execRecPeriodicClose t s
  | .faultManagerDecision t => Sys2Proof.Machine.execFaultManagerDecision t s
  | .reinstateSelftestEnd t cls index sub ok => Sys2Proof.Machine.execReinstateSelftestEnd t cls index sub ok s
  | .memoryEccError t b line user => Sys2Proof.Machine.execMemoryEccError t b line user s
  | .memoryEccCorrected t b => Sys2Proof.Machine.execMemoryEccCorrected t b s
  | .updActivationInstant t => Sys2Proof.Machine.execUpdActivationInstant t s
  | .updTrialConfirm t => Sys2Proof.Machine.execUpdTrialConfirm t s
  | .panelFirstFrame t => Sys2Proof.Machine.execPanelFirstFrame t s
  | .panelVerticalBlank t temp => Sys2Proof.Machine.execPanelVerticalBlank t temp s
  | .waveformEnd t n => Sys2Proof.Machine.execWaveformEnd t n s
  | .panelIdleTimeout t => Sys2Proof.Machine.execPanelIdleTimeout t s
  | .baseplateHot t temp => Sys2Proof.Machine.execBaseplateHot t temp s
  | .perstRelease t => Sys2Proof.Machine.execPerstRelease t s
  | .managementResetEnd t => Sys2Proof.Machine.execManagementResetEnd t s
  | .heartbeatMissingFramesStop t => Sys2Proof.Machine.execHeartbeatMissingFramesStop t s
  | .acIsolatedSample t n m => Sys2Proof.Machine.execAcIsolatedSample t n m s
  | .dcDiagnosticCheck t n m normal => Sys2Proof.Machine.execDcDiagnosticCheck t n m normal s
  | .cuSelftestRetry t u bad => Sys2Proof.Machine.execCuSelftestRetry t u bad s
  | .canTransceiverRetest t n ok => Sys2Proof.Machine.execCanTransceiverRetest t n ok s
  | .memoryMarchTestEnd t b ok => Sys2Proof.Machine.execMemoryMarchTestEnd t b ok s
  | .burstDwellEnd t m => Sys2Proof.Machine.execBurstDwellEnd t m s
  | .ptpAnnounceSend t b => Sys2Proof.Machine.execPtpAnnounceSend t b s
  | .ptpDelayReqSend t b => Sys2Proof.Machine.execPtpDelayReqSend t b s

end Sys2Proof.Machine
end

