-- ==== Sys2Proof/WellFormed.lean ====
section
/-! DEFINITION. Well-formed commands: operands in the ranges the spec gives them. A submission entry fits its fields
(04 R97), a register access its width, and an event names a resource the module has (00 R10). -/

namespace Sys2Proof

/-- Number `n` of `k` like resources. -/
def below (n k : Nat) : Bool := decide (n < k)

/-- A 32-bit register value (04 R91). -/
def word (v : Nat) : Bool := decide (v < 2 ^ 32)

/-- The ID of a consumed connection (14 R390). -/
def consumedId (id : Nat) : Bool := decide (0x1000 ≤ id) && decide (id < 0x2000)

/-- A time base that follows a PTP master (14 R400). -/
def ptpBase (b : Nat) : Bool := b == 1 || b == 2

/-- A submission entry whose fields fit the 64 bytes, and whose block is no longer than a block may be (04 R97, R98). -/
def Cmd.wf (c : Cmd) : Bool :=
  decide (c.slot < 2 ^ 16) && decide (c.flags < 2 ^ 8) && decide (c.tgtClass < 2 ^ 8) && decide (c.tgtIndex < 2 ^ 16)
    && decide (c.tgtSub < 2 ^ 8) && decide (c.rsv < 2 ^ 8) && decide (c.tag < 2 ^ 32) && decide (c.handle < 2 ^ 32)
    && decide (c.params.length = 48) && (match c.block with | some b => decide (b.length ≤ 4096) | none => true)

/-- A point the module has. -/
def FieldPoint.wf : FieldPoint → Bool
  | .ac n => below n 32
  | .dc n => below n 32
  | .so n => below n 8
  | .axis n => below n 4

/-- A frame from a point the module has. -/
def FieldFrame.wf : FieldFrame → Bool
  | .ac n _ => below n 32
  | .dc n _ => below n 32
  | .so n _ => below n 8
  | .axis n _ => below n 4

/-- A frame at a port the module has, with MAC addresses of 48 bits. -/
def NetFrame.wf (f : NetFrame) : Bool := below f.port 2 && decide (f.srcMac < 2 ^ 48) && decide (f.dstMac < 2 ^ 48)

/-- A CAN frame: 32 bits of `XID`, at most 64 data bytes (15 R422, R440). -/
def CanFrame.wf (f : CanFrame) : Bool := decide (f.xid < 2 ^ 32) && decide (f.data.length ≤ 64)

/-- A well-formed command. -/
def Instr.wf : Instr → Bool
  | .modReset _ c => c.wf
  | .modCommit _ c => c.wf
  | .modFactory _ c => c.wf
  | .modPowerStatus _ c => c.wf
  | .modSetPower _ c => c.wf
  | .modConfigSave _ c => c.wf
  | .modConfigLoad _ c => c.wf
  | .modIdentify _ c => c.wf
  | .modNop _ c => c.wf
  | .modAbort _ c => c.wf
  | .modSetEventFilter _ c => c.wf
  | .modSessionClose _ c => c.wf
  | .modProvisionKey _ c => c.wf
  | .taskConfigure _ c => c.wf
  | .taskStart _ c => c.wf
  | .taskStop _ c => c.wf
  | .taskStatus _ c => c.wf
  | .taskSetImage _ c => c.wf
  | .taskSetSubstitute _ c => c.wf
  | .taskSetPair _ c => c.wf
  | .taskSelftest _ c => c.wf
  | .taskBudget _ c => c.wf
  | .taskProgLoad _ c => c.wf
  | .taskProgWrite _ c => c.wf
  | .taskProgCheck _ c => c.wf
  | .taskProgExchange _ c => c.wf
  | .taskProgStatus _ c => c.wf
  | .taskProgErase _ c => c.wf
  | .taskProgRead _ c => c.wf
  | .varForce _ c => c.wf
  | .varRelease _ c => c.wf
  | .varReleaseAll _ c => c.wf
  | .varList _ c => c.wf
  | .varSetLimit _ c => c.wf
  | .acConfigure _ c => c.wf
  | .acSetService _ c => c.wf
  | .acTestOutput _ c => c.wf
  | .acCalibrate _ c => c.wf
  | .acSelftest _ c => c.wf
  | .acStatus _ c => c.wf
  | .acHartConfig _ c => c.wf
  | .acHartPass _ c => c.wf
  | .acHartBurst _ c => c.wf
  | .dcConfigure _ c => c.wf
  | .dcSetService _ c => c.wf
  | .dcTestOutput _ c => c.wf
  | .dcAck _ c => c.wf
  | .dcSelftest _ c => c.wf
  | .dcStatus _ c => c.wf
  | .dcSetLegacy _ c => c.wf
  | .safeSoConfigure _ c => c.wf
  | .safeAck _ c => c.wf
  | .safeSoTest _ c => c.wf
  | .safeStatus _ c => c.wf
  | .safeSessionOpen _ c => c.wf
  | .safeSessionClose _ c => c.wf
  | .safeSetPassword _ c => c.wf
  | .safeLogRead _ c => c.wf
  | .safeLogAck _ c => c.wf
  | .safeAiPair _ c => c.wf
  | .safeConn _ c => c.wf
  | .safeBudgetReset _ c => c.wf
  | .loopConfigure _ c => c.wf
  | .loopSetCoeff _ c => c.wf
  | .loopSetMode _ c => c.wf
  | .loopSetSp _ c => c.wf
  | .loopSetManual _ c => c.wf
  | .loopSetLimits _ c => c.wf
  | .loopStatus _ c => c.wf
  | .axisConfigure _ c => c.wf
  | .axisMove _ c => c.wf
  | .axisStop _ c => c.wf
  | .axisHome _ c => c.wf
  | .axisPark _ c => c.wf
  | .axisEnable _ c => c.wf
  | .axisSegLoad _ c => c.wf
  | .axisSegStart _ c => c.wf
  | .axisStatus _ c => c.wf
  | .axisTest _ c => c.wf
  | .axisSetHome _ c => c.wf
  | .pairConfigure _ c => c.wf
  | .pairSetAgree _ c => c.wf
  | .pairSwitchover _ c => c.wf
  | .pairJoin _ c => c.wf
  | .pairLeave _ c => c.wf
  | .pairStatus _ c => c.wf
  | .pairLinkTest _ c => c.wf
  | .netConfigure _ c => c.wf
  | .netSetStation _ c => c.wf
  | .netProduce _ c => c.wf
  | .netConsume _ c => c.wf
  | .netPort _ c => c.wf
  | .netStatus _ c => c.wf
  | .netConnStatus _ c => c.wf
  | .timeRead _ c => c.wf
  | .timeConfigure _ c => c.wf
  | .timeRestep _ c => c.wf
  | .timeStatus _ c => c.wf
  | .timePgConfigure _ c => c.wf
  | .timePiConfigure _ c => c.wf
  | .timePiSetCount _ c => c.wf
  | .canConfigure _ c => c.wf
  | .canFilter _ c => c.wf
  | .canSend _ c => c.wf
  | .canCancel _ c => c.wf
  | .canRecover _ c => c.wf
  | .canRead _ c => c.wf
  | .canStatus _ c => c.wf
  | .canSelftest _ c => c.wf
  | .cuConfigure _ c => c.wf
  | .cuReadValue _ c => c.wf
  | .cuWriteValue _ c => c.wf
  | .cuStatus _ c => c.wf
  | .cuSelftest _ c => c.wf
  | .rtcRead _ c => c.wf
  | .rtcSet _ c => c.wf
  | .rtcTrim _ c => c.wf
  | .rtcBeConfigure _ c => c.wf
  | .rtcBeRead _ c => c.wf
  | .rtcBeClear _ c => c.wf
  | .rtcStatus _ c => c.wf
  | .recRead _ c => c.wf
  | .recDump _ c => c.wf
  | .recSlots _ c => c.wf
  | .recClose _ c => c.wf
  | .recClear _ c => c.wf
  | .recSetCode _ c => c.wf
  | .recSetClose _ c => c.wf
  | .recStatus _ c => c.wf
  | .recCodes _ c => c.wf
  | .updStage _ c => c.wf
  | .updList _ c => c.wf
  | .updDiscard _ c => c.wf
  | .updActivate _ c => c.wf
  | .updCancel _ c => c.wf
  | .updStatus _ c => c.wf
  | .updSetService _ c => c.wf
  | .panelConfigure _ c => c.wf
  | .panelRegion _ c => c.wf
  | .panelFrame _ c => c.wf
  | .panelPatch _ c => c.wf
  | .panelLoadTable _ c => c.wf
  | .panelSetPower _ c => c.wf
  | .panelClear _ c => c.wf
  | .panelStatus _ c => c.wf
  | .fltReinstate _ c => c.wf
  | .fltSetPolicy _ c => c.wf
  | .fltStatus _ c => c.wf
  | .modResetReg _ v => word v
  | .dbSqTail _ v => word v
  | .dbCqHead _ v => word v
  | .dbEqHead _ v => word v
  | .dbBulkTail _ k v => below k 8 && word v
  | .sqEn _ _ => true
  | .cqEn _ _ => true
  | .eqEn _ _ => true
  | .bulkEn _ k _ => below k 8
  | .ringFaultClear _ v => word v
  | .rtcHalt _ value => word value
  | .rtcHaltRelease _ value => word value
  | .calSubsecRead _ => true
  | .calDateRead _ => true
  | .beClearBit _ n value => below n 4 && word value
  | .beStampLoRead _ n _ => below n 4
  | .registerWrite _ offset v => decide (offset < 0x1000) && word v.value && below v.be 16
  | .perst _ => true
  | .sqFetch _ _ _ _ => true
  | .commandDispatch _ => true
  | .cqCoalesceTimeout _ => true
  | .bulkEntry _ k _ _ => below k 8
  | .mgmtOpenRequest _ => true
  | .mgmtMessage _ => true
  | .mgmtCloseMessage _ => true
  | .mgmtSessionIdle _ _ => true
  | .xsTcpConnect _ _ => true
  | .hello _ _ => true
  | .finish _ _ => true
  | .ivpastoCommandRecord _ _ => true
  | .ivpastoContainerRecord _ _ => true
  | .ivpastoCloseRecord _ _ => true
  | .ivpastoIdleTimeout _ => true
  | .xsLinkDrop _ => true
  | .supplyWarning _ k _ => below k 8
  | .logicSupplyFail _ k _ => below k 2
  | .logicSupplyRecovery _ k _ => below k 2
  | .powerFailWarning _ _ => true
  | .powerFailCommitEnd _ => true
  | .faFail _ _ => true
  | .faRecovery _ _ => true
  | .fsFail _ _ => true
  | .fsRecovery _ _ => true
  | .fmFail _ _ => true
  | .fmRecovery _ _ => true
  | .railBrownOut _ k => below k 5
  | .vcoreMarginLost _ => true
  | .vcoreStepDown _ => true
  | .pllLockTimeout _ k => below k 5
  | .svClockFault _ => true
  | .schedulerHeartbeatMissing _ => true
  | .managementWatchdog _ => true
  | .managementLockstepError _ => true
  | .moduleStart _ _ _ _ _ _ => true
  | .resetButtonRelease _ _ => true
  | .resetButtonStuck _ => true
  | .cocoonCommitEnd _ k _ => below k 10
  | .retainPeriodicCommit _ => true
  | .taskRelease _ i => below i 16
  | .executionEnd _ i exec _ _ => below i 16 && exec.steps.all (fun x => below x.1 16)
  | .taskDeadline _ i _ => below i 16
  | .taskAbandon _ i _ => below i 16
  | .eventTrigger _ => true
  | .pairSelftestEnd _ n _ _ => below n 8
  | .pairSelftestDue _ n => below n 8
  | .selftestSlice _ n _ _ => below n 8
  | .selftestSkipped _ n => below n 8
  | .connWatchdogExpiry _ id => consumedId id
  | .exchangeFinish _ => true
  | .progImageTransferEnd _ _ => true
  | .forceExpiry _ _ => true
  | .loopSample _ i _ => below i 512
  | .couplerFrameOut _ p => p.point.wf
  | .couplerFrameIn _ f _ => f.wf
  | .acModeSwitchEnd _ n => below n 32
  | .acSilenceTimeout _ n => below n 32
  | .acDiagnostic _ n _ _ => below n 32
  | .acThermal _ n _ => below n 32
  | .acThermalRecovery _ n => below n 32
  | .acReferenceCheck _ n _ _ => below n 32
  | .acReadbackRecheck _ n _ => below n 32
  | .acCalibrationEnd _ n _ _ => below n 32
  | .hartTransactionEnd _ m _ => below m 8
  | .hartPollDue _ n => below n 32
  | .hartPollStale _ n => below n 32
  | .hartBurstFrame _ n _ => below n 32
  | .hartModemLoopback _ m _ => below m 8
  | .dcModeSwitchEnd _ n => below n 32
  | .dcLevelAccepted _ n _ => below n 32
  | .dcSilenceTimeout _ n => below n 32
  | .dcOverload _ n _ => below n 32
  | .dcOlRetry _ n => below n 32
  | .dcThermal _ n _ => below n 32
  | .dcThermalRecovery _ n => below n 32
  | .dcDiagnostic _ n _ _ => below n 32
  | .dcSwitchRetest _ n _ => below n 32
  | .fdSag _ g _ => below g 2
  | .fdUndervoltage _ g _ => below g 2
  | .fdRecovery _ g _ => below g 2
  | .dcInputSelftest _ n _ => below n 32
  | .dcDiscrepancy _ n => below n 32
  | .safetyCommitMissing _ i => below i 16
  | .svOvertemp _ _ => true
  | .svSelftestFail _ _ => true
  | .soOverload _ n _ => below n 8
  | .soOvertemp _ n => below n 8
  | .soSilenceTrip _ n => below n 8
  | .soTestDue _ n sw => below n 8 && below sw 2
  | .soTestEnd _ n sw _ => below n 8 && below sw 2
  | .soTestRetry _ n sw => below n 8 && below sw 2
  | .soTestOverdue _ n sw => below n 8 && below sw 2
  | .soTestRepeat _ n sw _ => below n 8 && below sw 2
  | .ettLightPulse _ n _ => below n 8
  | .soOpenCheck _ n _ => below n 8
  | .degradedBudgetExpiry _ n => below n 8
  | .budgetPeriodicCommit _ => true
  | .aiPairDiscrepancy _ n => below n 16
  | .safetySessionTimeout _ => true
  | .safetyLockoutEnd _ => true
  | .axisProfileUpdate _ n _ _ => below n 4
  | .axisStall _ n _ _ => below n 4
  | .axisHoldDelay _ n => below n 4
  | .axisParkDelay _ n => below n 4
  | .axisSilence _ n => below n 4
  | .axisBridgeFault _ n _ _ => below n 4
  | .axisThermal _ n _ => below n 4
  | .axisFaultRetry _ n _ => below n 4
  | .axisOpenPhase _ n _ => below n 4
  | .axisChopperChange _ n => below n 4
  | .axisSegStartTime _ n => below n 4
  | .pairSearchTimeout _ => true
  | .heartbeat _ _ => true
  | .timeFrame _ _ => true
  | .agreeWindowEnd _ i _ => below i 16
  | .compareWindowEnd _ i _ => below i 16
  | .mismatchSelftestEnd _ _ _ _ _ => true
  | .stateFrame _ _ => true
  | .controlFrame _ _ => true
  | .bulkFrame _ _ => true
  | .laneFailure _ k => below k 2
  | .laneRetry _ k _ => below k 2
  | .hedgerowLinkLost _ => true
  | .hdetChange _ _ => true
  | .pairPresenceFrame _ => true
  | .partnerSilent _ => true
  | .stationIsolated _ => true
  | .pairSilenceTimeout _ cls n => below n (if cls = 0x06 then 8 else if cls = 0x08 then 4 else 32)
  | .resyncPassEnd _ _ => true
  | .resyncJoin _ => true
  | .resyncSlow _ => true
  | .switchoverInstant _ => true
  | .loopPartitionCheck _ _ => true
  | .netLinkChange _ k _ => below k 2
  | .networkFrameReceived _ f => f.wf
  | .networkCycleStart _ => true
  | .networkSendSlot _ => true
  | .stationPresenceSend _ => true
  | .supervisionSend _ => true
  | .netStorm _ k _ _ => below k 2
  | .netPathSingle _ id => consumedId id
  | .portSelftest _ k _ => below k 2
  | .portRetrain _ k => below k 2
  | .ptpMessageReceived _ => true
  | .ptpAnnounceTimeout _ b => ptpBase b
  | .holdoverExpiry _ b => ptpBase b
  | .ptpSyncSend _ b => ptpBase b
  | .tb3LeapSecond _ _ => true
  | .tb3RtcWrite _ => true
  | .pgFire _ k => below k 8
  | .pgPulseEnd _ k => below k 8
  | .piEdge _ n _ _ => below n 4
  | .canFrameReceived _ n f _ => below n 4 && f.wf
  | .canFrameTransmitted _ n _ _ => below n 4
  | .canArbitrationLost _ n _ => below n 4
  | .canBusError _ n _ => below n 4
  | .canIntegrationEnd _ n => below n 4
  | .canRecoveryEnd _ n => below n 4
  | .canReferenceDue _ n => below n 4
  | .canReferenceLost _ n => below n 4
  | .canSkipperResume _ n => below n 4
  | .canDominantTimeout _ n => below n 4
  | .cuStreamEnd _ k _ _ _ _ => below k 6
  | .cuPeriodicSelftest _ u _ => below u 8
  | .beEdge _ n _ => below n 4
  | .rtcHaltTimeout _ => true
  | .freezeTimeout _ => true
  | .rtcOscStop _ => true
  | .rtcRateCompare _ _ => true
  | .rtcTempMeasure _ _ => true
  | .rtcRangeEnd _ => true
  | .vbdBelowRetention _ => true
  | .recorderDrain _ _ => true
  | .recPeriodicClose _ => true
  | .faultManagerDecision _ => true
  | .reinstateSelftestEnd _ _ _ _ _ => true
  | .memoryEccError _ b _ _ => below b 18
  | .memoryEccCorrected _ b => below b 18
  | .updActivationInstant _ => true
  | .updTrialConfirm _ => true
  | .panelFirstFrame _ => true
  | .panelVerticalBlank _ _ => true
  | .waveformEnd _ _ => true
  | .panelIdleTimeout _ => true
  | .baseplateHot _ _ => true
  | .perstRelease _ => true
  | .managementResetEnd _ => true
  | .heartbeatMissingFramesStop _ => true
  | .acIsolatedSample _ n _ => below n 32
  | .dcDiagnosticCheck _ n _ _ => below n 32
  | .cuSelftestRetry _ u _ => below u 8
  | .canTransceiverRetest _ n _ => below n 4
  | .memoryMarchTestEnd _ b _ => below b 18
  | .burstDwellEnd _ m => below m 8
  | .ptpAnnounceSend _ b => ptpBase b
  | .ptpDelayReqSend _ b => ptpBase b

end Sys2Proof
end

