-- ==== Sys2Proof/Safety.lean ====
section
/-! DEFINITION. The terms in which claims are stated: a safe run, a command that is taken at once and what it leaves, and a row
whose event changes the module in a stated way. -/

namespace Sys2Proof.Machine

/-- The outcome is a next state. -/
def goesOn {σ φ ρ : Type} : Host.Outcome σ φ ρ → Bool
  | .next _ => true
  | _ => false

/-- The first `k` steps from a state all answer a next state. -/
def State.runs (s : State) : Nat → Bool
  | 0 => true
  | k + 1 => match step s with
    | .next t => t.runs k
    | _ => false

/-- Every waiting command is well-formed. -/
def State.queueWf (s : State) : Bool := s.pending.all Sys2Proof.Instr.wf

/-- The high side of a de-energise-to-trip output that has tripped is not commanded on by its logic (11 R286, R288). -/
def State.tripHolds (s : State) (n : Nat) : Bool := !((s.soOf n).tripped && !(s.ett n)) || !(s.soWanted n)

/-! ## Commands of the submission routes -/

/-- The module as a command that has just arrived at `t` finds it when its checks are made: the command is in flight, has had its turn
and is counted, the safety session whose handle it carries is refreshed, and the failed read of its block has stopped the ring. -/
def State.arrived (op t : Nat) (c : Cmd) (s : State) : State :=
  let s := s.advance t
  let e := s.entryFor op c
  ((((s.queued op c).started e).countDispatched c.route).touchSession c).indirectFault c

/-- A command of this kind comes to its checks at once: its route is open and has room, and it is the next in turn (04 R105, R107). -/
def CmdSpec.reaches (k : CmdSpec) (t : Nat) (c : Cmd) (s : State) : Bool :=
  let s := s.advance t
  let e := s.entryFor k.op c
  s.routeOpen c.route && !(s.routeFull c.route) && decide ((s.queued k.op c).inTurn = some e)

/-- The checks of 04 R105 pass when the command arrives. -/
def CmdSpec.passes (k : CmdSpec) (t : Nat) (c : Cmd) (s : State) : Bool :=
  k.reaches t c s && (k.refusal (s.entryFor k.op c) (s.arrived k.op t c)).isNone

/-- The owner of what the command sets is in no cycle and has no posting that waits, and no pair partner has to take the posting too:
the command acts now (01 R18, R19; 13 R357). -/
def CmdSpec.actsNow (k : CmdSpec) (t : Nat) (c : Cmd) (s : State) : Bool :=
  let s := s.arrived k.op t c
  match k.owner s c with
  | none => true
  | some o => !s.postsToPartner && !(k.running s c) && !(s.mailWaits o)

/-- The command is taken: its checks pass and it acts now. -/
def CmdSpec.taken (k : CmdSpec) (t : Nat) (c : Cmd) (s : State) : Bool := k.passes t c s && k.actsNow t c s

/-- A taken command of row `mk` whose operands meet `p` completes with S_OK, and `f` is all it did. -/
def Completes (k : CmdSpec) (mk : Nat → Cmd → Instr) (f : Entry → State → State)
    (p : Cmd → State → Prop := fun _ _ => True) : Prop :=
  ∀ t c s, k.taken t c s = true → p c (s.arrived k.op t c) →
    exec (mk t c) s = .next ((f (s.entryFor k.op c) (s.arrived k.op t c)).complete (s.entryFor k.op c) .sOk 0 [])

/-- A taken command of row `mk` whose operands meet `p` completes with S_OK and the block `b`, whose length is its `RESULT`; `f` is
all it did. -/
def Reports (k : CmdSpec) (mk : Nat → Cmd → Instr) (b : Cmd → State → Bytes) (f : Entry → State → State := fun _ s => s)
    (p : Cmd → State → Prop := fun _ _ => True) : Prop :=
  ∀ t c s, k.taken t c s = true → p c (s.arrived k.op t c) →
    exec (mk t c) s = .next ((f (s.entryFor k.op c) (s.arrived k.op t c)).complete (s.entryFor k.op c) .sOk
      (b c (s.arrived k.op t c)).length (b c (s.arrived k.op t c)))

/-- A taken command of row `mk` whose operands meet `p` does `f`, in which its completion lies, or is left for later. -/
def Does (k : CmdSpec) (mk : Nat → Cmd → Instr) (f : Entry → State → State)
    (p : Cmd → State → Prop := fun _ _ => True) : Prop :=
  ∀ t c s, k.taken t c s = true → p c (s.arrived k.op t c) →
    exec (mk t c) s = .next (f (s.entryFor k.op c) (s.arrived k.op t c))

/-! ## Commands that wait for their owner's boundary -/

/-- A command of row `mk` that passes its checks waits in its owner's mailbox where the owner is in a cycle or earlier postings of it
wait, no pair partner has to take it too and there is room (01 R18). -/
def Waits (k : CmdSpec) (mk : Nat → Cmd → Instr) : Prop :=
  ∀ t c s o, k.passes t c s = true → k.owner (s.arrived k.op t c) c = some o →
    (k.running (s.arrived k.op t c) c || (s.arrived k.op t c).mailWaits o) = true →
    (s.arrived k.op t c).postsToPartner = false → (s.arrived k.op t c).mailCount o < 8 →
    exec (mk t c) s = .next ((s.arrived k.op t c).postMail { owner := o, body := .cmd (s.entryFor k.op c) })

/-- At its owner's boundary a posted command whose operands meet `p` does `f`, in which its completion lies, or is left for later. -/
def AppliesAs (k : CmdSpec) (f : Entry → State → State) (p : Cmd → State → Prop := fun _ _ => True) : Prop :=
  ∀ o due (e : Entry) (s : State), e.op = k.op → p e.cmd s →
    applyPosting specOf (ownPosting o) { owner := o, body := .cmd e, due := due } s = f e s

/-- A command of row `mk` waits for its owner's boundary, and there does `f` and completes with S_OK where its operands meet `p`. -/
def CompletesAtBoundary (k : CmdSpec) (mk : Nat → Cmd → Instr) (f : Entry → State → State)
    (p : Cmd → State → Prop := fun _ _ => True) : Prop :=
  Waits k mk ∧ AppliesAs k (fun e s => (f e s).complete e .sOk 0 []) p

/-- A command of row `mk` whose operands meet `p` does `f` and completes with S_OK, at once or, where its owner is in a cycle, at the
owner's boundary (01 R18, R19). -/
def CompletesEitherWay (k : CmdSpec) (mk : Nat → Cmd → Instr) (f : Entry → State → State)
    (p : Cmd → State → Prop := fun _ _ => True) : Prop :=
  Completes k mk f p ∧ CompletesAtBoundary k mk f p

/-- A command of row `mk` whose operands meet `p` does `f`, in which its completion lies, or is left for later, at once or, where its
owner is in a cycle, at the owner's boundary. -/
def DoesEitherWay (k : CmdSpec) (mk : Nat → Cmd → Instr) (f : Entry → State → State)
    (p : Cmd → State → Prop := fun _ _ => True) : Prop :=
  Does k mk f p ∧ Waits k mk ∧ AppliesAs k f p

/-! ## Events -/

/-- Where `g` holds, the event of row `i` at `t` has the effect `f`. -/
def Occurs (i : Instr) (t : Nat) (g : State → Prop) (f : State → State) : Prop :=
  ∀ s : State, g (s.advance t) → exec i s = .next (f (s.advance t))

/-- The event of row `i` at `t` has the effect `f` where `g` holds, and none where it does not. -/
def OccursIf (i : Instr) (t : Nat) (g : State → Prop) (f : State → State) : Prop :=
  Occurs i t g f ∧ Occurs i t (fun s => ¬ g s) (fun s => s)

end Sys2Proof.Machine
end

