-- ==== Sys2Proof/Certificates/Slice0/Obligations.lean ====
section
/-! DEFINITION. The statements about the model, grouped by what they speak of. The rules of spec/ that a statement rests on stand in its
docstring as R<n>. -/

open Sys2Proof Sys2Proof.Machine

/-- The retry of a fault of an axis is due (R332): 1 s after a bridge fault or a failed test, 5 s after the sensor of a thermal one fell
below 135 °C. -/
def AxisRetryDue (s : State) (n : Nat) : Prop :=
  ((∃ k, (s.axOf n).faultWait = some k ∧ k ≠ 1) ∧ (s.axOf n).faultAt + 1000000000 ≤ s.tb0)
    ∨ ((s.axOf n).faultWait = some 1 ∧ ∃ a, (s.axOf n).coolAt = some a ∧ a + 5000000000 ≤ s.tb0)

/-- What the setting of LOST leaves (R471), recorded where the management domain runs: the counter restarts, every field takes its factory
value but for those that show a measurement or a level, and the reset record is cleared. -/
def rtcLostOf (osc range : Bool) (s : State) : State :=
  let u : State := { s with
    rtc := { tick0 := 0, at0 := s.tb0, lost := true, lostTold := true, oscFail := osc, oscBad := s.rtc.oscBad, rangeEnd := range,
             capMv := s.rtc.capMv, cellMv := s.rtc.cellMv, be := Tab.mapVals (fun _ => {}) (fun b => { level := b.level }) s.rtc.be },
    power := { s.power with lastCause := 0, lastCauseEpoch := 0 } }
  u.post .management .eRtcLost rtcRes u.rtc.flags

/-- The service port takes encrypted records: connected, the HELLO done, the session open or not. -/
def ivReady (s : State) (isOpen : Bool) : Prop :=
  s.power.mgmtUp = true ∧ s.disp.ivpasto.connected = true ∧ s.disp.ivpasto.helloDone = true ∧ s.disp.ivpasto.isOpen = isOpen

/-- An authentic record has been taken: its counter and its instant (R490, R491). -/
def ivTook (s : State) : State :=
  s.setIv { s.disp.ivpasto with inCounter := s.disp.ivpasto.inCounter + 1, lastAt := s.tb0 }

/-- The state once the oldest waiting management message has been taken, `r` being the rest. -/
def mgmtRest (r : List (Nat × Nat × Bytes)) (s : State) : State :=
  { s with net := { s.net with mgmtIn := r } }

/-- A doorbell of ring `k` counts (R96, R99): READY is 1, the ring is enabled, runs, and has the entry. -/
def doorbellTaken (s : State) (k w : Nat) : Prop :=
  s.host.ready = true ∧ (s.ring k).en = true ∧ (s.ring k).run = true ∧ w < 2 ^ (s.ring k).log2

/-- A doorbell of ring `k` that names an entry past the ring's end (R99). -/
def doorbellPast (s : State) (k w : Nat) : Prop :=
  s.host.ready = true ∧ (s.ring k).en = true ∧ 2 ^ (s.ring k).log2 ≤ w

/-- A ring that its enable bit may start (R93): READY is 1, it is disabled, and its size is one of 16 to 2^`top` entries. -/
def ringMayStart (s : State) (k top : Nat) : Prop :=
  s.host.ready = true ∧ (s.ring k).en = false ∧ 4 ≤ (s.ring k).log2 ∧ (s.ring k).log2 ≤ top

/-- Ring `k` as it starts (R93): at entry 0 with phase 1, running unless its fault stands. -/
def ringAtStart (k : Nat) (s : State) : State :=
  s.setRing k { s.ring k with en := true, run := !(s.ring k).fault, head := 0, tail := 0, phase := true }

/-- A submission entry may be fetched (R89, R101): the rings run, one waits, and its completion will have room. -/
def sqMayFetch (s : State) : Prop :=
  s.host.ready = true ∧ s.host.d3hot = false ∧ s.power.mgmtUp = true ∧ (s.ring 0).run = true ∧ (s.ring 0).head ≠ (s.ring 0).tail
    ∧ s.inFlight .host < 128
    ∧ s.inFlight .host + ((s.ring 1).tail + 2 ^ (s.ring 1).log2 - (s.ring 1).head) % 2 ^ (s.ring 1).log2 + 1 < 2 ^ (s.ring 1).log2

/-- A command as it has been dispatched and before its checks (R105, R118, R302): counted, its session kept open, a failed read of its block told. -/
def asDispatched (e : Entry) (u : State) : State :=
  (((u.started e).countDispatched e.cmd.route).touchSession e.cmd).indirectFault e.cmd

/-- The module may take the entry at the head of bulk ring `k` (R97, R104). -/
def bulkMayTake (s : State) (k : Nat) : Prop :=
  s.host.ready = true ∧ s.up = true ∧ s.power.mgmtUp = true ∧ (s.ring (8 + k)).run = true ∧ (s.ring (8 + k)).head ≠ (s.ring (8 + k)).tail

/-- The entry at the head of bulk ring `k` as the module marks it done (R97): bytes used, stream, and phase, end and error bits; the ring moves on
and its vector fires. -/
def bulkDone (k used : Nat) (fin : Bool) (stream : Nat) (err : Bool) (s : State) : State :=
  let r := s.ring (8 + k)
  let u := s.hostWrite (r.base + 16 * r.head + 8)
    (leBytes 4 used ++ leBytes 2 stream ++ leBytes 1 (b2n r.phase + 2 * b2n fin + 4 * b2n err) ++ leBytes 1 0)
  let next := (r.head + 1) % 2 ^ r.log2
  (u.setRing (8 + k) { r with head := next, phase := (if next = 0 then !r.phase else r.phase) }).raiseVector (3 + k)

/-- A bulk entry as its fields allow it (R97, R99). -/
def bulkFieldsOk (rd : BulkRead) : Prop :=
  rd.rsv = 0 ∧ rd.flags < 8 ∧ 1 ≤ rd.len ∧ rd.len ≤ 65536

/-- A press of `ms` milliseconds counts (R79, R81): the button is not stuck and the press began after the start was done. -/
def pressCounts (ms : Nat) (s : State) : Prop :=
  s.power.buttonStuck = false ∧ s.up = true ∧ max s.power.buttonFree s.power.startedAt + ms * 1000000 ≤ s.tb0

/-- Coupler frames run: steps 7 and 8 of the start have been reached, the scheduler's heartbeat is there and the module runs. -/
def framesRun (s : State) : Prop :=
  s.power.restoreDone = true ∧ s.sv.heartbeat = true ∧ s.power.phase = .running

/-- A step takes the command at the front of the queue: it is `exec` of that command on the state with the queue's rest; on an empty queue the block
idles (notes/assumptions/1.md), and no word spells a command (notes/assumptions/2.md). -/
def Obligations.StepTakesTheFrontCommand : Prop :=
  (∀ (c : Instr) (r : List Instr) (s : State), s.pending = c :: r → step s = exec c { s with pending := r })
  ∧ (∀ s : State, s.pending = [] → step s = .next s)
  ∧ (∀ (s : State) nbits w, s.withFetchWord nbits w = s)

/-- Every well-formed command goes on to a next state, whatever the state; no command is ever refused, and the only fault is that of an event which
names a resource the module does not have (00 R10). -/
def Obligations.WellFormedCommandsGoOn : Prop :=
  (∀ (i : Instr) (s : State), i.wf = true → ∃ t, exec i s = .next t)
  ∧ (∀ (i : Instr) (s : State) r, exec i s ≠ .refused r)
  ∧ (∀ (i : Instr) (s : State) f, exec i s = .fault f → f = .noSuchResource ∧ i.wf = false)

/-- A step takes the front command out of the queue and puts none in, and a queue of well-formed commands runs on to its end without a fault,
well-formed at every step (the resources of the module are those of 00 R10; the queue is the model's, notes/assumptions/1.md and 87.md). -/
def Obligations.WellFormedQueuesRunOn : Prop :=
  (∀ s u : State, step s = .next u → u.pending = s.pending.tail)
  ∧ (∀ s u : State, s.queueWf = true → step s = .next u → u.queueWf = true)
  ∧ (∀ s : State, s.queueWf = true → ∃ u, step s = .next u)

/-- A submission entry is read as it was written (R97, R111): from the 64 bytes of any well-formed entry the module reads the opcode and every field,
and from a message body every entry with its block, in order. -/
def Obligations.SubmissionEntriesRoundTrip : Prop :=
  (∀ op (c : Cmd), op < 65536 → c.wf = true → parseEntry c.route c.slot (submissionBytes op c) c.block = (op, { c with writeFails := false }))
  ∧ (∀ r (l : List (Nat × Cmd)), (∀ x ∈ l, x.1 < 65536 ∧ x.2.wf = true ∧ x.2.route = r ∧ x.2.slot = 0 ∧ x.2.writeFails = false
        ∧ (x.2.indirect = false → x.2.block = none) ∧ (x.2.indirect = true → ∃ b, x.2.block = some b ∧ b.length = x.2.blockLen)) →
      parseEntries r l.length (l.flatMap (fun x => submissionBytes x.1 x.2 ++ x.2.blockBytes)) = l)

/-- The life of a command (R17 to R19, R98, R101, R105, R117): it is lost on a closed route, answered S_ROUTE_FULL on a full session, held back behind
a fence; the checks are made in their order and the first that fails ends the command, with no other effect; an owner in its cycle takes the
command at its boundary, where its mailbox is applied in the order of posting; a full mailbox is S_MAILBOX_FULL. -/
def Obligations.CommandsMeetTheirChecksInOrder : Prop :=
  (∀ (k : CmdSpec) c (s : State), s.routeOpen c.route = false → k.submit c s = s)
  ∧ (∀ (k : CmdSpec) c (s : State), s.routeOpen c.route = true → c.route = .ivpasto → 16 ≤ s.inFlight .ivpasto →
      k.submit c s = ({ s with disp := { s.disp with ivpasto := { s.disp.ivpasto with refused := s.disp.ivpasto.refused + 1 } } } : State).sendIvpasto
        0x11 (completionBytes c.tag Status.sRouteFull.code 0 0 0 false false))
  ∧ (∀ (k : CmdSpec) c (s : State), s.routeOpen c.route = true → c.route = .host → s.fetchRoom = false → k.submit c s = s)
  ∧ (∀ (k : CmdSpec) c (s : State) e u, e = s.entryFor k.op c → u = s.fetched e → s.routeOpen c.route = true → s.routeFull c.route = false →
      u.heldBack e = true → k.submit c s = { u with disp := { u.disp with queue := u.disp.queue ++ [e] } })
  ∧ (∀ (k : CmdSpec) c (s : State) e d u, e = s.entryFor k.op c → u = (s.fetched e).enqueue e → s.routeOpen c.route = true →
      s.routeFull c.route = false → u.inTurn = some d → d ≠ e → k.submit c s = u)
  ∧ (∀ (k : CmdSpec) t c (s : State) st, k.reaches t c s = true → k.refusal (s.entryFor k.op c) (s.arrived k.op t c) = some st →
      k.submit c (s.advance t) = (s.arrived k.op t c).complete (s.entryFor k.op c) st 0 [])
  ∧ (∀ (k : CmdSpec) (e : Entry) (s : State) (a b : Bool), a = (e.cmd.entryWellFormed && e.cmd.reservedOk (k.layout e.cmd) && k.form s e.cmd
        && !(k.long e.cmd && e.cmd.onHost && !e.cmd.indirect)) → b = (k.route e.cmd && s.rolesAllow k.op e.cmd) →
      (a = false → k.refusal e s = some .sMalformed)
      ∧ (a = true → s.tagInUse e = true → k.refusal e s = some .sTagInUse)
      ∧ (a = true → s.tagInUse e = false → b = false → k.refusal e s = some .sRoute)
      ∧ (a = true → s.tagInUse e = false → b = true → k.target s e.cmd = false → k.refusal e s = some .sBadTarget)
      ∧ (a = true → s.tagInUse e = false → b = true → k.target s e.cmd = true → k.needsSession s e.cmd = true → s.sessionValid e.cmd = false →
          k.refusal e s = some .sSafetySessionRequired)
      ∧ (a = true → s.tagInUse e = false → b = true → k.target s e.cmd = true → k.needsSession s e.cmd = false → k.params s e.cmd = false →
          k.refusal e s = some .sBadParam)
      ∧ (a = true → s.tagInUse e = false → b = true → k.target s e.cmd = true → k.needsSession s e.cmd = false → k.params s e.cmd = true →
          s.standbyRole = true → (k.owner s e.cmd).isSome = true → k.refusal e s = some .sNotActive)
      ∧ (k.refusal e s = none → a = true ∧ s.tagInUse e = false ∧ b = true ∧ k.target s e.cmd = true ∧ k.params s e.cmd = true
          ∧ k.check s e.cmd = .sOk))
  ∧ (∀ (k : CmdSpec) t c (s : State) o, k.passes t c s = true → k.owner (s.arrived k.op t c) c = some o →
      k.running (s.arrived k.op t c) c = true ∨ (s.arrived k.op t c).mailWaits o = true →
      (s.arrived k.op t c).postsToPartner = false →
      ((s.arrived k.op t c).mailCount o < 8 →
        k.submit c (s.advance t) = (s.arrived k.op t c).postMail { owner := o, body := .cmd (s.entryFor k.op c) })
      ∧ (8 ≤ (s.arrived k.op t c).mailCount o →
        k.submit c (s.advance t) = (s.arrived k.op t c).complete (s.entryFor k.op c) .sMailboxFull 0 []))
  ∧ (∀ o (s : State), s.pair.st = .unpaired → s.atBoundary o
      = (s.mail.filter (fun p => p.owner == o)).foldl (fun s p => applyPosting specOf (ownPosting o) p s)
          { s with mail := s.mail.filter (fun p => !(p.owner == o)) })

/-- A completion writes its 16-byte entry and, of a long result, the indirect area, and no other byte of host memory; it touches nothing of the module
but the dispatcher, the host interface, what it sends or queues at its ports and, where it is discarded, the event intake. Where the ring has no
released entry the completion is discarded, not written (R97, R100, R101). -/
def Obligations.CompletionsWriteOnlyTheirEntry : Prop :=
  (∀ (s : State) e st result block u, u = s.complete e st result block →
      u = { s with host := u.host, disp := u.disp, inManagement := u.inManagement, sent := u.sent, tx := u.tx })
  ∧ (∀ (s : State) (e : Entry) st result block f, s.flightOf e.id = some f → f.orphan = false → e.cmd.route = .host → e.cmd.writeFails = false →
      (s.ring 1).run = true → (s.ring 1).full = false → Tab.wf (fun _ => 0) s.host.mem = true → ∀ a u, a = (s.ring 1).base + 16 * (s.ring 1).tail →
      u = s.complete e st result block →
      (∀ i, i < 16 → Tab.get (fun _ => 0) u.host.mem (a + i) = (completionBytes e.cmd.tag st.code (s.ring 0).head result e.cmd.slot
        (s.ring 1).phase (e.cmd.indirect && !block.isEmpty))[i]!)
      ∧ (∀ x, (x < a ∨ a + 16 ≤ x) → (e.cmd.indirect = false ∨ x < e.cmd.blockAddr ∨ e.cmd.blockAddr + e.cmd.blockLen ≤ x) →
          Tab.get (fun _ => 0) u.host.mem x = Tab.get (fun _ => 0) s.host.mem x)
      ∧ Tab.wf (fun _ => 0) u.host.mem = true)
  ∧ (∀ (s : State) (e : Entry) st result block, (s.ring 1).run = false ∨ (s.ring 1).full = true →
      s.completeHost e st result block = ({ s with host := { s.host with lostCompletions := (s.host.lostCompletions + 1) % 2 ^ 32 } } : State).post
        .management .eCompletionDiscarded modRes (st.code * 65536 + e.op) e.cmd.tag)
  ∧ (∀ tag st head result slot phase long b, b = completionBytes tag st head result slot phase long → b.length = 16
      ∧ leNat (slice b 0 4) = tag % 2 ^ 32 ∧ leNat (slice b 4 2) = st % 2 ^ 16 ∧ leNat (slice b 6 2) = head % 2 ^ 16
      ∧ leNat (slice b 8 4) = result % 2 ^ 32 ∧ leNat (slice b 12 2) = slot % 2 ^ 16
      ∧ leNat (slice b 15 1) = b2n phase + 2 * b2n long)

/-- Resources are independent: writing one channel, output, axis, loop, task, CAN channel or ring leaves every other of its kind as it was, itself
reads back, and the tables keep their canonical form. -/
def Obligations.ResourcesAreIndependent : Prop :=
  ∀ (s : State) (n m : Nat), n ≠ m →
    (∀ x, Tab.wf (fun _ => {}) s.ac = true → (s.setAc n x).acOf m = s.acOf m ∧ (s.setAc n x).acOf n = x ∧ Tab.wf (fun _ => {}) (s.setAc n x).ac = true)
    ∧ (∀ x, Tab.wf (fun _ => {}) s.dc = true → (s.setDc n x).dcOf m = s.dcOf m ∧ (s.setDc n x).dcOf n = x ∧ Tab.wf (fun _ => {}) (s.setDc n x).dc = true)
    ∧ (∀ x, Tab.wf (fun _ => {}) s.so = true → (s.setSo n x).soOf m = s.soOf m ∧ (s.setSo n x).soOf n = x ∧ Tab.wf (fun _ => {}) (s.setSo n x).so = true)
    ∧ (∀ x, Tab.wf (fun _ => {}) s.axes = true → (s.setAx n x).axOf m = s.axOf m ∧ (s.setAx n x).axOf n = x ∧ Tab.wf (fun _ => {}) (s.setAx n x).axes = true)
    ∧ (∀ x, Tab.wf (fun _ => {}) s.loops = true → (s.setLoop n x).loopOf m = s.loopOf m ∧ (s.setLoop n x).loopOf n = x
        ∧ Tab.wf (fun _ => {}) (s.setLoop n x).loops = true)
    ∧ (∀ x, Tab.wf (fun _ => {}) s.tasks = true → (s.setTask n x).taskOf m = s.taskOf m ∧ (s.setTask n x).taskOf n = x
        ∧ Tab.wf (fun _ => {}) (s.setTask n x).tasks = true)
    ∧ (∀ x, Tab.wf (fun _ => {}) s.cans = true → (s.setCan n x).canOf m = s.canOf m ∧ (s.setCan n x).canOf n = x
        ∧ Tab.wf (fun _ => {}) (s.setCan n x).cans = true)
    ∧ (∀ x, Tab.wf (fun _ => {}) s.host.rings = true → (s.setRing n x).ring m = s.ring m ∧ (s.setRing n x).ring n = x
        ∧ Tab.wf (fun _ => {}) (s.setRing n x).host.rings = true)

/-- The machine right after reset (R74, R77, R80, R90, R92, R94): held in reset with the management plane down, nothing fetched or in flight, every
ring disabled with its factory registers, every safety output open, every axis disabled, no task executing, no command waiting. -/
def Obligations.ResetHoldsTheModule : Prop :=
  State.reset.power.phase = .heldReset ∧ State.reset.power.mgmtUp = false ∧ State.reset.host.ready = false
  ∧ State.reset.queueWf = true ∧ State.reset.pending = [] ∧ State.reset.disp.flights = [] ∧ State.reset.mail = []
  ∧ (∀ k, (State.reset.ring k).en = false ∧ (State.reset.ring k).run = false ∧ (State.reset.ring k).base = 0 ∧ (State.reset.ring k).log2 = 0)
  ∧ State.reset.host.coalesceCount = 1 ∧ State.reset.host.coalesceDelayUs = 0 ∧ State.reset.host.eqMinSev = 2
  ∧ (∀ k, Tab.get vectorUnlisted State.reset.host.vectors k = k)
  ∧ (∀ n, (State.reset.soOf n).hsCmd = false) ∧ (∀ n, (State.reset.axOf n).energised = false)
  ∧ (∀ i, (State.reset.taskOf i).executing = false)
  ∧ Tab.wf (fun _ => 0) State.reset.host.mem = true ∧ Tab.wf (fun _ => 0) State.reset.prog.store = true

/-- R110: the low byte of a recorder code gives its severity group. -/
def Obligations.CodeNumbersGiveTheSeverityGroup : Prop :=
  ∀ c : Code, (c.num % 256 ≤ 0x7F → c.sev ≤ 3) ∧ (0x80 ≤ c.num % 256 → 4 ≤ c.sev ∧ c.sev ≤ 7)
    ∧ (∀ d : Code, d.num = c.num → d.sev = c.sev)

/-- R170: the comparison blocks on a NaN and on the two zeros, in both real types. -/
def Obligations.ComparisonsWithNaNAndZero : Prop :=
  ∀ (a : Args) (c : Ctx), tyReal (a.ty 0) = true →
    (((tyFmt (a.ty 0)).isNan (a.v 0) = true ∨ (tyFmt (a.ty 0)).isNan (a.v 1) = true) →
      (∀ code, code ∈ [0x0400, 0x0401, 0x0402, 0x0403, 0x0404] → (evSelect code a c).outs = [some 0])
      ∧ (evSelect 0x0405 a c).outs = [some 1])
    ∧ (∀ x y, a.v 0 = (tyFmt (a.ty 0)).sign x → a.v 1 = (tyFmt (a.ty 0)).sign y →
      (∀ code, code ∈ [0x0401, 0x0402, 0x0403] → (evSelect code a c).outs = [some 1])
      ∧ (∀ code, code ∈ [0x0400, 0x0404, 0x0405] → (evSelect code a c).outs = [some 0]))

/-- R455: a check unit in an image map. -/
def Obligations.CheckUnitRecordInTheImage : Prop :=
  (∀ (s : State) (e : MapEntry), e.cls = 0x0D → (s.inForm e = if e.index < 8 ∧ e.sub = 0 then some (0, 16) else none) ∧ s.outForm e = none)
  ∧ (∀ (s : State) (e : MapEntry), e.cls = 0x0D → e.index < 8 → e.sub = 0 → ∀ b, b = (s.latchValue e).1 → b.length = 16
      ∧ leNat (slice b 0 4) = (s.cuOf e.index).result % 2 ^ 32
      ∧ leNat (slice b 4 4) = (s.cuOf e.index).streams % 2 ^ 32
      ∧ leNat (slice b 8 4) = (s.cuOf e.index).mismatches % 2 ^ 32
      ∧ leNat (slice b 12 4) = (s.cuOf e.index).aliveFails % 2 ^ 32)

/-- R102: a full or disabled event ring. -/
def Obligations.FullEventRingsCountTheirLosses : Prop :=
  ∀ (s : State) (e : Event) n wf, s.host.eqMinSev ≤ e.code.sev →
    ((s.ring 2).run = false ∨ ((s.ring 2).tail + 1) % 2 ^ (s.ring 2).log2 = (s.ring 2).head →
      s.offerHost e n wf = { s with host := { s.host with
        eventLost := (s.host.eventLost + 1) % 2 ^ 32, eqLostSince := s.host.eqLostSince + 1 } })
    ∧ ((s.ring 2).run = true → ((s.ring 2).tail + 1) % 2 ^ (s.ring 2).log2 ≠ (s.ring 2).head → Tab.wf (fun _ => 0) s.host.mem = true →
      Tab.get (fun _ => 0) (s.offerHost e n false).host.mem ((s.ring 2).base + 32 * (s.ring 2).tail + 30)
          = BitVec.ofNat 8 (min 255 s.host.eqLostSince)
        ∧ (s.offerHost e n false).host.eqLostSince = 0
        ∧ (s.offerHost e n false).host.eventLost = s.host.eventLost)
    ∧ ((s.ring 2).run = true → ((s.ring 2).tail + 1) % 2 ^ (s.ring 2).log2 ≠ (s.ring 2).head →
      (s.offerHost e n true).host.eventLost = (s.host.eventLost + 1) % 2 ^ 32 ∧ ((s.offerHost e n true).ring 2).run = false)

/-- R107: `MOD.ABORT`. -/
def Obligations.AbortWithdrawsHeldCommands : Prop :=
  ∀ t c (s w : State) e, e = s.entryFor 0x0102 c → w = s.arrived 0x0102 t c → specModAbort.reaches t c s = true →
    CmdSpec.refusal { specModAbort with check := fun _ _ => .sOk } e w = none →
    (∀ f, w.disp.flights.find? (fun f => f.entry.cmd.route == c.route && f.entry.cmd.tag == c.field 16 4) = some f →
      (f.dispatched = false → exec (.modAbort t c) s = .next
        ((({ w with disp := { w.disp with queue := w.disp.queue.filter (fun q => q.id != f.entry.id) } } : State).complete f.entry .sAborted 0 []).complete
          e .sOk 0 []))
      ∧ (f.dispatched = true → exec (.modAbort t c) s = .next (w.complete e .sTooLate 0 [])))
    ∧ (w.disp.flights.find? (fun f => f.entry.cmd.route == c.route && f.entry.cmd.tag == c.field 16 4) = none →
      exec (.modAbort t c) s = .next (w.complete e .sNotFound 0 []))

/-- The host's registers (R88, R90, R92 to R94, R99, R103): an enable bit starts a ring at entry 0 and stops it; fault bits are cleared by writing
ones; a set-up register of an enabled ring is a fault; only aligned 32-bit accesses count; a coalescing count that waiting completions reach fires
their vector; the reset register acts on its key alone. The doorbells of the host (R88, R96, R99): one of a running ring moves its tail or head,
one past the ring's end is a ring fault, and one of a disabled ring counts for nothing. PERST# and its release (R89, R94, R118): READY's change is
told, the host registers take their factory values, undispatched commands of the host are withdrawn and the completions of the dispatched ones are
lost; at the release READY is set where the management plane is up. -/
def Obligations.HostRegistersAndDoorbells : Prop :=
  ((∀ t, Occurs (.sqEn t true) t (fun s => ringMayStart s 0 12) (ringAtStart 0)
    ∧ Occurs (.sqEn t true) t (fun s => s.host.ready = true ∧ (s.ring 0).en = false ∧ (s.ring 0).log2 < 4) (fun s => (ringAtStart 0 s).ringFault 0 0x01)
    ∧ Occurs (.sqEn t false) t (fun s => s.host.ready = true ∧ (s.ring 0).en = true) (fun s => s.setRing 0 { s.ring 0 with en := false, run := false })
    ∧ (∀ on, Occurs (.sqEn t on) t (fun s => s.host.ready = false ∨ (s.ring 0).en = on) (fun s => s)))
  ∧ (∀ t, Occurs (.cqEn t true) t (fun s => ringMayStart s 1 12)
      (fun s => let u := ringAtStart 1 s; { u with host := { u.host with unsignalled := 0 } })
    ∧ Occurs (.cqEn t false) t (fun s => s.host.ready = true ∧ (s.ring 1).en = true) (fun s => s.setRing 1 { s.ring 1 with en := false, run := false }))
  ∧ (∀ t, Occurs (.eqEn t true) t (fun s => ringMayStart s 2 12) (ringAtStart 2)
    ∧ Occurs (.eqEn t false) t (fun s => s.host.ready = true ∧ (s.ring 2).en = true) (fun s => s.setRing 2 { s.ring 2 with en := false, run := false }))
  ∧ (∀ t j, j < 8 → Occurs (.bulkEn t j true) t (fun s => ringMayStart s (8 + j) 10) (ringAtStart (8 + j))
    ∧ Occurs (.bulkEn t j true) t (fun s => s.host.ready = true ∧ (s.ring (8 + j)).en = false ∧ 10 < (s.ring (8 + j)).log2)
      (fun s => (ringAtStart (8 + j) s).ringFault (8 + j) 0x01)
    ∧ Occurs (.bulkEn t j false) t (fun s => s.host.ready = true ∧ (s.ring (8 + j)).en = true ∧ s.disp.streams = [])
      (fun s => s.setRing (8 + j) { s.ring (8 + j) with en := false, run := false }))
  ∧ (∀ t v s, (s.advance t).host.ready = true → Tab.wf (fun _ => {}) s.host.rings = true → ∃ u, exec (.ringFaultClear t v) s = .next u
      ∧ (∀ b ∈ ringBits, u.ring b.1 = { s.ring b.1 with fault := (s.ring b.1).fault && !bitOf v (16 + b.2) })
      ∧ u.host.faultCause = (if ringBits.any (fun b => (s.ring b.1).fault && !bitOf v (16 + b.2)) then s.host.faultCause else 0))
  ∧ (∀ t v, OccursIf (.modResetReg t v) t (fun s => s.host.endpointUp = true ∧ v = 0x0000A55A) (fun s => s.moduleReset 0x09 true))
  ∧ (∀ t o v be, o % 4 ≠ 0 ∨ be ≠ 15 → Occurs (.registerWrite t o ⟨v, be⟩) t (fun _ => True) (fun s => s))
  ∧ (∀ t v, Occurs (.registerWrite t 0x0300 ⟨v, 15⟩) t (fun s => s.host.endpointUp = true ∧ s.host.d3hot = false ∧ v % 2 ^ 32 = 0x0000A55A)
      (fun s => s.moduleReset 0x09 true))
  ∧ (∀ t v, Occurs (.registerWrite t 0x0300 ⟨v, 15⟩) t (fun s => s.host.endpointUp = false ∨ v % 2 ^ 32 ≠ 0x0000A55A) (fun s => s))
  ∧ (∀ t k v, k < 3 → Occurs (.registerWrite t (0x0100 + 16 * k) ⟨v, 15⟩) t (fun s => s.host.ready = true ∧ s.host.d3hot = false ∧ (s.ring k).en = true)
      (fun s => s.ringFault k 0x05))
  ∧ (∀ t k v, k < 3 → Occurs (.registerWrite t (0x0100 + 16 * k) ⟨v, 15⟩) t (fun s => s.host.ready = true ∧ s.host.d3hot = false ∧ (s.ring k).en = false)
      (fun s => s.setRing k { s.ring k with base := (s.ring k).base / 2 ^ 32 * 2 ^ 32 + v % 2 ^ 32 / 4096 * 4096 }))
  ∧ (∀ t k v, k < 8 → Occurs (.registerWrite t (0x0140 + 16 * k + 8) ⟨v, 15⟩) t
      (fun s => s.host.ready = true ∧ s.host.d3hot = false ∧ (s.ring (8 + k)).en = false)
      (fun s => s.setRing (8 + k) { s.ring (8 + k) with log2 := v % 2 ^ 32 % 16, dir := bitOf (v % 2 ^ 32) 8 }))
  ∧ (∀ t v, Occurs (.registerWrite t 0x011C ⟨v, 15⟩) t
      (fun s => s.host.ready = true ∧ s.host.d3hot = false ∧ (s.host.unsignalled = 0 ∨ s.host.unsignalled < v % 2 ^ 32 % 256))
      (fun s => { s with host := { s.host with coalesceCount := v % 2 ^ 32 % 256, coalesceDelayUs := bitsOf (v % 2 ^ 32) 23 8 } }))
  ∧ (∀ t v, Occurs (.registerWrite t 0x011C ⟨v, 15⟩) t
      (fun s => s.host.ready = true ∧ s.host.d3hot = false ∧ s.host.unsignalled ≠ 0 ∧ v % 2 ^ 32 % 256 ≤ s.host.unsignalled)
      (fun s => ({ s with host := { s.host with
        coalesceCount := v % 2 ^ 32 % 256, coalesceDelayUs := bitsOf (v % 2 ^ 32) 23 8, unsignalled := 0 } } : State).raiseVector 0))
  ∧ (∀ t v, Occurs (.registerWrite t 0x012C ⟨v, 15⟩) t (fun s => s.host.ready = true ∧ s.host.d3hot = false)
      (fun s => { s with host := { s.host with eqMinSev := v % 2 ^ 32 % 8 } })))
  ∧ ((∀ t v, Occurs (.dbSqTail t v) t (fun s => doorbellTaken s 0 (v % 4096))
      (fun s => s.setRing 0 { s.ring 0 with db := v % 4096, tail := v % 4096 })
    ∧ Occurs (.dbSqTail t v) t (fun s => doorbellPast s 0 (v % 4096)) (fun s => (s.setRing 0 { s.ring 0 with db := v % 4096 }).ringFault 0 0x02)
    ∧ Occurs (.dbSqTail t v) t (fun s => s.host.ready = false ∨ (s.ring 0).en = false) (fun s => s))
  ∧ (∀ t v, Occurs (.dbCqHead t v) t (fun s => doorbellTaken s 1 (v % 4096))
      (fun s => s.setRing 1 { s.ring 1 with db := v % 4096, head := v % 4096 })
    ∧ Occurs (.dbCqHead t v) t (fun s => doorbellPast s 1 (v % 4096)) (fun s => (s.setRing 1 { s.ring 1 with db := v % 4096 }).ringFault 1 0x02)
    ∧ Occurs (.dbCqHead t v) t (fun s => s.host.ready = false ∨ (s.ring 1).en = false) (fun s => s))
  ∧ (∀ t v, Occurs (.dbEqHead t v) t (fun s => doorbellTaken s 2 (v % 4096))
      (fun s => s.setRing 2 { s.ring 2 with db := v % 4096, head := v % 4096 })
    ∧ Occurs (.dbEqHead t v) t (fun s => doorbellPast s 2 (v % 4096)) (fun s => (s.setRing 2 { s.ring 2 with db := v % 4096 }).ringFault 2 0x02)
    ∧ Occurs (.dbEqHead t v) t (fun s => s.host.ready = false ∨ (s.ring 2).en = false) (fun s => s))
  ∧ (∀ t j v, j < 8 → Occurs (.dbBulkTail t j v) t (fun s => doorbellTaken s (8 + j) (v % 1024))
      (fun s => s.setRing (8 + j) { s.ring (8 + j) with db := v % 1024, tail := v % 1024 })
    ∧ Occurs (.dbBulkTail t j v) t (fun s => doorbellPast s (8 + j) (v % 1024))
      (fun s => (s.setRing (8 + j) { s.ring (8 + j) with db := v % 1024 }).ringFault (8 + j) 0x02)
    ∧ Occurs (.dbBulkTail t j v) t (fun s => s.host.ready = false ∨ (s.ring (8 + j)).en = false) (fun s => s)))
  ∧ ((∀ t, ∀ s u w v : State, u = (if (s.advance t).host.ready = true then (s.advance t).raiseVector 2 else s.advance t) →
      w = { u with host := { mem := u.host.mem, irqs := u.host.irqs } } →
      v = (w.disp.flights.filter (fun f => f.entry.cmd.route == .host && !f.dispatched)).foldl (fun s f => s.withdraw f) w →
      v.disp.streams = [] →
      exec (.perst t) s = .next { v with
        disp := { v.disp with flights := v.disp.flights.map (fun f => if f.entry.cmd.route = .host then { f with orphan := true } else f) } })
  ∧ (∀ t, Occurs (.perstRelease t) t (fun s => s.host.endpointUp = true) (fun s => s))
  ∧ (∀ t, Occurs (.perstRelease t) t (fun s => s.host.endpointUp = false ∧ s.power.mgmtUp = true ∧ s.host.ready = false)
      (fun s =>
        ({ s with host := { s.host with
            endpointUp := true, ready := true, dispatched := 0, refused := 0 } } : State).raiseVector 2))
  ∧ (∀ t, Occurs (.perstRelease t) t (fun s => s.host.endpointUp = false ∧ s.power.mgmtUp = false)
      (fun s => { s with host := { s.host with endpointUp := true } })))

/-- Commands are fetched and dispatched (R97 to R103, R105): a submission entry is fetched while there is room for its completion, a refused read is a
ring fault; the dispatcher takes the routes in turn and never one that is held back; an opcode with no command completes with S_UNKNOWN_OPCODE.
Bulk entries (R97, R99, R104): a refused read is a ring fault, and so is an entry whose length or flags are outside their ranges; an entry of a
host-to-module ring reaches its stream and is marked done; one that names no open stream is marked with its error bit, which ends a command that
has the stream open the other way; an entry of a module-to-host ring waits while its streams have nothing to send. -/
def Obligations.CommandsAreFetchedAndDispatched : Prop :=
  ((∀ t rd block wf, Occurs (.sqFetch t rd block wf) t
    (fun s => s.host.ready = false ∨ s.power.mgmtUp = false ∨ (s.ring 0).run = false ∨ (s.ring 0).head = (s.ring 0).tail ∨ 128 ≤ s.inFlight .host)
    (fun s => s))
  ∧ (∀ t block wf, Occurs (.sqFetch t none block wf) t sqMayFetch (fun s => s.ringFault 0 0x03))
  ∧ (∀ t b block wf, Occurs (.sqFetch t (some b) block wf) t sqMayFetch (fun s =>
      let c : Cmd := { (parseEntry .host (s.ring 0).head b block).2 with writeFails := wf }
      let u := s.setRing 0 { s.ring 0 with head := ((s.ring 0).head + 1) % 2 ^ (s.ring 0).log2 }
      let e : Entry := { id := u.disp.nextId, op := leNat (slice b 0 2), cmd := c }
      { u with disp := { u.disp with
          nextId := e.id + 1, flights := u.disp.flights ++ [{ entry := e, dispatched := false }], queue := u.disp.queue ++ [e] } }))
  ∧ (∀ t, Occurs (.commandDispatch t) t (fun s => s.disp.queue = []) (fun s => s))
  ∧ (∀ t, Occurs (.commandDispatch t) t (fun s => ∀ e ∈ s.disp.queue, s.routeOpen e.cmd.route = false ∨ s.heldBack e = true) (fun s => s))
  ∧ (∀ t e l, ∀ s u : State, s.advance t = u →
      l = u.disp.queue.filter (fun e => e.cmd.route.kind == (u.disp.lastRoute + 1) % 3 && u.routeOpen e.cmd.route) →
      l.find? (fun e => e.op == 0x0102) = none → l.find? (fun e => !(u.heldBack e)) = some e →
      (specOf e.op = none → e.cmd.entryWellFormed = true →
        exec (.commandDispatch t) s = .next ((asDispatched e u).complete e .sUnknownOpcode 0 []))
      ∧ (∀ k, specOf e.op = some k →
        (∀ st, k.refusal e (asDispatched e u) = some st → exec (.commandDispatch t) s = .next ((asDispatched e u).complete e st 0 []))
        ∧ (k.refusal e (asDispatched e u) = none → k.owner (asDispatched e u) e.cmd = none →
            exec (.commandDispatch t) s = .next ((asDispatched e u).finish e (k.run e (asDispatched e u))))))
  ∧ (∀ t e k, ∀ s u : State, s.advance t = u → specOf 0x0102 = some k →
      (u.disp.queue.filter (fun e => e.cmd.route.kind == (u.disp.lastRoute + 1) % 3 && u.routeOpen e.cmd.route)).find? (fun e => e.op == 0x0102) = some e →
      k.refusal e (asDispatched e u) = none →
      exec (.commandDispatch t) s = .next ((asDispatched e u).finish e (k.run e (asDispatched e u))))
  ∧ (∀ t, OccursIf (.cqCoalesceTimeout t) t
      (fun s => s.host.unsignalled ≠ 0 ∧ s.host.unsignalledAt + s.host.coalesceDelayUs * 1000 ≤ s.tb0)
      (fun s => ({ s with host := { s.host with unsignalled := 0 } } : State).raiseVector 0)))
  ∧ ((∀ t k rd wf, k < 8 → Occurs (.bulkEntry t k rd wf) t (fun s => ¬ bulkMayTake s k) (fun s => s))
  ∧ (∀ t k wf, k < 8 → Occurs (.bulkEntry t k none wf) t (fun s => bulkMayTake s k) (fun s => s.ringFault (8 + k) 0x03))
  ∧ (∀ t k wf (rd : BulkRead), k < 8 → rd.rsv ≠ 0 ∨ 8 ≤ rd.flags ∨ rd.len < 1 ∨ 65536 < rd.len →
      Occurs (.bulkEntry t k (some rd) wf) t (fun s => bulkMayTake s k) (fun s => s.ringFault (8 + k) 0x06))
  ∧ (∀ t k rd, k < 8 → bulkFieldsOk rd → Occurs (.bulkEntry t k (some rd) false) t
      (fun s => bulkMayTake s k ∧ (s.ring (8 + k)).dir = false ∧ s.disp.streams = []) (bulkDone k 0 (bitOf rd.flags 1) rd.stream true))
  ∧ (∀ t k rd, k < 8 → bulkFieldsOk rd → Occurs (.bulkEntry t k (some rd) true) t
      (fun s => bulkMayTake s k ∧ (s.ring (8 + k)).dir = false ∧ s.disp.streams = []) (fun s => s.ringFault (8 + k) 0x04))
  ∧ (∀ t k rd x, k < 8 → bulkFieldsOk rd → x.stream = rd.stream → x.toHost = true → Occurs (.bulkEntry t k (some rd) false) t
      (fun s => bulkMayTake s k ∧ (s.ring (8 + k)).dir = false ∧ s.disp.streams = [x])
      (fun s => (bulkDone k 0 (bitOf rd.flags 1) rd.stream true s).abortStream x))
  ∧ (∀ t k (rd : BulkRead) x b, k < 8 → bulkFieldsOk rd → rd.data = some b → rd.stream = x.stream → x.ring = k → x.toHost = false →
      x.entry.op = 0x0210 → bitOf rd.flags 1 = false →
      Occurs (.bulkEntry t k (some rd) false) t (fun s => bulkMayTake s k ∧ (s.ring (8 + k)).dir = false ∧ s.disp.streams = [x])
        (fun s =>
          let u := bulkDone k rd.len false rd.stream false s
          ({ u with disp := { u.disp with streams :=
            [{ x with entries := x.entries + 1, bytes := x.bytes + (slice b 0 rd.len).length }] } } : State).progStream x.entry x.bytes
            (slice b 0 rd.len) false))
  ∧ (∀ t k (rd : BulkRead), k < 8 → bulkFieldsOk rd → rd.stream = 0xFFFF → Occurs (.bulkEntry t k (some rd) false) t
      (fun s => bulkMayTake s k ∧ (s.ring (8 + k)).dir = true ∧ s.disp.streams = []) (fun s => s))
  ∧ (∀ t k (rd : BulkRead) x, k < 8 → bulkFieldsOk rd → x.ring = k → x.toHost = true → rd.stream = x.stream → x.entry.op = 0x0216 →
      x.data.length ≤ rd.len →
      Occurs (.bulkEntry t k (some rd) false) t
        (fun s => bulkMayTake s k ∧ (s.ring (8 + k)).dir = true ∧ s.disp.streams = [x] ∧ s.hart.bursts = [] ∧ s.hart.passes = [])
        (fun s =>
          let u := bulkDone k x.data.length true rd.stream false (s.hostWrite rd.addr x.data)
          ({ u with disp := { u.disp with streams := [] } } : State).complete x.entry .sOk 0 [])))

/-- Supplies, VCORE, PLLs and the baseplate (R60, R61, R63, R65, R538): warnings, the loss of a logic supply, the steps of VCORE, three lock attempts
of a PLL, and the record of a hot baseplate once a minute. -/
def Obligations.SuppliesAndClocksAreWatched : Prop :=
  (∀ t mv cell, Occurs (.supplyWarning t 0 ⟨mv, cell⟩) t
      (fun s => s.up = true ∧ (mv < 18000 ∨ 33000 < mv) ∧ Tab.get (fun _ => false) s.power.warnFlags 0 = false)
      (fun s => (s.setSupply 0 mv true (Tab.get (fun _ => false) s.power.failFlags 0)).post .management .eLogicSupplyRange modRes (mv % 2 ^ 24)))
  ∧ (∀ t mv cell, Occurs (.supplyWarning t 1 ⟨mv, cell⟩) t
      (fun s => s.up = true ∧ (mv < 18000 ∨ 33000 < mv) ∧ Tab.get (fun _ => false) s.power.warnFlags 1 = false)
      (fun s => (s.setSupply 1 mv true (Tab.get (fun _ => false) s.power.failFlags 1)).post .management .eLogicSupplyRange modRes
        (2 ^ 24 + mv % 2 ^ 24)))
  ∧ (∀ t mv cell, Occurs (.supplyWarning t 2 ⟨mv, cell⟩) t
      (fun s => s.up = true ∧ mv < 18000 ∧ Tab.get (fun _ => false) s.power.warnFlags 2 = false)
      (fun s => (s.setSupply 2 mv true (Tab.get (fun _ => false) s.power.failFlags 2)).post .management .eFaLow { cls := 0x04, index := 0 }
        (q24 0xFF mv)))
  ∧ (∀ t mv cell, Occurs (.supplyWarning t 6 ⟨mv, cell⟩) t
      (fun s => s.up = true ∧ (mv < 24000 ∨ 50000 < mv) ∧ Tab.get (fun _ => false) s.power.warnFlags 6 = false)
      (fun s => (s.setSupply 6 mv true (Tab.get (fun _ => false) s.power.failFlags 6)).post .management .eFmRange { cls := 0x08, index := 0xFF }
        (0xFF * 2 ^ 24 + mv % 2 ^ 24)))
  ∧ (∀ t k mv cell, k < 3 → Occurs (.supplyWarning t k ⟨mv, cell⟩) t
      (fun s => 18000 ≤ mv ∧ mv ≤ 33000 ∧ Tab.get (fun _ => false) s.power.failFlags k = false)
      (fun s => s.setSupply k mv false false))
  ∧ (∀ t mv cell, max mv cell < 1200 → Occurs (.supplyWarning t 7 ⟨mv, cell⟩) t
      (fun s => s.up = true ∧ Tab.get (fun _ => false) s.power.warnFlags 7 = false ∧ Tab.get (fun _ => false) s.power.failFlags 7 = false)
      (fun s =>
        let u := s.setSupply 7 (max mv cell) true false
        ({ u with rtc := { u.rtc with capMv := mv, cellMv := cell } } : State).post .management .eVbkLow { cls := 0x0E, index := 0 }
          (max mv cell)))
  ∧ (∀ t k mv cell, k < 8 → k ≠ 3 → k ≠ 4 → k ≠ 5 → k ≠ 7 → Occurs (.supplyWarning t k ⟨mv, cell⟩) t (fun s => s.up = false)
      (fun s => s.setSupply k mv (decide (mv < (supplyLimits k).1) || (match (supplyLimits k).2 with | some h => decide (h < mv) | none => false)
        || Tab.get (fun _ => false) s.power.failFlags k) (Tab.get (fun _ => false) s.power.failFlags k)))
  ∧ (∀ t k mv, k < 2 → Occurs (.logicSupplyFail t k mv) t
      (fun s => 16000 ≤ mv ∨ Tab.get (fun _ => false) s.power.failFlags k = true) (fun s => s))
  ∧ (∀ t k mv, k < 2 → mv < 16000 → Occurs (.logicSupplyFail t k mv) t
      (fun s => s.up = true ∧ Tab.get (fun _ => false) s.power.failFlags k = false ∧ (s.setSupply k mv true true).param .logicDualFeed 0 = 0)
      (fun s => (s.setSupply k mv true true).post .management .eLogicSupplySingle modRes k))
  ∧ (∀ t k mv, k < 2 → mv < 16000 → Occurs (.logicSupplyFail t k mv) t
      (fun s => s.up = true ∧ Tab.get (fun _ => false) s.power.failFlags k = false ∧ (s.setSupply k mv true true).param .logicDualFeed 0 ≠ 0)
      (fun s => (s.setSupply k mv true true).post .management (if k = 0 then .fSupplyLaLost else .fSupplyLbLost) modRes mv))
  ∧ (∀ t k mv, k < 2 → OccursIf (.logicSupplyRecovery t k mv) t (fun _ => 18000 < mv) (fun s => s.setSupply k mv (decide (33000 < mv)) false))
  ∧ (∀ t, Occurs (.vcoreMarginLost t) t (fun s => s.up = true ∧ s.power.vcore < 1050)
      (fun s => { s with power := { s.power with vcore := min 1050 (s.power.vcore + 20), vcoreStepAt := s.tb0 } }))
  ∧ (∀ t, Occurs (.vcoreMarginLost t) t (fun s => s.up = true ∧ 1050 ≤ s.power.vcore ∧ s.power.marginLost = false)
      (fun s => ({ s with power := { s.power with marginLost := true } } : State).post .management .fVcoreMargin modRes s.power.vcore))
  ∧ (∀ t, OccursIf (.vcoreStepDown t) t (fun s => s.up = true ∧ s.power.vcoreStepAt + 1000000 ≤ s.tb0 ∧ 910 ≤ s.power.vcore)
      (fun s => { s with power := { s.power with vcore := s.power.vcore - 10, vcoreStepAt := s.tb0, marginLost := false } }))
  ∧ (∀ t k, k < 5 → Occurs (.pllLockTimeout t k) t
      (fun s => (s.power.phase = .heldReset ∨ s.power.phase = .pllHeld) ∧ Tab.get (fun _ => 1) s.power.pllAttempts k < 3)
      (fun s => { s with power := { s.power with
          phase := .heldReset, pllAttempts := Tab.put (fun _ => 1) s.power.pllAttempts k (Tab.get (fun _ => 1) s.power.pllAttempts k + 1) } }))
  ∧ (∀ t k, k < 5 → Occurs (.pllLockTimeout t k) t
      (fun s => (s.power.phase = .heldReset ∨ s.power.phase = .pllHeld) ∧ 3 ≤ Tab.get (fun _ => 1) s.power.pllAttempts k)
      (fun s => { s with power := { s.power with phase := .pllHeld, pllAttempts := [], lastCause := 0x10, lastCauseEpoch := s.power.epoch, pllFailed := k } }))
  ∧ (∀ t k, k < 5 → Occurs (.pllLockTimeout t k) t (fun s => s.power.phase = .running ∨ s.power.phase = .holdUp) (fun s => s))
  ∧ (∀ t (temp : Int), 720 ≤ temp → Occurs (.baseplateHot t temp) t (fun s => s.up = true ∧ s.power.hotAt = none)
      (fun s => ({ s with power := { s.power with hotAt := some s.tb0 } } : State).post .management .eBaseplateHot modRes (wrapInt 32 temp)))
  ∧ (∀ t (temp : Int) a, 680 ≤ temp → Occurs (.baseplateHot t temp) t
      (fun s => s.up = true ∧ s.power.hotAt = some a ∧ a + 60000000000 ≤ s.tb0)
      (fun s => ({ s with power := { s.power with hotAt := some s.tb0 } } : State).post .management .eBaseplateHot modRes (wrapInt 32 temp)))
  ∧ (∀ t (temp : Int) a, 680 ≤ temp → Occurs (.baseplateHot t temp) t
      (fun s => s.up = true ∧ s.power.hotAt = some a ∧ s.tb0 < a + 60000000000) (fun s => s))
  ∧ (∀ t (temp : Int), temp < 680 → Occurs (.baseplateHot t temp) t (fun s => s.up = true)
      (fun s => { s with power := { s.power with hotAt := none } }))

/-- The causes of a reset (R62, R66, R77, R291): a brown-out of a rail, a clock fault and a missing scheduler heartbeat hold the module in reset at
once under their cause, with the reset record, the backup domain and what is committed kept; a brown-out of VDDQ, the management watchdog and a
lockstep error reset the management plane alone. -/
def Obligations.ResetsHoldTheModule : Prop :=
  (∀ t cause (i : Instr), (∃ k, k < 4 ∧ i = .railBrownOut t k ∧ cause = 3 + k) ∨ (i = .svClockFault t ∧ cause = 0x0C)
        ∨ (i = .schedulerHeartbeatMissing t ∧ cause = 0x0D) →
      ∀ s, (s.advance t).power.phase = .running ∨ (s.advance t).power.phase = .holdUp → ∃ u, exec i s = .next u
        ∧ u.power.phase = .heldReset ∧ u.power.lastCause = cause ∧ u.power.lastCauseEpoch = s.power.epoch ∧ u.power.epoch = s.power.epoch
        ∧ u.power.mgmtUp = false ∧ u.host.ready = false ∧ u.disp = {} ∧ u.mail = [] ∧ u.tasks = [] ∧ u.rtc = s.rtc ∧ u.so = []
        ∧ u.cocoon = s.cocoon.cut ∧ u.upd.chrysalis = s.upd.chrysalis ∧ u.upd.arb = s.upd.arb ∧ u.prog.slots = s.prog.slots
        ∧ u.tb0 = (s.advance t).tb0)
  ∧ (∀ t cause (i : Instr), (i = .railBrownOut t 4 ∧ cause = 0x07) ∨ (i = .managementWatchdog t ∧ cause = 0x0E)
        ∨ (i = .managementLockstepError t ∧ cause = 0x0F) →
      ∀ s, s.power.phase = .running → s.power.mgmtUp = true → s.disp.flights = [] → s.disp.streams = [] → s.disp.omnar = [] →
        s.disp.ivpasto.isOpen = false → s.session.handle = 0 → s.panel.clearing = none → s.power.commitCmd = none → ∃ u, exec i s = .next u
        ∧ u.power.phase = .running ∧ u.power.mgmtUp = false ∧ u.power.lastCause = cause ∧ u.power.lastCauseEpoch = s.power.epoch
        ∧ u.host.ready = false ∧ u.tasks = s.tasks ∧ u.so = s.so ∧ u.cocoon.config = s.cocoon.config ∧ u.prog.store = s.prog.store)
  ∧ (∀ t, Occurs (.managementResetEnd t) t (fun s => s.power.phase ≠ .running ∨ s.power.mgmtUp = true) (fun s => s))
  ∧ (∀ t, Occurs (.managementResetEnd t) t (fun s => s.power.phase = .running ∧ s.power.mgmtUp = false)
      (fun s => (((((({ s with power := { s.power with mgmtUp := true, railsOk := Tab.put (fun _ => true) s.power.railsOk 4 true } } : State).post .management .eReset modRes
        (s.power.lastCause % 256 * 2 ^ 24 + s.power.lastCauseEpoch % 2 ^ 24)).beMissed).lostMissed).setReady).panelCheck).recPeriodic))
  ∧ (∀ t, OccursIf (.heartbeatMissingFramesStop t) t (fun s => s.up = true) (fun s => { s with sv := { s.sv with heartbeat := false } }))
  ∧ (∀ t ms, Occurs (.resetButtonRelease t ms) t (fun s => s.power.buttonStuck = true)
      (fun s => { s with power := { s.power with buttonStuck := false, buttonFree := s.tb0 + 1000000000 } }))
  ∧ (∀ t ms, Occurs (.resetButtonRelease t ms) t
      (fun s => s.power.buttonStuck = false ∧ s.up = true ∧ s.tb0 < max s.power.buttonFree s.power.startedAt + ms * 1000000) (fun s => s))
  ∧ (∀ t ms, ms < 50 → Occurs (.resetButtonRelease t ms) t (pressCounts ms) (fun s => s))
  ∧ (∀ t ms, 50 ≤ ms → ms < 100 → Occurs (.resetButtonRelease t ms) t (pressCounts ms) (fun s => s.post .management .eResetButtonShort modRes ms))
  ∧ (∀ t ms, 100 ≤ ms → ms ≤ 2000 → Occurs (.resetButtonRelease t ms) t (pressCounts ms) (fun s => s.moduleReset 0x08 true))
  ∧ (∀ t ms, 2000 < ms → ms ≤ 10000 → Occurs (.resetButtonRelease t ms) t (pressCounts ms)
      (fun s => s.post .management .eResetButtonLong modRes ms))
  ∧ (∀ t, OccursIf (.resetButtonStuck t) t (fun s => s.up = true ∧ s.power.buttonStuck = false)
      (fun s => ({ s with power := { s.power with buttonStuck := true } } : State).post .management .fResetButtonStuck modRes 10))

/-- The power failure (R67 to R69, R71, R73): the cycles in execution end without commit, outputs and drivers go safe, and the power-fail commit
begins; at its end its marks stand and the module holds itself in reset with cause 0x02. A commit's end writes its mark and begins the one that
waits; the RETAIN grid asks for a commit once per period. -/
def Obligations.PowerFailureCommitsTheState : Prop :=
  (∀ t cycles, Occurs (.powerFailWarning t cycles) t (fun s => s.power.phase ≠ .running) (fun s => s))
  ∧ (∀ t, ∀ s u v : State, s.advance t = u → u.power.phase = .running →
      v = ({ u.dropCycles with power := { u.dropCycles.power with phase := .holdUp } } : State).departs →
      exec (.powerFailWarning t []) s = .next ((((((v.each (fun n s => (s.setSo n { s.soOf n with hsCmd := false }).soSwitches n) (List.range 8)).each
        State.dcToSafe (List.range 32)).each State.acToSafe (List.range 32)).each State.axDisable (List.range 4))).axesOff.failBegin))
  ∧ (∀ (s : State), s.cocoon.retain.busy = none → ∃ b, s.failBegin.cocoon.retain.busy = some b
      ∧ (if b then s.failBegin.cocoon.retain.b else s.failBegin.cocoon.retain.a).map (·.payload) = some s.retainNow)
  ∧ (∀ t, OccursIf (.powerFailCommitEnd t) t (fun s => s.power.phase = .holdUp) (fun s => s.failEnd.heldReset 0x02))
  ∧ (∀ (s : State), s.failEnd.cocoon.retain = s.cocoon.retain.finish ∧ s.failEnd.cocoon.axisState = s.cocoon.axisState.finish
      ∧ s.failEnd.cocoon.safety = s.cocoon.safety.finish ∧ s.failEnd.cocoon.recorder = s.cocoon.recorder.finish)
  ∧ (∀ t k (bad : Bool), k < 10 → ∀ s : State, (k = 1 → (s.advance t).cocoon.config.busy = none) → (k = 5 → (s.advance t).cocoon.retain.busy = none) →
      k ≠ 6 → k ≠ 7 → k ≠ 8 → k ≠ 9 → ∃ u, exec (.cocoonCommitEnd t k bad) s = .next u ∧ u.cocoon.header = s.cocoon.header ∧ u.prog = s.prog)
  ∧ (∀ t b, Occurs (.cocoonCommitEnd t 5 false) t (fun s => s.cocoon.retain.busy = some b)
      (fun s => ({ s with cocoon := { s.cocoon with retain := s.cocoon.retain.ended s.retainNow } } : State).commitAnswer .sOk))
  ∧ (∀ t b, Occurs (.cocoonCommitEnd t 1 false) t (fun s => s.cocoon.config.busy = some b)
      (fun s => ({ s with cocoon := { s.cocoon with config := s.cocoon.config.ended s.settings } } : State).commitAnswer .sOk))
  ∧ (∀ t b, Occurs (.cocoonCommitEnd t 5 true) t (fun s => s.cocoon.retain.busy = some b ∧ s.cocoon.retain.second = true)
      (fun s => (({ s with cocoon := { s.cocoon with retain := s.cocoon.retain.mismatch s.retainNow } } : State).fault .management .fMemEcc
        (memRes (Config.bufferBank 5 b)) (fltQ (memKey (Config.bufferBank 5 b))) (memKey (Config.bufferBank 5 b))).commitAnswer .sState))
  ∧ (∀ (x : Sec (Tab Nat)) p, x.busy = none → ∃ b, (x.begin p).busy = some b ∧ (x.begin p).finish.newest.map (·.payload) = some p)
  ∧ (∀ t, OccursIf (.retainPeriodicCommit t) t
      (fun s => s.power.phase = .running ∧ s.power.retainCommitAt
        < s.tb0 / (s.param .retainCommitPeriod 0 * 1000000000) * (s.param .retainCommitPeriod 0 * 1000000000))
      (fun s => { s with
        power := { s.power with retainCommitAt := s.tb0 }, cocoon := { s.cocoon with retain := s.cocoon.retain.request s.retainNow } }))

/-- The start of the module (R72, R74, R499): it starts only from reset; a reset cuts it short at any of its steps; a boot loader that finds no slot
that verifies leaves the module held; otherwise the power epoch rises by one with the Header's commit, the sections are restored and the module
runs. -/
def Obligations.TheModuleStarts : Prop :=
  (∀ t gap bad crc idMem cut s, s.power.phase ≠ .heldReset → s.power.phase ≠ .pllHeld →
      exec (.moduleStart t gap bad crc idMem cut) s = .next s)
  ∧ (∀ t gap bad crc idMem cause s, s.power.phase = .heldReset →
      exec (.moduleStart t gap bad crc idMem (some (0, cause))) s = .next (((s.rtcRebase gap).spoil crc).startCut t cause))
  ∧ (∀ t cause (s : State), (s.startCut t cause).power.phase = .heldReset ∧ (s.startCut t cause).power.lastCause = cause.getD 0x01
      ∧ (s.startCut t cause).power.epoch = s.power.epoch ∧ (s.startCut t cause).tb0 = t)
  ∧ (∀ t gap bad crc idMem, ∀ s v : State, s.power.phase = .heldReset → v = (s.rtcRebase gap).spoil crc → v.bootRec.state = 0 →
      bad.contains 0 = true → bad.contains 1 = true → v.upd.active < 2 →
      exec (.moduleStart t gap bad crc idMem none) s = .next { v with tb0 := t })
  ∧ (∀ t gap crc idMem, ∀ s v : State, s.power.phase = .heldReset → v = (s.rtcRebase gap).spoil crc → v.bootRec.state = 0 →
      exec (.moduleStart t gap [] crc idMem none) s = .next (v.stepSix.startRun t {} idMem v.cocoon.fault v.cocoon.header.payload))
  ∧ (∀ (s : State) h, s.cocoon.fault = none → s.cocoon.header.payload = some h →
      s.stepSix.power.epoch = (h.epoch + 1) % 2 ^ 32 ∧ s.stepSix.cocoon.header.payload.map (·.epoch) = some ((h.epoch + 1) % 2 ^ 32))
  ∧ (∀ (s : State) bad had, (s.restore bad had).power.restoreDone = true
      ∧ (s.restore bad had).cfg = (if bad.isSome then {} else s.cocoon.settings.getD {})
      ∧ (s.restore bad had).cred = s.cocoon.credentials.payload.getD {}
      ∧ (s.restore bad had).faults.store = (if bad.isSome then {} else s.cocoon.retirement.payload.getD {}))
  ∧ (∃ u, exec (.moduleStart 0 0 [] [] none none) State.reset = .next u ∧ u.power.phase = .running ∧ u.power.mgmtUp = true
      ∧ u.power.restoreDone = true ∧ u.power.epoch = 1 ∧ u.power.lastCause = 0x01)

/-- Coupler frames (R233, R263, R265, R287, R331, R348): one that leaves is its owner's boundary and reaches the isolated side, which counts its
silence from it; a missing heartbeat stops them all; one that arrives or leaves with a CRC error is discarded and recorded, and ten in a row are
one fault of the channel. -/
def Obligations.CouplerFramesJoinTheSides : Prop :=
  (∀ t p bad, pointOk p = true → Occurs (.couplerFrameOut t ⟨p, bad⟩) t
      (fun s => s.power.restoreDone = false ∨ s.sv.heartbeat = false ∨ (s.power.phase ≠ .running ∧ s.power.phase ≠ .holdUp)) (fun s => s))
  ∧ (∀ t p bad, pointOk p = false → ∀ s, exec (.couplerFrameOut t ⟨p, bad⟩) s = .fault .noSuchResource)
  ∧ (∀ t n, n < 32 → n % 2 = 1 → ∀ s v : State, framesRun (s.advance t) → v = (s.advance t).atBoundary (acOwner n) →
      (v.acOf n).powered = true → (v.acOf n).silent = none →
      exec (.couplerFrameOut t ⟨.ac n, false⟩) s = .next (((v.setAc n { v.acOf n with
        crcOut := 0, isoSeq := (v.acOf n).cfgSeq, silent := none, lastFrame := v.tb0 }).acDrive n).acStage n))
  ∧ (∀ t n, n < 32 → n % 2 = 1 → ∀ s v : State, framesRun (s.advance t) → v = (s.advance t).atBoundary (acOwner n) →
      (v.acOf n).powered = true → (v.acOf n).crcOut < 9 →
      exec (.couplerFrameOut t ⟨.ac n, true⟩) s = .next ((v.setAc n { v.acOf n with crcOut := (v.acOf n).crcOut + 1 }).post .data .eAcCouplerCrc
        (acRes n) (q24 n (((v.acOf n).crcOut + 1 : Nat) : Int))))
  ∧ (∀ t n, n < 32 → ∀ s v : State, framesRun (s.advance t) → v = (s.advance t).atBoundary (dcOwner n) →
      (v.dcOf n).st ≠ .powerOn → (v.dcOf n).silent = none →
      exec (.couplerFrameOut t ⟨.dc n, false⟩) s = .next (((v.setDc n { v.dcOf n with
        crcOut := 0, isoSeq := (v.dcOf n).cfgSeq, silent := none, lastFrame := v.tb0 }).dcDrive n).dcTakeAck n))
  ∧ (∀ t n, n < 32 → ∀ s v : State, framesRun (s.advance t) → v = (s.advance t).atBoundary (dcOwner n) →
      (v.dcOf n).st ≠ .powerOn → (v.dcOf n).crcOut = 9 →
      exec (.couplerFrameOut t ⟨.dc n, true⟩) s = .next (((v.setDc n { v.dcOf n with crcOut := 0 }).post .data .eDcCouplerCrc
        (dcRes n) (q24 n 10)).fault .data .fDcCoupler (dcRes n) (n * 2 ^ 24) (dcKey n)))
  ∧ (∀ t n, n < 8 → ∀ s v w : State, framesRun (s.advance t) → v = (s.advance t).atBoundary (soOwnerBox n) → (v.soOf n).ackCmd = none →
      (v.soOf n).testing = false → (v.soOf n).ackSrc = none →
      (v.soOf n).tripped = true → w = v.setSo n { v.soOf n with lastFrame := v.tb0, silent := false, monitor := !v.fieldActive } →
      exec (.couplerFrameOut t ⟨.so n, false⟩) s = .next ((w.setSo n { w.soOf n with hsCmd := w.soWanted n }).soSwitches n))
  ∧ (∀ t n, n < 8 → ∀ s : State, framesRun (s.advance t) →
      exec (.couplerFrameOut t ⟨.so n, true⟩) s = .next ((s.advance t).atBoundary (soOwnerBox n)))
  ∧ (∀ t n, n < 4 → ∀ s u v : State, u = s.advance t → framesRun u → (u.axOf n).silent = none → (u.axOf n).paused = none →
      (u.axOf n).waitStand = false →
      v = u.setAx n { u.axOf n with crcOut := 0, lastFrame := u.tb0, monitor := !u.fieldActive || (u.axOf n).handover } →
      exec (.couplerFrameOut t ⟨.axis n, false⟩) s = .next (v.setAx n { v.axOf n with
        drvSet := if v.param .axDirInv n = 1 then -(v.axOf n).count else (v.axOf n).count, drvCur := v.axCurrent n }))
  ∧ (∀ t n, n < 4 → Occurs (.couplerFrameOut t ⟨.axis n, true⟩) t (fun s => framesRun s ∧ (s.axOf n).crcOut < 9)
      (fun s => s.setAx n { s.axOf n with crcOut := (s.axOf n).crcOut + 1 }))
  ∧ (∀ t f bad, pointOk (framePoint f) = true → Occurs (.couplerFrameIn t f bad) t
      (fun s => s.power.restoreDone = false ∨ (s.power.phase ≠ .running ∧ s.power.phase ≠ .holdUp)) (fun s => s))
  ∧ (∀ t f bad, pointOk (framePoint f) = false → ∀ s, exec (.couplerFrameIn t f bad) s = .fault .noSuchResource)
  ∧ (∀ t n m, n < 32 → Occurs (.couplerFrameIn t (.ac n m) true) t
      (fun s => s.power.restoreDone = true ∧ s.power.phase = .running ∧ (s.acOf n).powered = true ∧ (s.acOf n).crcRun < 9)
      (fun s => ((s.setAc n { s.acOf n with crcRun := (s.acOf n).crcRun + 1 }).post .data .eAcCouplerCrc (acRes n)
        (q24 n (((s.acOf n).crcRun + 1 : Nat) : Int))).aiPairUpdate (n / 2)))
  ∧ (∀ t n m, n < 32 → Occurs (.couplerFrameIn t (.dc n m) false) t
      (fun s => s.power.restoreDone = true ∧ s.power.phase = .running ∧ (s.dcOf n).st = .powerOn) (fun s => s))
  ∧ (∀ t n m, n < 8 → Occurs (.couplerFrameIn t (.so n m) true) t (fun s => s.power.restoreDone = true ∧ s.power.phase = .running)
      (fun s => s))
  ∧ (∀ t n m, n < 8 → Occurs (.couplerFrameIn t (.so n m) false) t (fun s => s.power.restoreDone = true ∧ s.power.phase = .running)
      (fun s => s.setSo n { s.soOf n with
        load := m.load, energised := decide (1 ≤ m.load), isOpen := (s.soOf n).isOpen && (s.ett n || decide (m.load < 10)),
        hs := { (s.soOf n).hs with current := m.hs }, ls := { (s.soOf n).ls with current := m.ls } }))
  ∧ (∀ t n m, n < 4 → Occurs (.couplerFrameIn t (.axis n m) false) t
      (fun s => s.power.restoreDone = true ∧ s.power.phase = .running ∧ (s.axOf n).faultWait = none)
      (fun s => s.setAx n { s.axOf n with crcRun := 0, meas := m, coolAt := none }))
  ∧ (∀ t n m, n < 4 → Occurs (.couplerFrameIn t (.axis n m) true) t
      (fun s => s.power.restoreDone = true ∧ s.power.phase = .running ∧ (s.axOf n).crcRun < 9)
      (fun s => s.setAx n { s.axOf n with crcRun := (s.axOf n).crcRun + 1 }))
  ∧ (∀ t n m, n < 4 → Occurs (.couplerFrameIn t (.axis n m) true) t
      (fun s => s.power.restoreDone = true ∧ s.power.phase = .running ∧ 9 ≤ (s.axOf n).crcRun)
      (fun s => (s.setAx n { s.axOf n with crcRun := 0 }).fault .data .fAxisCoupler (axRes n) (n * 2 ^ 24) (axKey n)))

/-- The commands of class 0x01, each taken at once (R105): `MOD.NOP`, `MOD.ABORT` (R107), `MOD.SET_EVENT_FILTER` (R119), `MOD.IDENTIFY` (R558),
`MOD.POWER_STATUS` (R557), `MOD.SET_POWER` (R82), `MOD.PROVISION_KEY` (R120), `MOD.SESSION_CLOSE` (R115), `MOD.RESET` (R82), `MOD.COMMIT` (R556),
`MOD.FACTORY` (R83). Each equation names everything the command changes. `MOD.CONFIG_SAVE` and `MOD.CONFIG_LOAD` (R85, R86): the basic forms open
a bulk stream, the expert forms carry the file in chunks. -/
def Obligations.ModuleCommandsTakeEffect : Prop :=
  (Completes specModNop .modNop (fun _ s => s)
  ∧ Completes specModAbort .modAbort (fun e s =>
      match s.abortTarget e.cmd with
      | some f => ({ s with disp := { s.disp with queue := s.disp.queue.filter (fun q => q.id != f.entry.id) } } : State).complete
          f.entry .sAborted 0 []
      | none => s)
  ∧ Completes specModSetEventFilter .modSetEventFilter (fun e s =>
      match e.cmd.route with
      | .omnar id => (match s.omnarOf id with
          | some x => s.setOmnar { x with filter := some (filterOf e.cmd x.filter) }
          | none => s)
      | _ => { s with disp := { s.disp with ivpasto := { s.disp.ivpasto with filter := some (filterOf e.cmd s.disp.ivpasto.filter) } } })
  ∧ Reports specModIdentify .modIdentify (fun c s =>
      (List.range 10).flatMap (fun k => leBytes 4 (s.idReg (4 * k))) ++ (if c.expert then s.routeFacts c.route else []))
  ∧ Reports specModPowerStatus .modPowerStatus (fun c s => powerStatus s c.expert) (fun _ s => { s with free := s.free + 9 })
  ∧ Completes specModSetPower .modSetPower (fun e s =>
      let s := s.setParam .retainCommitPeriod 0 (e.cmd.field 16 4)
      (if e.cmd.expert then s.setParam .logicDualFeed 0 (e.cmd.field 20 1) else s).commitConfig)
  ∧ Completes specModProvisionKey .modProvisionKey (fun e s =>
      let s := ({ s with cred := { s.cred with stationKey := some (slice e.cmd.body 0 32) } } : State).commitCred
      (if e.cmd.expert && e.cmd.field 48 1 == 1 then s.closeAllOmnar else s).post .management .eKeyProvisioned modRes 0)
  ∧ Does specModSessionClose .modSessionClose (fun e s =>
      let s := s.complete e .sOk 0 []
      match e.cmd.route with
      | .omnar id => s.closeOmnar id
      | _ => s.closeIvpasto)
  ∧ Does specModReset .modReset (fun e s =>
      let s := s.complete e .sOk 0 []
      if e.cmd.field 16 1 = 0 then s.moduleReset 0x0A (!(e.cmd.expert && bitOf (e.cmd.field 17 1) 0)) else s.mgmtReset 0x0B)
  ∧ Does specModCommit .modCommit (fun e s =>
      { s with
        power := { s.power with commitCmd := some e },
        cocoon := { s.cocoon with
          retain := s.cocoon.retain.request s.retainNow, axisState := s.cocoon.axisState.request s.axStore } })
  ∧ Does specModFactory .modFactory (fun e s =>
      let s := s.logChange e.cmd.route 0x01 0 0 (Config.encodeSettings s.settings) (Config.encodeSettings {})
      let cred := e.cmd.expert && bitOf (e.cmd.field 16 1) 0
      let k := s.cocoon
      let s : State := { s with cocoon := { k with
        config := k.config.now {}, credentials := if cred then k.credentials.now {} else k.credentials,
        retain := k.retain.now [], axisState := k.axisState.now {}, panel := k.panel.now false, safety := k.safety.now {},
        recorder := k.recorder.now { seq := s.recorder.store.seq, orderly := some s.power.epoch } } }
      (s.complete e .sOk 0 []).moduleReset 0x0A false))
  ∧ (Does specModConfigSave .modConfigSave (fun e s =>
      match s.configCopy 0 with
      | some x => { s with disp := { s.disp with streams := s.disp.streams ++
          [{ ring := e.cmd.field 17 1, stream := e.cmd.field 18 2, toHost := true, entry := e,
             data := s.configFile x (bitOf (e.cmd.field 20 1) 0), consumed := x.seqHdr }] } }
      | none => s) (fun c _ => c.expert = false)
  ∧ (∀ t c s, specModConfigSave.taken t c s = true → c.expert = true →
      ∀ x, (s.arrived 0x0115 t c).configCopy (c.blk 4 4) = some x →
        let u := s.arrived 0x0115 t c
        let f := u.configFile x (bitOf (c.blk 8 1) 0)
        let piece := (f.drop (c.blk 0 4)).take c.blockLen
        exec (.modConfigSave t c) s = .next
          ((if c.blk 0 4 + piece.length = f.length then u.post .management .eConfigSaved modRes x.seqHdr else u).complete
            (s.entryFor 0x0115 c) .sOk f.length piece))
  ∧ Does specModConfigLoad .modConfigLoad (fun e s =>
      { s with disp := { s.disp with streams := s.disp.streams ++
        [{ ring := e.cmd.field 17 1, stream := e.cmd.field 18 2, toHost := false, entry := e }] } }) (fun c _ => c.expert = false)
  ∧ Completes specModConfigLoad .modConfigLoad (fun e s =>
      { s with power := { s.power with gather := some (s.gatherWith e.cmd) } })
      (fun c s => c.expert = true ∧ (s.gatherWith c).2.2 ≠ [(0, (s.gatherWith c).1)])
  ∧ Does specModConfigLoad .modConfigLoad (fun e s =>
      s.cfgInstall e (Tab.getBytes (s.gatherWith e.cmd).2.1 0 (s.gatherWith e.cmd).1))
      (fun c s => c.expert = true ∧ (s.gatherWith c).2.2 = [(0, (s.gatherWith c).1)]
        ∧ s.cfgCheck (Tab.getBytes (s.gatherWith c).2.1 0 (s.gatherWith c).1) = .sOk))

/-- The commands of tasks and core pairs, taken while the task is in no cycle (R150, R152, R153, R559, R560, R123, R149): what each sets, starts,
stops, tells or tests; a change of a safety task enters the log before it takes effect. -/
def Obligations.TaskCommandsTakeEffect : Prop :=
  CompletesEitherWay specTaskConfigure .taskConfigure (fun e s =>
      let i := e.cmd.tgtIndex
      let s := s.logTask i e.cmd.route (s.withTask e.cmd)
      let s := if (s.withTask e.cmd).param .taskKind i = 0 then s.taskStop i false else s
      let s := s.withTask e.cmd
      (match (s.taskOf i).lastRelease with
        | some a => if (s.taskOf i).live ∧ s.param .taskKind i ≠ 3 then s.setTask i { s.taskOf i with notBefore := a + s.param .taskCycle i } else s
        | none => s).commitConfig)
      (fun c s => taskConfigCheck s c = .sOk)
  ∧ CompletesEitherWay specTaskStart .taskStart (fun e s =>
      let i := e.cmd.tgtIndex
      let x := s.taskOf i
      ((s.setTask i { committed := x.committed, safeOut := x.safeOut, gone := x.gone, notBefore := 0, state := .starting }).setCommit i
        [(.taskRunState, 1)]).post .control .eTaskStarted (taskRes i) i)
      (fun c s =>
        let i := c.tgtIndex
        ((s.taskOf i).state = .stopped ∨ (s.taskOf i).state = .halted) ∧ s.taskExists i = true
          ∧ kindFits (s.param .taskKind i) (s.param .pairMode (s.param .taskPair i)) = true
          ∧ (s.taskCp i).retired = false ∧ s.usesRetired i = false ∧ s.budgetOk i = true)
  ∧ CompletesEitherWay specTaskStop .taskStop (fun e s =>
      let i := e.cmd.tgtIndex
      if (s.taskOf i).state = .stopped then s
      else
        let s := s.setTask i { (s.taskOf i).dropped with state := .stopped }
        let s := if e.cmd.expert && e.cmd.field 16 1 == 1 then s else s.outputsSafe i
        ((s.axesLost i).setCommit i [(.taskRunState, 0)]).post .control .eTaskStopped (taskRes i) i)
  ∧ Reports specTaskStatus .taskStatus (fun c s => taskStatusBlock s c.tgtIndex c.expert)
  ∧ CompletesEitherWay specTaskSetImage .taskSetImage (fun e s =>
      let i := e.cmd.tgtIndex
      let old := (s.taskProg i).outMap
      let s := (s.logTask i e.cmd.route (s.withImage e.cmd)).withImage e.cmd
      (if e.cmd.blk 0 1 = 1 then s.remap old i else s).commitConfig)
      (fun c s => imageCheck s c = .sOk)
  ∧ CompletesEitherWay specTaskSetSubstitute .taskSetSubstitute (fun e s =>
      let s := (safetyUsers s (e.cmd.field 16 2)).foldl (fun u i => u.logTask i e.cmd.route (s.withSubst e.cmd)) s
      (s.withSubst e.cmd).commitConfig)
      (fun c s => substCheck s c = .sOk)
  ∧ Completes specTaskSetPair .taskSetPair (fun e s =>
      let n := e.cmd.tgtIndex - 0x0100
      let l := (Param.pairMode, e.cmd.field 16 1) :: (if e.cmd.expert then [(Param.selftestPeriod, e.cmd.field 20 4)] else [])
      (if pairLogged s e.cmd then s.logChange e.cmd.route 0x02 0 e.cmd.tgtIndex (pairBlock s n) (pairBlock (s.setParams n l) n)
        else s).setCommit n l)
      (fun c s =>
        let n := c.tgtIndex - 0x0100
        let new := s.setParams n (pairSettings c)
        (s.cpOf n).retired = false
          ∧ (c.field 16 1 ≠ s.param .pairMode n →
              (s.tasksOf n).all (fun i => !(s.taskOf i).live) = true ∧ (c.field 16 1 = 2 → s.tasksOf n = []))
          ∧ new.mRule = true ∧ (new.tasksOf n).all new.budgetOk = true ∧ (pairLogged s c = true → s.logFull = false))
  ∧ Does specTaskSelftest .taskSelftest (fun e s =>
      let n := e.cmd.tgtIndex - 0x0100
      s.setCp n { s.cpOf n with testCmd := some e, cmdSlices := 0 })
  ∧ Reports specTaskBudget .taskBudget (fun c s =>
      budgetRecord s c.tgtIndex ++ (if c.expert then (s.coreMates c.tgtIndex).flatMap (budgetRecord s) else []))

/-- TASK_RELEASE (R127, R132, R134): a released task executes from now, with its deadline, its cycle counted and its bank as last committed; a release
whose rule does not hold changes nothing. EXECUTION_END, TASK_DEADLINE, TASK_ABANDON, EVENT_TRIGGER and SAFETY_COMMIT_MISSING (R127, R133, R138,
R147; 11 R291). Core-pair self-tests (R147, R149): the 60 µs test after a mismatch, the commanded and the periodic test in slices of idle time
(that a slice counts for a commanded test first is the model's choice, log entry 106), and the two due instants; a failing core retires the pair. -/
def Obligations.TaskCyclesRunAsTheRulesSay : Prop :=
  ((∀ t i, i < 16 → Occurs (.taskRelease t i) t (fun s => ¬ (s.taskFree i = true ∧ s.releaseRule i = true)) (fun s => s))
  ∧ ∀ t i (s : State), i < 16 →
      (s.advance t).taskFree i = true → (s.advance t).releaseRule i = true → (s.advance t).param .taskKind i ≠ 4 →
      ∃ u, exec (.taskRelease t i) s = .next u
        ∧ (u.taskOf i).executing = true ∧ (u.taskOf i).release = (s.advance t).tb0
        ∧ (u.taskOf i).lastRelease = some (s.advance t).tb0
        ∧ (u.taskOf i).cycleCount = ((s.taskOf i).cycleCount + 1) % 2 ^ 32
        ∧ (s.param .taskKind i ≠ 3 → (u.taskOf i).deadline = (s.advance t).tb0 + s.param .taskCycle i)
        ∧ (u.taskOf i).outImg = (s.taskOf i).committed ∧ (u.taskOf i).committed = (s.taskOf i).committed
        ∧ (u.taskOf i).overran = false ∧ (u.taskOf i).firstScan = false ∧ (u.taskOf i).state = (s.taskOf i).state
        ∧ u.prog = s.prog ∧ u.loops = s.loops ∧ u.so = s.so ∧ u.axes = s.axes ∧ ((s.advance t).inStep = false → u.sent = s.sent)
        ∧ ∀ j, j ≠ i → u.taskOf j = s.taskOf j)
  ∧ ((∀ t i exec ranges mism steps, i < 16 →
    Occurs (.executionEnd t i ⟨exec, steps⟩ ranges mism) t
      (fun s => s.up = true
        ∧ (let v := steps.foldl (fun s x => s.taskStep x.1 x.2) s
           v.mayStep i = true ∧ v.preempted i = false))
      (fun s => s.cycleEnd i (fun s =>
        let s := steps.foldl (fun s x => s.taskStep x.1 x.2) s
        let ranges := s.usedExec i ranges
        let s := s.taskWalk i none
        if s.isSafetyTask i && mism && (s.taskCp i).single.isNone then s.coreMismatch i
        else if s.paired then
          (s.setTask i { s.taskOf i with awaiting := true, lastExec := exec, rangeExec := ranges }).send (.hedgerow 6 [i, s.taskSig i])
        else s.taskCommit i exec ranges)))
  ∧ (∀ t i left x, i < 16 →
    Occurs (.taskDeadline t i left) t
      (fun s => s.up = true ∧ s.taskOf i = x ∧ x.executing = true ∧ x.overran = false ∧ x.deadline ≤ s.tb0
        ∧ x.consecutive + 1 < s.overrunLimit i)
      (fun s => ((s.setTask i { x with overran := true, consecutive := x.consecutive + 1, overruns := (x.overruns + 1) % 2 ^ 32 }).errorCause
        0x03 i).settle))
  ∧ (∀ t i left x, i < 16 →
    Occurs (.taskDeadline t i left) t
      (fun s => s.up = true ∧ s.taskOf i = x ∧ x.executing = true ∧ x.overran = false ∧ x.deadline ≤ s.tb0
        ∧ s.overrunLimit i ≤ x.consecutive + 1)
      (fun s => s.cycleEnd i (fun s =>
        let y := { x with overran := true, consecutive := x.consecutive + 1, overruns := (x.overruns + 1) % 2 ^ 32 }
        let s := (s.setTask i y).errorCause 0x03 i
        let s := if x.awaiting then s else s.taskWalk i (some left)
        (s.recordOverrun i s.tb0).taskHalt i)))
  ∧ (∀ t i left, i < 16 →
    Occurs (.taskAbandon t i left) t
      (fun s => s.up = true ∧ (s.taskOf i).executing = true ∧ (s.taskOf i).overran = true
        ∧ (s.taskOf i).release + 2 * s.taskT i ≤ s.tb0)
      (fun s => s.cycleEnd i (fun s =>
        let x := s.taskOf i
        let u := (if x.awaiting then s else s.taskWalk i (some left)).recordOverrun i (x.release + 2 * s.taskT i)
        (u.setTask i { (u.taskOf i).dropped with late := true }).post .control .fTaskAbandoned (taskRes i) i)))
  ∧ (∀ t g (s : State) r, s.triggers = g :: r →
    exec (.eventTrigger t) s = .next (({ s.advance t with triggers := r } : State).each State.triggerTask
      ((List.range 16).filter (fun i => ({ s.advance t with triggers := r } : State).triggerMatches i g))))
  ∧ (∀ t i, i < 16 →
    Occurs (.safetyCommitMissing t i) t
      (fun s => s.isSafetyTask i = true ∧ (s.taskOf i).live = true ∧ (s.taskOf i).executing = true
        ∧ ∃ r, (s.taskOf i).lastRelease = some r ∧ r + s.taskT i + 10000 ≤ s.tb0)
      (fun s => s.each (fun k s => if (s.soOf k).cmd.isSome then s.svCondition 1 2 k else s) (s.soOwnedBy i))))
  ∧ ((∀ t n b0 b1, n < 8 → ∀ a,
    Occurs (.pairSelftestEnd t n b0 b1) t
      (fun s => s.up = true ∧ (s.cpOf n).testing = some a ∧ a + 60000 ≤ s.tb0)
      (fun s =>
        let s := s.setCp n { s.cpOf n with testing := none }
        (if b0 || b1 then s.coreRetire n Code.eCoreMismatch.num (passingCore b0 b1) else s).settle))
  ∧ (∀ t n, n < 8 →
    OccursIf (.pairSelftestDue t n) t
      (fun s => (s.cpOf n).retired = false ∧ (s.cpOf n).due = none
        ∧ (s.cpOf n).lastDone + s.param .selftestPeriod n * 1000000000 ≤ s.tb0)
      (fun s => s.setCp n { s.cpOf n with due := some s.tb0, slices := 0, skipped := false }))
  ∧ (∀ t n b0 b1, n < 8 →
    Occurs (.selftestSlice t n b0 b1) t
      (fun s => s.up = true ∧ (s.cpOf n).retired = false ∧ (s.cpOf n).testCmd.isSome = true ∧ s.cpIdle n = true)
      (fun s =>
        let c := s.cpOf n
        (if c.cmdSlices + 1 < 60 then s.setCp n { c with cmdSlices := c.cmdSlices + 1 }
         else if b0 || b1 then (s.cpAnswer n .sOk 1).coreRetire n Code.eCoreMismatch.num (passingCore b0 b1)
         else s.cpAnswer n .sOk 0).settle))
  ∧ (∀ t n b0 b1, n < 8 →
    Occurs (.selftestSlice t n b0 b1) t
      (fun s => s.up = true ∧ (s.cpOf n).retired = false ∧ (s.cpOf n).testCmd = none ∧ (s.cpOf n).due.isSome = true ∧ s.cpIdle n = true)
      (fun s =>
        let c := s.cpOf n
        (if c.slices + 1 < 60 then s.setCp n { c with slices := c.slices + 1 }
         else
          let s := s.setCp n { c with due := none, slices := 0, lastDone := s.tb0 }
          if b0 || b1 then s.coreRetire n Code.eCoreMismatch.num (passingCore b0 b1) else s).settle))
  ∧ (∀ t n, n < 8 → ∀ a,
    Occurs (.selftestSkipped t n) t
      (fun s => (s.cpOf n).due = some a ∧ (s.cpOf n).skipped = false ∧ a + 2 * s.param .selftestPeriod n * 1000000000 ≤ s.tb0)
      (fun s => (s.setCp n { s.cpOf n with skipped := true }).post .control .eCoreSelftestSkipped (cpRes n) n)))

/-- The program slots' commands and the exchange (R192, R196 to R199, R211, R561), `EXCHANGE_FINISH` (R199) and PROG_IMAGE_TRANSFER_END (R209). The
commands of class 0x03 and FORCE_EXPIRY (R203 to R208, R211, R562): a force of a variable whose flag says safety enters the change log first; a
force on M is written once into its location. -/
def Obligations.ProgramAndForceCommandsTakeEffect : Prop :=
  (Does specTaskProgLoad .taskProgLoad (fun e s =>
      { s with disp := { s.disp with streams := s.disp.streams ++
        [{ ring := e.cmd.field 17 1, stream := e.cmd.field 18 2, toHost := false, entry := e }] } })
  ∧ Completes specTaskProgWrite .taskProgWrite (fun e s =>
      s.slotWrite (slotNo e.cmd) (e.cmd.blk 4 4) (e.cmd.blk 0 4) (e.cmd.blockBytes.drop 16))
      (fun c s =>
        let k := slotNo c
        ((s.slotWrite k (c.blk 4 4) (c.blk 0 4) (c.blockBytes.drop 16)).slot k).bytes ≠ c.blk 4 4)
  ∧ Does specTaskProgWrite .taskProgWrite (fun e s =>
      let k := slotNo e.cmd
      let s := s.slotWrite k (e.cmd.blk 4 4) (e.cmd.blk 0 4) (e.cmd.blockBytes.drop 16)
      let bad := (s.slot k).fault s.libVersion
      let s := (s.setSlot k { s.slot k with state := if bad = 0 then .valid else .invalid }).post .control .eProgLoaded (slotRes k)
        (k * 256 + (if bad = 0 then 2 else 3))
      if bad = 0 then s.complete e .sOk 0 [] else s.complete e .sBadParam bad [])
      (fun c s =>
        let k := slotNo c
        ((s.slotWrite k (c.blk 4 4) (c.blk 0 4) (c.blockBytes.drop 16)).slot k).bytes = c.blk 4 4)
  ∧ Completes specTaskProgErase .taskProgErase (fun e s =>
      s.setSlot (slotNo e.cmd) { switched := (s.slot (slotNo e.cmd)).switched })
  ∧ Reports specTaskProgStatus .taskProgStatus (fun c s => slotStatus s (slotNo c))
  ∧ Does specTaskProgRead .taskProgRead (fun e s =>
      let k := slotNo e.cmd
      { s with disp := { s.disp with streams := s.disp.streams ++
        [{ ring := e.cmd.field 17 1, stream := e.cmd.field 18 2, toHost := true, entry := e,
           data := if e.cmd.tgtIndex = 0x02FF then s.runningImage else (s.slot k).read 0 (s.slot k).plen }] } })
  ∧ (∀ p, Does specTaskProgCheck .taskProgCheck
      (fun e s => s.complete e .sOk (checkReport s p e.cmd.expert).length (checkReport s p e.cmd.expert))
      (fun c s => s.judge (slotNo c) false c = none ∧ s.withPartner = false
        ∧ (s.slot (slotNo c)).image = some p))
  ∧ Does specTaskProgCheck .taskProgCheck (fun e s =>
      ({ s with pair := { s.pair with image := some e } } : State).send (.hedgerow 7 [slotNo e.cmd]))
      (fun c s => s.judge (slotNo c) false c = none ∧ s.withPartner = true)
  ∧ (∀ p, Does specTaskProgExchange .taskProgExchange (fun e s => s.beginExchange (some e) e.cmd p [])
      (fun c s => s.judge (slotNo c) (bitOf (c.field 17 1) 0) c = none ∧ s.withPartner = false
        ∧ (s.slot (slotNo c)).image = some p))
  ∧ (∀ st chk i, Does specTaskProgExchange .taskProgExchange
      (fun e s => (s.complete e st (chk * 65536 + i) []).post .control .eProgRefused (slotRes (slotNo e.cmd)) chk)
      (fun c s => s.judge (slotNo c) (bitOf (c.field 17 1) 0) c = some (st, chk, i)))
  ∧ (∀ t x e, Occurs (.exchangeFinish t) t
      (fun s => s.prog.exchange = some x ∧ x.pending = [] ∧ x.entry = some e)
      (fun s =>
        let s := s.setSlot x.slot { s.slot x.slot with switched := x.switched }
        let s : State := { s with
          cfg := { s.cfg with prog := { s.cfg.prog with progId := x.new.progId, build := x.new.build, retain := x.new.retain } },
          prog := { s.prog with exchange := none } }
        let s : State := { s with cocoon := { s.cocoon with config := s.cocoon.config.now s.settings } }
        (s.post .control .eProgExchanged (slotRes x.slot) x.mask).complete e .sOk 0 []))
  ∧ (∀ t e (s w v : State), w = s.advance t → v = { w with pair := { w.pair with image := none } } →
      s.pair.image = some e → e.op = 0x0213 → s.pair.link = true →
      v.judge (slotNo e.cmd) (bitOf (e.cmd.field 17 1) 0) e.cmd = none →
      exec (.progImageTransferEnd t false) s = .next
        ((v.complete e .sState (21 * 65536 + 0x3FFF) []).post .control .eProgRefused (slotRes (slotNo e.cmd)) 21)
      ∧ ∀ p, (s.slot (slotNo e.cmd)).image = some p → exec (.progImageTransferEnd t true) s = .next (v.startExchange e p)))
  ∧ ((∀ v, CompletesEitherWay specVarForce .varForce (fun e s =>
      let secs := s.forceSeconds e.cmd
      let f : Force := { value := e.cmd.field 24 8, till := if secs = 0 then none else some (s.tb0 + secs * 1000000000) }
      let s := if v.safety then s.logForce e.cmd.route v.id (s.forceEntry v.id) (forceBytes s.tb0 v.id f) false else s
      ((((s.setForce v.id (some f)).forceStore v f.value).forceDegrade).post .control .eForceSet { cls := 0x03, index := 0 } v.id))
      (fun c s => s.cmdVar c = some v ∧ forceCheck s c = .sOk))
  ∧ (∀ v f, CompletesEitherWay specVarRelease .varRelease (fun e s =>
      let s := if v.safety then s.logForce e.cmd.route (e.cmd.field 16 4) (s.forceEntry (e.cmd.field 16 4)) (leBytes 16 0) true else s
      ((s.setForce (e.cmd.field 16 4) none).forceDegrade).post .control .eForceReleased { cls := 0x03, index := 0 } (e.cmd.field 16 4))
      (fun c s => s.varOf (c.field 16 4) = some v ∧ s.forceOf (c.field 16 4) = some f))
  ∧ Completes specVarReleaseAll .varReleaseAll (fun _ s => s) (fun c s => s.releaseTasks c = [])
  ∧ Does specVarReleaseAll .varReleaseAll (fun e s =>
      ({ s with prog := { s.prog with releaseAll := s.prog.releaseAll ++ [(e, s.releaseTasks e.cmd)] } } : State).each (fun i s =>
        if (s.taskOf i).live ∨ s.mailWaits (taskOwner i) then s.postMail { owner := taskOwner i, body := .releaseTask e i }
        else s.releaseTaskForces e i) (s.releaseTasks e.cmd))
      (fun c s => s.releaseTasks c ≠ [] ∧ s.postsToPartner = false)
  ∧ Does specVarReleaseAll .varReleaseAll (fun e s =>
      ({ s with prog := { s.prog with releaseAll := s.prog.releaseAll ++ [(e, s.releaseTasks e.cmd)] } } : State).each (fun i s =>
        (s.afterDraw.postMail { owner := taskOwner i, body := .releaseTask e i, due := s.pairDue (taskOwner i) 4 }).send
          (.hedgerow 9 [i, s.pairDue (taskOwner i) 4])) (s.releaseTasks e.cmd))
      (fun c s => s.releaseTasks c ≠ [] ∧ s.postsToPartner = true)
  ∧ Reports specVarList .varList (fun c s =>
      (((s.prog.forces.filterMap (fun x => x.2.map (fun f => forceBytes s.tb0 x.1 f))).drop
        (if c.expert then c.field 16 2 else 0)).take 256).flatten)
  ∧ Completes specVarSetLimit .varSetLimit (fun e s => (s.setParam .forceLimit 0 (e.cmd.field 20 4)).commitConfig)
  ∧ (∀ t id f v a, Occurs (.forceExpiry t id) t
      (fun s => s.forceOf id = some f ∧ s.varOf id = some v ∧ f.releasing = false ∧ f.till = some a ∧ a ≤ s.tb0
        ∧ s.pair.st ≠ .standby ∧ s.postsToPartner = false)
      (fun s =>
        if (s.taskOf v.task).live then
          (s.setForce id (some { f with releasing := true })).postMail { owner := taskOwner v.task, body := .forceRelease id }
        else s.forceDrop .host id true)))

/-- The commands of class 0x04 at a channel with no running cycle (R232, R247, R249, R253 to R255, R257, R259). -/
def Obligations.AnalogueCommandsTakeEffect : Prop :=
  CompletesEitherWay specAcConfigure .acConfigure (fun e s =>
      let n := e.cmd.tgtIndex
      let l := acSettings e.cmd
      let s := (if s.acInSafety n then s.logChange e.cmd.route 0x04 0 n (acBlock s n []) (acBlock s n l) else s).setCommit n l
      let s := s.setAc n { s.acOf n with cfgSeq := (s.acOf n).cfgSeq + 1 }
      (if s.param .acHartEn n = 0 then (s.hartAbort n).hartFlush n else s).modemsNext)
      (fun c s => acConfigureCheck acSettings s c = .sOk ∧ newValue s c.tgtIndex (acSettings c) .acMode = s.acMode c.tgtIndex)
  ∧ CompletesEitherWay specAcConfigure .acConfigure (fun e s =>
      let n := e.cmd.tgtIndex
      let l := acSettings e.cmd
      let s := (if s.acInSafety n then s.logChange e.cmd.route 0x04 0 n (acBlock s n []) (acBlock s n l) else s).setCommit n l
      let s := s.setAc n { s.acOf n with cfgSeq := (s.acOf n).cfgSeq + 1 }
      let s := ((if s.param .acHartEn n = 0 then (s.hartAbort n).hartFlush n else s).acCalAbandon n).hartAbort n
      let x := s.acOf n
      (if x.st = .outOfService ∨ x.st = .powerOn then
        (s.setAc n { x with modeAt := s.tb0 + 5000000, target := none, delivered := false, changed := true, flags := 0, test := none }).post
          .data .eAcMode (acRes n) (n * 2 ^ 24 + s.acMode n)
       else s.setAc n { x with st := .switching, modeAt := s.tb0 + 5000000, target := none, delivered := false, changed := true }).modemsNext)
      (fun c s => acConfigureCheck acSettings s c = .sOk ∧ newValue s c.tgtIndex (acSettings c) .acMode ≠ s.acMode c.tgtIndex)
  ∧ CompletesEitherWay specAcSetService .acSetService (fun e s =>
      let n := e.cmd.tgtIndex
      let v := e.cmd.field 16 1
      let s := (if s.acInSafety n then s.logChange e.cmd.route 0x04 0 n (acBlock s n []) (acBlock s n []) else s).setCommit n [(.acService, v)]
      let x := s.acOf n
      if v = 0 then
        let s := s.setAc n { x with st := if x.st = .powerOn then .powerOn else .outOfService, target := none, test := none }
        (((s.acToSafe n).acStage n).hartAbort n).hartFlush n
      else if x.st = .outOfService then
        (s.setAc n { x with st := .safe, target := none, test := none, modeAt := s.tb0, delivered := false, changed := false }).modemsNext
      else s)
      (fun c s => (s.acOf c.tgtIndex).st ≠ .retired ∧ (c.field 16 1 = 0 → s.acInSafety c.tgtIndex = true → s.sessionValid c = true)
        ∧ (s.acInSafety c.tgtIndex = true → s.logFull = false))
  ∧ CompletesEitherWay specAcTestOutput .acTestOutput (fun e s =>
      s.setAc e.cmd.tgtIndex { s.acOf e.cmd.tgtIndex with test := some (e.cmd.field 16 4) })
      (fun c s => (s.acOf c.tgtIndex).st = .outOfService ∧ 2 ≤ s.acMode c.tgtIndex)
  ∧ CompletesEitherWay specAcCalibrate .acCalibrate (fun e s =>
      let n := e.cmd.tgtIndex
      let u := if s.acInSafety n then s.logChange e.cmd.route 0x04 0 n (acBlock s n []) (acBlock s n []) else s
      (u.setCommit n [(.acCalGain, 0), (.acCalOffset, 0)]).post .data .eAcCalibrated (acRes n)
        (n * 2 ^ 24 + b2n ((s.acOf n).st != .outOfService)))
      (fun c s => acCalCheck s c = .sOk ∧ c.expert = true ∧ bitOf (c.field 16 1) 1 = true)
  ∧ DoesEitherWay specAcCalibrate .acCalibrate (fun e s =>
      let n := e.cmd.tgtIndex
      let x := s.acOf n
      let s := if s.acInSafety n then s.logChange e.cmd.route 0x04 0 n (acBlock s n []) (acBlock s n []) else s
      let inService := x.st != .outOfService
      let wait := inService && s.hartBusy n
      s.setAc n { x with
        cal := some { entry := e, inService := inService, waiting := if wait then some s.tb0 else none },
        st := if inService && !wait then .held else x.st })
      (fun c s => acCalCheck s c = .sOk ∧ ¬ (c.expert = true ∧ bitOf (c.field 16 1) 1 = true))
  ∧ Does specAcSelftest .acSelftest (fun e s =>
      let n := e.cmd.tgtIndex
      if n < 32 then s.setAc n { s.acOf n with testCmd := some e }
      else s.setModem (n - 0x0100) { s.modemOf (n - 0x0100) with testCmd := some e })
  ∧ Reports specAcStatus .acStatus (fun c s =>
      Config.resultLayout (0x0405 * 2 + b2n c.expert) (acStatusValues s c.tgtIndex c.expert))
  ∧ Completes specAcHartConfig .acHartConfig (fun e s =>
      let n := e.cmd.tgtIndex
      let l := hartSettings e.cmd
      let s := (if s.acInSafety n then s.logChange e.cmd.route 0x04 0 n (acBlock s n []) (acBlock s n l) else s).setCommit n l
      let s := s.setAc n { s.acOf n with cfgSeq := (s.acOf n).cfgSeq + 1 }
      (if s.param .acHartEn n = 0 then (s.hartAbort n).hartFlush n else s).modemsNext)
  ∧ Does specAcHartPass .acHartPass (fun e s =>
      { s with
        hart := { s.hart with passes := s.hart.passes ++ [{ entry := e }] },
        disp := { s.disp with streams := s.disp.streams ++
          [{ ring := e.cmd.field 17 1, stream := e.cmd.field 18 2, toHost := false, entry := e },
           { ring := e.cmd.field 20 1, stream := e.cmd.field 22 2, toHost := true, entry := e }] } })
  ∧ Does specAcHartBurst .acHartBurst (fun e s =>
      { s with
        hart := { s.hart with bursts := s.hart.bursts ++ [(e, if e.cmd.tgtIndex = 0x0200 then none else some e.cmd.tgtIndex, [])] },
        disp := { s.disp with streams := s.disp.streams ++
          [{ ring := e.cmd.field 17 1, stream := e.cmd.field 18 2, toHost := true, entry := e }] } })
      (fun c _ => c.field 16 1 = 1)
  ∧ Completes specAcHartBurst .acHartBurst (fun e s =>
      { s with disp := { s.disp with streams := s.disp.streams.map (fun x =>
        if x.ring = e.cmd.field 17 1 ∧ x.stream = e.cmd.field 18 2 then { x with closing := true } else x) } })
      (fun c _ => c.field 16 1 ≠ 1)

/-- The events of an analogue channel (R232 to R234, R241, R243, R245 to R248): when they have an effect, and what it is. The events of HART (R251,
R252, R254 to R256). -/
def Obligations.AnalogueAndHartEvents : Prop :=
  ((∀ t n, n < 32 → Occurs (.acModeSwitchEnd t n) t (fun s => (s.acOf n).st = .switching ∧ (s.acOf n).modeAt ≤ s.tb0)
    (fun s =>
      let s := s.setAc n { s.acOf n with
        st := .safe, modeAt := s.tb0, delivered := false, changed := true, flags := 0, cut := false, window := [], base := none,
        fold := none, coolAt := none }
      (((s.acToSafe n).acStage n).post .data .eAcMode (acRes n) (n * 2 ^ 24 + s.acMode n)).modemsNext))
  ∧ (∀ t n, n < 32 → OccursIf (.acSilenceTimeout t n) t
    (fun s => (s.acOf n).powered = true ∧ (s.acOf n).silent = none ∧ (s.pair.st = .unpaired ∨ s.acMode n < 2)
      ∧ (s.acOf n).lastFrame + s.param .acSilenceTo n * 1000000 ≤ s.tb0)
    (fun s =>
      let c := s.acOf n
      let s := s.setAc n { c with silent := some s.tb0 }
      ((if 2 ≤ s.acMode n then s.acToSafe n
        else s.setAc n { s.acOf n with st := if c.st = .inService then .safe else c.st }).hartAbort n).acStage n))
  ∧ (∀ t n k m, n < 32 → k ≠ AcDiag.readback → Occurs (.acDiagnostic t n k m) t
    (fun s => s.acDiagnoses n k = true ∧ s.acCondition n k m = true ∧ (s.acOf n).flag (acDiagBit k) = false)
    (fun s =>
      let x := (s.acOf n).setFlag (acDiagBit k) true
      let s := s.setAc n (if k = .mismatch then { x with cut := s.acMode n != 0 } else x)
      match k with
      | .compliance => s.post .data .eAcCompliance (acRes n) (q24 n (acCurrent (s.acMode n) m / 1000))
      | .short => s.post .data .eAcShort (acRes n) (n * 2 ^ 24)
      | .mismatch => s.post .data .eAcMismatch (acRes n) (n * 2 ^ 24)
      | _ => s.post .data .eAcOpen (acRes n) (n * 2 ^ 24)))
  ∧ (∀ t n m, n < 32 → Occurs (.acDiagnostic t n .readback m) t
    (fun s => s.acDiagnoses n .readback = true ∧ s.acWorks n = 3 ∧ 200000 < (m.current - m.readback).natAbs ∧ (s.acOf n).flag 16 = false)
    (fun s => (s.setAc n { s.acOf n with recheck := true, recheckAt := s.tb0 }).fault .data .fAcReadback (acRes n)
      (q24 n ((m.current - m.readback).natAbs / 1000 : Nat)) (acKey n)))
  ∧ (∀ t n (temp : Int), n < 32 → Occurs (.acThermal t n temp) t
    (fun s => (s.acOf n).powered = true ∧ (s.acOf n).st ≠ .retired ∧ 1400 ≤ temp ∧ (s.acOf n).flag 2 = false)
    (fun s =>
      let c := s.acOf n
      let s := s.setAc n { c.setFlag 2 true with coolAt := none }
      if c.flag 3 then s.faultUncounted .data .fAcThermal (acRes n) (q24 n temp) (acKey n)
      else s.fault .data .fAcThermal (acRes n) (q24 n temp) (acKey n)))
  ∧ (∀ t n, n < 32 → Occurs (.acThermalRecovery t n) t (fun s => ∃ a, (s.acOf n).coolAt = some a ∧ a + 5000000000 ≤ s.tb0)
    (fun s => (s.setAc n { (s.acOf n).setFlag 2 false with fold := none, coolAt := none }).acStage n))
  ∧ (∀ t n (ppm : Int) m, n < 32 → Occurs (.acReferenceCheck t n ppm m) t
    (fun s => (s.acOf n).powered = true ∧ (s.acOf n).st ≠ .retired ∧ (s.acOf n).testCmd = none)
    (fun s => if 1000 < ppm.natAbs then s.fault .data .fAcReference (acRes n) (q24 n ppm) (acKey n) else s))
  ∧ (∀ t n m, n < 32 → Occurs (.acReadbackRecheck t n m) t
    (fun s => (s.acOf n).recheck = true ∧ (s.acOf n).recheckAt + 100000000 ≤ s.tb0)
    (fun s => if s.acCondition n .readback m && s.acDiagnoses n .readback then
        (s.setAc n { s.acOf n with recheckAt := s.tb0 }).fault .data .fAcReadback (acRes n) (q24 n ((m.current - m.readback).natAbs / 1000 : Nat)) (acKey n)
      else s.setAc n { s.acOf n with recheck := false }))
  ∧ (∀ t n (gain offset : Int) k, n < 32 → Occurs (.acCalibrationEnd t n gain offset) t
    (fun s => (s.acOf n).cal = some k ∧ k.waiting = none)
    (fun s =>
      let c := s.acOf n
      let y : AcChan := { c with
        cal := none, st := (if c.st = .held then .inService else c.st), modeAt := (if k.inService then c.modeAt else s.tb0),
        window := [], base := if k.inService then some c.rx.current else none }
      let s := s.setAc n y
      if gain.natAbs ≤ 10000 ∧ offset.natAbs ≤ 10000 then
        ((s.setCommit n [(.acCalGain, wrapInt 32 gain), (.acCalOffset, wrapInt 32 offset)]).post .data .eAcCalibrated (acRes n)
          (n * 2 ^ 24 + b2n k.inService)).complete k.entry .sOk 0 []
      else
        (s.fault .data .fAcReference (acRes n) (q24 n (if offset.natAbs ≤ gain.natAbs then gain else offset)) (acKey n)).complete
          k.entry .sState 0 []))
  ∧ (∀ t n m, n < 32 → Occurs (.acIsolatedSample t n m) t (fun s => (s.acOf n).powered = true)
    (fun s =>
      let s := s.acCalWait n
      let c := s.acOf n
      let goal := s.acSupplyTarget n m
      let s := s.setAc n { c with
        window := if c.st = .switching ∨ c.st = .held then c.window else (acCurrent (s.acMode n) m :: c.window).take (s.acTaps n),
        supply := if c.supply < goal then min goal (c.supply + 1500000) else max goal (c.supply - 150000) }
      ((s.acClearing n m).acCooling n m.temp).acStage n))
  ∧ (∀ t mv, mv < 16000 → Occurs (.faFail t mv) t (fun s => Tab.get (fun _ => false) s.power.failFlags 2 = false)
    (fun s => ((s.setSupply 2 mv true true).postIf s.up .management .fFaUndervoltage { cls := 0x04, index := 0 } (q24 0xFF mv)).each
      State.acPowerLoss (List.range 32)))
  ∧ (∀ t mv, 18000 < mv → Occurs (.faRecovery t mv) t
    (fun s => Tab.get (fun _ => false) s.power.failFlags 2 = true ∧ s.power.restoreDone = true)
    (fun s => ((s.setSupply 2 mv false false).each State.acStart (List.range 32)).modemsNext)))
  ∧ ((∀ t m r n q, m < 8 → Occurs (.hartTransactionEnd t m r) t (fun s => (s.modemOf m).job = some (n, .pass q))
    (fun s => (((s.setModem m { s.modemOf m with job := none }).hartAnswer q (if r.res < 3 then r.res else 1) r.resp r.dev
      r.data).calProceed n).modemNext m))
  ∧ (∀ t m r n, m < 8 → Occurs (.hartTransactionEnd t m r) t (fun s => (s.modemOf m).job = some (n, .poll))
    (fun s =>
      let s := s.setModem m { s.modemOf m with job := none }
      let h := (s.acOf n).hart
      let good : HartChan := { h with
        vars := r.vars, varsGood := true, lastGood := s.tb0, resp := r.resp % 256 * 256 + r.dev % 256, fail := false }
      let s := if r.res = 0 then s.setHart n good
        else (s.setHart n { h with fail := true }).post .data .eHartNoReply (acRes n)
          (n * 2 ^ 24 + s.param .hartPollAddr n * 2 ^ 16 + 3)
      (s.calProceed n).modemNext m))
  ∧ (∀ t n, n < 32 → OccursIf (.hartPollDue t n) t (fun s => s.hartOn n = true ∧ s.param .hartPollMs n ≠ 0)
    (fun s => (s.setHart n { (s.acOf n).hart with pollDue := true }).modemsNext))
  ∧ (∀ t n, n < 32 → OccursIf (.hartPollStale t n) t
    (fun s => (s.acOf n).hart.lastGood + 3 * s.param .hartPollMs n * 1000000 ≤ s.tb0)
    (fun s => s.setHart n { (s.acOf n).hart with varsGood := false }))
  ∧ (∀ t n b, n < 32 → OccursIf (.hartBurstFrame t n b) t (fun s => ∃ m, m < 8 ∧ (s.modemOf m).job = some (n, .dwell))
    (fun s =>
      let s := s.post .data .eHartBurst (acRes n) (n * 2 ^ 24 + b.poll % 256 * 2 ^ 16 + b.cmd % 65536)
      { s with hart := { s.hart with bursts := s.hart.bursts.map (fun x =>
          if x.2.1 = none ∨ x.2.1 = some n then (x.1, x.2.1, x.2.2 ++ [burstRecord n b]) else x) } }))
  ∧ (∀ t m, m < 8 → Occurs (.hartModemLoopback t m false) t
    (fun s => (s.modemOf m).retired = false ∧ ((s.modemOf m).job = none ∨ ∃ n, (s.modemOf m).job = some (n, .dwell))
      ∧ (s.modemOf m).testCmd = none)
    (fun s => ((s.setModem m { s.modemOf m with failed := true, testCmd := none, job := none }).fault .data .fHartModem (modemRes m)
      (m * 2 ^ 24) (modemKey m)).modemNext m))
  ∧ (∀ t m e, m < 8 → Occurs (.hartModemLoopback t m true) t
    (fun s => (s.modemOf m).retired = false ∧ (s.modemOf m).job = none ∧ (s.modemOf m).testCmd = some e)
    (fun s => ((s.setModem m { s.modemOf m with failed := false, testCmd := none, job := none }).complete e .sOk 0 []).modemNext m))
  ∧ (∀ t m n, m < 8 → Occurs (.burstDwellEnd t m) t (fun s => (s.modemOf m).job = some (n, .dwell))
    (fun s => (s.setModem m { s.modemOf m with job := none }).modemNext m)))

/-- The commands of class 0x05 (R262, R270, R273, R278 to R280, R282, R564). -/
def Obligations.DigitalCommandsTakeEffect : Prop :=
  CompletesEitherWay specDcConfigure .dcConfigure (fun e s =>
      let n := e.cmd.tgtIndex
      let l := dcSettings e.cmd
      let sets := dcSets s e.cmd
      let s := if dcPairChange s e.cmd then s.logChange e.cmd.route 0x05 0 n (dcBlock s n []) (dcBlock s n l) else s
      (s.each (dcSetChannel l) sets).dcPairUpdate n)
      (fun c s => dcConfigureCheck s c = .sOk)
  ∧ CompletesEitherWay specDcSetService .dcSetService (fun e s =>
      let n := e.cmd.tgtIndex
      let v := e.cmd.field 16 1
      let s := s.setCommit n [(.dcService, v)]
      let x := s.dcOf n
      if v = 0 then
        ((s.setDc n { x with st := if x.st = .powerOn then .powerOn else .outOfService, target := none, test := none }).dcToSafe n).dcPairUpdate n
      else if x.st = .outOfService then
        s.setDc n { x with st := .safe, target := none, test := none, modeAt := s.tb0, delivered := false, changed := false }
      else s)
      (fun c s => (s.dcOf c.tgtIndex).st ≠ .retired ∧ (s.dcInSafety c.tgtIndex = true → s.sessionValid c = true))
  ∧ CompletesEitherWay specDcTestOutput .dcTestOutput (fun e s =>
      s.setDc e.cmd.tgtIndex { s.dcOf e.cmd.tgtIndex with test := some (e.cmd.field 16 1 == 1) })
      (fun c s => (s.dcOf c.tgtIndex).st = .outOfService ∧ (s.dcMode c.tgtIndex = 1 ∨ s.dcMode c.tgtIndex = 2))
  ∧ CompletesEitherWay specDcAck .dcAck (fun e s =>
      let n := e.cmd.tgtIndex
      if n < 32 then s.setDc n { s.dcOf n with ack := true }
      else if n = 0x0100 then (if s.dcAnyFlag then s else { s with dcCommon := false })
      else s.each (fun k s => s.setDc k { s.dcOf k with ack := true }) ((List.range 16).map (fun k => 16 * (n - 0x0110) + k)))
  ∧ Does specDcSelftest .dcSelftest (fun e s => s.setDc e.cmd.tgtIndex { s.dcOf e.cmd.tgtIndex with testCmd := some e })
  ∧ Reports specDcStatus .dcStatus (fun c s => dcStatusBlock s c.tgtIndex c.expert)
  ∧ Completes specDcSetLegacy .dcSetLegacy (fun e s =>
      let s := (s.setParam .dcLegacyFault 0 (e.cmd.field 16 1)).commitConfig
      if s.param .dcLegacyFault 0 = 1 && s.dcAnyFlag then { s with dcCommon := true } else s)

/-- The events of a digital channel (R262, R264 to R267, R271, R275, R278). -/
def Obligations.DigitalEvents : Prop :=
  (∀ t n, n < 32 → Occurs (.dcModeSwitchEnd t n) t (fun s => (s.dcOf n).st = .switching ∧ (s.dcOf n).modeAt ≤ s.tb0)
    (fun s => (s.setDc n { s.dcOf n with
        st := .safe, modeAt := s.tb0, delivered := false, changed := true, flags := 0, safe := true, olLatched := false,
        uvLatched := false, retry := false, faultOff := false }).post .data .eDcMode (dcRes n) (n * 2 ^ 24 + s.dcMode n)))
  ∧ (∀ t n mv, n < 32 → OccursIf (.dcLevelAccepted t n mv) t
    (fun s => (s.dcOf n).st ≠ .powerOn ∧ (s.dcOf n).st ≠ .switching ∧ s.dcMode n ≠ 1)
    (fun s => s.setDc n { s.dcOf n with
      level := if s.param .dcDiType n = 3 then (if 8000 ≤ mv then true else if mv ≤ 6000 then false else (s.dcOf n).level)
        else (if 11000 ≤ mv then true else if mv ≤ 9000 then false else (s.dcOf n).level) }))
  ∧ (∀ t n, n < 32 → OccursIf (.dcSilenceTimeout t n) t
    (fun s => (s.dcOf n).st ≠ .powerOn ∧ (s.dcOf n).silent = none ∧ (s.pair.st = .unpaired ∨ (s.dcMode n ≠ 1 ∧ s.dcMode n ≠ 2))
      ∧ (s.dcOf n).lastFrame + s.param .dcSilenceTo n * 1000000 ≤ s.tb0)
    (fun s => (s.setDc n { s.dcOf n with silent := some s.tb0, silences := (s.dcOf n).silences + 1 }).dcToSafe n))
  ∧ (∀ t n peak, n < 32 → OccursIf (.dcOverload t n peak) t (fun s => (s.dcOf n).on = true ∧ 650 < peak)
    (fun s =>
      let c := s.dcOf n
      let latch := s.param .dcOlLatch n == 1
      ((s.setDc n { c.setFlag 1 true with olLatched := latch, retry := !latch, overAt := s.tb0, overloads := c.overloads + 1 }).dcFollow n).post
        .data .eDcOverload (dcRes n) (q24 n peak)))
  ∧ (∀ t n, n < 32 → OccursIf (.dcOlRetry t n) t
    (fun s => (s.dcOf n).retry = true ∧ (s.dcOf n).overAt + s.param .dcOlRetry n * 1000000 ≤ s.tb0)
    (fun s => (s.setDc n { s.dcOf n with retry := false }).dcFollow n))
  ∧ (∀ t n (temp : Int), n < 32 → Occurs (.dcThermal t n temp) t
    (fun s => (s.dcMode n = 1 ∨ s.dcMode n = 2) ∧ (s.dcOf n).st ≠ .powerOn ∧ (s.dcOf n).st ≠ .retired ∧ 1500 ≤ temp
      ∧ (s.dcOf n).flag 2 = false)
    (fun s =>
      let c := s.dcOf n
      let s := (s.setDc n { c.setFlag 2 true with coolAt := none }).dcFollow n
      if c.flag 1 then s.faultUncounted .data .fDcThermal (dcRes n) (q24 n temp) (dcKey n)
      else s.fault .data .fDcThermal (dcRes n) (q24 n temp) (dcKey n)))
  ∧ (∀ t n, n < 32 → OccursIf (.dcThermalRecovery t n) t
    (fun s => ∃ a, (s.dcOf n).coolAt = some a ∧ a + 5000000000 ≤ s.tb0)
    (fun s => (s.setDc n { (s.dcOf n).setFlag 2 false with coolAt := none }).dcFollow n))
  ∧ (∀ t n k m, n < 32 → Occurs (.dcDiagnostic t n k m) t
    (fun s => s.dcChecks n k = true ∧ s.dcCondition n k m (s.dcOf n).on = true
      ∧ (s.dcOf n).flag 0 = false ∧ (s.dcOf n).flag 3 = false ∧ (s.dcOf n).flag 9 = false)
    (fun s =>
      let c := s.dcOf n
      match k with
      | .stuckOn => ((s.setDc n { c.setFlag 9 true with faultOff := true, faultAt := s.tb0 }).dcFollow n).fault .data .fDcSwitch (dcRes n) (q24 n 0) (dcKey n)
      | .failedOpen => ((s.setDc n { c.setFlag 9 true with faultOff := true, faultAt := s.tb0 }).dcFollow n).fault .data .fDcSwitch (dcRes n) (q24 n 1) (dcKey n)
      | .extVoltage => (s.setDc n (c.setFlag 3 true)).post .data .eDcExtVoltage (dcRes n) (q24 n m.term)
      | _ => (s.setDc n (c.setFlag 0 true)).post .data .eDcOpen (dcRes n) (n * 2 ^ 24)))
  ∧ (∀ t n m normal, n < 32 → Occurs (.dcDiagnosticCheck t n m normal) t (fun _ => True)
    (fun s =>
      let c := s.dcOf n
      let opened := c.flag 0 && (s.dcCondition n .openOutput m c.on || s.dcCondition n .openInput m c.on)
      let ext := c.flag 3 && s.dcCondition n .extVoltage m c.on
      s.setDc n { ((c.setFlag 0 opened).setFlag 3 ext).setFlag 1 (c.flag 1 && !(c.on && normal)) with
        coolAt := if c.flag 2 = true ∧ c.coolAt = none ∧ m.temp < 1350 then some s.tb0 else c.coolAt }))
  ∧ (∀ t n m, n < 32 → Occurs (.dcSwitchRetest t n m) t
    (fun s => (s.dcOf n).faultOff = true ∧ (s.dcOf n).st ≠ .retired ∧ (s.dcOf n).faultAt + 100000000 ≤ s.tb0)
    (fun s =>
      let c := s.dcOf n
      let again := s.setDc n { c with faultAt := s.tb0 }
      if s.dcCondition n .stuckOn m c.cmd then again.fault .data .fDcSwitch (dcRes n) (q24 n 0) (dcKey n)
      else if s.dcCondition n .failedOpen m c.cmd then again.fault .data .fDcSwitch (dcRes n) (q24 n 1) (dcKey n)
      else (s.setDc n { c.setFlag 9 false with faultOff := false }).dcFollow n))
  ∧ (∀ t n a, n < 32 → Occurs (.dcDiscrepancy t n) t
    (fun s =>
      let e := n - n % 2
      (s.dcOf e).disagree = some a ∧ s.dcMode e = 3 ∧ (s.dcOf e).disc = false ∧ a + s.param .dcDiscTime e * 1000000 < s.tb0)
    (fun s =>
      let e := n - n % 2
      ((s.setDc e { s.dcOf e with disc := true, discDemand := false, pairVal := false }).post .data .eDcDiscrepancy (dcRes e)
        (q24 e ((s.tb0 - a) / 1000000 : Nat))).dcCommonUpdate))
  ∧ (∀ t n ok, n < 32 → Occurs (.dcInputSelftest t n ok) t
    (fun s => (s.dcOf n).st ≠ .powerOn ∧ (s.dcOf n).st ≠ .retired)
    (fun s =>
      let cmd := (s.dcOf n).testCmd
      let s := s.setDc n { s.dcOf n with testCmd := none }
      let s := if ok then s else s.fault .data .fDcInputTest (dcRes n) (n * 2 ^ 24) (dcKey n)
      match cmd with
      | some e => s.complete e .sOk 0 []
      | none => s))
  ∧ (∀ t g mv, g < 2 → mv < 18000 → OccursIf (.fdSag t g mv) t (fun s => (s.dcGroup g).sag = false)
    (fun s => ((s.setSupply (3 + g) mv true false).setDcGroup g { s.dcGroup g with sag := true }).postIf s.up .data .eDcSag
      (dgRes g) (q24 (0x40 + g) mv)))
  ∧ (∀ t g mv, g < 2 → mv < 14000 → Occurs (.fdUndervoltage t g mv) t (fun s => (s.dcGroup g).uv = false)
    (fun s =>
      let fresh := !(s.dcGroup g).sag
      let s := (s.setSupply (3 + g) mv true true).setDcGroup g { sag := true, uv := true }
      let s := s.postIf (fresh && s.up) .data .eDcSag (dgRes g) (q24 (0x40 + g) mv)
      (s.each (fun n s =>
          let c := s.dcOf n
          (s.setDc n { c with retry := false, delivered := false, changed := c.changed && !c.delivered }).dcFollow n)
        ((List.range 16).map (fun k => 16 * g + k))).postIf s.up .data .fFieldUndervoltage (dgRes g) (q24 (0x40 + g) mv)))
  ∧ (∀ t g mv, g < 2 → 19000 < mv → Occurs (.fdRecovery t g mv) t (fun s => (s.dcGroup g).uv = true)
    (fun s => ((s.setSupply (3 + g) mv false false).setDcGroup g {}).each (fun n s =>
        let c := s.dcOf n
        let lat := dcIsDo (s.dcMode n) && c.cmd && s.param .dcUvReturn n == 1
        (s.setDc n { c with uvLatched := c.uvLatched || lat, modeAt := s.tb0, delivered := false }).dcFollow n)
      ((List.range 16).map (fun k => 16 * g + k))))
  ∧ (∀ t g mv, g < 2 → 19000 < mv → Occurs (.fdRecovery t g mv) t (fun s => (s.dcGroup g).uv = false)
    (fun s =>
      let s := s.setSupply (3 + g) mv false false
      s.setDcGroup g { s.dcGroup g with sag := false }))

/-- The commands of class 0x06 on safety outputs (R288, R293, R300, R312, R314, R565): a configuration or a budget reset enters the change log before
it takes effect; an acknowledgement is accepted as R288 says, or refused with S_STATE. The safety session, its password, and the change log (R301
to R303, R305, R306): a right password opens the session with a fresh non-zero handle, a wrong one is counted; the log is read from a sequence
number on and freed by acknowledgement. `SAFE.AI_PAIR` (R297, R312): its owner always runs, so it is posted, and applied at the frame of the
pair's even channel; and AI_PAIR_DISCREPANCY (R297). -/
def Obligations.SafetyCommandsTakeEffect : Prop :=
  (CompletesEitherWay specSafeSoConfigure .safeSoConfigure (fun e s =>
      let n := e.cmd.tgtIndex
      let l := soSettings e.cmd
      ((s.logChange e.cmd.route 0x06 0 n (soBlock s n []) (soBlock s n l)).setCommit n l).soSwitches n)
      (fun c s => (c.field 16 1 ≠ s.param .soTripMode c.tgtIndex → s.soOwnerStopped c.tgtIndex = true) ∧ s.logFull = false)
  ∧ CompletesAtBoundary specSafeAck .safeAck (fun e s =>
      let n := e.cmd.tgtIndex
      let x := s.soOf n
      ((s.setSo n { x with tripped := false, svHold := false, localOff := false, cause := 0 }).post .data .eSoAck (soRes n)
        (n * 2 ^ 24 + 1)).commitSafety)
      (fun c s => c.tgtIndex < 8 ∧ s.param .soAckSource c.tgtIndex = 1 ∧ (s.soOf c.tgtIndex).testing = false ∧ s.soAckOk c.tgtIndex = true)
  ∧ (∀ t c s, specSafeAck.taken t c s = true → c.tgtIndex < 8 → (s.arrived 0x0601 t c).soAckOk c.tgtIndex = false →
      ((s.arrived 0x0601 t c).soOf c.tgtIndex).testing = false →
      exec (.safeAck t c) s = .next ((s.arrived 0x0601 t c).complete (s.entryFor 0x0601 c) .sState 0 []))
  ∧ AppliesAs specSafeAck (fun e s => s.complete e .sState 0 [])
      (fun c s => c.tgtIndex < 8 ∧ (s.soOf c.tgtIndex).testing = false ∧ s.soAckOk c.tgtIndex = false)
  ∧ Completes specSafeAck .safeAck (fun _ s =>
      s.each (fun k s => s.setSo k { s.soOf k with ackSrc := some 1 })
        ((List.range 8).filter (fun k => s.param .soAckSource k == 1 && s.soAckOk k)))
      (fun c s => c.tgtIndex = 0x0200 ∧ ∃ k, k < 8 ∧ s.param .soAckSource k = 1 ∧ s.soAckOk k = true)
  ∧ Does specSafeSoTest .safeSoTest (fun e s =>
      let n := e.cmd.tgtIndex
      let x := s.soOf n
      s.setSo n { x with testCmd := some e, hs := { x.hs with wanted := true }, ls := { x.ls with wanted := true } })
  ∧ Reports specSafeStatus .safeStatus (fun c s => soStatusBlock s c.tgtIndex c.expert) (fun _ s => { s with free := s.free + 8 })
  ∧ Completes specSafeBudgetReset .safeBudgetReset (fun e s =>
      (s.each (fun n s =>
        let x := s.soOf n
        (s.logChange e.cmd.route 0x06 0 n (leBytes 4 (x.used s.tb0 / 1000000000)) (leBytes 4 0)).setSo n
          { x with budgetUsed := 0, budgetOut := false, svConds := setBits x.svConds 2 2 0 })
        (if e.cmd.tgtIndex = 0x0200 then List.range 8 else [e.cmd.tgtIndex])).commitSafety))
  ∧ ((∀ t c s, specSafeSessionOpen.taken t c s = true →
    (s.arrived 0x0604 t c).passwordOk (slice c.body 0 32) = true →
    ∃ (h : Nat) (u : State), 0 < h ∧ h < 2 ^ 32
      ∧ exec (.safeSessionOpen t c) s = .next (u.complete (s.entryFor 0x0604 c) .sOk h [])
      ∧ u.session.handle = h ∧ u.session.route = c.route ∧ u.session.lastUse = (s.arrived 0x0604 t c).tb0
      ∧ u.cred = { (s.arrived 0x0604 t c).cred with fails := 0 } ∧ u.so = s.so ∧ u.cfg = s.cfg)
  ∧ (∀ t c s, specSafeSessionOpen.taken t c s = true →
    (s.arrived 0x0604 t c).passwordOk (slice c.body 0 32) = false →
    exec (.safeSessionOpen t c) s = .next
      (((s.arrived 0x0604 t c).passwordFailed c.route).complete (s.entryFor 0x0604 c) .sBadPassword 0 []))
  ∧ Completes specSafeSessionClose .safeSessionClose (fun _ s => { s with session := { s.session with handle := 0 } })
  ∧ (∀ p, Completes specSafeSetPassword .safeSetPassword (fun _ s =>
      ({ s with cred := { s.cred with password := some (Config.passwordVerifier p) } } : State).commitCred)
      (fun c s => passwordOf (slice c.body 32 32) = some p ∧ s.cred.password = none))
  ∧ (∀ p old, Completes specSafeSetPassword .safeSetPassword (fun e s =>
      let s := s.logChange e.cmd.route 0x06 0 0x0201 old (Config.passwordVerifier p)
      ({ s with cred := { s.cred with password := some (Config.passwordVerifier p) } } : State).commitCred)
      (fun c s => passwordOf (slice c.body 32 32) = some p ∧ s.cred.password = some old ∧ s.passwordOk (slice c.body 0 32) = true))
  ∧ Reports specSafeLogRead .safeLogRead (fun c s =>
      ((s.safeLog.entries.filter (fun e => decide (c.blk 0 4 ≤ e.lseq))).take 128).flatMap LogEntry.bytes)
  ∧ Completes specSafeLogAck .safeLogAck (fun e s =>
      let g := s.safeLog
      let keep := g.entries.filter (fun x => decide (e.cmd.field 16 4 < x.lseq))
      let freed := g.entries.length - keep.length
      let s : State := { s with safeLog := { g with entries := keep, lost := false } }
      (((State.logRelease1 512 s).logOverflow).commitLog).post .management .eSafeLogArchived { cls := 0x06, index := 0x0200 } freed)
  ∧ (∀ t, OccursIf (.safetySessionTimeout t) t (fun s => s.session.handle ≠ 0 ∧ s.session.lastUse + 1800000000000 ≤ s.tb0)
      (fun s => { s with session := { s.session with handle := 0 } }))
  ∧ (∀ t, OccursIf (.safetyLockoutEnd t) t (fun s => s.cred.locked = true ∧ s.session.lockUntil ≤ s.tb0)
      (fun s => ({ s with cred := { s.cred with locked := false, fails := 0 } } : State).commitCred)))
  ∧ ((∀ t c s, specSafeAiPair.passes t c s = true → (s.arrived 0x0609 t c).postsToPartner = false →
    (s.arrived 0x0609 t c).mailCount { kind := .aiPair, index := c.tgtIndex - 0x0100 } < 8 →
    exec (.safeAiPair t c) s = .next ((s.arrived 0x0609 t c).postMail
      { owner := { kind := .aiPair, index := c.tgtIndex - 0x0100 }, body := .cmd (s.entryFor 0x0609 c) }))
  ∧ (∀ own o (e : Entry) (s : State), e.op = 0x0609 →
    (let n := e.cmd.tgtIndex - 0x0100
     (e.cmd.field 16 1 = 1 → s.acMode (2 * n) < 2 ∧ s.acMode (2 * n + 1) < 2) ∧ s.logFull = false) →
    applyPosting specOf own { owner := o, body := .cmd e } s =
      (let n := e.cmd.tgtIndex - 0x0100
       let l := aiSettings e.cmd
       let s := (s.logChange e.cmd.route 0x06 0 e.cmd.tgtIndex (aiBlock s n []) (aiBlock s n l)).setCommit n l
       let s := if s.param .aiPairEn n = 1 then s.aiPairUpdate n else s.setAiPair n {}
       (s.each (fun k s => if s.aiOneOfOne k then s.soDegrade k 6 else s.soUndegrade k 6) (List.range 8)).complete e .sOk 0 []))
  ∧ (∀ t n a, n < 16 → Occurs (.aiPairDiscrepancy t n) t
    (fun s => (s.aiPairOf n).beyond = some a ∧ s.param .aiPairEn n = 1 ∧ (s.aiPairOf n).disc = false
      ∧ a + s.param .aiDiscTime n * 1000000 < s.tb0)
    (fun s =>
      let x := s.aiPairOf n
      (s.setAiPair n { x with disc := true, within := none, status := setBits x.status 2 2 1 }).post .data .eSafeAiDisc
        { cls := 0x06, index := 0x0100 + n } n)))

/-- The events of a safety output and its tests (R287, R290, R293 to R295, R300, R311): an overload, overtemperature or 1 ms of silence of an
energised de-energise-to-trip output trips it with cause 3, 4 or 5; a failed test counts, and a second retires the switch. The supervisor's
conditions (R60, R66, R291): each opens the low side of every de-energise-to-trip output. -/
def Obligations.SafetyOutputEvents : Prop :=
  ((∀ t n peak, n < 8 → OccursIf (.soOverload t n peak) t (fun s => (s.soOf n).hs.closed = true ∧ 2400 < peak)
    (fun s => (s.post .data .eSoOverload (soRes n) (q24 n peak)).soLocalOff n 3))
  ∧ (∀ t n, n < 8 → Occurs (.soOvertemp t n) t (fun s => s.soWasOn n = true ∧ s.ett n = false)
    (fun s => ((s.setSo n { s.soOf n with localOff := true }).soTrip n 4).soSwitches n))
  ∧ (∀ t n, n < 8 → Occurs (.soSilenceTrip t n) t
    (fun s => (s.soOf n).silent = false ∧ (s.soOf n).lastFrame + 1000000 ≤ s.tb0 ∧ s.pair.st = .unpaired ∧ s.soWasOn n = true
      ∧ s.ett n = false)
    (fun s => ((s.setSo n { s.soOf n with silent := true }).soTrip n 5).soSwitches n))
  ∧ (∀ t n sw, n < 8 → sw < 2 → Occurs (.soTestDue t n sw) t
    (fun s => ((s.soOf n).sw sw).stuck = false ∧ ((s.soOf n).sw sw).failedOpen = false ∧ s.soTestSuspended n = false
      ∧ (s.soOf n).testing = false ∧ ((s.soOf n).sw sw).slot ≠ some (s.soSlot n))
    (fun s =>
      let x := s.soOf n
      let x := x.setSw sw { x.sw sw with slot := some (s.soSlot n) }
      (s.setSo n (x.setSw sw { x.sw sw with testing := some (s.soEnergised n), demanded := false, retry := false, wanted := false })).soSwitches n))
  ∧ (∀ t n sw, n < 8 → sw < 2 → OccursIf (.soTestRetry t n sw) t
    (fun s => ((s.soOf n).sw sw).retry = true ∧ ((s.soOf n).sw sw).retryAt + 1000000000 ≤ s.tb0) (fun s => s.soTestStart n sw))
  ∧ (∀ t n sw dark, n < 8 → sw < 2 → Occurs (.soTestEnd t n sw .pass) t
    (fun s => ((s.soOf n).sw sw).testing = some dark ∧ ((s.soOf n).sw sw).demanded = false)
    (fun s =>
      let x := s.soOf n
      (((s.setSo n (x.setSw sw { x.sw sw with testing := none, demanded := false, retry := false, retryAt := s.tb0 })).soSwitches n).soTestPass n sw).soTestDone n))
  ∧ (∀ t n sw r dark, n < 8 → sw < 2 → r ≠ .pass → Occurs (.soTestEnd t n sw r) t
    (fun s => ((s.soOf n).sw sw).testing = some dark ∧ ((s.soOf n).sw sw).demanded = false ∧ ((s.soOf n).sw sw).failedOnce = true)
    (fun s =>
      let x := s.soOf n
      (((s.setSo n (x.setSw sw { x.sw sw with testing := none, demanded := false, retry := false, retryAt := s.tb0 })).soSwitches n).soRetireSwitch
        n sw (r == .notOpen)).soTestDone n))
  ∧ (∀ t n sw r dark, n < 8 → sw < 2 → Occurs (.soTestEnd t n sw r) t
    (fun s => ((s.soOf n).sw sw).testing = some dark ∧ ((s.soOf n).sw sw).demanded = true)
    (fun s =>
      let x := s.soOf n
      (((s.setSo n (x.setSw sw { x.sw sw with testing := none, demanded := false, retry := true, retryAt := s.tb0 })).soSwitches n).post
        (swPlane sw) .eSoTestAbandoned (soRes n) (soQ n sw)).soTestDone n))
  ∧ (∀ t n sw, n < 8 → sw < 2 → Occurs (.soTestOverdue t n sw) t
    (fun s =>
      let w := (s.soOf n).sw sw
      w.overdue = false ∧ w.stuck = false ∧ w.failedOpen = false
        ∧ w.since + s.param .soDiagInterval n * 1000000000 ≤ s.tb0)
    (fun s =>
      let x := s.soOf n
      ((s.setSo n (x.setSw sw { x.sw sw with overdue := true })).post (swPlane sw) .fSoTestOverdue (soRes n) (soQ n sw)).soDegrade n 2))
  ∧ (∀ t n sw r, n < 8 → sw < 2 → OccursIf (.soTestRepeat t n sw r) t
    (fun s => ((s.soOf n).sw sw).failedOnce = true ∧ ((s.soOf n).sw sw).failedAt + 100000000 ≤ s.tb0)
    (fun s =>
      if s.ett n = true then (if s.ettTests n = true then s.soTestJudge n sw r else s)
      else
        let s := s.soTestStart n sw
        if (((s.soOf n).sw sw).testing).isNone then s else s.soTestEnd n sw r))
  ∧ (∀ t n (load : Int) hs ls, n < 8 → Occurs (.ettLightPulse t n ⟨load, hs, ls⟩) t
    (fun s => s.ett n = true ∧ (s.soOf n).tripped = false ∧ s.soWanted n = false ∧ s.sv.fsLow = false ∧ s.sv.fsFail = false
      ∧ s.fieldActive = true ∧ (s.soOf n).retired = false ∧ s.power.phase = .running)
    (fun s =>
      let x := s.soOf n
      let y := { x with hs := { x.hs with wanted := false }, ls := { x.ls with wanted := false } }
      let s := if load < 10 then
          (((s.setSo n { y with isOpen := true }).soTestDone n).postIf (!x.isOpen) .data .eSoOpen (soRes n) (q24 n load)).soDegrade n 3
        else ((s.setSo n { y with isOpen := false }).soTestDone n).soUndegrade n 3
      let tested := fun (s : State) (sw : Nat) (r : SoTest) =>
        ((s.soOf n).sw sw).stuck = false ∧ ((s.soOf n).sw sw).failedOpen = false ∧ (r = .pass → 10 ≤ load)
      let s := if tested s 0 hs then s.soTestJudge n 0 hs else s
      if tested s 1 ls then s.soTestJudge n 1 ls else s))
  ∧ (∀ t n (load : Int), n < 8 → OccursIf (.soOpenCheck t n load) t
    (fun s => s.param .soOpenCheck n = 1 ∧ s.soEnergised n = true ∧ load < 10 ∧ (s.soOf n).isOpen = false)
    (fun s => (s.setSo n { s.soOf n with isOpen := true }).post .data .eSoOpen (soRes n) (q24 n load)))
  ∧ (∀ t n, n < 8 → Occurs (.degradedBudgetExpiry t n) t
    (fun s => (s.soOf n).causes ≠ 0 ∧ s.soBudget n ≤ (s.soOf n).used s.tb0 ∧ (s.soOf n).budgetOut = false)
    (fun s => ((s.soExpire n).singleEnd n).settle))
  ∧ (∀ t, OccursIf (.budgetPeriodicCommit t) t (fun s => ∃ n, n < 8 ∧ (s.soOf n).budgetAt.isSome = true)
    (fun s => { s with cocoon := { s.cocoon with safety := s.cocoon.safety.request s.safetyStore } })))
  ∧ ((∀ t mv, mv < 16000 → Occurs (.fsFail t mv) t (fun s => s.sv.fsFail = false)
    (fun s =>
      let s := s.setSupply 5 mv true true
      let s := ({ s with sv := { s.sv with fsFail := true, fsLow := true } } : State).postIf s.up .management .fFsUndervoltage
        { cls := 0x06, index := 0x0200 } mv
      (s.each (State.svCondition 4 6) (List.range 8)).each State.soSwitches (List.range 8)))
  ∧ (∀ t mv, 18000 < mv → Occurs (.fsRecovery t mv) t (fun _ => True)
    (fun s =>
      let s := s.setSupply 5 mv false false
      (({ s with sv := { s.sv with fsFail := false, fsLow := false } } : State).each (State.svConditionEnd 4) (List.range 8)).each
        State.soSwitches (List.range 8)))
  ∧ (∀ t (temp : Int), 1250 ≤ temp → OccursIf (.svOvertemp t temp) t (fun s => s.sv.overtemp = false)
    (fun s => (({ s with sv := { s.sv with overtemp := true } } : State).post .control .fSafeOvertemp { cls := 0x06, index := 0x0200 }
      (wrapInt 24 temp)).each (State.svCondition 5 2) (List.range 8)))
  ∧ (∀ t test, OccursIf (.svSelftestFail t test) t (fun s => s.sv.selftestFailed = false)
    (fun s => (({ s with sv := { s.sv with selftestFailed := true } } : State).post .control .fSvSelftest { cls := 0x06, index := 0x0200 }
      test).each (State.svCondition 8 2) (List.range 8))))

/-- The commands of class 0x07 where the conditions at their boundary hold (R223, R225, R226, R229, R563). A loop command that its boundary refuses
completes with the status of the failing condition, records E_LOOP_REFUSED and changes nothing else (R230). -/
def Obligations.LoopCommandsTakeEffect : Prop :=
  (CompletesEitherWay specLoopConfigure .loopConfigure (fun e s =>
      let i := e.cmd.tgtIndex
      let l := loopSettings e.cmd
      let v := newValue s i l
      let s' := if s.param .loopEn i = 1 ∧ (v .loopEn = 0 ∨ v .loopOutDest ≠ s.param .loopOutDest i) then
        s.loopReleases i (s.param .loopOutDest i) else s
      let x := s'.loopOf i
      let s'' := if s.param .loopEn i = 0 ∧ v .loopEn = 1 then
          s'.setLoop i { cmd := x.cmd, ackSeq := x.ackSeq, refused := x.refused, memFault := x.memFault, longest := x.longest } else s'
      s''.setCommit i l)
      (fun c s => loopCheck loopSettings s c = .sOk)
  ∧ CompletesEitherWay specLoopSetCoeff .loopSetCoeff (fun e s => s.setCommit e.cmd.tgtIndex
        ([(.loopKp, e.cmd.field 16 4), (.loopKi, e.cmd.field 20 4), (.loopKd, e.cmd.field 24 4)]
          ++ (if e.cmd.expert then [(.loopN, e.cmd.field 28 4), (.loopAction, e.cmd.field 32 1)] else [])))
      (fun c s => loopCheck coeffSettings s c = .sOk)
  ∧ CompletesEitherWay specLoopSetMode .loopSetMode (fun e s => s.loopSetMode e.cmd.tgtIndex (e.cmd.field 16 1))
      (fun c s => s.param .loopModeLock c.tgtIndex ≠ 2 ∧ s.loopModeBad c.tgtIndex (c.field 16 1) = false)
  ∧ CompletesEitherWay specLoopSetSp .loopSetSp (fun e s => s.setCommit e.cmd.tgtIndex
        ((.loopSpConst, e.cmd.field 16 4) :: (if e.cmd.expert then
          [(.loopSpLo, e.cmd.field 20 4), (.loopSpHi, e.cmd.field 24 4), (.loopSpRate, e.cmd.field 28 4), (.loopSpTrack, e.cmd.field 32 1)]
          else [])))
      (fun c s => loopCheck spSettings s c = .sOk)
  ∧ CompletesEitherWay specLoopSetManual .loopSetManual (fun e s => s.setCommit e.cmd.tgtIndex [(.loopManValue, e.cmd.field 16 4)])
      (fun c s => s.param .loopManSrc c.tgtIndex ≠ 1)
  ∧ CompletesEitherWay specLoopSetLimits .loopSetLimits (fun e s => s.setCommit e.cmd.tgtIndex
        ([(.loopOutLo, e.cmd.field 16 4), (.loopOutHi, e.cmd.field 20 4)] ++ (if e.cmd.expert then
          [(.loopOutRate, e.cmd.field 24 4), (.loopOutSafe, e.cmd.field 28 4), (.loopPvFail, e.cmd.field 32 1),
           (.loopModeLock, e.cmd.field 33 1), (.loopManSrc, e.cmd.field 34 1)] else [])))
      (fun c s => loopCheck limitSettings s c = .sOk)
  ∧ Reports specLoopStatus .loopStatus (fun c s =>
      let i := c.tgtIndex
      let x := s.loopOf i
      s.loopStat i ++ leBytes 8 x.p ++ leBytes 8 x.i ++ leBytes 8 x.d
        ++ (if c.expert then leBytes 8 (s.loopLoad 512 0 1).toLreal ++ leBytes 8 x.longest else [])))
  ∧ (∀ k mk chk, (k, mk, chk) ∈ [(specLoopConfigure, Instr.loopConfigure, loopCheck loopSettings),
      (specLoopSetCoeff, Instr.loopSetCoeff, loopCheck coeffSettings), (specLoopSetSp, Instr.loopSetSp, loopCheck spSettings),
      (specLoopSetLimits, Instr.loopSetLimits, loopCheck limitSettings)] →
    DoesEitherWay k mk (fun e s =>
      let st := chk s e.cmd
      (s.complete e st 0 []).post .control .eLoopRefused (loopRes e.cmd.tgtIndex) (e.cmd.tgtIndex * 65536 + st.code))
      (fun c s => chk s c ≠ .sOk))

/-- The sample of a loop (R214, R217, R219 to R221, R224, R227, R230): due on its grid and once per period; the postings since the last sample apply
first; the process value, the set-point and the manual value are latched, the law runs, and the output is committed. A process value that is bad
while the mode is AUTO puts the loop in its failure reaction. -/
def Obligations.LoopSampleFollowsTheLaw : Prop :=
  (∀ t i lat, i < 512 → Occurs (.loopSample t i lat) t (fun s => s.loopDue i = false) (fun s => s))
  ∧ (∀ t i lat, i < 512 → Occurs (.loopSample t i lat) t (fun s => s.loopDue i = true ∧ (s.atBoundary (loopOwner i)).loopDue i = false)
    (fun s => s.atBoundary (loopOwner i)))
  ∧ (∀ t i lat, i < 512 → ∀ s u : State, (s.advance t).loopDue i = true → u = (s.advance t).atBoundary (loopOwner i) →
    u.loopDue i = true → ∀ r : State, r = u.loopRequest i → (r.loopOf i).memFault = false → (r.loopOf i).peer = none →
    srcKind (r.param .loopPvSrc i) ≠ 0 → (r.loopPv i).2.2 = false → (r.loopSp i).2.2 = false →
    ∃ (v w : State) (y : LoopRun), exec (.loopSample t i lat) s = .next v
      ∧ y = loopSample (r.loopSet i) (r.loopMode i)
          { pv := (r.loopPv i).1, pvReal := (r.loopPv i).2.1, spSource := (r.loopSp i).1, spHeld := none,
            man := (if r.param .loopManSrc i = 0 then widen (r.param .loopManValue i) else widen (leNat (slice (r.loopOf i).cmd 4 4))),
            extHold := r.loopExtHold i, flags := 0, driving := r.loopDrives i }
          { r.loopOf i with peer := none }
      ∧ w = (if r.pair.st = .active ∧ r.pair.link = true then r.send (.loopState i (r.loopPv i).1 (r.loopSp i).1) else r)
      ∧ v = (((w.setLoop i { y with
            out := narrow y.out, sampleT := wrapInt 64 (r.loopClock i), lastSample := some r.tb0, longest := max y.longest lat }).loopCommit
              i).postIf (decide (r.param .loopTs i * 10000 < lat)) .control .eLoopLate (loopRes i) (lat - r.param .loopTs i * 10000)))
  ∧ (∀ t i lat, i < 512 → ∀ s u r : State, (s.advance t).loopDue i = true → u = (s.advance t).atBoundary (loopOwner i) →
    u.loopDue i = true → r = u.loopRequest i → (r.loopOf i).memFault = false → r.pair.st = .unpaired → r.loopMode i = 1 →
    (r.loopPv i).2.2 = true → (r.loopSp i).2.2 = false →
    ∃ (v w : State) (y : LoopRun), exec (.loopSample t i lat) s = .next v ∧ w = r.loopPvBad i
      ∧ y = loopSample (w.loopSet i) (w.loopMode i)
          { pv := (r.loopPv i).1, pvReal := (r.loopPv i).2.1, spSource := (r.loopSp i).1, spHeld := none,
            man := (if w.param .loopPvFail i = 1 then widen (w.param .loopOutSafe i) else w.loopPrev i),
            extHold := w.loopExtHold i, flags := 16, driving := w.loopDrives i }
          { w.loopOf i with peer := none }
      ∧ v = (((w.setLoop i { y with
            out := narrow y.out, sampleT := wrapInt 64 (w.loopClock i), lastSample := some w.tb0, longest := max y.longest lat }).loopCommit
              i).postIf (decide (w.param .loopTs i * 10000 < lat)) .control .eLoopLate (loopRes i) (lat - w.param .loopTs i * 10000)))

/-- The commands of class 0x08 (R320, R322, R323, R325, R327, R332, R336 to R338, R340): an axis that is not retired takes them at its next profile
update. -/
def Obligations.AxisCommandsTakeEffectAtTheUpdate : Prop :=
  CompletesAtBoundary specAxisConfigure .axisConfigure (fun e s =>
      let n := e.cmd.tgtIndex
      let l := axSettings e.cmd
      let u := s.setCommit n l
      let u := if newValue s n l .axDirInv ≠ s.param .axDirInv n then (u.axUnref n 4).axUnpark n else u
      if u.param .axEn n = 0 then u.axDisable n
      else
        let u := if u.axOwned n then u else u.setAx n { u.axOf n with started := true }
        if (u.axOf n).started then u.axEnergise n false 100 else u)
      (fun c s => (s.axOf c.tgtIndex).st ≠ .retired ∧ (s.axOf c.tgtIndex).resting = true)
  ∧ CompletesAtBoundary specAxisMove .axisMove (fun e s =>
      let n := e.cmd.tgtIndex
      let r := moveReq e.cmd
      let q := if r.kind = 1 then f64.toQ r.tgt else (s.axOut n (s.axOf n).pos).add (f64.toQ r.tgt)
      s.axStart n .moving (if r.kind = 3 then .velocity (s.axIn n (f64.toQ r.tgt)) else .target (s.axIn n q)) r false)
      (fun c s =>
        let n := c.tgtIndex
        let r := moveReq c
        let x := s.axOf n
        let q := if r.kind = 1 then f64.toQ r.tgt else (s.axOut n x.pos).add (f64.toQ r.tgt)
        s.axOwned n = false ∧ (x.st = .standstill ∨ x.st = .parked ∨ x.st = .moving) ∧ 1 ≤ r.kind ∧ r.kind ≤ 3
          ∧ (r.kind = 1 → x.unref = false) ∧ f64.isFinite r.tgt = true ∧ vlimOk r.vlim = true
          ∧ (x.unref = false → r.kind ≠ 3 → q.lt (s.axParam .axSoftLo n) = false ∧ (s.axParam .axSoftHi n).lt q = false))
  ∧ CompletesAtBoundary specAxisStop .axisStop (fun e s =>
      let n := e.cmd.tgtIndex
      s.setAx n { s.axOf n with
        st := .stopping, goal := .stop (e.cmd.expert && e.cmd.field 16 1 == 1), running := some .command, result := 0 })
      (fun c s => s.axOwned c.tgtIndex = false ∧ ((s.axOf c.tgtIndex).st = .moving ∨ (s.axOf c.tgtIndex).st = .homing))
  ∧ CompletesAtBoundary specAxisHome .axisHome (fun e s =>
      let n := e.cmd.tgtIndex
      if s.param .homeMode n = 0 then
        let u := s.axHomed n (s.axParam .homePos n)
        let u := u.setAx n (({ u.axOf n with running := some .command } : AxisChan).done 1)
        if (u.axOf n).parked then u.commitAxes else u
      else
        let v := s.axIn n (s.axParam .homeVel n)
        let u := s.axStart n .homing (.velocity (if s.param .homeDir n = 1 then -v else v)) { kind := 5, src := .command } false
        u.setAx n { u.axOf n with homeFrom := (u.axOf n).pos })
      (fun c s => s.axOwned c.tgtIndex = false ∧ s.param .homeMode c.tgtIndex < 3
        ∧ ((s.axOf c.tgtIndex).st = .standstill ∨ (s.axOf c.tgtIndex).st = .parked))
  ∧ CompletesAtBoundary specAxisPark .axisPark (fun e s =>
      let n := e.cmd.tgtIndex
      let x := s.axOf n
      let half : Int := 128 * 4294967296
      s.setAx n { x with
        parking := some (s.tb0, x.pos, (x.pos + half) / (2 * half) * (2 * half), e.cmd.expert && e.cmd.field 16 1 == 1),
        running := some .command, result := 0 })
      (fun c s => s.param .axStandstill c.tgtIndex ≠ 1 ∧ (s.axOf c.tgtIndex).st = .standstill ∧ (s.axOf c.tgtIndex).parking = none)
  ∧ CompletesAtBoundary specAxisEnable .axisEnable (fun e s =>
      let n := e.cmd.tgtIndex
      let u := s.setCommit n [(.axEn, if e.cmd.field 16 1 = 1 then 1 else 0)]
      let u := u.setAx n { u.axOf n with started := true }
      if e.cmd.field 16 1 = 1 then u.axEnergise n false 100 else u.axDisable n)
      (fun c s => s.axOwned c.tgtIndex = false ∧ (s.axOf c.tgtIndex).st ≠ .retired)
  ∧ CompletesAtBoundary specAxisSegLoad .axisSegLoad (fun e s =>
      let n := e.cmd.tgtIndex
      let new := segsOf (e.cmd.blk 0 2 % 32768) (e.cmd.blockBytes.drop 16)
      s.setAx n { s.axOf n with segs := if bitOf (e.cmd.blk 0 2) 15 then (s.axOf n).segs ++ new else new })
      (fun c s =>
        let n := c.tgtIndex
        let x := s.axOf n
        let new := segsOf (c.blk 0 2 % 32768) (c.blockBytes.drop 16)
        let all := if bitOf (c.blk 0 2) 15 then x.segs ++ new else new
        x.st ≠ .segment ∧ all.length ≤ 256 ∧ s.segCheck n 0 0 (s.axOut n x.pos) (Q.ofInt 0) all = none)
  ∧ CompletesAtBoundary specAxisSegStart .axisSegStart (fun e s =>
      let n := e.cmd.tgtIndex
      if e.cmd.expert then s.setAx n { s.axOf n with segAt := some (e.cmd.field 16 1, e.cmd.field 24 8) }
      else
        let u := s.axStart n .segment .none { kind := 9, src := .command } false
        u.setAx n { u.axOf n with segIdx := 0, segT0 := u.tb0, segP0 := (u.axOut n (u.axOf n).pos).toLreal, segAt := none })
      (fun c s =>
        let x := s.axOf c.tgtIndex
        s.axOwned c.tgtIndex = false ∧ x.unref = false ∧ (x.st = .standstill ∨ x.st = .parked) ∧ x.segs ≠ []
          ∧ (c.expert = true → s.baseSynced (c.field 16 1) = true ∧ s.baseNow (c.field 16 1) ≤ (c.field 24 8 : Int)))
  ∧ Reports specAxisStatus .axisStatus (fun c s => axStatusBlock s c.tgtIndex c.expert) (fun _ s => { s with free := s.free + 8 })
  ∧ Waits specAxisTest .axisTest
  ∧ AppliesAs specAxisTest (fun e s => s.setAx e.cmd.tgtIndex { s.axOf e.cmd.tgtIndex with
      testAt := some s.tb0, testCmd := some e, hyst := true, hystTill := max (s.axOf e.cmd.tgtIndex).hystTill s.tb0 })
      (fun c s => (s.axOf c.tgtIndex).resting = true ∧ (s.axOf c.tgtIndex).testCmd = none)
  ∧ CompletesAtBoundary specAxisSetHome .axisSetHome (fun e s => s.setCommit e.cmd.tgtIndex
        [(.homeMode, e.cmd.field 16 1), (.homeDir, e.cmd.field 17 1), (.homeDc, e.cmd.field 18 1), (.homeVel, e.cmd.field 20 4),
         (.homePos, e.cmd.field 24 4), (.homeRange, e.cmd.field 28 4), (.holdDelay, e.cmd.field 32 4), (.parkDelay, e.cmd.field 36 4)])
      (fun c s => (s.axOf c.tgtIndex).st ≠ .homing)

/-- One update of the profile generator stays inside the limits of the move (R321): the change of acceleration inside the jerk limit, the acceleration
inside AMAX and DMAX once it was, the speed never above the larger of the limit and the speed before; a stop never reverses and ends with no
acceleration. -/
def Obligations.ProfileStaysInsideTheLimits : Prop :=
  ∀ (b : AxBounds) (goal : AxGoal) (pos vel acc : Int), 0 ≤ b.amax → 0 ≤ b.dmax → 0 ≤ b.jerk → 0 ≤ b.vmax →
    (goal.nums.head? ≠ some 3 ∧ goal.nums.head? ≠ some 2 → ((profileStep b goal pos vel acc).2.2 - acc).natAbs ≤ (b.jerk / 20000).natAbs)
    ∧ (-(if vel > 0 then b.dmax else b.amax) ≤ acc → acc ≤ (if vel < 0 then b.dmax else b.amax) →
        -(if vel > 0 then b.dmax else b.amax) ≤ (profileStep b goal pos vel acc).2.2
          ∧ (profileStep b goal pos vel acc).2.2 ≤ (if vel < 0 then b.dmax else b.amax))
    ∧ ((profileStep b goal pos vel acc).2.1.natAbs ≤ max b.vmax.natAbs vel.natAbs)
    ∧ (∀ f, goal = .stop f → (0 ≤ vel → 0 ≤ (profileStep b goal pos vel acc).2.1)
        ∧ (vel ≤ 0 → (profileStep b goal pos vel acc).2.1 ≤ 0)
        ∧ ((profileStep b goal pos vel acc).2.1 = 0 → (profileStep b goal pos vel acc).2.2 = 0))

/-- The profile update of an axis (R317, R335): on the 50 µs grid, the postings first, then the owner's record, a loop's target, a request that
waited, the bridge test, the motion, and the STAT record. The events of an axis and of its supply (R319, R325 to R327, R329, R331 to R333, R339). -/
def Obligations.AxisEvents : Prop :=
  (∀ t n m bad, n < 4 → Occurs (.axisProfileUpdate t n m bad) t
    (fun s => s.up = true ∧ s.power.restoreDone = true ∧ s.sv.heartbeat = true ∧ s.tb0 % 50000 = 0 ∧ ((s.axOf n).stat = [] ∨ (s.axOf n).updT < s.tb0))
    (fun s =>
      let u := s.atBoundary { kind := .axis, index := n }
      let u := (((u.axHandover n).axMeasured n m).axFirst n).axTakeRecord n
      let u := (((u.axTakeLoop n).axTakeQueued n).axBridgeTest n bad).axMotion n
      let dev := if u.axDeviates n = true then some ((u.axOf n).deviates.getD u.tb0) else none
      ((u.setAx n { u.axOf n with updT := u.tb0, stat := u.axStatRecord n, deviates := dev }).axExchange n).settle))
  ∧ ((∀ t n rs, n < 4 → Occurs (.axisStall t n false rs) t
    (fun s =>
      let x := s.axOf n
      (x.st = .moving ∨ x.st = .segment ∨ x.st = .stopping) ∧ x.energised = true ∧ x.monitor = false ∧ x.parked = false ∧ s.param .axStallThr n ≠ 0
        ∧ 4 ≤ rs.length ∧ (∀ r ∈ rs.take 4, r < s.param .axStallThr n) ∧ x.hyst = false
        ∧ 50 * 256 * 4294967296 ≤ (x.vel.natAbs : Int) ∧ s.axFeedback n = none)
    (fun s =>
      let x := s.axOf n
      let y : AxisChan := { x.stand s.tb0 with hyst := true, hystTill := s.tb0 + 200000000, hold := false, parking := none, deviates := none }
      ((s.setAx n { (y.done 4).drop with stalled := true }).post .data .eAxisStall (axRes n)
        (q24 n ((x.pos - x.reqPos).natAbs / (256 * 4294967296)))).axUnref n 1))
  ∧ (∀ t n, n < 4 → OccursIf (.axisHoldDelay t n) t
    (fun s => (s.axOf n).st = .standstill ∧ (s.axOf n).energised = true ∧ (s.axOf n).standAt + s.param .holdDelay n * 1000000 ≤ s.tb0)
    (fun s => s.setAx n { s.axOf n with hold := true }))
  ∧ (∀ t n, n < 4 → OccursIf (.axisParkDelay t n) t
    (fun s =>
      let x := s.axOf n
      x.st = .standstill ∧ x.energised = true ∧ s.param .axStandstill n = 0 ∧ s.param .parkDelay n ≠ 0 ∧ x.parking = none
        ∧ s.axWaiting n = false ∧ x.standAt + s.param .parkDelay n * 1000000000 ≤ s.tb0)
    (fun s => s.setAx n { s.axOf n with parking := some (s.tb0, (s.axOf n).pos, nearestFull (s.axOf n).pos, false) }))
  ∧ (∀ t n, n < 4 → OccursIf (.axisSilence t n) t
    (fun s => (s.axOf n).silent = none ∧ s.pair.st = .unpaired ∧ (s.axOf n).lastFrame + 1000000 ≤ s.tb0 ∧ (s.axOf n).st ≠ .retired)
    (fun s =>
      let u := s.setAx n { s.axOf n with silent := some s.tb0 }
      let u := if 50 * 256 * 4294967296 < ((s.axOf n).vel.natAbs : Int) then u.axUnref n 5 else u
      let u := if u.param .axSafe n = 1 then u.setAx n { u.axOf n with hold := true } else u.axDisable n
      u.setAx n { u.axOf n with drvCur := u.axCurrent n }))
  ∧ (∀ t n phase ma, n < 4 → OccursIf (.axisBridgeFault t n phase ma) t
    (fun s => 4500 < ma ∧ (s.axOf n).st ≠ .retired ∧ (s.axOf n).bridges = true)
    (fun s =>
      let u := s.axDisable n
      (u.setAx n { u.axOf n with faultWait := some 0, faultAt := u.tb0, coolAt := none }).fault .data .fAxisBridge (axRes n) (q24 n phase) (axKey n)))
  ∧ (∀ t n (temp : Int), n < 4 → OccursIf (.axisThermal t n temp) t
    (fun s => 1500 ≤ temp ∧ (s.axOf n).st ≠ .retired ∧ (s.axOf n).bridges = true)
    (fun s =>
      let u := s.axDisable n
      (u.setAx n { u.axOf n with faultWait := some 1, faultAt := u.tb0, coolAt := none }).fault .data .fAxisThermal (axRes n) (q24 n temp) (axKey n)))
  ∧ (∀ t n, n < 4 → Occurs (.axisFaultRetry t n none) t
    (fun s => AxisRetryDue s n ∧ (s.axOf n).started = true)
    (fun s =>
      let u := (s.setAx n { s.axOf n with faultWait := none }).axEnergise n true 200
      u.setAx n { u.axOf n with testAt := none }))
  ∧ (∀ t n ph, n < 4 → Occurs (.axisFaultRetry t n (some ph)) t (fun s => AxisRetryDue s n)
    (fun s =>
      let u := (s.setAx n { s.axOf n with faultWait := none }).fault .data .fAxisSelftest (axRes n) (q24 n ph) (axKey n)
      u.setAx n { u.axOf n with faultWait := some 2, faultAt := u.tb0 }))
  ∧ (∀ t n phase, n < 4 → OccursIf (.axisOpenPhase t n phase) t (fun s => (s.axOf n).bridges = true)
    (fun s => (s.axDisable n).post .data .eAxisOpenPhase (axRes n) (q24 n phase)))
  ∧ (∀ t n, n < 4 → OccursIf (.axisChopperChange t n) t
    (fun s => (s.axOf n).hyst = true ∧ (s.axOf n).hystTill ≤ s.tb0 ∧ (s.axOf n).testAt = none)
    (fun s => s.setAx n { s.axOf n with hyst := false }))
  ∧ (∀ t n b at0, n < 4 → Occurs (.axisSegStartTime t n) t
    (fun s =>
      let x := s.axOf n
      x.segAt = some (b, at0) ∧ (at0 : Int) ≤ s.baseNow b ∧ x.unref = false ∧ (x.st = .standstill ∨ x.st = .parked) ∧ x.segs ≠ [])
    (fun s =>
      let u := s.axStart n .segment .none { kind := 9, src := .command } false
      u.setAx n { u.axOf n with segIdx := 0, segT0 := u.tb0, segP0 := (u.axOut n (u.axOf n).pos).toLreal, segAt := none }))
  ∧ (∀ t mv, mv < 20000 ∨ 52000 < mv → OccursIf (.fmFail t mv) t (fun s => s.fmOk = true)
    (fun s => ((s.setSupply 6 mv true true).each State.axDisable [0, 1, 2, 3]).postIf ((s.setSupply 6 mv true true).each State.axDisable
      [0, 1, 2, 3]).up .management (if mv < 20000 then .fFmUndervoltage else .fFmOvervoltage) { cls := 0x08, index := 0xFF } (0xFF * 2 ^ 24 + mv % 2 ^ 24)))
  ∧ (∀ t mv, 24000 ≤ mv → mv ≤ 48000 → OccursIf (.fmRecovery t mv) t (fun s => s.fmOk = false)
    (fun s => (s.setSupply 6 mv false false).each (fun n s =>
      if ((s.axOf n).started = true ∨ s.axKeeps n = true) ∧ ¬ (s.axOwnerStopped n = true ∧ s.param .axSafe n ≠ 1) then s.axEnergise n true 100 else s) [0, 1, 2, 3])))

/-- The commands of class 0x09 (R343, R353, R369, R373). -/
def Obligations.PairCommandsTakeEffect : Prop :=
  Completes specPairConfigure .pairConfigure (fun e s =>
      let l := pairConfSettings e.cmd
      let moves := e.cmd.field 16 1 ≠ s.param .pairEn 0 ∨ e.cmd.field 17 1 ≠ s.param .pairSide 0
      let w := if s.safetyConfig = true ∧ moves then s.logChange e.cmd.route 0x09 0 0 (pairConfBlock s []) (pairConfBlock s l) else s
      let u := w.setCommit 0 l
      if w.param .pairEn 0 = 0 ∧ u.param .pairEn 0 = 1 then
        (let v := u.pairState .searching; { v with pair := { v.pair with searchAt := v.tb0, epoch := v.cfg.pairEpoch } })
      else if w.param .pairEn 0 = 1 ∧ u.param .pairEn 0 = 0 then u.pairState .unpaired else u)
      (fun c s => (pairMoves s c = true → ∀ i, i < 16 → (s.taskOf i).state = .stopped) ∧ s.logFull = false)
  ∧ Completes specPairSetAgree .pairSetAgree (fun e s =>
      s.setCommit (agreeKey (agreeSource e.cmd)) [(.agreeRule, e.cmd.field 16 1)])
      (fun c s => s.paired = true →
        ∀ i, i < 16 → (s.setParam .agreeRule (agreeKey (agreeSource c)) (c.field 16 1)).agreedBytes i ≤ 4096)
  ∧ Does specPairSwitchover .pairSwitchover (fun e s => s.postMail
      { owner := pairOwner, body := .pairSwitch e, due := (((s.tb0 / 50000 + 1) * 50000 : Nat) + s.pair.timerOff : Int).toNat })
      (fun _ s => s.mailCount pairOwner < 8)
  ∧ (∀ (e : Entry) (s : State), s.pair.st = .active → s.hasStandby = true → s.pair.switch = none →
      ownPosting pairOwner (.pairSwitch e) s =
        (let due := (s.pairTimer + 1000000).toNat
         ({ s with pair := { s.pair with switch := some (some e, due, 4) } } : State).send (.hedgerow 3 [due, 4])))
  ∧ Completes specPairJoin .pairJoin (fun _ s => s.enterSync)
  ∧ Completes specPairLeave .pairLeave (fun _ s => s.pairState .dropped) (fun _ s => s.pair.st ≠ .active)
  ∧ Does specPairLeave .pairLeave (fun e s => s.postMail
      { owner := pairOwner, body := .pairSwitch e, due := (((s.tb0 / 50000 + 1) * 50000 : Nat) + s.pair.timerOff : Int).toNat })
      (fun _ s => s.pair.st = .active ∧ s.mailCount pairOwner < 8)
  ∧ Reports specPairStatus .pairStatus (fun c s =>
      let p := s.pair
      let peer : List Int := match p.peer with | some q => [(q.st : Int)] ++ (if c.expert then q.compat.map Int.ofNat else []) | none => [0]
      let upgrade : Int := match p.peer with | some q => if q.st = 8 then (Status.sIncompatible.code : Int) else 0 | none => 0
      let x : List Int := if c.expert then
        (List.range 16).flatMap (fun i => [((s.taskOf i).sigLate : Int), ((s.taskOf i).mismatches : Int)]) ++ [(p.bulk : Int)] ++ p.compat.map Int.ofNat
        else []
      Config.resultLayout (0x0905 * 2 + (if c.expert then 1 else 0))
        ([(p.st.num : Int), p.st.role, s.param .pairSide 0, p.epoch, p.timerOff, s.lanes, p.lastCause, p.lastAt, s.power.epoch, upgrade] ++ peer ++ x))
  ∧ Does specPairLinkTest .pairLinkTest (fun e s =>
      s.afterDraw.complete e .sOk (s.drawn.toNat % 65536 + 65536 * (s.drawn.toNat / 65536 % 3)) [])

/-- A HEARTBEAT of the partner (R342, R345, R349, R350, R364, R365): the link is up with the first valid frame; what follows depends on the state of
the pair member. Frames of the hedgerow link reach a pair member (R350, R351, R356, R357, R360, R367, R369). -/
def Obligations.PairLinkTraffic : Prop :=
  ((∀ s : State, s.linkFrame =
      ({ s with pair := { s.pair with link := true, linkAt := s.tb0, heardAt := s.tb0, lost := false } } : State).postIf (!s.pair.link) .data
        .ePairLinkUp pairRes s.lanes)
  ∧ (∀ t p, Occurs (.heartbeat t p) t (fun s => s.pair.st = .unpaired) (fun s => s.settle))
  ∧ (∀ t p, Occurs (.heartbeat t p) t (fun s => s.pair.st = .standby ∨ s.pair.st = .syncing ∨ s.pair.st = .dropped ∨ s.pair.st = .incompatible)
      (fun s => (s.linkFrame.hear p).settle))
  ∧ (∀ t p n, Occurs (.heartbeat t p) t (fun s => s.pair.st = .searching ∧ (s.linkFrame.hear p).compatFault p = some n)
      (fun s => (((s.linkFrame.hear p).pairState .incompatible).post .data .fPairIncompatible pairRes n).settle))
  ∧ (∀ t p, Occurs (.heartbeat t p) t (fun s => s.pair.st = .searching ∧ (s.linkFrame.hear p).compatFault p = none ∧ p.st = 2)
      (fun s =>
        let u := (s.linkFrame.hear p).enterSync
        if u.param .autoJoin 0 = 1 then u.settle else ({ u with pair := { u.pair with stage := 0 } } : State).settle))
  ∧ (∀ t p, Occurs (.heartbeat t p) t
      (fun s => s.pair.st = .searching ∧ (s.linkFrame.hear p).compatFault p = none ∧ p.st = 1 ∧ (s.linkFrame.hear p).isPrimary = true)
      (fun s => (s.linkFrame.hear p).activeAfresh.settle))
  ∧ (∀ t p, Occurs (.heartbeat t p) t
      (fun s => (s.pair.st = .unlinked ∨ s.pair.st = .isolated) ∧ p.st = 2 ∧ (s.linkFrame.hear p).param .autoJoin 0 = 1)
      (fun s => (s.linkFrame.hear p).enterSync.settle))
  ∧ (∀ t p, Occurs (.heartbeat t p) t
      (fun s => s.pair.st = .active ∧ p.st = 2 ∧ (s.linkFrame.hear p).isPrimary = false ∧ (s.linkFrame.hear p).pair.dualAt = none)
      (fun s => let v := s.linkFrame.hear p
        ((({ v with pair := { v.pair with dualAt := none } } : State).post .data .fPairDualActive pairRes 0).enterSync).settle)))
  ∧ ((∀ t (v : Int), Occurs (.timeFrame t v) t (fun s => s.pair.st = .standby ∨ s.pair.st = .syncing ∨ s.pair.st = .searching)
      (fun s =>
        let u := s.linkFrame
        let d : Int := (u.drawn.toNat % 201 : Nat) - 100
        let w := u.afterDraw
        { w with pair := { w.pair with timerOff := v - s.tb0 + d } }))
  ∧ (∀ t i pv sp, i < 512 → Occurs (.stateFrame t (.loop i pv sp)) t (fun s => s.pair.st = .standby)
      (fun s => let u := s.linkFrame; u.setLoop i { u.loopOf i with peer := some (pv, sp) }))
  ∧ (∀ t n pos vel acc, n < 4 → Occurs (.stateFrame t (.axis n pos vel acc)) t (fun s => s.pair.st = .standby)
      (fun s => let u := s.linkFrame; u.setAx n { u.axOf n with pos := pos, vel := vel, acc := acc }))
  ∧ (∀ t op c due k o, specOf op = some k → Occurs (.controlFrame t (.posting op c due)) t
      (fun s => (s.pair.st = .standby ∨ s.pair.st = .syncing) ∧ k.owner s.linkFrame c = some o)
      (fun s => s.linkFrame.postMail { owner := o, body := .pairCmd { id := 0, op := op, cmd := c }, due := due }))
  ∧ (∀ t, Occurs (.controlFrame t .departure) t (fun s => s.pair.st = .standby ∨ s.pair.st = .unlinked) (fun s => s.linkFrame.takeOver 1))
  ∧ (∀ t due cause, Occurs (.controlFrame t (.switchover due cause)) t (fun s => s.pair.st = .standby)
      (fun s => let u := s.linkFrame; { u with pair := { u.pair with switch := some (none, due, cause) } }))
  ∧ (∀ t e due cause, Occurs (.controlFrame t .confirm) t
      (fun s => s.pair.st = .active ∧ s.pair.switch = some (some e, due, cause) ∧ s.pair.next = 0)
      (fun s =>
        let u := s.linkFrame
        let u : State := { u with pair := { u.pair with switch := none, next := 0 } }
        ((u.pairState (if e.op = 0x0904 then .dropped else .standby)).complete e .sOk 0 []).coreLate))
  ∧ (∀ t n, n < 4 → Occurs (.controlFrame t (.axisOff n)) t (fun s => s.pair.st = .active ∧ (s.axOf n).handover = true)
      (fun s => s.linkFrame.axDrives n))
  ∧ (∀ t m, Occurs (.bulkFrame t m) t (fun s => s.pair.st = .syncing ∧ 1 ≤ s.pair.stage)
      (fun s => let u := s.linkFrame; ({ u with pair := { u.pair with bulk := u.pair.bulk + bulkSize m } } : State).bulkItem m)))

/-- A takeover, and the events that cause one (R345, R360, R361, R363, R364, R369): the role becomes ACTIVE, the cause and the instant are kept,
E_PAIR_TAKEOVER is recorded, the axes take over and every committed output image goes to the field. -/
def Obligations.TakeoverContinuesTheOutputs : Prop :=
  (∀ t, OccursIf (.partnerSilent t) t
      (fun s => (s.pair.st = .unlinked ∨ s.pair.st = .standby) ∧ s.pair.heardAt + 3 * (s.param .netCycle 0 * 1000) ≤ s.tb0)
      (fun s =>
        let v := s.pairState .active
        let v : State := { v with pair := { v.pair with
          takeover := v.pairTimer, lastCause := 2, lastAt := v.tb0, hears := false, mismatch := none, switch := none, next := 0 } }
        ((v.post .data .ePairTakeover pairRes 2).each (fun n s =>
          let x := s.axOf n
          let s := if x.fast = true ∧ s.axAbsolute n = false then s.axUnref n 5 else s
          (s.setAx n { s.axOf n with paused := some s.tb0 }).axDrives n) [0, 1, 2, 3]).forwardAll))
  ∧ (∀ t, OccursIf (.switchoverInstant t) t
        (fun s => ∃ e due cause, s.pair.switch = some (e, due, cause) ∧ s.pair.st = .standby ∧ (due : Int) ≤ s.pairTimer)
        (fun s => match s.pair.switch with | some (_, _, cause) => s.takeOver cause | none => s))
  ∧ (∀ t, OccursIf (.pairSearchTimeout t) t (fun s => s.pair.st = .searching ∧ s.pair.searchAt + 500000000 ≤ s.tb0)
        (fun s =>
          let n := (s.cfg.pairEpoch + 1) % 2 ^ 32
          let v := s.pairState .active
          ({ v with cfg := { v.cfg with pairEpoch := n },
                    pair := { v.pair with epoch := n, timerOff := -(s.tb0 : Int), takeover := 0 } } : State).commitConfig))
  ∧ (∀ t, OccursIf (.stationIsolated t) t
        (fun s => s.pair.st = .active ∧ s.pair.lost = true ∧ s.pair.link = false
          ∧ max (s.port 0).heard (s.port 1).heard + 3 * s.tNet ≤ s.tb0 ∧ s.pair.linkAt + 3 * s.tNet ≤ s.tb0)
        (fun s => (s.switchOff.pairState .isolated).post .data .fPairIsolated pairRes 0))
  ∧ (∀ t k ts f r b p, ∀ s u w : State, (s.advance t).net.presIn = (k, ts, f) :: r → b = f.payload → beNat (slice b 2 1) = 6 →
      (s.advance t).pair.st = .standby →
      p = ({ side := beNat (slice b 0 1), st := 6, epoch := beNat (slice b 4 4), takeover := signed 64 (beNat (slice b 8 8)),
             station := f.src, primary := s.param .desigPrimary 0, lib := s.libVersion, compat := s.pair.compat,
             staged := match s.pair.peer with | some q => q.staged | none => [] } : PeerInfo) →
      w = s.advance t → u = ({ w with net := { w.net with presIn := r } } : State).hear p →
      exec (.pairPresenceFrame t) s = .next (u.takeOver 7))

/-- The ends of the agreement and compare windows of a task (R352 to R355). Both partners' self-tests after a mismatch (R366): the module that failed
is DROPPED, a module that passed continues. -/
def Obligations.PairComparisons : Prop :=
  ((∀ t i (l : List AgreeVal), i < 16 → Occurs (.agreeWindowEnd t i (some l)) t
    (fun s => let x := s.taskOf i
      s.paired = true ∧ x.executing = true ∧ x.agreed = false ∧ x.awaiting = false ∧ x.release + s.taskL i + 12000 ≤ s.tb0 ∧ s.inStep = true)
    (fun s => s.afterDraw.setTask i { s.taskOf i with
      agreed := true, inImg := s.agreeAll (s.taskProg i).inMap (s.taskOf i).quals l (s.taskOf i).inImg }))
  ∧ (∀ t i, i < 16 → Occurs (.agreeWindowEnd t i none) t
    (fun s => let x := s.taskOf i
      s.paired = true ∧ x.executing = true ∧ x.agreed = false ∧ x.awaiting = false ∧ x.release + s.taskL i + 12000 ≤ s.tb0 ∧ s.inStep = true)
    (fun s => (s.setTask i { s.taskOf i with agreed := true, sigLate := (s.taskOf i).sigLate + 1 }).post .data .ePairSigLate pairRes i))
  ∧ (∀ t i, i < 16 → ∀ s u : State, u = s.advance t → u.up = true → u.paired = true → (u.taskOf i).executing = true →
      (u.taskOf i).awaiting = true → u.inStep = true →
      exec (.compareWindowEnd t i (some (u.taskSig i))) s = .next (u.cycleEnd i (fun v =>
        (v.setTask i { v.taskOf i with misses := 0, sigBase := v.taskSig i }).taskCommit i (v.taskOf i).lastExec (v.taskOf i).rangeExec))
      ∧ (∀ sig, sig ≠ u.taskSig i → exec (.compareWindowEnd t i (some sig)) s = .next (u.cycleEnd i (State.signatureMismatch i)))
      ∧ (u.pair.st = .active → exec (.compareWindowEnd t i none) s = .next (u.cycleEnd i (fun v =>
          ((v.setTask i { v.taskOf i with sigLate := (v.taskOf i).sigLate + 1 }).post .data .ePairSigLate pairRes i).taskCommit i
            (v.taskOf i).lastExec (v.taskOf i).rangeExec)))))
  ∧ (∀ t part bad0 bad1 peerOk i a, ∀ s u w v : State, u = s.advance t → u.up = true → u.pair.mismatch = some (i, a) → a + 100000 ≤ u.tb0 →
    w = { u with pair := { u.pair with mismatch := none } } →
    v = (w.setCp (u.param .taskPair i) { w.cpOf (u.param .taskPair i) with testing := none }).send (.hedgerow 5 [i, part]) →
    (part = 0 → peerOk = false → v.pair.st = .active → exec (.mismatchSelftestEnd t part bad0 bad1 peerOk) s = .next v.settle)
    ∧ (part = 0 → peerOk = false → v.pair.st ≠ .active →
        exec (.mismatchSelftestEnd t part bad0 bad1 peerOk) s = .next (v.takeOver 3).settle)
    ∧ (part = 0 → peerOk = true → v.isPrimary = true → v.pair.st = .active → exec (.mismatchSelftestEnd t part bad0 bad1 peerOk) s
        = .next ({ v with pair := { v.pair with mismatches := v.mismatchTimes } } : State).settle)
    ∧ (2 ≤ part → peerOk = true → ¬ (v.pair.st = .active ∧ v.pair.link = true) →
        exec (.mismatchSelftestEnd t part bad0 bad1 peerOk) s
          = .next ((v.post .data .fPairSelftest pairRes part).switchOff.pairState .dropped).settle)
    ∧ (2 ≤ part → peerOk = true → v.pair.st = .active → v.pair.link = true →
        exec (.mismatchSelftestEnd t part bad0 bad1 peerOk) s
          = .next (let x := (v.post .data .fPairSelftest pairRes part).switchOff
              ({ x with pair := { x.pair with switch := some (none, x.pairTimer.toNat, 3), next := 2 } } : State)).settle))

/-- Lanes, the link and the silence of outputs (R348, R350, R364, R372). Resynchronisation and the check of the loops (R356, R367). -/
def Obligations.LinkLossAndResynchronisation : Prop :=
  ((∀ t k, k < 2 → OccursIf (.laneFailure t k) t (fun s => s.pair.lanesOut.any (fun x => x.1 == k) = false)
    (fun s => ({ s with pair := { s.pair with lanesOut := s.pair.lanesOut ++ [(k, s.tb0)] } } : State).post .data .ePairLane pairRes k))
  ∧ (∀ t k (ok : Bool) a, k < 2 → Occurs (.laneRetry t k ok) t
    (fun s => s.pair.lanesOut.find? (fun x => x.1 == k) = some (k, a) ∧ a + 1000000000 ≤ s.tb0)
    (fun s =>
      let rest := s.pair.lanesOut.filter (fun y => y.1 != k)
      { s with pair := { s.pair with lanesOut := if ok then rest else rest ++ [(k, s.tb0)] } }))
  ∧ (∀ t (level : Bool), OccursIf (.hdetChange t level) t (fun s => s.pair.hdet ≠ level)
    (fun s => ({ s with pair := { s.pair with hdet := level } } : State).post .data .ePairHdet pairRes (if level then 1 else 0)))
  ∧ (∀ t, Occurs (.hedgerowLinkLost t) t
    (fun s => s.pair.link = true ∧ s.pair.linkAt + 50000 ≤ s.tb0 ∧ s.pair.st = .standby ∧ s.pair.switch = none ∧ s.pair.next = 0
      ∧ s.pair.late = [])
    (fun s => (((({ s with pair := { s.pair with link := false, lost := true, hears := false } } : State).post
        .data .ePairLinkLost pairRes PairState.standby.role).pairState .unlinked).imageSent false)))
  ∧ (∀ t n, n < 32 → Occurs (.pairSilenceTimeout t 0x04 n) t
    (fun s => s.paired = true ∧ acIsAo (s.acMode n) = true ∧ (s.acOf n).monitor = false
      ∧ (s.acOf n).lastFrame + 3 * (s.param .netCycle 0 * 1000) + 400000 ≤ s.tb0)
    (fun s => (s.setAc n { s.acOf n with monitor := true, safe := true, iCmd := 0, silent := some s.tb0 }).acStage n))
  ∧ (∀ t n, n < 32 → Occurs (.pairSilenceTimeout t 0x05 n) t
    (fun s => s.paired = true ∧ dcIsDo (s.dcMode n) = true ∧ (s.dcOf n).monitor = false
      ∧ (s.dcOf n).lastFrame + 3 * (s.param .netCycle 0 * 1000) + 400000 ≤ s.tb0)
    (fun s => (s.setDc n { s.dcOf n with monitor := true, safe := true, cmd := false, silent := some s.tb0 }).dcFollow n))
  ∧ (∀ t n, n < 4 → Occurs (.pairSilenceTimeout t 0x08 n) t
    (fun s => s.paired = true ∧ (s.axOf n).monitor = false ∧ (s.axOf n).lastFrame + 200000 ≤ s.tb0)
    (fun s =>
      let u := if (s.axOf n).fast = true then s.axUnref n 5 else s
      u.setAx n { u.axOf n with monitor := true, silent := some u.tb0, drvCur := 0 }))
  ∧ (∀ t n, n < 8 → Occurs (.pairSilenceTimeout t 0x06 n) t
    (fun s => s.paired = true ∧ (s.soOf n).monitor = false
      ∧ (s.soOf n).lastFrame + 3 * (s.param .netCycle 0 * 1000) + 400000 ≤ s.tb0)
    (fun s => (s.setSo n { s.soOf n with monitor := true, silent := true }).soSwitches n)))
  ∧ ((∀ t dirty, Occurs (.resyncPassEnd t dirty) t (fun s => s.pair.st = .syncing ∧ s.pair.stage = 4)
    (fun s => { s with pair := { s.pair with dirty := dirty, stage := 5 } }))
  ∧ (∀ t dirty, Occurs (.resyncPassEnd t dirty) t (fun s => s.pair.st = .syncing ∧ s.pair.stage = 5)
    (fun s => { s with pair := { s.pair with dirty := dirty, stage := if dirty ≤ 65536 then 6 else 5 } }))
  ∧ (∀ t, Occurs (.resyncJoin t) t (fun s => s.pair.st = .syncing ∧ s.pair.stage = 6 ∧ s.bootRec.takes = false)
    (fun s => (({ s with pair := { s.pair with stage := 7 } } : State).pairState .standby).post .data .ePairSynced pairRes ((s.tb0 - s.pair.syncAt) / 1000000)))
  ∧ (∀ t, OccursIf (.resyncSlow t) t
    (fun s => s.pair.st = .syncing ∧ s.pair.slow = false ∧ 1 ≤ s.pair.stage ∧ s.pair.syncAt + 30000000000 ≤ s.tb0)
    (fun s => ({ s with pair := { s.pair with slow := true } } : State).post .data .ePairSyncSlow pairRes s.pair.dirty))
  ∧ (∀ t l, Occurs (.loopPartitionCheck t l) t (fun s => s.pair.st ≠ .standby) (fun s => s))
  ∧ (∀ t x, x.i < 512 → Occurs (.loopPartitionCheck t [x]) t (fun s => s.pair.st = .standby ∧ s.loopState x.i ≠ x)
    (fun s => ((s.setLoop x.i { s.loopOf x.i with
        out := x.out, pv := x.pv, spr := x.spr, p := x.p, i := x.int, d := x.d, uPrev := x.uPrev, pvPrev := x.pvPrev,
        spGood := x.spGood, lflags := x.flags, ackSeq := x.ack, refused := x.refused, first := x.first, firstAuto := x.firstAuto,
        wasOos := x.wasOos }).setParam
          .loopMode x.i x.mode).post .data .ePairLoopResync pairRes x.i)))

/-- The commands of class 0x0A and SAFE.CONN (R312, R314, R378, R391, R394, R416, R418). -/
def Obligations.NetworkCommandsTakeEffect : Prop :=
  CompletesAtBoundary specNetConfigure .netConfigure (fun e s =>
      let v := newValue s 0 (netSettings e.cmd)
      let moved := v .netMode ≠ s.param .netMode 0 ∨ v .vlanId ≠ s.param .vlanId 0
      let u := s.setCommit 0 (netSettings e.cmd)
      let u : State := if v .netCycle ≠ s.param .netCycle 0 then { u with net := { u.net with realignDue := true } } else u
      if moved then u.linksRestart else u)
      (fun c s =>
        let v := newValue s 0 (netSettings c)
        let u := s.setParams 0 (netSettings c)
        (v .netMode = s.param .netMode 0 ∧ v .vlanId = s.param .vlanId 0 ∨ s.allStopped = true) ∧ u.burstFits = true ∧ u.budgetAll = true)
  ∧ Completes specNetSetStation .netSetStation (fun e s =>
      let u := s.setCommit 0 [(.stationId, e.cmd.field 16 2)]
      { u with net := { u.net with stationSet := true } })
  ∧ CompletesEitherWay specNetProduce .netProduce (fun e s =>
      (s.setConnVars e.cmd.tgtIndex (if e.cmd.expert then blockVars e.cmd else s.connVarsOf e.cmd.tgtIndex)).setCommit e.cmd.tgtIndex
        (if e.cmd.expert then
          [(.pcEn, e.cmd.blk 0 1), (.pcMult, e.cmd.blk 1 1), (.pcPhase, e.cmd.blk 2 1), (.pcLen, e.cmd.blk 4 2)]
         else [(.pcEn, e.cmd.field 16 1), (.pcMult, e.cmd.field 17 1), (.pcLen, e.cmd.field 20 2)]))
      (fun c s =>
        (tasksWhere (fun i => s.taskExists i && (s.taskProg i).outMap.any (MapEntry.names 0x0A c.tgtIndex))).length ≤ 1
          ∧ (s.setParams c.tgtIndex (produceSettings c)).burstFits = true)
  ∧ CompletesEitherWay specNetConsume .netConsume (fun e s =>
      let id := e.cmd.tgtIndex
      let l := consumeSettings e.cmd
      let u := (s.setConnVars id (if e.cmd.expert then blockVars e.cmd else s.connVarsOf id)).setCommit id l
      let u : State := { u with net := { u.net with forwarded := u.net.forwarded.take (8192 - u.consConfigured.length) } }
      if ∀ p ∈ [Param.ccEn, .ccSrc, .ccConn, .ccLen], newValue s id l p = s.param p id then u
      else u.setCons id { accepted := (u.consOf id).accepted, dropped := (u.consOf id).dropped })
  ∧ CompletesEitherWay specNetPort .netPort (fun e s =>
      let k := e.cmd.tgtIndex - 0x2001
      let u := s.setCommit k [(.portEn, e.cmd.field 16 1)]
      if e.cmd.field 16 1 = 0 ∧ (u.port k).link = true then
        ((u.txClear k).setPort k { u.port k with link := false }).post .data .eNetLink (netPortRes k) (k * 2 ^ 24)
      else u)
      (fun c s => (s.port (c.tgtIndex - 0x2001)).retired = false)
  ∧ Reports specNetStatus .netStatus (fun c s =>
      Config.resultLayout (0x0A05 * 2 + (if c.expert then 1 else 0)) (netStatusValues s c.expert))
  ∧ Reports specNetConnStatus .netConnStatus (fun c s =>
      let x := s.consOf c.tgtIndex
      let cnt := fun (t : Tab Nat) => (List.range 4).map (fun k => ((Tab.get (fun _ => 0) t k : Nat) : Int))
      s.connStat c.tgtIndex s.tb0 ++ Config.resultLayout (0x0A06 * 2) (cnt x.accepted ++ cnt x.dropped ++ [(x.late : Int), (x.lenBad : Int)]))
  ∧ CompletesEitherWay specSafeConn .safeConn (fun e s =>
      let id := e.cmd.field 16 2
      let l := safeConnSettings e.cmd
      let u := (s.logChange e.cmd.route 0x06 (id % 256) 0x0200 (safeConnBlock s id []) (safeConnBlock s id l)).setCommit id l
      if id < 0x0400 then u else u.setCons id { u.consOf id with alive := none, restore := 0 })
      (fun c s => s.connConfigured (c.field 16 2) = true ∧ s.logFull = false)

/-- A frame arrives at a port (R396, R398): it passes the stages in order, and the first it fails drops and counts it; in PRP a process frame of the
right length that duplicate discard accepts is written, and a management frame goes to the management plane. An accepted frame of a consumed
connection (R143, R389, R393, R396): its sequence number, its instant and its watchdog are taken, a copy after the receive close is counted and
recorded, and an ordinary payload makes the connection valid, with a restore event where it had expired. -/
def Obligations.NetworkFramesAreJudgedInOrder : Prop :=
  ((∀ t f, f.port < 2 → Occurs (.networkFrameReceived t f) t (fun s => s.up = false ∨ s.portUp f.port = false) State.txRun)
  ∧ (∀ t f, f.port < 2 → f.fcs = false ∨ f.long = true → Occurs (.networkFrameReceived t f) t
      (fun s => s.up = true ∧ s.portUp f.port = true) (fun s => (s.netDrop f.port 1 (netClass f.body)).txRun))
  ∧ (∀ t f, f.port < 2 → f.fcs = true → f.long = false → Occurs (.networkFrameReceived t f) t
      (fun s => s.up = true ∧ s.portUp f.port = true ∧ s.netParses f = false) (fun s => (s.netDrop f.port 2 0).txRun))
  ∧ (∀ t f, f.port < 2 → f.fcs = true → f.long = false → ∀ s u : State,
      (s.advance t).up = true → (s.advance t).portUp f.port = true → (s.advance t).netParses f = true → (s.advance t).param .netMode 0 ≠ 1 →
      u = ((s.advance t).setPort f.port { (s.advance t).port f.port with heard := (s.advance t).tb0 }).portSeen f.port →
      (u.netFilter f = false → exec (.networkFrameReceived t f) s = .next (u.netDrop f.port 4 (netClass f.body)).txRun)
      ∧ (u.netFilter f = true → (u.policeLocal f.port f.body).1 = false →
          exec (.networkFrameReceived t f) s = .next ((u.policeLocal f.port f.body).2.netDrop f.port 5 (netClass f.body)).txRun)
      ∧ (∀ (o : OmnarFrame) (v : State), f.body = .omnar o → u.netFilter f = true → u.policeLocal f.port f.body = (true, v) →
          (∀ id, netClass f.body = 2 → v.consFor o.src (o.conn % 1024) = some id → o.payload.length = v.consLen id →
            (v.consOf id).accepts o = true → v.param .scRole id ≠ 2 → exec (.networkFrameReceived t f) s = .next (v.connAccept id f.port o).txRun)
          ∧ (netClass f.body = 1 → exec (.networkFrameReceived t f) s
              = .next ({ v with net := { v.net with mgmtIn := v.net.mgmtIn ++ [(o.src, f.srcMac, o.payload)] } } : State).txRun))
      ∧ (∀ (m : PtpMsg) (v : State), f.body = .ptp m → u.policeLocal f.port f.body = (true, v) → exec (.networkFrameReceived t f) s
          = .next ({ v with net := { v.net with ptpIn := v.net.ptpIn ++ [{ m with port := f.port }] } } : State).txRun)))
  ∧ (∀ (s v : State) id k (f : OmnarFrame), s.param .scRole id ≠ 2 → v = s.countCopy id k f true →
    s.connAccept id k f =
      (let late := v.net.cycleAt + v.param .rxClose 0 * 1000 < v.tb0
       let x := v.consOf id
       let w := v.setCons id { x with
          known := true, epoch := f.epoch, seq := f.seq, lastAt := some v.tb0, wdAt := v.tb0,
          srcTime := (if bitOf f.oflags 4 then (f.txTime : Int) + f.corr / 65536 else 0), late := (if late then x.late + 1 else x.late) }
       let w := if late then w.post .data .eNetFrameLate (connRes id) (k * 2 ^ 24 + id) else w
       if (w.consOf id).st = .expired then
         (let y := w.setCons id { w.consOf id with data := f.payload, st := .expired }
          ((y.setCons id { y.consOf id with st := .valid }).post .data .eConnRestored (connRes id) id).errorCause 0x02 id)
       else w.setCons id { w.consOf id with data := f.payload, st := .valid }))

/-- A safety message (R308, R309): the first check that fails rejects it and the connection expires; after an expiry it is restored by the third
message in a row whose alive counter advances by one. The events of the ports, the connections and the network cycle (R143, R376, R380, R385,
R386, R388, R397, R399, R401). -/
def Obligations.NetworkEvents : Prop :=
  ((∀ (s : State) id m, s.safeCheck id m ≠ 0 → (s.consOf id).st ≠ .expired →
    s.safeMessage id m = (s.post .data .eSafeMsgReject (connRes id) (id * 256 + s.safeCheck id m)).connExpire id)
  ∧ (∀ (s : State) id m a b, s.safeCheck id m = 0 → a = beNat (slice m 8 2) → (s.consOf id).alive = some b →
      ((a + 65536 - b) % 65536 = 0 ∨ s.param .aliveGap id < (a + 65536 - b) % 65536) → (s.consOf id).st ≠ .expired →
      s.safeMessage id m = (s.post .data .eSafeMsgReject (connRes id) (id * 256 + 6)).connExpire id)
  ∧ (∀ (s : State) id m a b, s.safeCheck id m = 0 → a = beNat (slice m 8 2) → (s.consOf id).alive = some b →
      (a + 65536 - b) % 65536 ≠ 0 → (a + 65536 - b) % 65536 ≤ s.param .aliveGap id → (s.consOf id).st ≠ .expired →
      s.safeMessage id m = s.setCons id { s.consOf id with alive := some a, data := slice m 12 (s.param .scPlen id), st := .valid })
  ∧ (∀ (s : State) id m a b, s.safeCheck id m = 0 → a = beNat (slice m 8 2) → (s.consOf id).alive = some b →
      (a + 65536 - b) % 65536 = 1 → 1 ≤ s.param .aliveGap id → (s.consOf id).st = .expired →
      s.safeMessage id m =
        (let w := s.setCons id { s.consOf id with
            alive := some a, restore := (s.consOf id).restore + 1, data := slice m 12 (s.param .scPlen id) }
         if (s.consOf id).restore = 2 then (w.post .data .eSafeConnRestored (connRes id) id).connRestore id else w)))
  ∧ ((∀ t id, 0x1000 ≤ id → id < 0x2000 → OccursIf (.connWatchdogExpiry t id) t
    (fun s => s.param .ccEn id = 1 ∧ (s.consOf id).st = .valid
      ∧ (s.consOf id).wdAt + s.param .wdCycles id * s.param .ccMult id * s.param .netCycle 0 * 1000 ≤ s.tb0)
    (fun s => ((s.setCons id { s.consOf id with st := .expired, known := false, alive := none, restore := 0 }).post .data .eConnTimeout
      (connRes id) id).errorCause 0x01 id))
  ∧ (∀ t k, k < 2 → OccursIf (.netLinkChange t k true) t
    (fun s => (s.port k).link = false ∧ (s.port k).retired = false ∧ s.param .portEn k ≠ 0)
    (fun s => (s.setPort k { s.port k with link := true, linkAt := s.tb0 }).post .data .eNetLink (netPortRes k) (k * 2 ^ 24 + 1)))
  ∧ (∀ t k, k < 2 → OccursIf (.netLinkChange t k false) t (fun s => (s.port k).link = true)
    (fun s => ((s.txClear k).setPort k { s.port k with link := false }).post .data .eNetLink (netPortRes k) (k * 2 ^ 24)))
  ∧ (∀ t, ∀ s u : State, (s.advance t).netCycleDue = true → u = (s.advance t).netCycleStart.atBoundary { kind := .network, index := 0 } →
      u.net.station = u.param .stationId 0 → exec (.networkCycleStart t) s = .next u.txRun.settle)
  ∧ (∀ t, Occurs (.networkSendSlot t) t (fun s => s.up = true ∧ s.net.sent = false ∧ s.net.cycleAt + s.param .sendSlot 0 * 1000 ≤ s.tb0 + 1000)
    (fun s =>
      let u : State := { s with net := { s.net with sent := true } }
      let u := if u.paired = true ∧ u.net.dup = false then
        u.sendBoth (unicastMac (1 - u.side) u.net.station) (.omnar (u.omnarFrame 3 false false u.net.station 0 u.presence)) else u
      (u.each State.produce u.producedConns).txRun))
  ∧ (∀ t, OccursIf (.stationPresenceSend t) t (fun s => s.up = true ∧ s.net.lastPresence ≤ s.tb0)
    (fun s =>
      let u : State := { s with net := { s.net with lastPresence := s.tb0 + 1000000000 } }
      (u.sendBoth bcastMac (.omnar (s.omnarFrame 4 true false 0 0 s.presence))).txRun))
  ∧ (∀ t, OccursIf (.supervisionSend t) t (fun s => s.up = true ∧ s.net.supervisionAt ≤ s.tb0)
    (fun s => (({ s with net := { s.net with supervisionAt := s.tb0 + 2000000000 } } : State).sendBoth bcastMac .supervision).txRun))
  ∧ (∀ t k cls src b a, Occurs (.netStorm t k cls src) t
    (fun s => s.net.buckets.find? (fun x => x.1 == { port := k, cls := cls, src := src }) = some ({ port := k, cls := cls, src := src }, b)
      ∧ b.dropSince = some a ∧ a + 100000000 ≤ s.tb0 ∧ b.lastStorm = none)
    (fun s =>
      let key : NetBucketKey := { port := k, cls := cls, src := src }
      ({ s with net := { s.net with
          buckets := (key, { b with lastStorm := some s.tb0 }) :: s.net.buckets.filter (fun x => x.1 != key) } } : State).post .data
        .eNetStorm (netPortRes k) (k * 2 ^ 24 + key.stormClass * 65536 + b.last % 65536)))
  ∧ (∀ t id, 0x1000 ≤ id → id < 0x2000 → Occurs (.netPathSingle t id) t
    (fun s => let x := s.consOf id
      s.param .ccEn id = 1 ∧ (s.port 0).link = true ∧ (s.port 1).link = true
        ∧ (s.port 0).linkAt + 1000000000 ≤ s.tb0 ∧ (s.port 1).linkAt + 1000000000 ≤ s.tb0 ∧ x.single = false
        ∧ x.heardB + 1000000000 ≤ s.tb0 ∧ s.tb0 < x.heardA + 1000000000)
    (fun s => (s.setCons id { s.consOf id with single := true }).post .data .eNetPathSingle (connRes id) id))
  ∧ (∀ t k, k < 2 → OccursIf (.portSelftest t k false) t (fun s => s.up = true ∧ (s.port k).retired = false ∧ (s.port k).fault = false ∧ s.param .portEn k ≠ 0)
    (fun s =>
      let u := s.txClear k
      (u.setPort k { u.port k with fault := true, faultAt := u.tb0 }).fault .data .fNetPort (netPortRes k) (k * 2 ^ 24 + 1) (portKey k)))
  ∧ (∀ t k, k < 2 → Occurs (.portSelftest t k true) t (fun _ => True) (fun s => s))
  ∧ (∀ t k, k < 2 → OccursIf (.portRetrain t k) t (fun s => (s.port k).faultAt + 1000000000 ≤ s.tb0) (fun s => s.setPort k { s.port k with fault := false })))

/-- The commands of class 0x0B (R405, R408, R409, R411, R413, R415, R419). -/
def Obligations.TimeCommandsTakeEffect : Prop :=
  Reports specTimeRead .timeRead (fun c s => Config.resultLayout (0x0B00 * 2 + (if c.expert then 1 else 0))
      ([s.baseNow c.tgtIndex, (s.power.epoch : Int), (if s.baseValid c.tgtIndex then 1 else 0), ((s.base c.tgtIndex).servo.num : Int),
          ((s.base c.tgtIndex).disc : Int)]
        ++ (if c.expert = true ∧ s.paired = true then [s.pairTimer, (s.pair.epoch : Int)] else [])))
  ∧ Completes specTimeConfigure .timeConfigure (fun e s =>
      let b := e.cmd.tgtIndex
      let l := timeSettings e.cmd
      let v := newValue s b l
      let moved := b = 2 ∧ (v .tbSrc ≠ s.param .tbSrc b ∨ v .tb2Can ≠ s.param .tb2Can b)
      let u := s.setCommit b l
      if b = 3 then u else
      let u := if v .ptpDomain ≠ s.param .ptpDomain b ∨ moved then
          u.setBase b { u.base b with master := none, valid := 0, offset := none, delay := none }
        else u
      if (u.base b).servo = .master ∧ (moved ∨ (u.ptpDriven b = true ∧ u.param .ptpRole b = 0)) then
        let w := u.setBase b { u.base b with servo := .free }
        w.post .data .eTimeUnlocked (tbRes b) (q24 b (w.base b).servo.num)
      else u)
  ∧ Does specTimeRestep .timeRestep (fun e s =>
      s.complete e .sOk (wrapInt 32 (clampInt (-(2 ^ 31)) (2 ^ 31 - 1) ((s.restep e.cmd.tgtIndex).getD 0 / 1000))) [])
      (fun c _ => c.expert = false)
  ∧ Completes specTimeRestep .timeRestep (fun e s =>
      let b := e.cmd.tgtIndex
      let u := (s.setBase b { s.base b with offset := none }).baseStep b ((s.restep b).getD 0)
      if b = 3 then u.rtcFrom3 else u)
      (fun c _ => c.expert = true)
  ∧ Reports specTimeStatus .timeStatus (fun c s =>
      let x := s.base c.tgtIndex
      let a := x.master.getD { prio1 := 0, cls := 0, acc := 0, var := 0, prio2 := 0, gm := 0, utc := none }
      Config.resultLayout (0x0B03 * 2 + (if c.expert then 1 else 0))
        ([(x.servo.num : Int), a.gm, x.offset.getD 0, x.delay.getD 0, x.rate, x.disc]
          ++ (if c.expert then x.offsets ++ [(a.prio1 : Int), a.cls, a.acc, a.var, a.prio2, a.utc.getD 0] else [])))
  ∧ CompletesEitherWay specTimePgConfigure .timePgConfigure (fun e s =>
      let k := e.cmd.tgtIndex - 0x0100
      (s.setCommit k ([(.pgMode, e.cmd.field 16 1), (.pgTb, e.cmd.field 17 1), (.pgPeriod, e.cmd.field 20 4), (.pgStart, e.cmd.field 32 8)]
        ++ (if e.cmd.expert then [(.pgDest, e.cmd.field 18 1), (.pgPol, e.cmd.field 19 1), (.pgWidth, e.cmd.field 24 4)] else []))).pgArm k)
      (fun c s => pgCheck s c = .sOk)
  ∧ Completes specTimePiConfigure .timePiConfigure (fun e s =>
      let n := e.cmd.tgtIndex - 0x0200
      let u := s.setCommit n ([(.piMode, e.cmd.field 16 1), (.piFilter, e.cmd.field 20 4)]
        ++ (if e.cmd.expert then [(.piCapture, e.cmd.field 17 1), (.piGate, e.cmd.field 24 4)] else []))
      u.setPi n { u.piOf n with edges := [] })
  ∧ Completes specTimePiSetCount .timePiSetCount (fun e s =>
      let n := e.cmd.tgtIndex - 0x0200
      s.setPi n { s.piOf n with count := signed 64 (e.cmd.field 24 8) })
      (fun c s => s.param .piMode (c.tgtIndex - 0x0200) ≠ 0)

/-- The instant of an arming and of a firing pulse generator (R410 to R412): a periodic generator whose start has passed fires at the first instant of
its grid that is at least 10 µs ahead; a firing that is due drives the pin of the field-active module, triggers and captures as PG_DEST says. An
edge of a pulse input (R414, R415): accepted, a rising edge of A counts up in the modes without direction, and triggers; closer to the last one of
its terminal than PI_FILTER, it is not accepted and the overrange is recorded once. -/
def Obligations.PulsesKeepTheirGrid : Prop :=
  ((∀ (s : State) k, s.param .pgMode k = 2 →
    (s.pgArm k) = s.setPg k { s.pgOf k with
      armed := true, waiting := false, last := none,
      next := (if s.pgNow k ≤ s.param .pgStart k then (s.param .pgStart k : Int)
        else gridUp (s.pgNow k + 10000) (s.param .pgStart k) (s.param .pgPeriod k * 1000)) })
  ∧ (∀ (v : Int) (phase period : Nat), 0 < period →
      v ≤ gridUp v phase period ∧ gridUp v phase period < v + period ∧ (gridUp v phase period - phase) % period = 0)
  ∧ (∀ t k, k < 8 → Occurs (.pgFire t k) t (fun s => (s.pgOf k).armed = false ∨ s.pgNow k + 50 < (s.pgOf k).next) (fun s => s))
  ∧ (∀ t k, k < 8 → Occurs (.pgFire t k) t
      (fun s => (s.pgOf k).armed = true ∧ (s.pgOf k).next ≤ s.pgNow k + 50 ∧ s.param .pgMode k ≠ 1)
      (fun s =>
        let x := s.pgOf k
        let dest := s.param .pgDest k
        let pin := bitOf dest 0 = true ∧ s.fieldActive = true
        let u := s.setPg k { x with
          armed := true, last := some x.next, next := x.next + (s.param .pgPeriod k * 1000 : Nat), pulse := x.pulse || (bitOf dest 0 && s.fieldActive),
          pulseAt := if pin then s.tb0 else x.pulseAt }
        let u := if pin then u.send (.pin k true) else u
        let u := if bitOf dest 1 then { u with triggers := u.triggers ++ [{ src := 1, index := k, rising := true }] } else u
        if bitOf dest 2 then u.each (State.piCapture k x.next) [0, 1, 2, 3] else u))
  ∧ (∀ t k, k < 8 → Occurs (.pgPulseEnd t k) t (fun s => (s.pgOf k).pulse = true ∧ (s.pgOf k).pulseAt + s.param .pgWidth k * 1000 ≤ s.tb0 + 20)
      (fun s => ((s.setPg k { s.pgOf k with pulse := false }).send (.pin k false)).settle)))
  ∧ ((∀ t n, n < 4 → Occurs (.piEdge t n false true) t
    (fun s => (s.param .piMode n = 1 ∨ s.param .piMode n = 2) ∧ (s.piOf n).levelA = false ∧ (s.piOf n).edges = [] ∧ (s.piOf n).overrange = false
      ∧ (s.piOf n).changeA = none)
    (fun s =>
      let x := s.piOf n
      let u := s.setPi n { x with
        levelA := true, changeA := some s.tb0, count := signed 64 (wrapInt 64 (x.count + 1)), edges := [(s.tb0, true)], overrange := false }
      { u with triggers := u.triggers ++ [{ src := 3, index := n, rising := true }] }))
  ∧ (∀ t n c, n < 4 → Occurs (.piEdge t n false true) t
    (fun s => s.param .piMode n ≠ 0 ∧ (s.piOf n).levelA = false ∧ (s.piOf n).changeA = some c ∧ s.tb0 < c + s.param .piFilter n * 100
      ∧ (s.piOf n).overrange = false)
    (fun s => (s.setPi n { s.piOf n with overrange := true }).post .data .ePiOverrange (piRes n)
      (n * 2 ^ 24 + 1000000 / max 1 (s.param .piFilter n)))))

/-- PTP messages and the servo of a base (R402, R404, R405). The other events of the time bases (R402, R404, R407). -/
def Obligations.TimeBaseEvents : Prop :=
  ((∀ t m r, ∀ s w u : State, w = s.advance t → w.net.ptpIn = m :: r → u = ({ w with net := { w.net with ptpIn := r } } : State).txRun →
      u.ptpServes m 1 = true → u.param .tbSrc 2 ≠ 1 →
      (∀ a o, m.body = .announce a → (u.base 1).master = some o → o.gm = a.gm → u.param .ptpRole 1 ≠ 1 → exec (.ptpMessageReceived t) s
        = .next (u.setBase 1 { u.base 1 with master := some a, port := m.port, lastAnnounce := u.tb0 }))
      ∧ (∀ a o, m.body = .announce a → (u.base 1).master = some o → o.gm ≠ a.gm → announceBetter a o = false → (u.base 1).port = m.port →
          exec (.ptpMessageReceived t) s = .next u)
      ∧ (∀ a, m.body = .announce a → (u.base 1).master = none → (u.base 1).servo ≠ .master → u.param .ptpRole 1 = 1 →
          announceBetter (u.ownAnnounce 1) a = true → ∀ v : State,
          v = ((u.becomeMaster 1).post .data .eTimeMaster (tbRes 1) (q24 1 ((u.ownAnnounce 1).gm % 2 ^ 24 : Nat))).pgWake 1 → v.param .tbSrc 2 ≠ 1 →
          exec (.ptpMessageReceived t) s = .next v)
      ∧ (∀ d, m.body = .delay d → exec (.ptpMessageReceived t) s = .next (u.setBase 1 { u.base 1 with delay := some d }))
      ∧ (∀ off a, m.body = .sync off → (u.base 1).master = some a → a.gm = m.clock → (u.base 1).servo ≠ .master →
          ∀ v : State, v = (u.servoSync 1 off).tb3Follow → v.param .tbSrc 2 ≠ 1 → exec (.ptpMessageReceived t) s = .next v))
  ∧ (∀ (s : State) b off, (s.base b).stepped = false → (s.base b).delay ≠ none → (s.base b).valid = 3 → ∀ x, x = s.base b →
      s.servoSync b off =
        ((s.setBase b { x with offset := some off, offsets := (x.offsets ++ [off]).drop (x.offsets.length - 15) }).setBase b
          { x with offset := some off, offsets := (x.offsets ++ [off]).drop (x.offsets.length - 15), valid := 4, stepped := true,
                   servo := .slewing, at0 := s.tb0, v0 := x.valueAt s.tb0 }).baseStep b (-off))
  ∧ (∀ (s : State) b off x, x = s.base b → x.servo = .jumpNeeded → x.synced = false → 1000000 < off.natAbs →
      s.param .syncThr b ≤ 100000 →
      s.servoRun b off = (s.setBase b { x with inside := 0, above := min 8 (x.above + 1), servo := .jumpNeeded }).baseRate b
        (if off < 0 then 500000 else -500000))
  ∧ (∀ (s : State) b ppb, Tab.wf (fun _ => ({} : TimeBase)) s.bases = true → ((s.baseRate b ppb).base b).rate.natAbs ≤ 500000))
  ∧ ((∀ t b, b = 1 ∨ b = 2 → Occurs (.ptpAnnounceTimeout t b) t
    (fun s => s.ptpDriven b = true ∧ (s.base b).servo ≠ .master ∧ (s.base b).lastAnnounce + 375000000 ≤ s.tb0 ∧ s.param .ptpRole b = 1)
    (fun s =>
      (((s.txRun.setBase b { s.base b with
          servo := .master, master := none, stepped := true, v0 := (s.base b).valueAt s.txRun.tb0, at0 := s.txRun.tb0, rate := 0 }).baseLocked b).post
        .data .eTimeMaster (tbRes b) (q24 b ((s.ownAnnounce b).gm % 2 ^ 24 : Nat))).pgWake b))
  ∧ (∀ t b, b = 1 ∨ b = 2 → Occurs (.ptpAnnounceTimeout t b) t
    (fun s => s.ptpDriven b = true ∧ (s.base b).lastAnnounce + 375000000 ≤ s.tb0 ∧ (s.base b).servo ≠ .master ∧ (s.base b).servo ≠ .free
      ∧ (s.base b).servo ≠ .holdover ∧ s.param .ptpRole b ≠ 1)
    (fun s =>
      let x := s.base b
      (s.setBase b { x with
        master := none, valid := 0, servo := .holdover, wasLocked := x.servo == .locked, holdAt := s.tb0, holdOut := false, inside := 0,
        above := 0, offset := none }).post .data .eTimeHoldover (tbRes b) (b * 2 ^ 24)))
  ∧ (∀ t b, b = 1 ∨ b = 2 → OccursIf (.holdoverExpiry t b) t
    (fun s => let x := s.base b
      x.servo = .holdover ∧ x.wasLocked = true ∧ x.holdOut = false ∧ x.holdAt + s.param .holdoverS b * 1000000000 ≤ s.tb0)
    (fun s =>
      let u := s.setBase b { s.base b with holdOut := true }
      u.post .data .eTimeUnlocked (tbRes b) (q24 b (u.base b).servo.num)))
  ∧ (∀ t b, b = 1 ∨ b = 2 → OccursIf (.ptpSyncSend t b) t (fun s => s.ptpDriven b = true ∧ (s.base b).servo = .master ∧ (s.base b).syncAt ≤ s.tb0)
    (fun s => (s.setBase b { s.base b with syncAt := s.tb0 + logInterval (s.param .logSync b) }).ptpSend b 0 0))
  ∧ (∀ t b, b = 1 ∨ b = 2 → OccursIf (.ptpAnnounceSend t b) t (fun s => s.ptpDriven b = true ∧ (s.base b).servo = .master ∧ (s.base b).announceAt ≤ s.tb0)
    (fun s => (s.setBase b { s.base b with announceAt := s.tb0 + logInterval (s.param .logAnnounce b) }).ptpSend b 1 (s.ownAnnounce b).gm))
  ∧ (∀ t b, b = 1 ∨ b = 2 → Occurs (.ptpDelayReqSend t b) t (fun s => s.up = true ∧ s.ptpDriven b = true ∧ (s.param .ptpDelay b = 1 ∨ s.param .netMode 0 = 1))
    (fun s => s.ptpSend b 3 0))
  ∧ (∀ t b, b = 1 ∨ b = 2 → Occurs (.ptpDelayReqSend t b) t
    (fun s => s.up = true ∧ s.ptpDriven b = true ∧ s.param .ptpDelay b ≠ 1 ∧ s.param .netMode 0 ≠ 1 ∧ (s.base b).master ≠ none)
    (fun s => s.ptpSend b 2 0))
  ∧ (∀ t (inserted : Bool), OccursIf (.tb3LeapSecond t inserted) t (fun s => s.tb3FromTb1 = true)
    (fun s =>
      let d : Int := if inserted then -1000000000 else 1000000000
      ((s.setBase 3 { s.base 3 with
          v0 := (s.base 3).v0 + d, standTill := if inserted then s.tb0 + 1000000000 else (s.base 3).standTill }).post .data .eTimeLeap (tbRes 3) (q24 3 (if inserted then 1 else 2))).each
        (State.pgStepped 3 d) [0, 1, 2, 3, 4, 5, 6, 7]))
  ∧ (∀ t, OccursIf (.tb3RtcWrite t) t (fun s => ((s.base 3).rtcAt ≤ s.tb0 ∨ s.rtc.lost = true) ∧ s.tb3FromTb1 = true ∧ s.rtc.halt = none)
    (fun s => (s.setBase 3 { s.base 3 with rtcAt := s.tb0 + 3600000000000 }).rtcAccept 2
      (min (rangeEndTicks - 1) ((s.baseNow 3) * 1024 / 1000000000).toNat))))

/-- The commands of class 0x0C (R424, R427, R429, R430, R433, R441 to R445). -/
def Obligations.CanCommandsTakeEffect : Prop :=
  CompletesEitherWay specCanConfigure .canConfigure (fun e s =>
      let n := e.cmd.tgtIndex
      let l := canSettings e.cmd
      let v := newValue s n l
      let moved := ∃ p ∈ canBusParams, v p ≠ s.param p n
      let u := s.setCommit n l
      if moved then (if v .canEn = 0 then (u.canIntegrate n).setCan n { (u.canIntegrate n).canOf n with st := .disabled } else u.canIntegrate n) else u)
      (fun c s => (s.canOf c.tgtIndex).st ≠ .retired ∧ newValue s c.tgtIndex (canSettings c) .canSkipper = 0
        ∧ s.param .canSkipper c.tgtIndex = 0)
  ∧ CompletesEitherWay specCanFilter .canFilter (fun e s => s.setCommit (64 * e.cmd.tgtIndex + e.cmd.tgtSub)
      [(.fAction, e.cmd.field 16 1), (.fKind, e.cmd.field 17 1), (.fId, e.cmd.field 20 4), (.fMask, e.cmd.field 24 4)])
  ∧ Completes specCanSend .canSend (fun e s => s.canArm e.cmd.tgtIndex (sendBuffer e.cmd) (sendRequest s e.cmd))
      (fun c s =>
        let n := c.tgtIndex
        (s.canOf n).st ≠ .retired ∧ s.canOwned n (sendBuffer c) = false ∧ s.param .canMode n ≠ 1 ∧ (s.canBuf n (sendBuffer c)).frame = none)
  ∧ Completes specCanCancel .canCancel (fun e s => s.canWithdraw e.cmd.tgtIndex (e.cmd.field 16 1))
      (fun c s =>
        let n := c.tgtIndex
        let b := c.field 16 1
        s.canOwned n b = false ∧ (s.canBuf n b).frame ≠ none ∧ (s.canBuf n b).sof = false ∧ s.canOnBus n b = false)
  ∧ Does specCanCancel .canCancel (fun e s =>
      let n := e.cmd.tgtIndex
      let b := e.cmd.field 16 1
      s.setCanBuf n b { s.canBuf n b with withdraw := true, cmds := (s.canBuf n b).cmds ++ [e] })
      (fun c s => s.canOwned c.tgtIndex (c.field 16 1) = false ∧ (s.canBuf c.tgtIndex (c.field 16 1)).frame ≠ none
        ∧ (s.canBuf c.tgtIndex (c.field 16 1)).sof = true)
  ∧ Completes specCanRecover .canRecover (fun e s =>
      s.setCan e.cmd.tgtIndex { s.canOf e.cmd.tgtIndex with st := .recovering, recoverAt := s.tb0 })
      (fun c s => (s.canOf c.tgtIndex).st = .busOff)
  ∧ Reports specCanRead .canRead
      (fun c s => ((s.canOf c.tgtIndex).fifo.take (if c.expert then min 32 (c.field 16 1) else 32)).flatMap CanRec.bytes)
      (fun e s =>
        let x := s.canOf e.cmd.tgtIndex
        s.setCan e.cmd.tgtIndex { x with fifo := x.fifo.drop (if e.cmd.expert then min 32 (e.cmd.field 16 1) else 32) })
  ∧ Reports specCanStatus .canStatus (fun c s =>
      let n := c.tgtIndex
      let x := s.canOf n
      s.canStat n ++ Config.resultLayout (0x0C06 * 2 + (if c.expert then 1 else 0))
        ([(x.tdc : Int), x.dropped, if s.canTb2 n then ((s.base 2).servo.num : Int) else 0]
          ++ (if c.expert then (List.range 64).map (fun k => ((Tab.get (fun _ => 0) x.hits k : Nat) : Int)) else [])))
  ∧ Completes specCanSelftest .canSelftest (fun e s =>
      if bitOf s.drawn.toNat 0 then s.afterDraw
      else if (s.canOf e.cmd.tgtIndex).st = .disabled then
        (let u := s.afterDraw.canFault e.cmd.tgtIndex 2
         u.setCan e.cmd.tgtIndex { u.canOf e.cmd.tgtIndex with st := .disabled })
      else s.afterDraw.canFault e.cmd.tgtIndex 2)

/-- A valid frame meets the filters in ascending order (R431, R432): the first that takes it decides; without one it is dropped and counted. A filter
of action 4 rejects it; a full FIFO loses the frame, counts it, and records the loss at most once per second. The error states of a channel
(R433): above 255 transmit errors it is BUS-OFF with its frames pending, above 127 in either counter ERROR-PASSIVE, else ERROR-ACTIVE; recovery
clears both counters. Transmission, references and faults of a channel (R430, R433, R435 to R437, R442). -/
def Obligations.CanEvents : Prop :=
  (∀ t n f sof, n < 4 → ∀ s u : State, u = s.advance t → u.up = true → u.param .canMode n ≠ 2 → (u.canOf n).st = .errorActive → (u.canOf n).rerr = 0 → u.pair.st = .unpaired →
    u.canTb2 n = false → (xidFdf f.xid = true → u.param .canFdEn n ≠ 0) →
    ((∀ k, k < 64 → u.canFilterTakes n f k = false) →
      exec (.canFrameReceived t n f sof) s = .next (u.setCan n { u.canOf n with dropped := (u.canOf n).dropped + 1 }))
    ∧ (∀ k, k < 64 → u.canFilterTakes n f k = true → (∀ j, j < k → u.canFilterTakes n f j = false) →
        (u.param .fAction (64 * n + k) = 4 → exec (.canFrameReceived t n f sof) s = .next (u.setCan n { u.canOf n with
          hits := Tab.put (fun _ => 0) (u.canOf n).hits k ((Tab.get (fun _ => 0) (u.canOf n).hits k + 1) % 2 ^ 32) }))
        ∧ (∀ q x r, x = u.canOf n → q = (Tab.get (fun _ => 0) x.hits k + 1) % 2 ^ 32 → r = { frame := f, fseq := q, time := sof } →
            (u.param .fAction (64 * n + k) = 2 → exec (.canFrameReceived t n f sof) s = .next (u.setCan n { x with
              hits := Tab.put (fun _ => 0) x.hits k q, recs := Tab.put (fun _ => none) x.recs k (some r) }))
            ∧ (∀ v, v = u.setCan n { x with hits := Tab.put (fun _ => 0) x.hits k q } → u.param .fAction (64 * n + k) = 1 →
                (v.canOf n).fifo.length < 32 →
                exec (.canFrameReceived t n f sof) s = .next (v.setCan n { v.canOf n with fifo := (v.canOf n).fifo ++ [r] }))
            ∧ (∀ v, v = u.setCan n { x with hits := Tab.put (fun _ => 0) x.hits k q } → u.param .fAction (64 * n + k) = 1 →
                ¬ (v.canOf n).fifo.length < 32 → (v.canOf n).lastOverflow = none → exec (.canFrameReceived t n f sof) s =
                  .next ((v.setCan n { v.canOf n with rxLost := ((v.canOf n).rxLost + 1) % 2 ^ 32, lastOverflow := some v.tb0 }).post .data
                    .eCanRxOverflow (canRes n) (n * 2 ^ 24 + ((v.canOf n).rxLost + 1) % 2 ^ 32 % 2 ^ 24))))))
  ∧ ((∀ (s : State) n, (s.canOf n).tec ≤ 255 → (s.canOf n).tec ≤ 127 ∧ (s.canOf n).rerr ≤ 127 →
    s.canJudge n = s.setCan n { s.canOf n with st := .errorActive })
  ∧ (∀ (s : State) n, (s.canOf n).tec ≤ 255 → 127 < (s.canOf n).tec ∨ 127 < (s.canOf n).rerr →
    s.canJudge n = (let v := s.setCan n { s.canOf n with st := .errorPassive }
      if (s.canOf n).st = .errorPassive then v
      else v.post .data .eCanErrorPassive (canRes n) (n * 2 ^ 24 + (s.canOf n).tec)))
  ∧ (∀ (s : State) n, 255 < (s.canOf n).tec → s.canPending n = [] →
    s.canJudge n = (s.setCan n { s.canOf n with st := .busOff, busOffAt := s.canClock s.tb0 }).post .data .eCanBusOff (canRes n) (n * 2 ^ 24))
  ∧ (∀ t n, n < 4 → Occurs (.canBusError t n .rx) t
      (fun s => s.up = true ∧ ((s.canOf n).st = .errorActive ∨ (s.canOf n).st = .errorPassive) ∧ s.canListens n = false)
      (fun s => ((s.setCan n { s.canOf n with tec := min 256 (s.canOf n).tec, rerr := min 255 ((s.canOf n).rerr + 1) }).canJudge n).settle))
  ∧ (∀ t n b, n < 4 → Occurs (.canBusError t n (.tx b)) t (fun s => s.canLive n = true ∧ s.canOnBus n b = true)
      (fun s => (((s.canDestroyed n b).canCountErr n 8 0).settle)))
  ∧ (∀ t n, n < 4 → OccursIf (.canIntegrationEnd t n) t (fun s => (s.canOf n).st = .integrating ∧ (s.canOf n).retest = false)
      (fun s => s.canJudge n))
  ∧ (∀ t n, n < 4 → Occurs (.canRecoveryEnd t n) t (fun s => (s.canOf n).st = .recovering ∧ (s.canOf n).retest = false)
      (fun s =>
        let u := s.setCan n { s.canOf n with st := .errorActive, tec := 0, rerr := 0 }
        ((u.canPending n).foldl (fun u b => u.setCanBuf n b { u.canBuf n b with res := 1 }) u).post .data .eCanRecovered (canRes n)
          (n * 2 ^ 24 + (s.tb0 - (s.canOf n).recoverAt) / 1000000 % 2 ^ 24))))
  ∧ ((∀ t n b sof f, n < 4 → Occurs (.canFrameTransmitted t n b sof) t
    (fun s => s.canOnBus n b = true ∧ (s.canBuf n b).frame = some f ∧ (s.canBuf n b).isRef = false ∧ s.param .canMode n ≠ 2
      ∧ xidFdf f.xid = false)
    (fun s =>
      let u := s.send (.can n f)
      let u := (u.setCan n { u.canOf n with tec := (u.canOf n).tec - 1 }).canJudge n
      ((u.canDone n b 2).canCancelDone .sTooLate (s.canBuf n b).cmds).settle))
  ∧ (∀ t n b, n < 4 → Occurs (.canArbitrationLost t n b) t
    (fun s => s.canOnBus n b = true ∧ (s.canBuf n b).withdraw = false ∧ (s.canBuf n b).next = none)
    (fun s => (s.setCanBuf n b { s.canBuf n b with sof := false }).settle))
  ∧ (∀ t n b, n < 4 → Occurs (.canArbitrationLost t n b) t
    (fun s => s.canOnBus n b = true ∧ (s.canBuf n b).withdraw = true) (fun s => (s.canWithdraw n b).settle))
  ∧ (∀ t n, n < 4 → Occurs (.canReferenceDue t n) t
    (fun s => s.canSkips n = true ∧ s.canTb2 n = true ∧ s.param .canSkipFollow n ≠ 1 ∧ (s.base 2).servo = .master
        ∧ (s.canOf n).st = .busOff ∧ s.canRefTime n = true)
    (fun s => s.setCan n { s.canOf n with refAt := some s.tb0, cycle := ((s.canOf n).cycle + 1) % 64 }))
  ∧ (∀ t n a, n < 4 → Occurs (.canReferenceLost t n) t
    (fun s => (s.canOf n).lastRef = some a ∧ s.canTb2 n = true ∧ s.canSkips n = false ∧ a + 3 * s.param .canRefPeriod n * 1000 ≤ s.tb0
      ∧ (s.base 2).servo ≠ .free)
    (fun s =>
      let b := s.base 2
      (((s.setCan n { s.canOf n with lastRef := none }).post .data .eCanRefLost (canRes n) (n * 2 ^ 24)).setBase 2 { b with
        servo := .holdover, wasLocked := b.servo == .locked, holdAt := s.tb0, holdOut := false, inside := 0, above := 0, offset := none }).post
          .data .eTimeHoldover (tbRes 2) (2 * 2 ^ 24)))
  ∧ (∀ t n, n < 4 → OccursIf (.canSkipperResume t n) t
    (fun s => (s.canOf n).deferred = true ∧ (s.canOf n).lastHigher + 3 * s.param .canRefPeriod n * 1000 ≤ s.tb0)
    (fun s =>
      let u := s.setCan n { s.canOf n with deferred := false }
      if u.canSkips n = true ∧ u.canTb2 n = true ∧ u.param .canSkipFollow n = 0 ∧ (u.base 2).servo ≠ .master then
        (u.becomeMaster 2).pgWake 2
      else u))
  ∧ (∀ t n, n < 4 → OccursIf (.canDominantTimeout t n) t (fun s => (s.canOf n).st ≠ .retired ∧ (s.canOf n).st ≠ .disabled)
    (fun s =>
      let u := s.canIntegrate n
      (u.setCan n { u.canOf n with retest := true, retestAt := u.tb0 + 1000000000 }).fault .data .fCanTransceiver (canRes n) (n * 2 ^ 24 + 1)
        (canKey n)))
  ∧ (∀ t n, n < 4 → OccursIf (.canTransceiverRetest t n true) t (fun s => (s.canOf n).retest = true ∧ (s.canOf n).st ≠ .retired ∧ (s.canOf n).retestAt ≤ s.tb0)
    (fun s =>
      let u := s.setCan n { s.canOf n with retest := false }
      if (u.canOf n).st = .disabled then u else u.canIntegrate n))
  ∧ (∀ t n, n < 4 → OccursIf (.canTransceiverRetest t n false) t (fun s => (s.canOf n).retest = true ∧ (s.canOf n).st ≠ .retired ∧ (s.canOf n).retestAt ≤ s.tb0)
    (fun s =>
      let u := if (s.canOf n).st = .disabled then s else s.canIntegrate n
      (u.setCan n { u.canOf n with retest := true, retestAt := u.tb0 + 1000000000 }).fault .data .fCanTransceiver (canRes n) (n * 2 ^ 24 + 2)
        (canKey n))))

/-- The commands and events of the CRC units (R447, R449, R450, R454 to R456, R458). -/
def Obligations.CrcUnitsTakeEffect : Prop :=
  Completes specCuConfigure .cuConfigure (fun e s =>
      (s.setCommit e.cmd.tgtIndex (cuSettings e.cmd)).setCu e.cmd.tgtIndex { s.cuOf e.cmd.tgtIndex with base := none, loaded := false })
      (fun c s => s.cuRole c.tgtIndex = none ∧ (s.cuOf c.tgtIndex).retired = false)
  ∧ Does specCuReadValue .cuReadValue (fun e s =>
      let x := s.cuOf e.cmd.tgtIndex
      s.complete e .sOk x.running (Config.resultLayout (0x0D01 * 2) [((x.base.getD 0 : Nat) : Int), (if x.base.isSome then 1 else 0), 0]))
  ∧ Completes specCuWriteValue .cuWriteValue (fun e s =>
      let u := e.cmd.tgtIndex
      s.setCu u { s.cuOf u with running := e.cmd.field 16 4 % 2 ^ (s.cuSet u).w, loaded := true, base := none })
      (fun c s => s.cuRole c.tgtIndex = none ∧ (s.cuOf c.tgtIndex).retired = false)
  ∧ Reports specCuStatus .cuStatus (fun c s =>
      let u := c.tgtIndex
      let x := s.cuOf u
      Config.resultLayout (0x0D03 * 2 + (if c.expert then 1 else 0))
        ([((if x.retired then 2 else if x.retest then 1 else 0 : Nat) : Int), ((match s.cuRole u with | some r => r | none => 255 : Nat) : Int),
          x.result, x.streams, x.mismatches, x.aliveFails, x.missed] ++ (if c.expert then x.taken.map Int.ofNat else [])))
  ∧ Completes specCuSelftest .cuSelftest (fun e s =>
      s.afterDraw.cuTested e.cmd.tgtIndex (if bitOf s.drawn.toNat 0 then none else some (1 + s.drawn.toNat / 2 % 4)))
  ∧ (∀ t u, u < 8 → OccursIf (.cuPeriodicSelftest t u none) t (fun s => (s.cuOf u).retired = false)
      (fun s => s.setCu u { s.cuOf u with retest := false }))
  ∧ (∀ t u p, u < 8 → OccursIf (.cuPeriodicSelftest t u (some p)) t (fun s => (s.cuOf u).retired = false)
      (fun s => (s.setCu u { s.cuOf u with retest := true, retestAt := s.tb0 + 1000000 }).fault .data .fCuSelftest (cuRes u) (u * 2 ^ 24 + p) (cuKey u)))
  ∧ (∀ t u, u < 8 → OccursIf (.cuSelftestRetry t u none) t (fun s => (s.cuOf u).retest = true ∧ (s.cuOf u).retestAt ≤ s.tb0 ∧ (s.cuOf u).retired = false)
      (fun s => s.setCu u { s.cuOf u with retest := false }))
  ∧ (∀ t k sel sent bs busy, Occurs (.cuStreamEnd t k sel sent bs busy) t
      (fun s => ∀ v, v < 8 → s.cuSnoops v k sel sent = false ∧ s.cuServes v k = false) (fun s => s))
  ∧ (∀ t k sel sent bs busy u, u < 8 → busy.contains u = false → Occurs (.cuStreamEnd t k sel sent bs busy) t
      (fun s => Tab.wf (fun _ => ({} : CuRun)) s.cus = true ∧ s.cuSnoops u k sel sent = true ∧ s.cuServes u k = false
        ∧ ∀ v, v < 8 → v ≠ u → s.cuSnoops v k sel sent = false ∧ s.cuServes v k = false)
      (fun s => s.cuEnd u k bs))
  ∧ (∀ (s : State) u k bs, s.param .cuCmpMode u = 0 → s.param .cuAcEn u = 0 → (s.cuOf u).loaded = false →
      s.cuEnd u k bs = s.setCu u { s.cuOf u with
        result := (s.cuSet u).finish ((s.cuSet u).run (s.cuSet u).init bs), streams := ((s.cuOf u).streams + 1) % 2 ^ 32,
        running := (s.cuSet u).run (s.cuSet u).init bs, loaded := false })

/-- The commands of class 0x0E (R465, R467, R469, R472 to R474). The accesses of the calendar window (R463 to R466): halt and release, the freeze that
a sub-second read starts and a date read ends, the clear bit of an event input, the latch of a stamp. -/
def Obligations.ClockCommandsTakeEffect : Prop :=
  (Reports specRtcRead .rtcRead (fun c s =>
      let r := calRegs s.rtcTicks
      Config.resultLayout (0x0E00 * 2 + (if c.expert then 1 else 0))
        ([(r.sub : Int), r.time, r.date, ticksNs s.rtcTicks, (if s.rtc.lost then 0 else 1 : Nat), s.rtc.flags, s.power.epoch]
          ++ (if c.expert then [s.rtc.temp, s.rtc.corr, (max s.rtc.capMv s.rtc.cellMv : Nat)] else [])))
  ∧ Completes specRtcSet .rtcSet (fun e s =>
      let c := e.cmd
      s.rtcAccept 1 (ticksOf (c.field 16 2) (c.field 18 1) (c.field 19 1) (c.field 20 1) (c.field 21 1) (c.field 22 1) (c.field 24 2)))
  ∧ Completes specRtcTrim .rtcTrim (fun e s =>
      { s with rtc := { s.rtc with
          tick0 := s.rtcTicks, at0 := s.tb0, offset := signed 16 (e.cmd.field 16 2),
          trimEn := (if e.cmd.expert then e.cmd.field 18 1 == 1 else s.rtc.trimEn) } })
  ∧ Completes specRtcBeConfigure .rtcBeConfigure (fun e s =>
      let n := e.cmd.tgtIndex - 0x0100
      s.setBe n { s.beOf n with edge := e.cmd.field 16 1, filter := e.cmd.field 17 1 })
  ∧ Reports specRtcBeRead .rtcBeRead (fun c s =>
      let b := s.beOf (c.tgtIndex - 0x0100)
      let f := calRegs b.first
      let l := calRegs b.last
      Config.resultLayout (0x0E04 * 2)
        [(b.count : Int), b.first, f.sub, f.time, f.date, b.last, l.sub, l.time, l.date, (if b.invalid then 1 else 0 : Nat),
         (if b.level then 1 else 0 : Nat), s.power.epoch])
  ∧ Completes specRtcBeClear .rtcBeClear (fun e s =>
      let n := e.cmd.tgtIndex - 0x0100
      s.setBe n { s.beOf n with
        count := 0, invalid := false, first := 0, last := 0, seen := 0, latchFirst := none, latchLast := none })
  ∧ Reports specRtcStatus .rtcStatus (fun c s =>
      let r := s.rtc
      Config.resultLayout (0x0E06 * 2 + (if c.expert then 1 else 0))
        ([((max r.capMv r.cellMv % 4096 + (if r.capMv < r.cellMv then 4096 else 0) + (if r.capMv < 3000 then 8192 else 0) : Nat) : Int), r.flags, r.temp, r.corr, s.power.lastCause, s.power.lastCauseEpoch]
          ++ (if c.expert then (List.range 64).map Config.rtcCurve else []))))
  ∧ ((∀ t value, bitOf value 0 = true → Occurs (.rtcHalt t value) t
    (fun s => s.windowUp = true ∧ bitOf value 3 = s.rtc.trimEn ∧ s.rtc.halt = none)
    (fun s => { s with rtc := { s.rtc with halt := some ((s.tb0 : Int), calRegs s.rtcTicks) } }))
  ∧ (∀ t value a r, bitOf value 0 = false → Occurs (.rtcHaltRelease t value) t
    (fun s => s.windowUp = true ∧ bitOf value 3 = s.rtc.trimEn ∧ s.rtc.halt = some (a, r) ∧ r.ok = true)
    (fun s => s.rtcAccept 0 r.ticks))
  ∧ (∀ t value a r, bitOf value 0 = false → Occurs (.rtcHaltRelease t value) t
    (fun s => s.windowUp = true ∧ bitOf value 3 = s.rtc.trimEn ∧ s.rtc.halt = some (a, r) ∧ r.ok = false)
    (fun s => ({ s with rtc := { s.rtc with halt := none, badDate := true } } : State).post .management .eRtcBadDate rtcRes 0))
  ∧ (∀ t, Occurs (.calSubsecRead t) t (fun s => s.windowUp = true ∧ s.rtc.frozen = none)
    (fun s => ({ s with rtc := { s.rtc with frozen := some ((s.tb0 : Int), s.calNow) } } : State).send (.regRead 0x0810 s.calNow.sub)))
  ∧ (∀ t a r, Occurs (.calDateRead t) t (fun s => s.windowUp = true ∧ s.rtc.frozen = some (a, r))
    (fun s => ({ s with rtc := { s.rtc with frozen := none } } : State).send (.regRead 0x0818 r.date)))
  ∧ (∀ t, Occurs (.calDateRead t) t (fun s => s.windowUp = true ∧ s.rtc.frozen = none) (fun s => s.send (.regRead 0x0818 s.calNow.date)))
  ∧ (∀ t n value, n < 4 → bitOf value 31 = true → bitsOf value 1 0 ≠ 0 → bitsOf value 12 8 ≠ 0 → Occurs (.beClearBit t n value) t
    (fun s => s.windowUp = true)
    (fun s => s.setBe n { (s.beOf n).cleared with edge := bitsOf value 1 0, filter := bitsOf value 12 8 }))
  ∧ (∀ t n, n < 4 → Occurs (.beStampLoRead t n false) t (fun s => s.windowUp = true)
    (fun s => (s.setBe n { s.beOf n with latchFirst := some ((s.beOf n).first / 2 ^ 32) }).send
      (.regRead (0x0848 + 0x20 * n) ((s.beOf n).first % 2 ^ 32))))
  ∧ (∀ t n, n < 4 → Occurs (.beStampLoRead t n true) t (fun s => s.windowUp = true)
    (fun s => (s.setBe n { s.beOf n with latchLast := some ((s.beOf n).last / 2 ^ 32) }).send
      (.regRead (0x0850 + 0x20 * n) ((s.beOf n).last % 2 ^ 32)))))

/-- A valid date and time is the calendar of its tick count (R462, R463): the count of 1/1024 s that a set gives reads back as the same registers. -/
def Obligations.CalendarRoundTrip : Prop :=
  ∀ y m d h mi se sub, dateOk y m d h mi se = true → sub < 1024 →
    (calRegs (ticksOf y m d h mi se sub)).sub = sub
    ∧ bitsOf (calRegs (ticksOf y m d h mi se sub)).time 5 0 = se
    ∧ bitsOf (calRegs (ticksOf y m d h mi se sub)).time 13 8 = mi
    ∧ bitsOf (calRegs (ticksOf y m d h mi se sub)).time 20 16 = h
    ∧ (calRegs (ticksOf y m d h mi se sub)).date = y + m * 65536 + d * 16777216

/-- The events of the backup domain (R462, R464, R466 to R471). -/
def Obligations.BackupDomainEvents : Prop :=
  (∀ t n closed, n < 4 → Occurs (.beEdge t n closed) t
    (fun s => (s.beOf n).level ≠ closed ∧ (if closed then bitOf (s.beOf n).edge 1 else bitOf (s.beOf n).edge 0) = true ∧ s.power.mgmtUp = true)
    (fun s =>
      let b := s.beOf n
      let stamp := s.rtcTicks - (b.filter - 1)
      let c := min 65535 (b.count + 1)
      (s.setBe n { b with
        level := closed, count := c, last := stamp, first := (if b.count = 0 then stamp else b.first), invalid := b.invalid || s.rtc.lost,
        seen := c }).post .management .eRtcBeEdge (beRes n) (n * 2 ^ 24 + c)))
  ∧ (∀ t n closed, n < 4 → Occurs (.beEdge t n closed) t (fun s => (s.beOf n).level = closed) (fun s => s))
  ∧ (∀ t a r, Occurs (.rtcHaltTimeout t) t (fun s => s.rtc.halt = some (a, r) ∧ a + 60000000000 ≤ (s.tb0 : Int))
    (fun s => ({ s with rtc := { s.rtc with halt := none, haltTimeout := true } } : State).post .management .eRtcHaltTimeout rtcRes 0))
  ∧ (∀ t a r, Occurs (.freezeTimeout t) t (fun s => s.rtc.frozen = some (a, r) ∧ a + 1000000000 ≤ (s.tb0 : Int))
    (fun s => { s with rtc := { s.rtc with frozen := none } }))
  ∧ (∀ t temp, OccursIf (.rtcTempMeasure t temp) t (fun s => s.rtc.trimEn = true)
    (fun s => { s with rtc := { s.rtc with temp := temp, corr := rtcCorrection temp s.rtc.offset } }))
  ∧ (∀ temp offset, -20000 ≤ rtcCorrection temp offset ∧ rtcCorrection temp offset ≤ 20000)
  ∧ (∀ t (dev : Int), Occurs (.rtcRateCompare t dev) t (fun s => s.power.mgmtUp = true ∧ 200 < dev.natAbs ∧ s.rtc.lost = false)
    (fun s => (rtcLostOf true s.rtc.rangeEnd { s with rtc := { s.rtc with oscBad := true } }).post .management .fRtcOsc rtcRes
      (q24 0 (sat24 dev))))
  ∧ (∀ t (dev : Int), Occurs (.rtcRateCompare t dev) t (fun s => s.power.mgmtUp = true ∧ dev.natAbs ≤ 200)
    (fun s => { s with rtc := { s.rtc with oscBad := false } }))
  ∧ (∀ t, Occurs (.rtcOscStop t) t (fun s => s.rtc.lost = false ∧ s.power.mgmtUp = true)
      (fun s => rtcLostOf true s.rtc.rangeEnd { s with rtc := { s.rtc with oscBad := true } }))
  ∧ (∀ t, Occurs (.rtcRangeEnd t) t (fun s => s.rtc.lost = false ∧ s.power.mgmtUp = true ∧ rangeEndTicks ≤ s.rtcTicks + 1)
      (fun s => rtcLostOf s.rtc.oscFail true s))
  ∧ (∀ t, Occurs (.vbdBelowRetention t) t (fun s => s.rtc.lost = false ∧ s.power.mgmtUp = true) (rtcLostOf false false))

/-- The commands of class 0x0F (R482, R484, R485, R487, R568). -/
def Obligations.RecorderCommandsTakeEffect : Prop :=
  Does specRecRead .recRead (fun e s =>
      let c := e.cmd
      let sev := if c.expert then c.field 22 1 else 0
      let l := (s.recorder.store.history.filter (fun h => decide (c.field 16 6 ≤ h.recSeq) && decide (sev ≤ sevOf h.slot.code))).take
        (if c.indirect then min 64 (c.blockLen / 64) else 64)
      s.complete e .sOk l.length (l.flatMap HistRec.bytes))
  ∧ Does specRecDump .recDump (fun e s =>
      { s with disp := { s.disp with streams := s.disp.streams ++
        [{ ring := e.cmd.field 17 1, stream := e.cmd.field 18 2, toHost := true, entry := e, consumed := e.cmd.field 20 6 }] } })
  ∧ Does specRecSlots .recSlots (fun e s =>
      let l := s.recSlotsOf e.cmd
      s.complete e .sOk l.length (l.flatMap (fun x => x.bytes ++ leBytes 8 x.detail ++ leBytes 2 x.limited ++ leBytes 6 0)))
  ∧ Completes specRecClose .recClose (fun e s =>
      (s.recClose (if e.cmd.tgtIndex = 0 then s.recorder.store.slots.map (·.code) else [e.cmd.tgtIndex]) 3).recMark false)
  ∧ Completes specRecClear .recClear (fun e s =>
      let c := e.cmd
      let n := (s.recorder.store.history.filter (fun h => decide (h.recSeq ≤ c.field 16 6))).length
      let u := (s.mapRec (fun x => { x with
        history := x.history.filter (fun h => decide (c.field 16 6 < h.recSeq)),
        drops := (if c.expert = true ∧ bitOf (c.field 22 1) 0 = true then List.replicate 8 0 else x.drops) })).commitRec
      u.recTakes (u.recEvent .eRecCleared n) false)
      (fun c s => ∃ h ∈ s.recorder.store.history, h.recSeq ≤ c.field 16 6)
  ∧ Completes specRecSetCode .recSetCode (fun e s => s.setCommit e.cmd.tgtIndex
      ([(.recRate, e.cmd.field 16 2), (.recBurst, e.cmd.field 18 2)]
        ++ (if e.cmd.expert then [(.histLo, e.cmd.field 20 4), (.histStep, e.cmd.field 24 4)] else [])))
  ∧ Completes specRecSetClose .recSetClose (fun e s =>
      ({ s with recorder := { s.recorder with
          lastPeriodic := (if s.recPeriodDue then s.recorder.lastPeriodic else s.tb0) } } : State).setCommit 0
        [(.recClosePeriod, e.cmd.field 16 4), (.recCloseSev, e.cmd.field 20 1)])
  ∧ Reports specRecStatus .recStatus (fun c s => recStatus s c.expert)
  ∧ Reports specRecCodes .recCodes (fun c _ => (Code.all.filter (fun x => decide (c.field 16 2 ≤ x.num))).flatMap (fun x =>
      leBytes 2 x.num ++ leBytes 1 x.sev ++ leBytes 1 (measureForm x.num) ++ leBytes 2 (recRateFactory x.num) ++ leBytes 2 20
        ++ leBytes 4 (histLoFactory x.num) ++ leBytes 4 (histStepFactory x.num)))

/-- The drain and the periodic close (R476, R482, R486): the planes are drained in turn; an entry leaves its FIFO, a fault event goes to the fault
manager too, and the recorder takes it. An event enters the slot of its code (R480, R481): the count saturates, the first and last sequence
numbers and the extremes are kept, and events above the code's limit are counted. A full history (R484): a new record overwrites the oldest of its
severity or below; where there is none it is dropped and counted by severity, and the history never holds more than 8192 records. -/
def Obligations.TheRecorderKeepsItsHistory : Prop :=
  ((∀ t wf, Occurs (.recorderDrain t wf) t (fun s => s.power.mgmtUp = false ∨ s.power.phase ≠ .running) (fun s => s))
  ∧ (∀ t wf, Occurs (.recorderDrain t wf) t
      (fun s => s.inControl.queue = [] ∧ s.inData.queue = [] ∧ s.inManagement.queue = []) (fun s => s))
  ∧ (∀ t wf e r, ∀ s u v w : State, u = s.advance t → u.power.mgmtUp = true → u.power.phase = .running → u.recorder.drainNext = 0 →
      u.inControl.queue = e :: r → r ≠ [] →
      v = u.setIntake .control { u.inControl with queue := r, lossSince := u.inControl.lossSince } →
      w = { v with
        recorder := { v.recorder with drainNext := 1 },
        faults := { v.faults with inbox := (if (faultKeyOf e).isSome then v.faults.inbox ++ [e] else v.faults.inbox) } } →
      exec (.recorderDrain t wf) s = .next (w.recTakes e wf))
  ∧ (∀ t, OccursIf (.recPeriodicClose t) t
      (fun s => s.power.mgmtUp = true ∧ s.power.phase = .running
        ∧ s.recorder.lastPeriodic < s.tb0 / (s.param .recClosePeriod 0 * 1000000000) * (s.param .recClosePeriod 0 * 1000000000))
      (fun s => (({ s with recorder := { s.recorder with lastPeriodic := s.tb0 } } : State).recClose
        (s.recorder.store.slots.map (·.code)) 0).recMark false)))
  ∧ (∀ (x : Slot) (e : Event) (n lo step : Nat) (within : Bool) (m : Int), m = measureOf x.code e.quantity →
    (x.take e n lo step within).count = min 4294967295 (x.count + 1)
    ∧ (x.take e n lo step within).lastSeq = n
    ∧ (x.count = 0 → (x.take e n lo step within).firstSeq = n ∧ (x.take e n lo step within).least = m
        ∧ (x.take e n lo step within).most = m)
    ∧ (x.count ≠ 0 → (x.take e n lo step within).firstSeq = x.firstSeq ∧ (x.take e n lo step within).least = min x.least m
        ∧ (x.take e n lo step within).most = max x.most m)
    ∧ (x.take e n lo step within).limited = (if within then x.limited else min 65535 (x.limited + 1))
    ∧ (x.take e n lo step within).code = x.code)
  ∧ ((∀ (x : RecStore) h, x.history.length < 8192 → (x.file h).history = x.history ++ [h])
  ∧ (∀ (x : RecStore) h, 8192 ≤ x.history.length → (∀ r ∈ x.history, sevOf h.slot.code < sevOf r.slot.code) →
      (x.file h).history = x.history
        ∧ (x.file h).drops = setAt x.drops (sevOf h.slot.code) ((getAt 0 x.drops (sevOf h.slot.code) + 1) % 4294967296))
  ∧ (∀ (x : RecStore) h, x.history.length ≤ 8192 → (x.file h).history.length ≤ 8192))

/-- The commands of class 0x10 (R489, R496, R497, R502). -/
def Obligations.UpdateCommandsTakeEffect : Prop :=
  Does specUpdStage .updStage (fun e s =>
      { s with upd := { s.upd with transfer := some { entry := e, length := e.cmd.field 16 4 } } })
      (fun c _ => c.field 16 4 ≠ 0)
  ∧ Reports specUpdList .updList (fun _ s =>
      let hdr := fun (b : Bytes) => ((slice b 0 28).map (fun x => (x.toNat : Int)))
      Config.resultLayout 0x2002 ((List.range 8).flatMap (fun k =>
        hdr (s.headerIn 0 (k + 1)) ++ hdr (s.headerIn 1 (k + 1))
          ++ (match s.upd.chrysalis.find? (fun x => x.1 == k + 1) with | some x => hdr x.2 | none => []) ++ [(s.arbOf (k + 1) : Int)])
        ++ [(s.upd.active : Int)]))
  ∧ Completes specUpdDiscard .updDiscard (fun e s =>
      { s with upd := { s.upd with chrysalis := s.upd.chrysalis.filter (fun x => x.1 != e.cmd.tgtIndex) } })
  ∧ Completes specUpdActivate .updActivate (fun e s =>
      let c := e.cmd
      let now := c.expert && bitOf (c.field 17 1) 1
      let mask := s.upd.chrysalis.foldl (fun m x => m + 2 ^ x.1) 0
      (s.setBoot {
        state := 1, slot := 1 - s.upd.active, mask := mask, base := c.field 16 1, instant := signed 64 (c.field 24 8), immediate := now }).post .management .eUpdScheduled updRes mask)
      (fun _ s => s.updSafety = [] ∧ s.pair.st = .unpaired)
  ∧ Completes specUpdCancel .updCancel (fun _ s => (s.setBoot {}).post .management .eUpdCancelled updRes 0)
      (fun _ s => s.pair.st = .unpaired)
  ∧ Reports specUpdStatus .updStatus (fun c s =>
      let b := s.bootRec
      let o := s.upd.outcome
      let copy := fun (x : Option (Copy BootRecord)) => match x with | some x => (x.seqHdr : Int) :: x.payload.values | none => []
      Config.resultLayout (0x200A + (if c.expert then 1 else 0))
        ([(b.state : Int), b.instant, (b.base : Int), (o.1 : Int), (o.2.1 : Int), (o.2.2.1 : Int), (o.2.2.2 : Int)]
          ++ (if c.expert then copy s.upd.boot.a ++ copy s.upd.boot.b else [])))
  ∧ Completes specUpdSetService .updSetService (fun e s =>
      let c := e.cmd
      let u := s.setCommit 0 [(.svcIp, c.field 16 4), (.svcMask, c.field 20 1), (.svcIdle, c.field 24 4)]
      if c.expert then ({ u with cred := { u.cred with fleet := c.field 28 4 } } : State).commitCred else u)

/-- A container that has arrived whole (R495, R496): checked in order, and staged with its key wrapped anew, or rejected with the number of the first
check that fails, S_ROLLBACK for the fourth. The scheduled instant of an activation and its confirmation (R498, R499): the module resets with its
commit first; 10 s after a trial start without a fault of severity 7 the counters rise and the staged containers go. -/
def Obligations.UpdatesAreCheckedAndActivated : Prop :=
  ((∀ (s : State) (x : Transfer) n, n = s.contCheck Config.productImageKey x.got false → n ≠ 0 →
    s.staged x = (({ s with upd := { s.upd with transfer := none } } : State).post .management .eUpdRejected updRes
      (contComp x.got * 65536 + n)).complete x.entry (if n = 4 then .sRollback else .sImageRejected) 0 [])
  ∧ (∀ (s : State) (x : Transfer) (u v : State), s.contCheck Config.productImageKey x.got false = 0 →
      u = { s with upd := { s.upd with transfer := none } } →
      v = u.afterDraw.afterDraw →
      s.staged x = (({ v with upd := { v.upd with
          chrysalis := compPut (contComp x.got) (rewrapped (leBytes 8 u.drawn.toNat ++ leBytes 4 u.afterDraw.drawn.toNat) x.got) v.upd.chrysalis } } :
            State).post .management .eUpdStaged updRes (contComp x.got * 65536 + contVersion x.got % 65536)).complete x.entry .sOk 0 [])
  ∧ (∀ (s : State) k b full, s.contCheck k b full ≠ 1 → leNat (slice b 0 4) = 0x4E504946 ∧ 1 ≤ contComp b ∧ contComp b ≤ 8
      ∧ contLen b + 208 = b.length ∧ contLen b ≤ clenMax (contComp b)))
  ∧ ((∀ t, Occurs (.updActivationInstant t) t (fun s => s.up = false ∨ s.bootRec.state ≠ 1) (fun s => s))
  ∧ (∀ t, Occurs (.updActivationInstant t) t
      (fun s => s.up = true ∧ s.bootRec.state = 1 ∧ s.bootRec.immediate = false ∧ s.bootRec.base = 1 ∧ s.pair.st = .unpaired
        ∧ s.bootRec.instant ≤ s.baseNow 1 ∧ s.baseSynced 1 = true ∧ s.baseAt 1 s.power.startedAt ≤ s.bootRec.instant)
      (fun s => (s.setBoot { s.bootRec with state := 2, takes := false }).moduleReset 0x0A true))
  ∧ (∀ t, Occurs (.updActivationInstant t) t
      (fun s => s.up = true ∧ s.bootRec.state = 1 ∧ s.bootRec.immediate = false ∧ s.bootRec.base = 1 ∧ s.pair.st = .unpaired
        ∧ s.bootRec.instant ≤ s.baseNow 1 ∧ s.baseSynced 1 = false)
      (fun s => (s.setBoot {}).post .management .eUpdCancelled updRes 1))
  ∧ (∀ t, Occurs (.updTrialConfirm t) t
      (fun s => s.up = true ∧ s.bootRec.state = 5 ∧ s.upd.active = s.bootRec.slot ∧ s.power.startedAt + 10000000000 ≤ s.tb0
        ∧ s.faults.sev7 = none ∧ s.stagedIn s.bootRec.mask = [])
      (fun s =>
        let u : State := { s with upd := { s.upd with
          chrysalis := s.upd.chrysalis.filter (fun x => !(bitOf s.bootRec.mask x.1)), outcome := (Code.eUpdActivated.num, 0, 0, s.power.epoch) } }
        u.setBoot { takes := s.bootRec.takes }))
  ∧ (∀ t, Occurs (.updTrialConfirm t) t (fun s => s.bootRec.state ≠ 5 ∨ s.tb0 < s.power.startedAt + 10000000000) (fun s => s)))

/-- The service port (R489 to R491): a second connection is reset; before the HELLO any other record closes the connection; a FINISH opens the
session; records that authenticate carry commands or container bytes; the idle time and the loss of the link close it. The management sessions of
the network (R112 to R114): a request with a valid tag opens a session where fewer than 8 are open; a failed one is counted and answered at most
once per second for a station; a message whose tag or counter fails is counted and dropped; a close and 60 s without a message end the session. -/
def Obligations.SessionsAreAuthenticated : Prop :=
  ((∀ t ip, OccursIf (.xsTcpConnect t ip) t (fun s => s.power.mgmtUp = true ∧ ip = s.upd.ip ∧ s.disp.ivpasto.connected = false)
    (fun s => s.setIv { s.disp.ivpasto with connected := true }))
  ∧ (∀ t b, leNat (slice b 2 1) = 1 → Occurs (.hello t b) t
    (fun s => s.power.mgmtUp = true ∧ s.disp.ivpasto.connected = true ∧ s.disp.ivpasto.helloDone = false) (fun s => s.hello b))
  ∧ (∀ t b, leNat (slice b 2 1) ≠ 1 → Occurs (.hello t b) t
    (fun s => s.power.mgmtUp = true ∧ s.disp.ivpasto.connected = true ∧ s.disp.ivpasto.helloDone = false) (fun s => s.closeIvpasto))
  ∧ (∀ (s : State) b, s.helloOk b = false → s.upd.helloReplyAt = 0 →
      s.hello b =
        (let u := s.post .management .eAuthFailed modRes 0xFFFFFFFF
         (({ u with upd := { u.upd with helloReplyAt := u.tb0 + 1 } } : State).send
          (.ivpasto (ivHeader 2 2 ++ beBytes 2 Status.sAuthFailed.code))).closeIvpasto))
  ∧ (∀ (s : State) b v, s.helloOk b = true → v = (s.hello b).disp.ivpasto → v.helloDone = true ∧ v.roles = leNat (slice b 97 1) % 8
      ∧ v.serial = leNat (slice b 93 4) ∧ v.inCounter = 0 ∧ v.outCounter = 0 ∧ v.isOpen = s.disp.ivpasto.isOpen)
  ∧ (∀ t b, leNat (slice b 2 1) = 3 → Occurs (.finish t b) t
    (fun s => s.power.mgmtUp = true ∧ s.disp.ivpasto.connected = true ∧ s.disp.ivpasto.helloDone = true ∧ s.disp.ivpasto.isOpen = false
      ∧ s.ivOpen b = some [])
    (fun s => (s.setIv { s.disp.ivpasto with
      isOpen := true, inCounter := s.disp.ivpasto.inCounter + 1, lastAt := s.tb0, filter := none, dispatched := 0, refused := 0 }).post
        .management .eSessionOpened modRes 0xFFFFFFFF))
  ∧ (∀ t b, Occurs (.finish t b) t (fun s => ivReady s false ∧ s.ivOpen b = none) State.closeIvpasto)
  ∧ (∀ t b body, leNat (slice b 2 1) = 0x10 → Occurs (.ivpastoCommandRecord t b) t (fun s => ivReady s true ∧ s.ivOpen b = some body)
      (fun s => (parseEntries .ivpasto (body.length / 64) body).foldl (fun w e =>
        if w.routeFull .ivpasto then w.answerFull .ivpasto e.2.tag else w.takeEntry e) (ivTook s)))
  ∧ (∀ t b, Occurs (.ivpastoCommandRecord t b) t (fun s => ivReady s true ∧ s.ivOpen b = none) State.closeIvpasto)
  ∧ (∀ t b body, leNat (slice b 2 1) = 0x20 →
      Occurs (.ivpastoContainerRecord t b) t (fun s => ivReady s true ∧ s.ivOpen b = some body ∧ s.upd.transfer = none) ivTook
      ∧ (∀ x, Occurs (.ivpastoContainerRecord t b) t
          (fun s => ivReady s true ∧ s.ivOpen b = some body ∧ s.upd.transfer = some x ∧ x.got.length + body.length < x.length)
          (fun s => { ivTook s with upd := { s.upd with transfer := some { x with got := x.got ++ body } } }))
      ∧ (∀ x, Occurs (.ivpastoContainerRecord t b) t
          (fun s => ivReady s true ∧ s.ivOpen b = some body ∧ s.upd.transfer = some x ∧ x.got.length < x.length
            ∧ x.length ≤ x.got.length + body.length)
          (fun s => (ivTook s).staged { x with got := x.got ++ body.take (x.length - x.got.length) })))
  ∧ (∀ t b body, leNat (slice b 2 1) ≠ 0x10 → leNat (slice b 2 1) ≠ 0x20 → Occurs (.ivpastoCloseRecord t b) t
      (fun s => ivReady s true ∧ s.ivOpen b = some body) (fun s => (ivTook s).closeIvpasto))
  ∧ (∀ t, OccursIf (.ivpastoIdleTimeout t) t
      (fun s => s.disp.ivpasto.isOpen = true ∧ s.disp.ivpasto.lastAt + s.param .svcIdle 0 * 1000000000 ≤ s.tb0) (fun s => s.closeIvpasto))
  ∧ (∀ t, Occurs (.xsLinkDrop t) t (fun s => s.disp.ivpasto.isOpen = false)
      (fun s => { s with
        upd := { s.upd with ip := s.param .svcIp 0 }, disp := { s.disp with ivpasto := { serial := s.disp.ivpasto.serial } } }))
  ∧ (∀ t, Occurs (.xsLinkDrop t) t (fun s => s.disp.ivpasto.isOpen = true)
      (fun s =>
        let u := (({ s with upd := { s.upd with ip := s.param .svcIp 0 } } : State).closeRoute .ivpasto).dropTransfer
        ({ u with disp := { u.disp with ivpasto := { serial := s.disp.ivpasto.serial } } } : State).post .management .eSessionClosed modRes
          0xFFFFFFFF)))
  ∧ ((∀ t st mac b r, mgmtType b = 4 →
      Occurs (.mgmtOpenRequest t) t
        (fun s => s.net.mgmtIn = (st, mac, b) :: r ∧ s.power.mgmtUp = true ∧ s.cred.stationKey = none
          ∧ Tab.get (fun _ => 0) s.disp.authReplyAt st = 0)
        (fun s =>
          let u := (mgmtRest r s).post .management .eAuthFailed modRes st
          ({ u with disp := { u.disp with authReplyAt := Tab.put (fun _ => 0) u.disp.authReplyAt st (u.tb0 + 1) } } : State).openRefused st mac
            .sNoCredentials)
      ∧ Occurs (.mgmtOpenRequest t) t
        (fun s => s.net.mgmtIn = (st, mac, b) :: r ∧ s.power.mgmtUp = true ∧ s.cred.stationKey = none
          ∧ Tab.get (fun _ => 0) s.disp.authReplyAt st ≠ 0 ∧ s.tb0 + 1 < Tab.get (fun _ => 0) s.disp.authReplyAt st + 1000000000)
        (fun s => (mgmtRest r s).post .management .eAuthFailed modRes st))
  ∧ (∀ t st mac b r key m, mgmtType b = 4 → parseMgmt b = some m → m.session = 0 → m.body.length = 16 →
      m.tag = gmacTag key (m.body.take 12) m.head →
      Occurs (.mgmtOpenRequest t) t
        (fun s => s.net.mgmtIn = (st, mac, b) :: r ∧ s.power.mgmtUp = true ∧ s.cred.stationKey = some key ∧ s.disp.omnar.length < 8)
        (fun s => (mgmtRest r s).openOmnar st mac key m.body)
      ∧ Occurs (.mgmtOpenRequest t) t
        (fun s => s.net.mgmtIn = (st, mac, b) :: r ∧ s.power.mgmtUp = true ∧ s.cred.stationKey = some key ∧ 8 ≤ s.disp.omnar.length)
        (fun s => (mgmtRest r s).openRefused st mac .sSessionLimit))
  ∧ (∀ (s : State) st mac key nc, (s.openOmnar st mac key nc).disp.omnar = s.disp.omnar ++ [{
        id := s.disp.nextSession, station := st, mac := mac, lastAt := s.tb0,
        key := (Config.ctrKeystream key (nc.take 8 ++ leBytes 8 s.drawn.toNat)).take 32 }])
  ∧ (∀ t st mac b r, mgmtType b ≠ 4 → mgmtType b ≠ 6 → Occurs (.mgmtMessage t) t
      (fun s => s.net.mgmtIn = (st, mac, b) :: r ∧ s.power.mgmtUp = true ∧ s.mgmtAccept b = none)
      (fun s => (mgmtRest r s).post .management .eAuthFailed modRes st))
  ∧ (∀ t st mac b r m x, mgmtType b = 1 → Occurs (.mgmtMessage t) t
      (fun s => s.net.mgmtIn = (st, mac, b) :: r ∧ s.power.mgmtUp = true ∧ s.mgmtAccept b = some (m, x))
      (fun s => (parseEntries (.omnar x.id) (min 16 m.count) m.body).foldl (fun s e => s.mgmtEntry x e) ((mgmtRest r s).setOmnar x)))
  ∧ (∀ t st mac b r m x, mgmtType b = 6 → Occurs (.mgmtCloseMessage t) t
      (fun s => s.net.mgmtIn = (st, mac, b) :: r ∧ s.power.mgmtUp = true ∧ s.mgmtAccept b = some (m, x))
      (fun s => ((mgmtRest r s).setOmnar x).closeOmnar m.session))
  ∧ (∀ t st mac b r, mgmtType b = 6 → Occurs (.mgmtCloseMessage t) t
      (fun s => s.net.mgmtIn = (st, mac, b) :: r ∧ s.power.mgmtUp = true ∧ s.mgmtAccept b = none)
      (fun s => (mgmtRest r s).post .management .eAuthFailed modRes st))
  ∧ (∀ t id x, Occurs (.mgmtSessionIdle t id) t (fun s => s.omnarOf id = some x ∧ x.lastAt + 60000000000 ≤ s.tb0) (fun s => s.closeOmnar id))
  ∧ (∀ t id x, Occurs (.mgmtSessionIdle t id) t (fun s => s.omnarOf id = some x ∧ s.tb0 < x.lastAt + 60000000000) (fun s => s))
  ∧ (∀ (s : State) b m x, s.mgmtAccept b = some (m, x) → ∃ y, s.omnarOf m.session = some y ∧ parseMgmt b = some m ∧ y.fresh m.counter = true
      ∧ m.tag = gmacTag y.key (beBytes 4 m.session ++ beBytes 8 m.counter) m.head ∧ x.highest = max y.highest m.counter ∧ x.lastAt = s.tb0)
  ∧ (∀ (x : OmnarSession) n, x.fresh n = true → n < 2 ^ 63 ∧ (x.highest < n ∨ (x.highest < n + 65 ∧ n ≠ x.highest ∧ n ∉ x.seen))))

/-- The commands of class 0x11 (R504 to R508, R513 to R516, R518). The rows of the panel (R505, R509 to R513, R515): the first frame 50 ms after PEN,
a frame, the end of a waveform, the idle time. -/
def Obligations.PanelTakesEffect : Prop :=
  (Completes specPanelConfigure .panelConfigure (fun e s => (s.setCommit 0
      ([(.pnlKind, e.cmd.field 16 1), (.privetLines, e.cmd.field 17 1), (.pnlBl, e.cmd.field 18 1)]
        ++ (if e.cmd.expert then
          [(.privetBl, e.cmd.field 19 1), (.pnlWidth, e.cmd.field 20 2), (.pnlHeight, e.cmd.field 22 2), (.pnlHblank, e.cmd.field 24 2),
           (.pnlVblank, e.cmd.field 26 2), (.pnlPclk, e.cmd.field 28 4), (.pnlIdle, e.cmd.field 32 4)] else []))).panelCheck)
  ∧ Completes specPanelRegion .panelRegion (fun e s =>
      let c := e.cmd
      let r : Region := { x := c.field 16 2, y := c.field 18 2, w := c.field 20 2, h := c.field 22 2, cls := c.field 24 1 }
      ({ s with cfg := { s.cfg with panel := { s.cfg.panel with
        regions := Tab.put (fun _ => none) s.cfg.panel.regions c.tgtIndex (if r.w = 0 then none else some r) } } } : State).commitConfig)
  ∧ Does specPanelFrame .panelFrame (fun e s =>
      { s with disp := { s.disp with streams := s.disp.streams ++
        [{ ring := e.cmd.field 17 1, stream := e.cmd.field 18 2, toHost := false, entry := e }] } })
  ∧ (∀ r, Completes specPanelPatch .panelPatch (fun e s =>
      let b := e.cmd
      (s.putPixels { x := r.x + b.blk 0 2, y := r.y + b.blk 2 2, w := b.blk 4 2, h := b.blk 6 2, cls := 0 } (b.blockBytes.drop 8)).panelUpdated
        b.tgtIndex)
      (fun c s => s.region c.tgtIndex = some r))
  ∧ Completes specPanelLoadTable .panelLoadTable (fun e s => s.putTable (e.cmd.blk 0 1) (e.cmd.blockBytes.drop 1)) (fun c _ => c.blk 0 1 ≠ 5)
  ∧ Does specPanelLoadTable .panelLoadTable (fun e s =>
      { s with disp := { s.disp with streams := s.disp.streams ++
        [{ ring := e.cmd.blk 1 1, stream := e.cmd.blk 2 2, toHost := false, entry := e }] } })
      (fun c _ => c.blk 0 1 = 5)
  ∧ Completes specPanelSetPower .panelSetPower (fun e s => s.panelLow (e.cmd.field 16 1 == 1))
  ∧ Completes specPanelClear .panelClear (fun _ s => s.post .management .ePanelCleared panelRes 1)
      (fun _ s => s.param .pnlKind 0 ≠ 2 ∨ s.panel.on = false)
  ∧ Does specPanelClear .panelClear (fun e s => s.panelClear 1 [e]) (fun _ s => s.param .pnlKind 0 = 2 ∧ s.panel.on = true)
  ∧ Reports specPanelStatus .panelStatus (fun c s =>
      let p := s.panel
      let id : List Int := (slice (match p.idMem with | some b => b | none => []) 0 16).map (fun x => (x.toNat : Int))
      Config.resultLayout (0x220E + (if c.expert then 1 else 0))
        ([(s.param .pnlKind 0 : Int)] ++ id ++ [(b2n p.low : Int), (b2n (s.panelMarkLast != some false) : Int), (p.waves.length : Int),
            (p.waiting.length : Int)] ++ (if c.expert then [(p.band : Int)] else []))))
  ∧ ((∀ t, Occurs (.panelFirstFrame t) t
    (fun s => s.power.mgmtUp = true ∧ s.panel.pen = true ∧ s.panel.on = false ∧ s.panel.penAt + 50000000 ≤ s.tb0 ∧ s.param .pnlKind 0 = 1
      ∧ s.panel.clearing = none)
    (fun s => ({ s with panel := { s.panel with on := true, strip := some s.stripNow, lastUpdate := s.tb0, waiting := [] } } : State).lcdFrame))
  ∧ (∀ t, Occurs (.panelFirstFrame t) t (fun s => s.panel.on = true ∨ s.tb0 < s.panel.penAt + 50000000) (fun s => s))
  ∧ (∀ t temp, Occurs (.panelVerticalBlank t temp) t
    (fun s => s.power.mgmtUp = true ∧ s.panel.on = true ∧ s.panel.pen = true ∧ s.power.phase = .running ∧ s.panel.strip = some s.stripNow
      ∧ s.param .pnlKind 0 = 1)
    (fun s => s.lcdFrame))
  ∧ (∀ t temp, Occurs (.panelVerticalBlank t temp) t
    (fun s => s.power.mgmtUp = true ∧ s.panel.on = true ∧ s.panel.pen = true ∧ s.power.phase = .running ∧ s.panel.strip = some s.stripNow
      ∧ s.param .pnlKind 0 = 2)
    (fun s => s.paperFrame temp))
  ∧ (∀ t i w, i ≠ 33 → Occurs (.waveformEnd t i) t
    (fun s => s.panel.waves.find? (fun x => x.region == i && decide (x.len ≤ x.phase)) = some w)
    (fun s => ({ s with panel := { s.panel with
      waves := s.panel.waves.filter (fun x => x.region != i),
      prev := w.cells.foldl (fun t c => Tab.put whitePixel t c.1 c.2.2) s.panel.prev } } : State).panelTouch))
  ∧ (∀ t w, Occurs (.waveformEnd t 33) t
    (fun s => s.panel.waves.find? (fun x => x.region == 33 && decide (x.len ≤ x.phase)) = some w)
    (fun s => (({ s with panel := { s.panel with
      waves := s.panel.waves.filter (fun x => x.region != 33), prev := [], waiting := s.regionsIn } } : State).clearDone).panelTouch))
  ∧ (∀ t i, Occurs (.waveformEnd t i) t
    (fun s => s.panel.waves.find? (fun x => x.region == i && decide (x.len ≤ x.phase)) = none) (fun s => s))
  ∧ (∀ t, Occurs (.panelIdleTimeout t) t
    (fun s => s.panel.on = true ∧ s.param .pnlIdle 0 ≠ 0 ∧ s.panel.lastUpdate + s.param .pnlIdle 0 * 1000000000 ≤ s.tb0 ∧ s.panel.low = false)
    (fun s => (({ s with panel := { s.panel with low := true } } : State).post .management .ePanelLowPower panelRes 1).panelTouch))
  ∧ (∀ t, Occurs (.panelIdleTimeout t) t
    (fun s => s.panel.on = false ∨ s.param .pnlIdle 0 = 0 ∨ s.tb0 < s.panel.lastUpdate + s.param .pnlIdle 0 * 1000000000) (fun s => s)))

/-- The commands of class 0x12 (R527, R528, R533): a reinstatement starts the self-test of a RETIRED resource, at once or at the boundary of a safety
output that runs degraded. The end of a reinstatement's self-test (R527): passed, the resource leaves the RETIRED ones with an empty history and
takes the state of its chapter; failed, it stays RETIRED and the command answers S_STATE. -/
def Obligations.FaultCommandsTakeEffect : Prop :=
  ((∀ k, Does specFltReinstate .fltReinstate (fun e s =>
      { s with faults := { s.faults with testing := s.faults.testing ++ [{ key := k, entry := e }] } })
      (fun c s => reinstKey c = some k ∧ reinstDegraded s c = false ∧ s.reinstating k = false ∧ s.isRetired k = true
        ∧ (s.reinstSafety k = true → s.logFull = false)))
  ∧ (∀ k, AppliesAs specFltReinstate (fun e s =>
      { s with faults := { s.faults with testing := s.faults.testing ++ [{ key := k, entry := e }] } })
      (fun c s => reinstKey c = some k ∧ s.reinstating k = false ∧ s.isRetired k = true ∧ (s.reinstSafety k = true → s.logFull = false)))
  ∧ Completes specFltSetPolicy .fltSetPolicy (fun e s =>
      s.setCommit (e.cmd.field 16 1) [(.fltN, e.cmd.field 17 1), (.fltW, e.cmd.field 20 4)])
  ∧ Reports specFltStatus .fltStatus (fun c s =>
      let st := s.faults.store
      let l : List Nat := st.retired.flatMap (fun r => [r.key.cls, r.key.index, r.key.sub, r.code, r.time])
      let x : List Nat := if c.expert then s.powered :: st.hist.flatMap (fun h => [h.key.cls, h.key.index, h.key.sub] ++ h.times) else []
      Config.resultLayout (0x1202 * 2 + (if c.expert then 1 else 0)) ((l ++ x).map Int.ofNat)))
  ∧ ((∀ t cls index sub ok, Occurs (.reinstateSelftestEnd t cls index sub ok) t
    (fun s => s.faults.testing.find? (fun u => u.key == { cls := cls, index := index, sub := sub }) = none) (fun s => s))
  ∧ (∀ t k x, ∀ s u v w : State, u = s.advance t → u.faults.testing.find? (fun y => y.key == k) = some x → x.failed = false →
      u.reinstSafety k = false →
      v = { u with faults := { u.faults with testing := u.faults.testing.filter (fun y => y.key != k) } } →
      w = ({ v with faults := { v.faults with store := {
        retired := v.faults.store.retired.filter (fun r => r.key != k), hist := v.faults.store.hist.filter (fun h => h.key != k) } } } : State).commitRetire →
      exec (.reinstateSelftestEnd t k.cls k.index k.sub true) s = .next (((w.reinstated k).post .management .eFltReinstated
        { cls := x.entry.cmd.tgtClass, index := x.entry.cmd.tgtIndex, sub := x.entry.cmd.tgtSub } (fltQ k)).complete x.entry .sOk 0 [])
      ∧ exec (.reinstateSelftestEnd t k.cls k.index k.sub false) s = .next ((v.post .management .fReinstateFailed
        { cls := x.entry.cmd.tgtClass, index := x.entry.cmd.tgtIndex, sub := x.entry.cmd.tgtSub } (fltQ k)).complete x.entry .sState 0 [])))

/-- The fault manager (R520 to R522): it takes the oldest drained event that waits for no self-test, keeps the last 15 fault instants of the resource,
and at N faults within W posts its retirement, or retires it at once where it has no boundary. Memory errors (R525): a corrected error is
recorded; an uncorrectable one is a fault of the bank that halts the tasks whose instance store it touches, and starts the march test of that
bank, whose success rewrites the line. -/
def Obligations.TheFaultManagerDecides : Prop :=
  ((∀ t, Occurs (.faultManagerDecision t) t (fun s => s.power.mgmtUp = false) (fun s => s.settle))
  ∧ (∀ t e k n, ∀ s u v w : State, u = s.advance t → u.power.mgmtUp = true → u.faults.inbox.find? (fun e => !(u.faultWaits e)) = some e →
      faultKeyOf e = some k → v = { u with faults := { u.faults with inbox := u.faults.inbox.erase e } } → n = v.newFaults k e →
      (n = 0 → exec (.faultManagerDecision t) s = .next
        (({ v with faults := { v.faults with seen := assocSet k (e.detail % 256) v.faults.seen } } : State).settle))
      ∧ (n ≠ 0 → w = ({ v with faults := { v.faults with
            seen := assocSet k (e.detail % 256) v.faults.seen,
            store := { v.faults.store with hist := historyWith k n (v.faults.base + e.time) v.faults.store.hist } } } : State).commitRetire →
          k.cls ≠ 3 → w.isRetired k = false → w.retirePosted k = false → ∀ h, w.faults.store.hist.find? (fun h => h.key == k) = some h →
          (nWithin (w.param .fltN k.cls) (w.param .fltW k.cls * 1000000000) h.times = false → exec (.faultManagerDecision t) s = .next w.settle)
          ∧ (nWithin (w.param .fltN k.cls) (w.param .fltW k.cls * 1000000000) h.times = true →
              (∀ o, w.retireOwner k = some o → exec (.faultManagerDecision t) s
                = .next ((w.postMail { owner := o, body := .retire { cls := k.cls, index := k.index, sub := k.sub } e.code.num }).settle))
              ∧ (w.retireOwner k = none → exec (.faultManagerDecision t) s = .next (w.retire k e.code.num).settle))))
  ∧ (∀ k n t l, n ≠ 0 → ∃ h, (historyWith k n t l).find? (fun h => h.key == k) = some h ∧ h.times.length ≤ 15 ∧ h.times.getLast? = some t))
  ∧ ((∀ t b, b < 18 → Occurs (.memoryEccCorrected t b) t (fun _ => True)
    (fun s => s.post (if b < 14 then .control else .management) .eMemCorrected (memRes b) (8 * 2 ^ 24 + b)))
  ∧ (∀ t b line user, b < 8 → Occurs (.memoryEccError t b line user) t (fun _ => True)
    (fun s =>
      let u := (s.each (fun i s => if (s.taskOf i).live = true ∧ anyMeet [(b * 0x80000 + 64 * line, 64)] (s.taskSpans i) = true then
        s.taskHalt i else s) (List.range 16)).fault .control .fMemEcc (memRes b) (8 * 2 ^ 24 + b) (memKey b)
      ({ u with faults := { u.faults with march := u.faults.march ++ [(b, line, user)] } } : State).settle))
  ∧ (∀ t b k line, 14 ≤ b → b < 18 → Occurs (.memoryEccError t b line (.commit k)) t (fun _ => True)
    (fun s => (((s.recommit k).fault .management .fMemEcc (memRes b) (8 * 2 ^ 24 + b) (memKey b)).settle)))
  ∧ (∀ t b ok, b < 18 → Occurs (.memoryMarchTestEnd t b ok) t (fun s => ∀ x ∈ s.faults.march, x.1 ≠ b) (fun s => s))
  ∧ (∀ t b line user, b < 8 → Occurs (.memoryMarchTestEnd t b true) t (fun s => s.faults.march = [(b, line, user)])
    (fun s => ({ s with faults := { s.faults with march := [] } } : State).rewriteStore (b * 0x80000 + 64 * line) 64))
  ∧ (∀ t b x, b < 18 → Occurs (.memoryMarchTestEnd t b false) t (fun s => x ∈ s.faults.march ∧ x.1 = b)
    (fun s => s.fault (if b < 14 then .control else .management) .fMemEcc (memRes b) (8 * 2 ^ 24 + b) (memKey b))))
end

