-- ==== Sys2Proof/Laws/Cipher.lean ====
section
/-! SUPPORT. What is sealed opens again, whatever the uninterpreted block cipher answers (04 R112, R113; 19 R490): opening a sealed text
under the same key, vector and header gives the text, and a message under its own tag is accepted. -/

namespace Sys2Proof.Machine

@[simp] theorem fixLen_length (n : Nat) (b : Bytes) : (fixLen n b).length = n := by simp [fixLen]

@[simp] theorem gmacTag_length (key iv m : Bytes) : (gmacTag key iv m).length = 16 := fixLen_length _ _

@[simp] theorem gcmTag_length (key iv aad c : Bytes) : (gcmTag key iv aad c).length = 16 := fixLen_length _ _

@[simp] theorem gcmXor_length (key iv b : Bytes) : (gcmXor key iv b).length = b.length := by simp [gcmXor]

@[simp] theorem gcmSeal_length (key iv aad p : Bytes) : (gcmSeal key iv aad p).length = p.length + 16 := by simp [gcmSeal]

/-- A keystream of the text's length, applied twice, gives the text. -/
theorem zipWith_xor_twice (b k : Bytes) (h : b.length ≤ k.length) :
    List.zipWith (fun x y => x ^^^ y) (List.zipWith (fun x y => x ^^^ y) b k) k = b := by
  induction b generalizing k with
  | nil => simp
  | cons x b ih =>
    cases k with
    | nil => simp at h
    | cons y k => simp [BitVec.xor_assoc, ih k (by simpa using h)]

theorem gcmXor_twice (key iv b : Bytes) : gcmXor key iv (gcmXor key iv b) = b := by
  show List.zipWith _ (gcmXor key iv b) (fixLen (gcmXor key iv b).length (Config.gcmStream key iv (gcmXor key iv b).length)) = b
  rw [gcmXor_length]
  exact zipWith_xor_twice b _ (by simp)

/-- What is sealed opens to the text. -/
theorem gcmOpen_gcmSeal (key iv aad p : Bytes) : gcmOpen key iv aad (gcmSeal key iv aad p) = some p := by
  have hl : (gcmXor key iv p ++ gcmTag key iv aad (gcmXor key iv p)).length - 16 = (gcmXor key iv p).length := by simp
  simp only [gcmOpen, gcmSeal, hl, List.take_left', List.drop_left', gcmXor_twice]
  simp

/-- A slice that lies in the first part of a text. -/
theorem slice_append (a b : Bytes) (off len : Nat) (h : off + len ≤ a.length) : slice (a ++ b) off len = slice a off len := by
  have e : ((a ++ b).drop off).take len = (a.drop off).take len := by
    rw [List.drop_append_of_le_length (by omega), List.take_append_of_le_length (by simp; omega)]
  simp [slice, e]

/-- The middle part of a text. -/
theorem slice_mid (a x y : Bytes) : slice (a ++ (x ++ y)) a.length x.length = x := by simp [slice]

/-- A management message under a 16-byte tag is read as it stands. -/
theorem parseMgmt_tagged (head tag : Bytes) (h : head.length = 16 + beNat (slice head 14 2)) (ht : tag.length = 16) :
    parseMgmt (head ++ tag) = some {
      session := beNat (slice head 0 4), counter := beNat (slice head 4 8), type := beNat (slice head 12 1), count := beNat (slice head 13 1),
      body := slice head 16 (beNat (slice head 14 2)), head := head, tag := tag } := by
  have s0 : ∀ off len, off + len ≤ 16 → slice (head ++ tag) off len = slice head off len := fun off len hh =>
    slice_append head tag off len (by omega)
  have hd : (head ++ tag).take (16 + beNat (slice head 14 2)) = head := by rw [← h]; simp
  have tg : slice (head ++ tag) (16 + beNat (slice head 14 2)) 16 = tag := by 
    rw [← h]; simp [slice, ht, List.take_of_length_le]
  have bd : slice (head ++ tag) 16 (beNat (slice head 14 2)) = slice head 16 (beNat (slice head 14 2)) :=
    slice_append head tag 16 _ (by omega)
  have ll : (head ++ tag).length = 32 + beNat (slice head 14 2) := by rw [List.length_append]; omega
  simp only [parseMgmt, s0 14 2 (by omega), s0 0 4 (by omega), s0 4 8 (by omega), s0 12 1 (by omega), s0 13 1 (by omega), hd, tg, bd, ll,
    if_true]

/-- A message of an open session with a fresh counter is accepted under its tag (04 R113). -/
theorem mgmtAccept_tagged (s : State) (head : Bytes) (x : OmnarSession) (h : head.length = 16 + beNat (slice head 14 2))
    (hx : s.omnarOf (beNat (slice head 0 4)) = some x) (hf : x.fresh (beNat (slice head 4 8)) = true) :
    ∃ m y, s.mgmtAccept (head ++ gmacTag x.key (beBytes 4 (beNat (slice head 0 4)) ++ beBytes 8 (beNat (slice head 4 8))) head) = some (m, y)
      ∧ m.type = beNat (slice head 12 1) := by
  simp [State.mgmtAccept, parseMgmt_tagged head _ h (gmacTag_length _ _ _), hx, hf]

/-- A record sealed under the session's key and counter opens to its body (19 R490). -/
theorem ivOpen_sealed (s : State) (hdr p : Bytes) (hh : hdr.length = 4) (hp : p.length = beNat (slice hdr 0 2))
    (hv : leNat (slice hdr 3 1) = 0) (hl : p.length ≤ 16384) :
    s.ivOpen (hdr ++ gcmSeal s.disp.ivpasto.key (ivIv 1 s.disp.ivpasto.inCounter) hdr p) = some p := by
  have tk : ∀ r : Bytes, (hdr ++ r).take 4 = hdr := fun r => by rw [← hh]; simp
  have dr : ∀ r : Bytes, (hdr ++ r).drop 4 = r := fun r => by rw [← hh]; simp
  simp only [State.ivOpen, slice_append hdr _ 0 2 (by omega), slice_append hdr _ 3 1 (by omega), hv, ← hp, tk, dr, gcmOpen_gcmSeal]
  rw [if_pos]
  simp; omega

end Sys2Proof.Machine
end

