-- ==== Sys2Proof/Laws/Commands.lean ====
section
/-! SUPPORT. What a submitted command comes to, by the dispatcher's cases. -/

namespace Sys2Proof.Machine

/-- The next fetch number does not depend on the instant. -/
@[simp] theorem entryFor_advance (s : State) (t op : Nat) (c : Cmd) : (s.advance t).entryFor op c = s.entryFor op c := rfl

/-- A command that comes to its checks at once is dispatched in the state `arrived` names. -/
theorem submit_of_reaches {k : CmdSpec} {t : Nat} {c : Cmd} {s : State} (h : k.reaches t c s = true) :
    k.submit c (s.advance t) =
      match k.refusal (s.entryFor k.op c) (s.arrived k.op t c) with
      | some st => (s.arrived k.op t c).complete (s.entryFor k.op c) st 0 []
      | none => k.act (s.entryFor k.op c) (s.arrived k.op t c) := by
  simp only [CmdSpec.reaches, Bool.and_eq_true, Bool.not_eq_true', decide_eq_true_eq] at h
  obtain ⟨⟨h1, h2⟩, h3⟩ := h
  simp only [CmdSpec.submit, h1, h2, not_true_eq_false, if_false]
  rw [if_neg (by simp), if_pos h3]
  rfl

/-- A command that fails a check completes with that status and does nothing else. -/
theorem submit_of_refusal {k : CmdSpec} {t : Nat} {c : Cmd} {s : State} {st : Status} (h : k.reaches t c s = true)
    (h2 : k.refusal (s.entryFor k.op c) (s.arrived k.op t c) = some st) :
    k.submit c (s.advance t) = (s.arrived k.op t c).complete (s.entryFor k.op c) st 0 [] := by
  rw [submit_of_reaches h, h2]

/-- A command that passes its checks acts. -/
theorem submit_of_passes {k : CmdSpec} {t : Nat} {c : Cmd} {s : State} (h : k.passes t c s = true) :
    k.submit c (s.advance t) = k.act (s.entryFor k.op c) (s.arrived k.op t c) := by
  simp only [CmdSpec.passes, Bool.and_eq_true, Option.isNone_iff_eq_none] at h
  rw [submit_of_reaches h.1, h.2]

/-- A taken command does its action in the state `arrived` names. -/
theorem submit_of_taken {k : CmdSpec} {t : Nat} {c : Cmd} {s : State} (h : k.taken t c s = true) :
    k.submit c (s.advance t) =
      (s.arrived k.op t c).finish (s.entryFor k.op c) (k.run (s.entryFor k.op c) (s.arrived k.op t c)) := by
  simp only [CmdSpec.taken, Bool.and_eq_true] at h
  rw [submit_of_passes h.1]
  have h2 := h.2
  simp only [CmdSpec.actsNow] at h2
  unfold CmdSpec.act
  have e1 : (s.entryFor k.op c).cmd = c := rfl
  rw [e1]
  cases ho : k.owner (s.arrived k.op t c) c with
  | none => rfl
  | some o =>
    simp only [ho, Bool.and_eq_true, Bool.not_eq_true'] at h2
    simp [h2.1.1, h2.1.2, h2.2]

/-- A reply S_OK completes in the state it names. -/
@[simp] theorem finish_ok (e : Entry) (s u : State) : s.finish e (.ok u) = u.complete e .sOk 0 [] := rfl

/-- A reply with a block completes with the block's length as `RESULT`. -/
@[simp] theorem finish_long (e : Entry) (s u : State) (b : Bytes) :
    s.finish e (.long b u) = u.complete e .sOk b.length b := rfl

/-- A later completion leaves the state the action names. -/
@[simp] theorem finish_later (e : Entry) (s u : State) : s.finish e (.later u) = u := rfl

/-- A refusal completes in the state the command found. -/
theorem finish_refuse (e : Entry) (s u : State) (st : Status) (h : st ≠ .sOk) :
    s.finish e (.refuse st u) = s.complete e st 0 [] := by
  cases st <;> first | rfl | exact absurd rfl h

/-- What every check of 04 R105 says of a command that passes them. -/
theorem refusal_none {k : CmdSpec} {e : Entry} {s : State} (h : k.refusal e s = none) :
    (e.cmd.entryWellFormed && e.cmd.reservedOk (k.layout e.cmd) && k.form s e.cmd && !(k.long e.cmd && e.cmd.onHost && !e.cmd.indirect))
        = true
      ∧ s.tagInUse e = false ∧ (k.route e.cmd && s.rolesAllow k.op e.cmd) = true ∧ k.target s e.cmd = true
      ∧ (k.needsSession s e.cmd && !(s.sessionValid e.cmd)) = false
      ∧ (s.standbyRole && ((k.owner s e.cmd).isSome || (e.cmd.tgtClass == 0x03 && k.op != 0x0303))) = false
      ∧ k.params s e.cmd = true ∧ k.check s e.cmd = .sOk := by
  unfold CmdSpec.refusal at h
  simp only at h
  split at h
  · cases h
  split at h
  · cases h
  split at h
  · cases h
  split at h
  · cases h
  split at h
  · cases h
  split at h
  · cases h
  split at h
  · cases h
  split at h
  · cases h
  rename_i h1 h2 h3 h4 h5 h6 h7 h8
  simp only [Bool.not_eq_true, Bool.not_eq_false, ne_eq, Decidable.not_not] at h1 h2 h3 h4 h5 h6 h7 h8
  exact ⟨h1, h2, h3, h4, h5, h7, h6, h8⟩

/-- A command that passes meets what its own kind asks. -/
theorem passes_kind {k : CmdSpec} {t : Nat} {c : Cmd} {s : State} (h : k.passes t c s = true) :
    k.form (s.arrived k.op t c) c = true ∧ k.route c = true ∧ k.target (s.arrived k.op t c) c = true
      ∧ k.params (s.arrived k.op t c) c = true ∧ k.check (s.arrived k.op t c) c = .sOk := by
  simp only [CmdSpec.passes, Bool.and_eq_true, Option.isNone_iff_eq_none] at h
  obtain ⟨h1, _, h3, h4, _, _, h7, h8⟩ := refusal_none h.2
  simp only [Bool.and_eq_true] at h1 h3
  exact ⟨h1.1.2, h3.1, h4, h7, h8⟩

/-- A taken command meets what its own kind asks. -/
theorem taken_kind {k : CmdSpec} {t : Nat} {c : Cmd} {s : State} (h : k.taken t c s = true) :
    k.form (s.arrived k.op t c) c = true ∧ k.route c = true ∧ k.target (s.arrived k.op t c) c = true
      ∧ k.params (s.arrived k.op t c) c = true ∧ k.check (s.arrived k.op t c) c = .sOk := by
  simp only [CmdSpec.taken, Bool.and_eq_true] at h
  exact passes_kind h.1

end Sys2Proof.Machine
end

