-- ==== Sys2Proof/Laws/Float.lean ====
section
/-! SUPPORT. The free NaN patterns are NaNs, whatever their sign and payload. -/

namespace Sys2Proof.Machine

theorem isNan_of_fields (f : Fmt) (b m : Nat) (hm : m ≠ 0) (h1 : b % 2 ^ f.mb = m)
    (h2 : bitsOf b (f.eb + f.mb - 1) f.mb = 2 ^ f.eb - 1) : f.isNan b = true := by
  simp [Fmt.isNan, Fmt.decode, h1, h2, hm]

/-- A free NaN of REAL is a NaN. -/
@[simp] theorem f32_isNan_nanOf (k : Nat) (xs : List Nat) : f32.isNan (f32.nanOf k xs) = true := by
  have key : ∀ (b : Bool) (p : Nat), p < 8388607 →
      f32.isNan ((if b then 2147483648 else 0) + 2139095040 + 1 + p) = true := by
    intro b p hp
    refine isNan_of_fields _ _ (1 + p) (by omega) ?_ ?_ <;> cases b <;> simp [f32, bitsOf] <;> omega
  exact key (Config.nanBits k f32.mb xs % 2 == 1) (Config.nanBits k f32.mb xs / 2 % 8388607) (Nat.mod_lt _ (by decide))

/-- A free NaN of LREAL is a NaN. -/
@[simp] theorem f64_isNan_nanOf (k : Nat) (xs : List Nat) : f64.isNan (f64.nanOf k xs) = true := by
  have key : ∀ (b : Bool) (p : Nat), p < 4503599627370495 →
      f64.isNan ((if b then 9223372036854775808 else 0) + 9218868437227405312 + 1 + p) = true := by
    intro b p hp
    refine isNan_of_fields _ _ (1 + p) (by omega) ?_ ?_ <;> cases b <;> simp [f64, bitsOf] <;> omega
  exact key (Config.nanBits k f64.mb xs % 2 == 1) (Config.nanBits k f64.mb xs / 2 % 4503599627370495) (Nat.mod_lt _ (by decide))

end Sys2Proof.Machine
end

