-- ==== Sys2Proof/Laws/State.lean ====
section
/-! SUPPORT. What an update of the state leaves alone, field by field: no later proof unfolds a record update. -/

namespace Sys2Proof.Machine

/-! ## `advance` -/

@[simp] theorem State.advance_free (t : Nat) (s : State) : (s.advance t).free = s.free := rfl
@[simp] theorem State.advance_cfg (t : Nat) (s : State) : (s.advance t).cfg = s.cfg := rfl
@[simp] theorem State.advance_power (t : Nat) (s : State) : (s.advance t).power = s.power := rfl
@[simp] theorem State.advance_cocoon (t : Nat) (s : State) : (s.advance t).cocoon = s.cocoon := rfl
@[simp] theorem State.advance_host (t : Nat) (s : State) : (s.advance t).host = s.host := rfl
@[simp] theorem State.advance_disp (t : Nat) (s : State) : (s.advance t).disp = s.disp := rfl
@[simp] theorem State.advance_mail (t : Nat) (s : State) : (s.advance t).mail = s.mail := rfl
@[simp] theorem State.advance_inControl (t : Nat) (s : State) : (s.advance t).inControl = s.inControl := rfl
@[simp] theorem State.advance_inData (t : Nat) (s : State) : (s.advance t).inData = s.inData := rfl
@[simp] theorem State.advance_inManagement (t : Nat) (s : State) : (s.advance t).inManagement = s.inManagement := rfl
@[simp] theorem State.advance_recorder (t : Nat) (s : State) : (s.advance t).recorder = s.recorder := rfl
@[simp] theorem State.advance_session (t : Nat) (s : State) : (s.advance t).session = s.session := rfl
@[simp] theorem State.advance_cred (t : Nat) (s : State) : (s.advance t).cred = s.cred := rfl
@[simp] theorem State.advance_safeLog (t : Nat) (s : State) : (s.advance t).safeLog = s.safeLog := rfl
@[simp] theorem State.advance_faults (t : Nat) (s : State) : (s.advance t).faults = s.faults := rfl
@[simp] theorem State.advance_tasks (t : Nat) (s : State) : (s.advance t).tasks = s.tasks := rfl
@[simp] theorem State.advance_cores (t : Nat) (s : State) : (s.advance t).cores = s.cores := rfl
@[simp] theorem State.advance_prog (t : Nat) (s : State) : (s.advance t).prog = s.prog := rfl
@[simp] theorem State.advance_loops (t : Nat) (s : State) : (s.advance t).loops = s.loops := rfl
@[simp] theorem State.advance_ac (t : Nat) (s : State) : (s.advance t).ac = s.ac := rfl
@[simp] theorem State.advance_modems (t : Nat) (s : State) : (s.advance t).modems = s.modems := rfl
@[simp] theorem State.advance_hart (t : Nat) (s : State) : (s.advance t).hart = s.hart := rfl
@[simp] theorem State.advance_dc (t : Nat) (s : State) : (s.advance t).dc = s.dc := rfl
@[simp] theorem State.advance_dcGroups (t : Nat) (s : State) : (s.advance t).dcGroups = s.dcGroups := rfl
@[simp] theorem State.advance_dcCommon (t : Nat) (s : State) : (s.advance t).dcCommon = s.dcCommon := rfl
@[simp] theorem State.advance_dcCommonAck (t : Nat) (s : State) : (s.advance t).dcCommonAck = s.dcCommonAck := rfl
@[simp] theorem State.advance_so (t : Nat) (s : State) : (s.advance t).so = s.so := rfl
@[simp] theorem State.advance_sv (t : Nat) (s : State) : (s.advance t).sv = s.sv := rfl
@[simp] theorem State.advance_aiPairs (t : Nat) (s : State) : (s.advance t).aiPairs = s.aiPairs := rfl
@[simp] theorem State.advance_triggers (t : Nat) (s : State) : (s.advance t).triggers = s.triggers := rfl
@[simp] theorem State.advance_axes (t : Nat) (s : State) : (s.advance t).axes = s.axes := rfl
@[simp] theorem State.advance_rtc (t : Nat) (s : State) : (s.advance t).rtc = s.rtc := rfl
@[simp] theorem State.advance_bases (t : Nat) (s : State) : (s.advance t).bases = s.bases := rfl
@[simp] theorem State.advance_pgs (t : Nat) (s : State) : (s.advance t).pgs = s.pgs := rfl
@[simp] theorem State.advance_pis (t : Nat) (s : State) : (s.advance t).pis = s.pis := rfl
@[simp] theorem State.advance_net (t : Nat) (s : State) : (s.advance t).net = s.net := rfl
@[simp] theorem State.advance_tx (t : Nat) (s : State) : (s.advance t).tx = s.tx := rfl
@[simp] theorem State.advance_cans (t : Nat) (s : State) : (s.advance t).cans = s.cans := rfl
@[simp] theorem State.advance_cus (t : Nat) (s : State) : (s.advance t).cus = s.cus := rfl
@[simp] theorem State.advance_pair (t : Nat) (s : State) : (s.advance t).pair = s.pair := rfl
@[simp] theorem State.advance_upd (t : Nat) (s : State) : (s.advance t).upd = s.upd := rfl
@[simp] theorem State.advance_panel (t : Nat) (s : State) : (s.advance t).panel = s.panel := rfl
@[simp] theorem State.advance_sent (t : Nat) (s : State) : (s.advance t).sent = s.sent := rfl
@[simp] theorem State.advance_pending (t : Nat) (s : State) : (s.advance t).pending = s.pending := rfl

/-! ## `setParam` -/

@[simp] theorem State.setParam_tb0 (p : Param) (i v : Nat) (s : State) : (s.setParam p i v).tb0 = s.tb0 := rfl
@[simp] theorem State.setParam_free (p : Param) (i v : Nat) (s : State) : (s.setParam p i v).free = s.free := rfl
@[simp] theorem State.setParam_power (p : Param) (i v : Nat) (s : State) : (s.setParam p i v).power = s.power := rfl
@[simp] theorem State.setParam_cocoon (p : Param) (i v : Nat) (s : State) : (s.setParam p i v).cocoon = s.cocoon := rfl
@[simp] theorem State.setParam_host (p : Param) (i v : Nat) (s : State) : (s.setParam p i v).host = s.host := rfl
@[simp] theorem State.setParam_disp (p : Param) (i v : Nat) (s : State) : (s.setParam p i v).disp = s.disp := rfl
@[simp] theorem State.setParam_mail (p : Param) (i v : Nat) (s : State) : (s.setParam p i v).mail = s.mail := rfl
@[simp] theorem State.setParam_inControl (p : Param) (i v : Nat) (s : State) : (s.setParam p i v).inControl = s.inControl := rfl
@[simp] theorem State.setParam_inData (p : Param) (i v : Nat) (s : State) : (s.setParam p i v).inData = s.inData := rfl
@[simp] theorem State.setParam_inManagement (p : Param) (i v : Nat) (s : State) : (s.setParam p i v).inManagement = s.inManagement := rfl
@[simp] theorem State.setParam_recorder (p : Param) (i v : Nat) (s : State) : (s.setParam p i v).recorder = s.recorder := rfl
@[simp] theorem State.setParam_session (p : Param) (i v : Nat) (s : State) : (s.setParam p i v).session = s.session := rfl
@[simp] theorem State.setParam_cred (p : Param) (i v : Nat) (s : State) : (s.setParam p i v).cred = s.cred := rfl
@[simp] theorem State.setParam_safeLog (p : Param) (i v : Nat) (s : State) : (s.setParam p i v).safeLog = s.safeLog := rfl
@[simp] theorem State.setParam_faults (p : Param) (i v : Nat) (s : State) : (s.setParam p i v).faults = s.faults := rfl
@[simp] theorem State.setParam_tasks (p : Param) (i v : Nat) (s : State) : (s.setParam p i v).tasks = s.tasks := rfl
@[simp] theorem State.setParam_cores (p : Param) (i v : Nat) (s : State) : (s.setParam p i v).cores = s.cores := rfl
@[simp] theorem State.setParam_prog (p : Param) (i v : Nat) (s : State) : (s.setParam p i v).prog = s.prog := rfl
@[simp] theorem State.setParam_loops (p : Param) (i v : Nat) (s : State) : (s.setParam p i v).loops = s.loops := rfl
@[simp] theorem State.setParam_ac (p : Param) (i v : Nat) (s : State) : (s.setParam p i v).ac = s.ac := rfl
@[simp] theorem State.setParam_modems (p : Param) (i v : Nat) (s : State) : (s.setParam p i v).modems = s.modems := rfl
@[simp] theorem State.setParam_hart (p : Param) (i v : Nat) (s : State) : (s.setParam p i v).hart = s.hart := rfl
@[simp] theorem State.setParam_dc (p : Param) (i v : Nat) (s : State) : (s.setParam p i v).dc = s.dc := rfl
@[simp] theorem State.setParam_dcGroups (p : Param) (i v : Nat) (s : State) : (s.setParam p i v).dcGroups = s.dcGroups := rfl
@[simp] theorem State.setParam_dcCommon (p : Param) (i v : Nat) (s : State) : (s.setParam p i v).dcCommon = s.dcCommon := rfl
@[simp] theorem State.setParam_dcCommonAck (p : Param) (i v : Nat) (s : State) : (s.setParam p i v).dcCommonAck = s.dcCommonAck := rfl
@[simp] theorem State.setParam_so (p : Param) (i v : Nat) (s : State) : (s.setParam p i v).so = s.so := rfl
@[simp] theorem State.setParam_sv (p : Param) (i v : Nat) (s : State) : (s.setParam p i v).sv = s.sv := rfl
@[simp] theorem State.setParam_aiPairs (p : Param) (i v : Nat) (s : State) : (s.setParam p i v).aiPairs = s.aiPairs := rfl
@[simp] theorem State.setParam_triggers (p : Param) (i v : Nat) (s : State) : (s.setParam p i v).triggers = s.triggers := rfl
@[simp] theorem State.setParam_axes (p : Param) (i v : Nat) (s : State) : (s.setParam p i v).axes = s.axes := rfl
@[simp] theorem State.setParam_rtc (p : Param) (i v : Nat) (s : State) : (s.setParam p i v).rtc = s.rtc := rfl
@[simp] theorem State.setParam_bases (p : Param) (i v : Nat) (s : State) : (s.setParam p i v).bases = s.bases := rfl
@[simp] theorem State.setParam_pgs (p : Param) (i v : Nat) (s : State) : (s.setParam p i v).pgs = s.pgs := rfl
@[simp] theorem State.setParam_pis (p : Param) (i v : Nat) (s : State) : (s.setParam p i v).pis = s.pis := rfl
@[simp] theorem State.setParam_net (p : Param) (i v : Nat) (s : State) : (s.setParam p i v).net = s.net := rfl
@[simp] theorem State.setParam_tx (p : Param) (i v : Nat) (s : State) : (s.setParam p i v).tx = s.tx := rfl
@[simp] theorem State.setParam_cans (p : Param) (i v : Nat) (s : State) : (s.setParam p i v).cans = s.cans := rfl
@[simp] theorem State.setParam_cus (p : Param) (i v : Nat) (s : State) : (s.setParam p i v).cus = s.cus := rfl
@[simp] theorem State.setParam_pair (p : Param) (i v : Nat) (s : State) : (s.setParam p i v).pair = s.pair := rfl
@[simp] theorem State.setParam_upd (p : Param) (i v : Nat) (s : State) : (s.setParam p i v).upd = s.upd := rfl
@[simp] theorem State.setParam_panel (p : Param) (i v : Nat) (s : State) : (s.setParam p i v).panel = s.panel := rfl
@[simp] theorem State.setParam_sent (p : Param) (i v : Nat) (s : State) : (s.setParam p i v).sent = s.sent := rfl
@[simp] theorem State.setParam_pending (p : Param) (i v : Nat) (s : State) : (s.setParam p i v).pending = s.pending := rfl

/-! ## `afterDraw` -/

@[simp] theorem State.afterDraw_tb0 (s : State) : (s.afterDraw).tb0 = s.tb0 := rfl
@[simp] theorem State.afterDraw_cfg (s : State) : (s.afterDraw).cfg = s.cfg := rfl
@[simp] theorem State.afterDraw_power (s : State) : (s.afterDraw).power = s.power := rfl
@[simp] theorem State.afterDraw_cocoon (s : State) : (s.afterDraw).cocoon = s.cocoon := rfl
@[simp] theorem State.afterDraw_host (s : State) : (s.afterDraw).host = s.host := rfl
@[simp] theorem State.afterDraw_disp (s : State) : (s.afterDraw).disp = s.disp := rfl
@[simp] theorem State.afterDraw_mail (s : State) : (s.afterDraw).mail = s.mail := rfl
@[simp] theorem State.afterDraw_inControl (s : State) : (s.afterDraw).inControl = s.inControl := rfl
@[simp] theorem State.afterDraw_inData (s : State) : (s.afterDraw).inData = s.inData := rfl
@[simp] theorem State.afterDraw_inManagement (s : State) : (s.afterDraw).inManagement = s.inManagement := rfl
@[simp] theorem State.afterDraw_recorder (s : State) : (s.afterDraw).recorder = s.recorder := rfl
@[simp] theorem State.afterDraw_session (s : State) : (s.afterDraw).session = s.session := rfl
@[simp] theorem State.afterDraw_cred (s : State) : (s.afterDraw).cred = s.cred := rfl
@[simp] theorem State.afterDraw_safeLog (s : State) : (s.afterDraw).safeLog = s.safeLog := rfl
@[simp] theorem State.afterDraw_faults (s : State) : (s.afterDraw).faults = s.faults := rfl
@[simp] theorem State.afterDraw_tasks (s : State) : (s.afterDraw).tasks = s.tasks := rfl
@[simp] theorem State.afterDraw_cores (s : State) : (s.afterDraw).cores = s.cores := rfl
@[simp] theorem State.afterDraw_prog (s : State) : (s.afterDraw).prog = s.prog := rfl
@[simp] theorem State.afterDraw_loops (s : State) : (s.afterDraw).loops = s.loops := rfl
@[simp] theorem State.afterDraw_ac (s : State) : (s.afterDraw).ac = s.ac := rfl
@[simp] theorem State.afterDraw_modems (s : State) : (s.afterDraw).modems = s.modems := rfl
@[simp] theorem State.afterDraw_hart (s : State) : (s.afterDraw).hart = s.hart := rfl
@[simp] theorem State.afterDraw_dc (s : State) : (s.afterDraw).dc = s.dc := rfl
@[simp] theorem State.afterDraw_dcGroups (s : State) : (s.afterDraw).dcGroups = s.dcGroups := rfl
@[simp] theorem State.afterDraw_dcCommon (s : State) : (s.afterDraw).dcCommon = s.dcCommon := rfl
@[simp] theorem State.afterDraw_dcCommonAck (s : State) : (s.afterDraw).dcCommonAck = s.dcCommonAck := rfl
@[simp] theorem State.afterDraw_so (s : State) : (s.afterDraw).so = s.so := rfl
@[simp] theorem State.afterDraw_sv (s : State) : (s.afterDraw).sv = s.sv := rfl
@[simp] theorem State.afterDraw_aiPairs (s : State) : (s.afterDraw).aiPairs = s.aiPairs := rfl
@[simp] theorem State.afterDraw_triggers (s : State) : (s.afterDraw).triggers = s.triggers := rfl
@[simp] theorem State.afterDraw_axes (s : State) : (s.afterDraw).axes = s.axes := rfl
@[simp] theorem State.afterDraw_rtc (s : State) : (s.afterDraw).rtc = s.rtc := rfl
@[simp] theorem State.afterDraw_bases (s : State) : (s.afterDraw).bases = s.bases := rfl
@[simp] theorem State.afterDraw_pgs (s : State) : (s.afterDraw).pgs = s.pgs := rfl
@[simp] theorem State.afterDraw_pis (s : State) : (s.afterDraw).pis = s.pis := rfl
@[simp] theorem State.afterDraw_net (s : State) : (s.afterDraw).net = s.net := rfl
@[simp] theorem State.afterDraw_tx (s : State) : (s.afterDraw).tx = s.tx := rfl
@[simp] theorem State.afterDraw_cans (s : State) : (s.afterDraw).cans = s.cans := rfl
@[simp] theorem State.afterDraw_cus (s : State) : (s.afterDraw).cus = s.cus := rfl
@[simp] theorem State.afterDraw_pair (s : State) : (s.afterDraw).pair = s.pair := rfl
@[simp] theorem State.afterDraw_upd (s : State) : (s.afterDraw).upd = s.upd := rfl
@[simp] theorem State.afterDraw_panel (s : State) : (s.afterDraw).panel = s.panel := rfl
@[simp] theorem State.afterDraw_sent (s : State) : (s.afterDraw).sent = s.sent := rfl
@[simp] theorem State.afterDraw_pending (s : State) : (s.afterDraw).pending = s.pending := rfl

/-! ## `hostWrite` -/

@[simp] theorem State.hostWrite_tb0 (a : Nat) (b : Bytes) (s : State) : (s.hostWrite a b).tb0 = s.tb0 := rfl
@[simp] theorem State.hostWrite_free (a : Nat) (b : Bytes) (s : State) : (s.hostWrite a b).free = s.free := rfl
@[simp] theorem State.hostWrite_cfg (a : Nat) (b : Bytes) (s : State) : (s.hostWrite a b).cfg = s.cfg := rfl
@[simp] theorem State.hostWrite_power (a : Nat) (b : Bytes) (s : State) : (s.hostWrite a b).power = s.power := rfl
@[simp] theorem State.hostWrite_cocoon (a : Nat) (b : Bytes) (s : State) : (s.hostWrite a b).cocoon = s.cocoon := rfl
@[simp] theorem State.hostWrite_disp (a : Nat) (b : Bytes) (s : State) : (s.hostWrite a b).disp = s.disp := rfl
@[simp] theorem State.hostWrite_mail (a : Nat) (b : Bytes) (s : State) : (s.hostWrite a b).mail = s.mail := rfl
@[simp] theorem State.hostWrite_inControl (a : Nat) (b : Bytes) (s : State) : (s.hostWrite a b).inControl = s.inControl := rfl
@[simp] theorem State.hostWrite_inData (a : Nat) (b : Bytes) (s : State) : (s.hostWrite a b).inData = s.inData := rfl
@[simp] theorem State.hostWrite_inManagement (a : Nat) (b : Bytes) (s : State) : (s.hostWrite a b).inManagement = s.inManagement := rfl
@[simp] theorem State.hostWrite_recorder (a : Nat) (b : Bytes) (s : State) : (s.hostWrite a b).recorder = s.recorder := rfl
@[simp] theorem State.hostWrite_session (a : Nat) (b : Bytes) (s : State) : (s.hostWrite a b).session = s.session := rfl
@[simp] theorem State.hostWrite_cred (a : Nat) (b : Bytes) (s : State) : (s.hostWrite a b).cred = s.cred := rfl
@[simp] theorem State.hostWrite_safeLog (a : Nat) (b : Bytes) (s : State) : (s.hostWrite a b).safeLog = s.safeLog := rfl
@[simp] theorem State.hostWrite_faults (a : Nat) (b : Bytes) (s : State) : (s.hostWrite a b).faults = s.faults := rfl
@[simp] theorem State.hostWrite_tasks (a : Nat) (b : Bytes) (s : State) : (s.hostWrite a b).tasks = s.tasks := rfl
@[simp] theorem State.hostWrite_cores (a : Nat) (b : Bytes) (s : State) : (s.hostWrite a b).cores = s.cores := rfl
@[simp] theorem State.hostWrite_prog (a : Nat) (b : Bytes) (s : State) : (s.hostWrite a b).prog = s.prog := rfl
@[simp] theorem State.hostWrite_loops (a : Nat) (b : Bytes) (s : State) : (s.hostWrite a b).loops = s.loops := rfl
@[simp] theorem State.hostWrite_ac (a : Nat) (b : Bytes) (s : State) : (s.hostWrite a b).ac = s.ac := rfl
@[simp] theorem State.hostWrite_modems (a : Nat) (b : Bytes) (s : State) : (s.hostWrite a b).modems = s.modems := rfl
@[simp] theorem State.hostWrite_hart (a : Nat) (b : Bytes) (s : State) : (s.hostWrite a b).hart = s.hart := rfl
@[simp] theorem State.hostWrite_dc (a : Nat) (b : Bytes) (s : State) : (s.hostWrite a b).dc = s.dc := rfl
@[simp] theorem State.hostWrite_dcGroups (a : Nat) (b : Bytes) (s : State) : (s.hostWrite a b).dcGroups = s.dcGroups := rfl
@[simp] theorem State.hostWrite_dcCommon (a : Nat) (b : Bytes) (s : State) : (s.hostWrite a b).dcCommon = s.dcCommon := rfl
@[simp] theorem State.hostWrite_dcCommonAck (a : Nat) (b : Bytes) (s : State) : (s.hostWrite a b).dcCommonAck = s.dcCommonAck := rfl
@[simp] theorem State.hostWrite_so (a : Nat) (b : Bytes) (s : State) : (s.hostWrite a b).so = s.so := rfl
@[simp] theorem State.hostWrite_sv (a : Nat) (b : Bytes) (s : State) : (s.hostWrite a b).sv = s.sv := rfl
@[simp] theorem State.hostWrite_aiPairs (a : Nat) (b : Bytes) (s : State) : (s.hostWrite a b).aiPairs = s.aiPairs := rfl
@[simp] theorem State.hostWrite_triggers (a : Nat) (b : Bytes) (s : State) : (s.hostWrite a b).triggers = s.triggers := rfl
@[simp] theorem State.hostWrite_axes (a : Nat) (b : Bytes) (s : State) : (s.hostWrite a b).axes = s.axes := rfl
@[simp] theorem State.hostWrite_rtc (a : Nat) (b : Bytes) (s : State) : (s.hostWrite a b).rtc = s.rtc := rfl
@[simp] theorem State.hostWrite_bases (a : Nat) (b : Bytes) (s : State) : (s.hostWrite a b).bases = s.bases := rfl
@[simp] theorem State.hostWrite_pgs (a : Nat) (b : Bytes) (s : State) : (s.hostWrite a b).pgs = s.pgs := rfl
@[simp] theorem State.hostWrite_pis (a : Nat) (b : Bytes) (s : State) : (s.hostWrite a b).pis = s.pis := rfl
@[simp] theorem State.hostWrite_net (a : Nat) (b : Bytes) (s : State) : (s.hostWrite a b).net = s.net := rfl
@[simp] theorem State.hostWrite_tx (a : Nat) (b : Bytes) (s : State) : (s.hostWrite a b).tx = s.tx := rfl
@[simp] theorem State.hostWrite_cans (a : Nat) (b : Bytes) (s : State) : (s.hostWrite a b).cans = s.cans := rfl
@[simp] theorem State.hostWrite_cus (a : Nat) (b : Bytes) (s : State) : (s.hostWrite a b).cus = s.cus := rfl
@[simp] theorem State.hostWrite_pair (a : Nat) (b : Bytes) (s : State) : (s.hostWrite a b).pair = s.pair := rfl
@[simp] theorem State.hostWrite_upd (a : Nat) (b : Bytes) (s : State) : (s.hostWrite a b).upd = s.upd := rfl
@[simp] theorem State.hostWrite_panel (a : Nat) (b : Bytes) (s : State) : (s.hostWrite a b).panel = s.panel := rfl
@[simp] theorem State.hostWrite_sent (a : Nat) (b : Bytes) (s : State) : (s.hostWrite a b).sent = s.sent := rfl
@[simp] theorem State.hostWrite_pending (a : Nat) (b : Bytes) (s : State) : (s.hostWrite a b).pending = s.pending := rfl

/-! ## `setRing` -/

@[simp] theorem State.setRing_tb0 (k : Nat) (r : Ring) (s : State) : (s.setRing k r).tb0 = s.tb0 := rfl
@[simp] theorem State.setRing_free (k : Nat) (r : Ring) (s : State) : (s.setRing k r).free = s.free := rfl
@[simp] theorem State.setRing_cfg (k : Nat) (r : Ring) (s : State) : (s.setRing k r).cfg = s.cfg := rfl
@[simp] theorem State.setRing_power (k : Nat) (r : Ring) (s : State) : (s.setRing k r).power = s.power := rfl
@[simp] theorem State.setRing_cocoon (k : Nat) (r : Ring) (s : State) : (s.setRing k r).cocoon = s.cocoon := rfl
@[simp] theorem State.setRing_disp (k : Nat) (r : Ring) (s : State) : (s.setRing k r).disp = s.disp := rfl
@[simp] theorem State.setRing_mail (k : Nat) (r : Ring) (s : State) : (s.setRing k r).mail = s.mail := rfl
@[simp] theorem State.setRing_inControl (k : Nat) (r : Ring) (s : State) : (s.setRing k r).inControl = s.inControl := rfl
@[simp] theorem State.setRing_inData (k : Nat) (r : Ring) (s : State) : (s.setRing k r).inData = s.inData := rfl
@[simp] theorem State.setRing_inManagement (k : Nat) (r : Ring) (s : State) : (s.setRing k r).inManagement = s.inManagement := rfl
@[simp] theorem State.setRing_recorder (k : Nat) (r : Ring) (s : State) : (s.setRing k r).recorder = s.recorder := rfl
@[simp] theorem State.setRing_session (k : Nat) (r : Ring) (s : State) : (s.setRing k r).session = s.session := rfl
@[simp] theorem State.setRing_cred (k : Nat) (r : Ring) (s : State) : (s.setRing k r).cred = s.cred := rfl
@[simp] theorem State.setRing_safeLog (k : Nat) (r : Ring) (s : State) : (s.setRing k r).safeLog = s.safeLog := rfl
@[simp] theorem State.setRing_faults (k : Nat) (r : Ring) (s : State) : (s.setRing k r).faults = s.faults := rfl
@[simp] theorem State.setRing_tasks (k : Nat) (r : Ring) (s : State) : (s.setRing k r).tasks = s.tasks := rfl
@[simp] theorem State.setRing_cores (k : Nat) (r : Ring) (s : State) : (s.setRing k r).cores = s.cores := rfl
@[simp] theorem State.setRing_prog (k : Nat) (r : Ring) (s : State) : (s.setRing k r).prog = s.prog := rfl
@[simp] theorem State.setRing_loops (k : Nat) (r : Ring) (s : State) : (s.setRing k r).loops = s.loops := rfl
@[simp] theorem State.setRing_ac (k : Nat) (r : Ring) (s : State) : (s.setRing k r).ac = s.ac := rfl
@[simp] theorem State.setRing_modems (k : Nat) (r : Ring) (s : State) : (s.setRing k r).modems = s.modems := rfl
@[simp] theorem State.setRing_hart (k : Nat) (r : Ring) (s : State) : (s.setRing k r).hart = s.hart := rfl
@[simp] theorem State.setRing_dc (k : Nat) (r : Ring) (s : State) : (s.setRing k r).dc = s.dc := rfl
@[simp] theorem State.setRing_dcGroups (k : Nat) (r : Ring) (s : State) : (s.setRing k r).dcGroups = s.dcGroups := rfl
@[simp] theorem State.setRing_dcCommon (k : Nat) (r : Ring) (s : State) : (s.setRing k r).dcCommon = s.dcCommon := rfl
@[simp] theorem State.setRing_dcCommonAck (k : Nat) (r : Ring) (s : State) : (s.setRing k r).dcCommonAck = s.dcCommonAck := rfl
@[simp] theorem State.setRing_so (k : Nat) (r : Ring) (s : State) : (s.setRing k r).so = s.so := rfl
@[simp] theorem State.setRing_sv (k : Nat) (r : Ring) (s : State) : (s.setRing k r).sv = s.sv := rfl
@[simp] theorem State.setRing_aiPairs (k : Nat) (r : Ring) (s : State) : (s.setRing k r).aiPairs = s.aiPairs := rfl
@[simp] theorem State.setRing_triggers (k : Nat) (r : Ring) (s : State) : (s.setRing k r).triggers = s.triggers := rfl
@[simp] theorem State.setRing_axes (k : Nat) (r : Ring) (s : State) : (s.setRing k r).axes = s.axes := rfl
@[simp] theorem State.setRing_rtc (k : Nat) (r : Ring) (s : State) : (s.setRing k r).rtc = s.rtc := rfl
@[simp] theorem State.setRing_bases (k : Nat) (r : Ring) (s : State) : (s.setRing k r).bases = s.bases := rfl
@[simp] theorem State.setRing_pgs (k : Nat) (r : Ring) (s : State) : (s.setRing k r).pgs = s.pgs := rfl
@[simp] theorem State.setRing_pis (k : Nat) (r : Ring) (s : State) : (s.setRing k r).pis = s.pis := rfl
@[simp] theorem State.setRing_net (k : Nat) (r : Ring) (s : State) : (s.setRing k r).net = s.net := rfl
@[simp] theorem State.setRing_tx (k : Nat) (r : Ring) (s : State) : (s.setRing k r).tx = s.tx := rfl
@[simp] theorem State.setRing_cans (k : Nat) (r : Ring) (s : State) : (s.setRing k r).cans = s.cans := rfl
@[simp] theorem State.setRing_cus (k : Nat) (r : Ring) (s : State) : (s.setRing k r).cus = s.cus := rfl
@[simp] theorem State.setRing_pair (k : Nat) (r : Ring) (s : State) : (s.setRing k r).pair = s.pair := rfl
@[simp] theorem State.setRing_upd (k : Nat) (r : Ring) (s : State) : (s.setRing k r).upd = s.upd := rfl
@[simp] theorem State.setRing_panel (k : Nat) (r : Ring) (s : State) : (s.setRing k r).panel = s.panel := rfl
@[simp] theorem State.setRing_sent (k : Nat) (r : Ring) (s : State) : (s.setRing k r).sent = s.sent := rfl
@[simp] theorem State.setRing_pending (k : Nat) (r : Ring) (s : State) : (s.setRing k r).pending = s.pending := rfl

/-! ## `send` -/

@[simp] theorem State.send_tb0 (m : Msg) (s : State) : (s.send m).tb0 = s.tb0 := rfl
@[simp] theorem State.send_free (m : Msg) (s : State) : (s.send m).free = s.free := rfl
@[simp] theorem State.send_cfg (m : Msg) (s : State) : (s.send m).cfg = s.cfg := rfl
@[simp] theorem State.send_power (m : Msg) (s : State) : (s.send m).power = s.power := rfl
@[simp] theorem State.send_cocoon (m : Msg) (s : State) : (s.send m).cocoon = s.cocoon := rfl
@[simp] theorem State.send_host (m : Msg) (s : State) : (s.send m).host = s.host := rfl
@[simp] theorem State.send_disp (m : Msg) (s : State) : (s.send m).disp = s.disp := rfl
@[simp] theorem State.send_mail (m : Msg) (s : State) : (s.send m).mail = s.mail := rfl
@[simp] theorem State.send_inControl (m : Msg) (s : State) : (s.send m).inControl = s.inControl := rfl
@[simp] theorem State.send_inData (m : Msg) (s : State) : (s.send m).inData = s.inData := rfl
@[simp] theorem State.send_inManagement (m : Msg) (s : State) : (s.send m).inManagement = s.inManagement := rfl
@[simp] theorem State.send_recorder (m : Msg) (s : State) : (s.send m).recorder = s.recorder := rfl
@[simp] theorem State.send_session (m : Msg) (s : State) : (s.send m).session = s.session := rfl
@[simp] theorem State.send_cred (m : Msg) (s : State) : (s.send m).cred = s.cred := rfl
@[simp] theorem State.send_safeLog (m : Msg) (s : State) : (s.send m).safeLog = s.safeLog := rfl
@[simp] theorem State.send_faults (m : Msg) (s : State) : (s.send m).faults = s.faults := rfl
@[simp] theorem State.send_tasks (m : Msg) (s : State) : (s.send m).tasks = s.tasks := rfl
@[simp] theorem State.send_cores (m : Msg) (s : State) : (s.send m).cores = s.cores := rfl
@[simp] theorem State.send_prog (m : Msg) (s : State) : (s.send m).prog = s.prog := rfl
@[simp] theorem State.send_loops (m : Msg) (s : State) : (s.send m).loops = s.loops := rfl
@[simp] theorem State.send_ac (m : Msg) (s : State) : (s.send m).ac = s.ac := rfl
@[simp] theorem State.send_modems (m : Msg) (s : State) : (s.send m).modems = s.modems := rfl
@[simp] theorem State.send_hart (m : Msg) (s : State) : (s.send m).hart = s.hart := rfl
@[simp] theorem State.send_dc (m : Msg) (s : State) : (s.send m).dc = s.dc := rfl
@[simp] theorem State.send_dcGroups (m : Msg) (s : State) : (s.send m).dcGroups = s.dcGroups := rfl
@[simp] theorem State.send_dcCommon (m : Msg) (s : State) : (s.send m).dcCommon = s.dcCommon := rfl
@[simp] theorem State.send_dcCommonAck (m : Msg) (s : State) : (s.send m).dcCommonAck = s.dcCommonAck := rfl
@[simp] theorem State.send_so (m : Msg) (s : State) : (s.send m).so = s.so := rfl
@[simp] theorem State.send_sv (m : Msg) (s : State) : (s.send m).sv = s.sv := rfl
@[simp] theorem State.send_aiPairs (m : Msg) (s : State) : (s.send m).aiPairs = s.aiPairs := rfl
@[simp] theorem State.send_triggers (m : Msg) (s : State) : (s.send m).triggers = s.triggers := rfl
@[simp] theorem State.send_axes (m : Msg) (s : State) : (s.send m).axes = s.axes := rfl
@[simp] theorem State.send_rtc (m : Msg) (s : State) : (s.send m).rtc = s.rtc := rfl
@[simp] theorem State.send_bases (m : Msg) (s : State) : (s.send m).bases = s.bases := rfl
@[simp] theorem State.send_pgs (m : Msg) (s : State) : (s.send m).pgs = s.pgs := rfl
@[simp] theorem State.send_pis (m : Msg) (s : State) : (s.send m).pis = s.pis := rfl
@[simp] theorem State.send_net (m : Msg) (s : State) : (s.send m).net = s.net := rfl
@[simp] theorem State.send_tx (m : Msg) (s : State) : (s.send m).tx = s.tx := rfl
@[simp] theorem State.send_cans (m : Msg) (s : State) : (s.send m).cans = s.cans := rfl
@[simp] theorem State.send_cus (m : Msg) (s : State) : (s.send m).cus = s.cus := rfl
@[simp] theorem State.send_pair (m : Msg) (s : State) : (s.send m).pair = s.pair := rfl
@[simp] theorem State.send_upd (m : Msg) (s : State) : (s.send m).upd = s.upd := rfl
@[simp] theorem State.send_panel (m : Msg) (s : State) : (s.send m).panel = s.panel := rfl
@[simp] theorem State.send_pending (m : Msg) (s : State) : (s.send m).pending = s.pending := rfl

/-! ## `setAc` -/

@[simp] theorem State.setAc_tb0 (n : Nat) (c : AcChan) (s : State) : (s.setAc n c).tb0 = s.tb0 := rfl
@[simp] theorem State.setAc_free (n : Nat) (c : AcChan) (s : State) : (s.setAc n c).free = s.free := rfl
@[simp] theorem State.setAc_cfg (n : Nat) (c : AcChan) (s : State) : (s.setAc n c).cfg = s.cfg := rfl
@[simp] theorem State.setAc_power (n : Nat) (c : AcChan) (s : State) : (s.setAc n c).power = s.power := rfl
@[simp] theorem State.setAc_cocoon (n : Nat) (c : AcChan) (s : State) : (s.setAc n c).cocoon = s.cocoon := rfl
@[simp] theorem State.setAc_host (n : Nat) (c : AcChan) (s : State) : (s.setAc n c).host = s.host := rfl
@[simp] theorem State.setAc_disp (n : Nat) (c : AcChan) (s : State) : (s.setAc n c).disp = s.disp := rfl
@[simp] theorem State.setAc_mail (n : Nat) (c : AcChan) (s : State) : (s.setAc n c).mail = s.mail := rfl
@[simp] theorem State.setAc_inControl (n : Nat) (c : AcChan) (s : State) : (s.setAc n c).inControl = s.inControl := rfl
@[simp] theorem State.setAc_inData (n : Nat) (c : AcChan) (s : State) : (s.setAc n c).inData = s.inData := rfl
@[simp] theorem State.setAc_inManagement (n : Nat) (c : AcChan) (s : State) : (s.setAc n c).inManagement = s.inManagement := rfl
@[simp] theorem State.setAc_recorder (n : Nat) (c : AcChan) (s : State) : (s.setAc n c).recorder = s.recorder := rfl
@[simp] theorem State.setAc_session (n : Nat) (c : AcChan) (s : State) : (s.setAc n c).session = s.session := rfl
@[simp] theorem State.setAc_cred (n : Nat) (c : AcChan) (s : State) : (s.setAc n c).cred = s.cred := rfl
@[simp] theorem State.setAc_safeLog (n : Nat) (c : AcChan) (s : State) : (s.setAc n c).safeLog = s.safeLog := rfl
@[simp] theorem State.setAc_faults (n : Nat) (c : AcChan) (s : State) : (s.setAc n c).faults = s.faults := rfl
@[simp] theorem State.setAc_tasks (n : Nat) (c : AcChan) (s : State) : (s.setAc n c).tasks = s.tasks := rfl
@[simp] theorem State.setAc_cores (n : Nat) (c : AcChan) (s : State) : (s.setAc n c).cores = s.cores := rfl
@[simp] theorem State.setAc_prog (n : Nat) (c : AcChan) (s : State) : (s.setAc n c).prog = s.prog := rfl
@[simp] theorem State.setAc_loops (n : Nat) (c : AcChan) (s : State) : (s.setAc n c).loops = s.loops := rfl
@[simp] theorem State.setAc_modems (n : Nat) (c : AcChan) (s : State) : (s.setAc n c).modems = s.modems := rfl
@[simp] theorem State.setAc_hart (n : Nat) (c : AcChan) (s : State) : (s.setAc n c).hart = s.hart := rfl
@[simp] theorem State.setAc_dc (n : Nat) (c : AcChan) (s : State) : (s.setAc n c).dc = s.dc := rfl
@[simp] theorem State.setAc_dcGroups (n : Nat) (c : AcChan) (s : State) : (s.setAc n c).dcGroups = s.dcGroups := rfl
@[simp] theorem State.setAc_dcCommon (n : Nat) (c : AcChan) (s : State) : (s.setAc n c).dcCommon = s.dcCommon := rfl
@[simp] theorem State.setAc_dcCommonAck (n : Nat) (c : AcChan) (s : State) : (s.setAc n c).dcCommonAck = s.dcCommonAck := rfl
@[simp] theorem State.setAc_so (n : Nat) (c : AcChan) (s : State) : (s.setAc n c).so = s.so := rfl
@[simp] theorem State.setAc_sv (n : Nat) (c : AcChan) (s : State) : (s.setAc n c).sv = s.sv := rfl
@[simp] theorem State.setAc_aiPairs (n : Nat) (c : AcChan) (s : State) : (s.setAc n c).aiPairs = s.aiPairs := rfl
@[simp] theorem State.setAc_triggers (n : Nat) (c : AcChan) (s : State) : (s.setAc n c).triggers = s.triggers := rfl
@[simp] theorem State.setAc_axes (n : Nat) (c : AcChan) (s : State) : (s.setAc n c).axes = s.axes := rfl
@[simp] theorem State.setAc_rtc (n : Nat) (c : AcChan) (s : State) : (s.setAc n c).rtc = s.rtc := rfl
@[simp] theorem State.setAc_bases (n : Nat) (c : AcChan) (s : State) : (s.setAc n c).bases = s.bases := rfl
@[simp] theorem State.setAc_pgs (n : Nat) (c : AcChan) (s : State) : (s.setAc n c).pgs = s.pgs := rfl
@[simp] theorem State.setAc_pis (n : Nat) (c : AcChan) (s : State) : (s.setAc n c).pis = s.pis := rfl
@[simp] theorem State.setAc_net (n : Nat) (c : AcChan) (s : State) : (s.setAc n c).net = s.net := rfl
@[simp] theorem State.setAc_tx (n : Nat) (c : AcChan) (s : State) : (s.setAc n c).tx = s.tx := rfl
@[simp] theorem State.setAc_cans (n : Nat) (c : AcChan) (s : State) : (s.setAc n c).cans = s.cans := rfl
@[simp] theorem State.setAc_cus (n : Nat) (c : AcChan) (s : State) : (s.setAc n c).cus = s.cus := rfl
@[simp] theorem State.setAc_pair (n : Nat) (c : AcChan) (s : State) : (s.setAc n c).pair = s.pair := rfl
@[simp] theorem State.setAc_upd (n : Nat) (c : AcChan) (s : State) : (s.setAc n c).upd = s.upd := rfl
@[simp] theorem State.setAc_panel (n : Nat) (c : AcChan) (s : State) : (s.setAc n c).panel = s.panel := rfl
@[simp] theorem State.setAc_sent (n : Nat) (c : AcChan) (s : State) : (s.setAc n c).sent = s.sent := rfl
@[simp] theorem State.setAc_pending (n : Nat) (c : AcChan) (s : State) : (s.setAc n c).pending = s.pending := rfl

/-! ## `setModem` -/

@[simp] theorem State.setModem_tb0 (m : Nat) (x : HartModem) (s : State) : (s.setModem m x).tb0 = s.tb0 := rfl
@[simp] theorem State.setModem_free (m : Nat) (x : HartModem) (s : State) : (s.setModem m x).free = s.free := rfl
@[simp] theorem State.setModem_cfg (m : Nat) (x : HartModem) (s : State) : (s.setModem m x).cfg = s.cfg := rfl
@[simp] theorem State.setModem_power (m : Nat) (x : HartModem) (s : State) : (s.setModem m x).power = s.power := rfl
@[simp] theorem State.setModem_cocoon (m : Nat) (x : HartModem) (s : State) : (s.setModem m x).cocoon = s.cocoon := rfl
@[simp] theorem State.setModem_host (m : Nat) (x : HartModem) (s : State) : (s.setModem m x).host = s.host := rfl
@[simp] theorem State.setModem_disp (m : Nat) (x : HartModem) (s : State) : (s.setModem m x).disp = s.disp := rfl
@[simp] theorem State.setModem_mail (m : Nat) (x : HartModem) (s : State) : (s.setModem m x).mail = s.mail := rfl
@[simp] theorem State.setModem_inControl (m : Nat) (x : HartModem) (s : State) : (s.setModem m x).inControl = s.inControl := rfl
@[simp] theorem State.setModem_inData (m : Nat) (x : HartModem) (s : State) : (s.setModem m x).inData = s.inData := rfl
@[simp] theorem State.setModem_inManagement (m : Nat) (x : HartModem) (s : State) : (s.setModem m x).inManagement = s.inManagement := rfl
@[simp] theorem State.setModem_recorder (m : Nat) (x : HartModem) (s : State) : (s.setModem m x).recorder = s.recorder := rfl
@[simp] theorem State.setModem_session (m : Nat) (x : HartModem) (s : State) : (s.setModem m x).session = s.session := rfl
@[simp] theorem State.setModem_cred (m : Nat) (x : HartModem) (s : State) : (s.setModem m x).cred = s.cred := rfl
@[simp] theorem State.setModem_safeLog (m : Nat) (x : HartModem) (s : State) : (s.setModem m x).safeLog = s.safeLog := rfl
@[simp] theorem State.setModem_faults (m : Nat) (x : HartModem) (s : State) : (s.setModem m x).faults = s.faults := rfl
@[simp] theorem State.setModem_tasks (m : Nat) (x : HartModem) (s : State) : (s.setModem m x).tasks = s.tasks := rfl
@[simp] theorem State.setModem_cores (m : Nat) (x : HartModem) (s : State) : (s.setModem m x).cores = s.cores := rfl
@[simp] theorem State.setModem_prog (m : Nat) (x : HartModem) (s : State) : (s.setModem m x).prog = s.prog := rfl
@[simp] theorem State.setModem_loops (m : Nat) (x : HartModem) (s : State) : (s.setModem m x).loops = s.loops := rfl
@[simp] theorem State.setModem_ac (m : Nat) (x : HartModem) (s : State) : (s.setModem m x).ac = s.ac := rfl
@[simp] theorem State.setModem_hart (m : Nat) (x : HartModem) (s : State) : (s.setModem m x).hart = s.hart := rfl
@[simp] theorem State.setModem_dc (m : Nat) (x : HartModem) (s : State) : (s.setModem m x).dc = s.dc := rfl
@[simp] theorem State.setModem_dcGroups (m : Nat) (x : HartModem) (s : State) : (s.setModem m x).dcGroups = s.dcGroups := rfl
@[simp] theorem State.setModem_dcCommon (m : Nat) (x : HartModem) (s : State) : (s.setModem m x).dcCommon = s.dcCommon := rfl
@[simp] theorem State.setModem_dcCommonAck (m : Nat) (x : HartModem) (s : State) : (s.setModem m x).dcCommonAck = s.dcCommonAck := rfl
@[simp] theorem State.setModem_so (m : Nat) (x : HartModem) (s : State) : (s.setModem m x).so = s.so := rfl
@[simp] theorem State.setModem_sv (m : Nat) (x : HartModem) (s : State) : (s.setModem m x).sv = s.sv := rfl
@[simp] theorem State.setModem_aiPairs (m : Nat) (x : HartModem) (s : State) : (s.setModem m x).aiPairs = s.aiPairs := rfl
@[simp] theorem State.setModem_triggers (m : Nat) (x : HartModem) (s : State) : (s.setModem m x).triggers = s.triggers := rfl
@[simp] theorem State.setModem_axes (m : Nat) (x : HartModem) (s : State) : (s.setModem m x).axes = s.axes := rfl
@[simp] theorem State.setModem_rtc (m : Nat) (x : HartModem) (s : State) : (s.setModem m x).rtc = s.rtc := rfl
@[simp] theorem State.setModem_bases (m : Nat) (x : HartModem) (s : State) : (s.setModem m x).bases = s.bases := rfl
@[simp] theorem State.setModem_pgs (m : Nat) (x : HartModem) (s : State) : (s.setModem m x).pgs = s.pgs := rfl
@[simp] theorem State.setModem_pis (m : Nat) (x : HartModem) (s : State) : (s.setModem m x).pis = s.pis := rfl
@[simp] theorem State.setModem_net (m : Nat) (x : HartModem) (s : State) : (s.setModem m x).net = s.net := rfl
@[simp] theorem State.setModem_tx (m : Nat) (x : HartModem) (s : State) : (s.setModem m x).tx = s.tx := rfl
@[simp] theorem State.setModem_cans (m : Nat) (x : HartModem) (s : State) : (s.setModem m x).cans = s.cans := rfl
@[simp] theorem State.setModem_cus (m : Nat) (x : HartModem) (s : State) : (s.setModem m x).cus = s.cus := rfl
@[simp] theorem State.setModem_pair (m : Nat) (x : HartModem) (s : State) : (s.setModem m x).pair = s.pair := rfl
@[simp] theorem State.setModem_upd (m : Nat) (x : HartModem) (s : State) : (s.setModem m x).upd = s.upd := rfl
@[simp] theorem State.setModem_panel (m : Nat) (x : HartModem) (s : State) : (s.setModem m x).panel = s.panel := rfl
@[simp] theorem State.setModem_sent (m : Nat) (x : HartModem) (s : State) : (s.setModem m x).sent = s.sent := rfl
@[simp] theorem State.setModem_pending (m : Nat) (x : HartModem) (s : State) : (s.setModem m x).pending = s.pending := rfl

/-! ## `setDc` -/

@[simp] theorem State.setDc_tb0 (n : Nat) (c : DcChan) (s : State) : (s.setDc n c).tb0 = s.tb0 := rfl
@[simp] theorem State.setDc_free (n : Nat) (c : DcChan) (s : State) : (s.setDc n c).free = s.free := rfl
@[simp] theorem State.setDc_cfg (n : Nat) (c : DcChan) (s : State) : (s.setDc n c).cfg = s.cfg := rfl
@[simp] theorem State.setDc_power (n : Nat) (c : DcChan) (s : State) : (s.setDc n c).power = s.power := rfl
@[simp] theorem State.setDc_cocoon (n : Nat) (c : DcChan) (s : State) : (s.setDc n c).cocoon = s.cocoon := rfl
@[simp] theorem State.setDc_host (n : Nat) (c : DcChan) (s : State) : (s.setDc n c).host = s.host := rfl
@[simp] theorem State.setDc_disp (n : Nat) (c : DcChan) (s : State) : (s.setDc n c).disp = s.disp := rfl
@[simp] theorem State.setDc_mail (n : Nat) (c : DcChan) (s : State) : (s.setDc n c).mail = s.mail := rfl
@[simp] theorem State.setDc_inControl (n : Nat) (c : DcChan) (s : State) : (s.setDc n c).inControl = s.inControl := rfl
@[simp] theorem State.setDc_inData (n : Nat) (c : DcChan) (s : State) : (s.setDc n c).inData = s.inData := rfl
@[simp] theorem State.setDc_inManagement (n : Nat) (c : DcChan) (s : State) : (s.setDc n c).inManagement = s.inManagement := rfl
@[simp] theorem State.setDc_recorder (n : Nat) (c : DcChan) (s : State) : (s.setDc n c).recorder = s.recorder := rfl
@[simp] theorem State.setDc_session (n : Nat) (c : DcChan) (s : State) : (s.setDc n c).session = s.session := rfl
@[simp] theorem State.setDc_cred (n : Nat) (c : DcChan) (s : State) : (s.setDc n c).cred = s.cred := rfl
@[simp] theorem State.setDc_safeLog (n : Nat) (c : DcChan) (s : State) : (s.setDc n c).safeLog = s.safeLog := rfl
@[simp] theorem State.setDc_faults (n : Nat) (c : DcChan) (s : State) : (s.setDc n c).faults = s.faults := rfl
@[simp] theorem State.setDc_tasks (n : Nat) (c : DcChan) (s : State) : (s.setDc n c).tasks = s.tasks := rfl
@[simp] theorem State.setDc_cores (n : Nat) (c : DcChan) (s : State) : (s.setDc n c).cores = s.cores := rfl
@[simp] theorem State.setDc_prog (n : Nat) (c : DcChan) (s : State) : (s.setDc n c).prog = s.prog := rfl
@[simp] theorem State.setDc_loops (n : Nat) (c : DcChan) (s : State) : (s.setDc n c).loops = s.loops := rfl
@[simp] theorem State.setDc_ac (n : Nat) (c : DcChan) (s : State) : (s.setDc n c).ac = s.ac := rfl
@[simp] theorem State.setDc_modems (n : Nat) (c : DcChan) (s : State) : (s.setDc n c).modems = s.modems := rfl
@[simp] theorem State.setDc_hart (n : Nat) (c : DcChan) (s : State) : (s.setDc n c).hart = s.hart := rfl
@[simp] theorem State.setDc_dcGroups (n : Nat) (c : DcChan) (s : State) : (s.setDc n c).dcGroups = s.dcGroups := rfl
@[simp] theorem State.setDc_dcCommon (n : Nat) (c : DcChan) (s : State) : (s.setDc n c).dcCommon = s.dcCommon := rfl
@[simp] theorem State.setDc_dcCommonAck (n : Nat) (c : DcChan) (s : State) : (s.setDc n c).dcCommonAck = s.dcCommonAck := rfl
@[simp] theorem State.setDc_so (n : Nat) (c : DcChan) (s : State) : (s.setDc n c).so = s.so := rfl
@[simp] theorem State.setDc_sv (n : Nat) (c : DcChan) (s : State) : (s.setDc n c).sv = s.sv := rfl
@[simp] theorem State.setDc_aiPairs (n : Nat) (c : DcChan) (s : State) : (s.setDc n c).aiPairs = s.aiPairs := rfl
@[simp] theorem State.setDc_triggers (n : Nat) (c : DcChan) (s : State) : (s.setDc n c).triggers = s.triggers := rfl
@[simp] theorem State.setDc_axes (n : Nat) (c : DcChan) (s : State) : (s.setDc n c).axes = s.axes := rfl
@[simp] theorem State.setDc_rtc (n : Nat) (c : DcChan) (s : State) : (s.setDc n c).rtc = s.rtc := rfl
@[simp] theorem State.setDc_bases (n : Nat) (c : DcChan) (s : State) : (s.setDc n c).bases = s.bases := rfl
@[simp] theorem State.setDc_pgs (n : Nat) (c : DcChan) (s : State) : (s.setDc n c).pgs = s.pgs := rfl
@[simp] theorem State.setDc_pis (n : Nat) (c : DcChan) (s : State) : (s.setDc n c).pis = s.pis := rfl
@[simp] theorem State.setDc_net (n : Nat) (c : DcChan) (s : State) : (s.setDc n c).net = s.net := rfl
@[simp] theorem State.setDc_tx (n : Nat) (c : DcChan) (s : State) : (s.setDc n c).tx = s.tx := rfl
@[simp] theorem State.setDc_cans (n : Nat) (c : DcChan) (s : State) : (s.setDc n c).cans = s.cans := rfl
@[simp] theorem State.setDc_cus (n : Nat) (c : DcChan) (s : State) : (s.setDc n c).cus = s.cus := rfl
@[simp] theorem State.setDc_pair (n : Nat) (c : DcChan) (s : State) : (s.setDc n c).pair = s.pair := rfl
@[simp] theorem State.setDc_upd (n : Nat) (c : DcChan) (s : State) : (s.setDc n c).upd = s.upd := rfl
@[simp] theorem State.setDc_panel (n : Nat) (c : DcChan) (s : State) : (s.setDc n c).panel = s.panel := rfl
@[simp] theorem State.setDc_sent (n : Nat) (c : DcChan) (s : State) : (s.setDc n c).sent = s.sent := rfl
@[simp] theorem State.setDc_pending (n : Nat) (c : DcChan) (s : State) : (s.setDc n c).pending = s.pending := rfl

/-! ## `setDcGroup` -/

@[simp] theorem State.setDcGroup_tb0 (g : Nat) (x : DcGroup) (s : State) : (s.setDcGroup g x).tb0 = s.tb0 := rfl
@[simp] theorem State.setDcGroup_free (g : Nat) (x : DcGroup) (s : State) : (s.setDcGroup g x).free = s.free := rfl
@[simp] theorem State.setDcGroup_cfg (g : Nat) (x : DcGroup) (s : State) : (s.setDcGroup g x).cfg = s.cfg := rfl
@[simp] theorem State.setDcGroup_power (g : Nat) (x : DcGroup) (s : State) : (s.setDcGroup g x).power = s.power := rfl
@[simp] theorem State.setDcGroup_cocoon (g : Nat) (x : DcGroup) (s : State) : (s.setDcGroup g x).cocoon = s.cocoon := rfl
@[simp] theorem State.setDcGroup_host (g : Nat) (x : DcGroup) (s : State) : (s.setDcGroup g x).host = s.host := rfl
@[simp] theorem State.setDcGroup_disp (g : Nat) (x : DcGroup) (s : State) : (s.setDcGroup g x).disp = s.disp := rfl
@[simp] theorem State.setDcGroup_mail (g : Nat) (x : DcGroup) (s : State) : (s.setDcGroup g x).mail = s.mail := rfl
@[simp] theorem State.setDcGroup_inControl (g : Nat) (x : DcGroup) (s : State) : (s.setDcGroup g x).inControl = s.inControl := rfl
@[simp] theorem State.setDcGroup_inData (g : Nat) (x : DcGroup) (s : State) : (s.setDcGroup g x).inData = s.inData := rfl
@[simp] theorem State.setDcGroup_inManagement (g : Nat) (x : DcGroup) (s : State) : (s.setDcGroup g x).inManagement = s.inManagement := rfl
@[simp] theorem State.setDcGroup_recorder (g : Nat) (x : DcGroup) (s : State) : (s.setDcGroup g x).recorder = s.recorder := rfl
@[simp] theorem State.setDcGroup_session (g : Nat) (x : DcGroup) (s : State) : (s.setDcGroup g x).session = s.session := rfl
@[simp] theorem State.setDcGroup_cred (g : Nat) (x : DcGroup) (s : State) : (s.setDcGroup g x).cred = s.cred := rfl
@[simp] theorem State.setDcGroup_safeLog (g : Nat) (x : DcGroup) (s : State) : (s.setDcGroup g x).safeLog = s.safeLog := rfl
@[simp] theorem State.setDcGroup_faults (g : Nat) (x : DcGroup) (s : State) : (s.setDcGroup g x).faults = s.faults := rfl
@[simp] theorem State.setDcGroup_tasks (g : Nat) (x : DcGroup) (s : State) : (s.setDcGroup g x).tasks = s.tasks := rfl
@[simp] theorem State.setDcGroup_cores (g : Nat) (x : DcGroup) (s : State) : (s.setDcGroup g x).cores = s.cores := rfl
@[simp] theorem State.setDcGroup_prog (g : Nat) (x : DcGroup) (s : State) : (s.setDcGroup g x).prog = s.prog := rfl
@[simp] theorem State.setDcGroup_loops (g : Nat) (x : DcGroup) (s : State) : (s.setDcGroup g x).loops = s.loops := rfl
@[simp] theorem State.setDcGroup_ac (g : Nat) (x : DcGroup) (s : State) : (s.setDcGroup g x).ac = s.ac := rfl
@[simp] theorem State.setDcGroup_modems (g : Nat) (x : DcGroup) (s : State) : (s.setDcGroup g x).modems = s.modems := rfl
@[simp] theorem State.setDcGroup_hart (g : Nat) (x : DcGroup) (s : State) : (s.setDcGroup g x).hart = s.hart := rfl
@[simp] theorem State.setDcGroup_dc (g : Nat) (x : DcGroup) (s : State) : (s.setDcGroup g x).dc = s.dc := rfl
@[simp] theorem State.setDcGroup_dcCommon (g : Nat) (x : DcGroup) (s : State) : (s.setDcGroup g x).dcCommon = s.dcCommon := rfl
@[simp] theorem State.setDcGroup_dcCommonAck (g : Nat) (x : DcGroup) (s : State) : (s.setDcGroup g x).dcCommonAck = s.dcCommonAck := rfl
@[simp] theorem State.setDcGroup_so (g : Nat) (x : DcGroup) (s : State) : (s.setDcGroup g x).so = s.so := rfl
@[simp] theorem State.setDcGroup_sv (g : Nat) (x : DcGroup) (s : State) : (s.setDcGroup g x).sv = s.sv := rfl
@[simp] theorem State.setDcGroup_aiPairs (g : Nat) (x : DcGroup) (s : State) : (s.setDcGroup g x).aiPairs = s.aiPairs := rfl
@[simp] theorem State.setDcGroup_triggers (g : Nat) (x : DcGroup) (s : State) : (s.setDcGroup g x).triggers = s.triggers := rfl
@[simp] theorem State.setDcGroup_axes (g : Nat) (x : DcGroup) (s : State) : (s.setDcGroup g x).axes = s.axes := rfl
@[simp] theorem State.setDcGroup_rtc (g : Nat) (x : DcGroup) (s : State) : (s.setDcGroup g x).rtc = s.rtc := rfl
@[simp] theorem State.setDcGroup_bases (g : Nat) (x : DcGroup) (s : State) : (s.setDcGroup g x).bases = s.bases := rfl
@[simp] theorem State.setDcGroup_pgs (g : Nat) (x : DcGroup) (s : State) : (s.setDcGroup g x).pgs = s.pgs := rfl
@[simp] theorem State.setDcGroup_pis (g : Nat) (x : DcGroup) (s : State) : (s.setDcGroup g x).pis = s.pis := rfl
@[simp] theorem State.setDcGroup_net (g : Nat) (x : DcGroup) (s : State) : (s.setDcGroup g x).net = s.net := rfl
@[simp] theorem State.setDcGroup_tx (g : Nat) (x : DcGroup) (s : State) : (s.setDcGroup g x).tx = s.tx := rfl
@[simp] theorem State.setDcGroup_cans (g : Nat) (x : DcGroup) (s : State) : (s.setDcGroup g x).cans = s.cans := rfl
@[simp] theorem State.setDcGroup_cus (g : Nat) (x : DcGroup) (s : State) : (s.setDcGroup g x).cus = s.cus := rfl
@[simp] theorem State.setDcGroup_pair (g : Nat) (x : DcGroup) (s : State) : (s.setDcGroup g x).pair = s.pair := rfl
@[simp] theorem State.setDcGroup_upd (g : Nat) (x : DcGroup) (s : State) : (s.setDcGroup g x).upd = s.upd := rfl
@[simp] theorem State.setDcGroup_panel (g : Nat) (x : DcGroup) (s : State) : (s.setDcGroup g x).panel = s.panel := rfl
@[simp] theorem State.setDcGroup_sent (g : Nat) (x : DcGroup) (s : State) : (s.setDcGroup g x).sent = s.sent := rfl
@[simp] theorem State.setDcGroup_pending (g : Nat) (x : DcGroup) (s : State) : (s.setDcGroup g x).pending = s.pending := rfl

/-! ## `setSo` -/

@[simp] theorem State.setSo_tb0 (n : Nat) (x : SafeOut) (s : State) : (s.setSo n x).tb0 = s.tb0 := rfl
@[simp] theorem State.setSo_free (n : Nat) (x : SafeOut) (s : State) : (s.setSo n x).free = s.free := rfl
@[simp] theorem State.setSo_cfg (n : Nat) (x : SafeOut) (s : State) : (s.setSo n x).cfg = s.cfg := rfl
@[simp] theorem State.setSo_power (n : Nat) (x : SafeOut) (s : State) : (s.setSo n x).power = s.power := rfl
@[simp] theorem State.setSo_cocoon (n : Nat) (x : SafeOut) (s : State) : (s.setSo n x).cocoon = s.cocoon := rfl
@[simp] theorem State.setSo_host (n : Nat) (x : SafeOut) (s : State) : (s.setSo n x).host = s.host := rfl
@[simp] theorem State.setSo_disp (n : Nat) (x : SafeOut) (s : State) : (s.setSo n x).disp = s.disp := rfl
@[simp] theorem State.setSo_mail (n : Nat) (x : SafeOut) (s : State) : (s.setSo n x).mail = s.mail := rfl
@[simp] theorem State.setSo_inControl (n : Nat) (x : SafeOut) (s : State) : (s.setSo n x).inControl = s.inControl := rfl
@[simp] theorem State.setSo_inData (n : Nat) (x : SafeOut) (s : State) : (s.setSo n x).inData = s.inData := rfl
@[simp] theorem State.setSo_inManagement (n : Nat) (x : SafeOut) (s : State) : (s.setSo n x).inManagement = s.inManagement := rfl
@[simp] theorem State.setSo_recorder (n : Nat) (x : SafeOut) (s : State) : (s.setSo n x).recorder = s.recorder := rfl
@[simp] theorem State.setSo_session (n : Nat) (x : SafeOut) (s : State) : (s.setSo n x).session = s.session := rfl
@[simp] theorem State.setSo_cred (n : Nat) (x : SafeOut) (s : State) : (s.setSo n x).cred = s.cred := rfl
@[simp] theorem State.setSo_safeLog (n : Nat) (x : SafeOut) (s : State) : (s.setSo n x).safeLog = s.safeLog := rfl
@[simp] theorem State.setSo_faults (n : Nat) (x : SafeOut) (s : State) : (s.setSo n x).faults = s.faults := rfl
@[simp] theorem State.setSo_tasks (n : Nat) (x : SafeOut) (s : State) : (s.setSo n x).tasks = s.tasks := rfl
@[simp] theorem State.setSo_cores (n : Nat) (x : SafeOut) (s : State) : (s.setSo n x).cores = s.cores := rfl
@[simp] theorem State.setSo_prog (n : Nat) (x : SafeOut) (s : State) : (s.setSo n x).prog = s.prog := rfl
@[simp] theorem State.setSo_loops (n : Nat) (x : SafeOut) (s : State) : (s.setSo n x).loops = s.loops := rfl
@[simp] theorem State.setSo_ac (n : Nat) (x : SafeOut) (s : State) : (s.setSo n x).ac = s.ac := rfl
@[simp] theorem State.setSo_modems (n : Nat) (x : SafeOut) (s : State) : (s.setSo n x).modems = s.modems := rfl
@[simp] theorem State.setSo_hart (n : Nat) (x : SafeOut) (s : State) : (s.setSo n x).hart = s.hart := rfl
@[simp] theorem State.setSo_dc (n : Nat) (x : SafeOut) (s : State) : (s.setSo n x).dc = s.dc := rfl
@[simp] theorem State.setSo_dcGroups (n : Nat) (x : SafeOut) (s : State) : (s.setSo n x).dcGroups = s.dcGroups := rfl
@[simp] theorem State.setSo_dcCommon (n : Nat) (x : SafeOut) (s : State) : (s.setSo n x).dcCommon = s.dcCommon := rfl
@[simp] theorem State.setSo_dcCommonAck (n : Nat) (x : SafeOut) (s : State) : (s.setSo n x).dcCommonAck = s.dcCommonAck := rfl
@[simp] theorem State.setSo_sv (n : Nat) (x : SafeOut) (s : State) : (s.setSo n x).sv = s.sv := rfl
@[simp] theorem State.setSo_aiPairs (n : Nat) (x : SafeOut) (s : State) : (s.setSo n x).aiPairs = s.aiPairs := rfl
@[simp] theorem State.setSo_triggers (n : Nat) (x : SafeOut) (s : State) : (s.setSo n x).triggers = s.triggers := rfl
@[simp] theorem State.setSo_axes (n : Nat) (x : SafeOut) (s : State) : (s.setSo n x).axes = s.axes := rfl
@[simp] theorem State.setSo_rtc (n : Nat) (x : SafeOut) (s : State) : (s.setSo n x).rtc = s.rtc := rfl
@[simp] theorem State.setSo_bases (n : Nat) (x : SafeOut) (s : State) : (s.setSo n x).bases = s.bases := rfl
@[simp] theorem State.setSo_pgs (n : Nat) (x : SafeOut) (s : State) : (s.setSo n x).pgs = s.pgs := rfl
@[simp] theorem State.setSo_pis (n : Nat) (x : SafeOut) (s : State) : (s.setSo n x).pis = s.pis := rfl
@[simp] theorem State.setSo_net (n : Nat) (x : SafeOut) (s : State) : (s.setSo n x).net = s.net := rfl
@[simp] theorem State.setSo_tx (n : Nat) (x : SafeOut) (s : State) : (s.setSo n x).tx = s.tx := rfl
@[simp] theorem State.setSo_cans (n : Nat) (x : SafeOut) (s : State) : (s.setSo n x).cans = s.cans := rfl
@[simp] theorem State.setSo_cus (n : Nat) (x : SafeOut) (s : State) : (s.setSo n x).cus = s.cus := rfl
@[simp] theorem State.setSo_pair (n : Nat) (x : SafeOut) (s : State) : (s.setSo n x).pair = s.pair := rfl
@[simp] theorem State.setSo_upd (n : Nat) (x : SafeOut) (s : State) : (s.setSo n x).upd = s.upd := rfl
@[simp] theorem State.setSo_panel (n : Nat) (x : SafeOut) (s : State) : (s.setSo n x).panel = s.panel := rfl
@[simp] theorem State.setSo_sent (n : Nat) (x : SafeOut) (s : State) : (s.setSo n x).sent = s.sent := rfl
@[simp] theorem State.setSo_pending (n : Nat) (x : SafeOut) (s : State) : (s.setSo n x).pending = s.pending := rfl

/-! ## `setAiPair` -/

@[simp] theorem State.setAiPair_tb0 (n : Nat) (x : AiPair) (s : State) : (s.setAiPair n x).tb0 = s.tb0 := rfl
@[simp] theorem State.setAiPair_free (n : Nat) (x : AiPair) (s : State) : (s.setAiPair n x).free = s.free := rfl
@[simp] theorem State.setAiPair_cfg (n : Nat) (x : AiPair) (s : State) : (s.setAiPair n x).cfg = s.cfg := rfl
@[simp] theorem State.setAiPair_power (n : Nat) (x : AiPair) (s : State) : (s.setAiPair n x).power = s.power := rfl
@[simp] theorem State.setAiPair_cocoon (n : Nat) (x : AiPair) (s : State) : (s.setAiPair n x).cocoon = s.cocoon := rfl
@[simp] theorem State.setAiPair_host (n : Nat) (x : AiPair) (s : State) : (s.setAiPair n x).host = s.host := rfl
@[simp] theorem State.setAiPair_disp (n : Nat) (x : AiPair) (s : State) : (s.setAiPair n x).disp = s.disp := rfl
@[simp] theorem State.setAiPair_mail (n : Nat) (x : AiPair) (s : State) : (s.setAiPair n x).mail = s.mail := rfl
@[simp] theorem State.setAiPair_inControl (n : Nat) (x : AiPair) (s : State) : (s.setAiPair n x).inControl = s.inControl := rfl
@[simp] theorem State.setAiPair_inData (n : Nat) (x : AiPair) (s : State) : (s.setAiPair n x).inData = s.inData := rfl
@[simp] theorem State.setAiPair_inManagement (n : Nat) (x : AiPair) (s : State) : (s.setAiPair n x).inManagement = s.inManagement := rfl
@[simp] theorem State.setAiPair_recorder (n : Nat) (x : AiPair) (s : State) : (s.setAiPair n x).recorder = s.recorder := rfl
@[simp] theorem State.setAiPair_session (n : Nat) (x : AiPair) (s : State) : (s.setAiPair n x).session = s.session := rfl
@[simp] theorem State.setAiPair_cred (n : Nat) (x : AiPair) (s : State) : (s.setAiPair n x).cred = s.cred := rfl
@[simp] theorem State.setAiPair_safeLog (n : Nat) (x : AiPair) (s : State) : (s.setAiPair n x).safeLog = s.safeLog := rfl
@[simp] theorem State.setAiPair_faults (n : Nat) (x : AiPair) (s : State) : (s.setAiPair n x).faults = s.faults := rfl
@[simp] theorem State.setAiPair_tasks (n : Nat) (x : AiPair) (s : State) : (s.setAiPair n x).tasks = s.tasks := rfl
@[simp] theorem State.setAiPair_cores (n : Nat) (x : AiPair) (s : State) : (s.setAiPair n x).cores = s.cores := rfl
@[simp] theorem State.setAiPair_prog (n : Nat) (x : AiPair) (s : State) : (s.setAiPair n x).prog = s.prog := rfl
@[simp] theorem State.setAiPair_loops (n : Nat) (x : AiPair) (s : State) : (s.setAiPair n x).loops = s.loops := rfl
@[simp] theorem State.setAiPair_ac (n : Nat) (x : AiPair) (s : State) : (s.setAiPair n x).ac = s.ac := rfl
@[simp] theorem State.setAiPair_modems (n : Nat) (x : AiPair) (s : State) : (s.setAiPair n x).modems = s.modems := rfl
@[simp] theorem State.setAiPair_hart (n : Nat) (x : AiPair) (s : State) : (s.setAiPair n x).hart = s.hart := rfl
@[simp] theorem State.setAiPair_dc (n : Nat) (x : AiPair) (s : State) : (s.setAiPair n x).dc = s.dc := rfl
@[simp] theorem State.setAiPair_dcGroups (n : Nat) (x : AiPair) (s : State) : (s.setAiPair n x).dcGroups = s.dcGroups := rfl
@[simp] theorem State.setAiPair_dcCommon (n : Nat) (x : AiPair) (s : State) : (s.setAiPair n x).dcCommon = s.dcCommon := rfl
@[simp] theorem State.setAiPair_dcCommonAck (n : Nat) (x : AiPair) (s : State) : (s.setAiPair n x).dcCommonAck = s.dcCommonAck := rfl
@[simp] theorem State.setAiPair_so (n : Nat) (x : AiPair) (s : State) : (s.setAiPair n x).so = s.so := rfl
@[simp] theorem State.setAiPair_sv (n : Nat) (x : AiPair) (s : State) : (s.setAiPair n x).sv = s.sv := rfl
@[simp] theorem State.setAiPair_triggers (n : Nat) (x : AiPair) (s : State) : (s.setAiPair n x).triggers = s.triggers := rfl
@[simp] theorem State.setAiPair_axes (n : Nat) (x : AiPair) (s : State) : (s.setAiPair n x).axes = s.axes := rfl
@[simp] theorem State.setAiPair_rtc (n : Nat) (x : AiPair) (s : State) : (s.setAiPair n x).rtc = s.rtc := rfl
@[simp] theorem State.setAiPair_bases (n : Nat) (x : AiPair) (s : State) : (s.setAiPair n x).bases = s.bases := rfl
@[simp] theorem State.setAiPair_pgs (n : Nat) (x : AiPair) (s : State) : (s.setAiPair n x).pgs = s.pgs := rfl
@[simp] theorem State.setAiPair_pis (n : Nat) (x : AiPair) (s : State) : (s.setAiPair n x).pis = s.pis := rfl
@[simp] theorem State.setAiPair_net (n : Nat) (x : AiPair) (s : State) : (s.setAiPair n x).net = s.net := rfl
@[simp] theorem State.setAiPair_tx (n : Nat) (x : AiPair) (s : State) : (s.setAiPair n x).tx = s.tx := rfl
@[simp] theorem State.setAiPair_cans (n : Nat) (x : AiPair) (s : State) : (s.setAiPair n x).cans = s.cans := rfl
@[simp] theorem State.setAiPair_cus (n : Nat) (x : AiPair) (s : State) : (s.setAiPair n x).cus = s.cus := rfl
@[simp] theorem State.setAiPair_pair (n : Nat) (x : AiPair) (s : State) : (s.setAiPair n x).pair = s.pair := rfl
@[simp] theorem State.setAiPair_upd (n : Nat) (x : AiPair) (s : State) : (s.setAiPair n x).upd = s.upd := rfl
@[simp] theorem State.setAiPair_panel (n : Nat) (x : AiPair) (s : State) : (s.setAiPair n x).panel = s.panel := rfl
@[simp] theorem State.setAiPair_sent (n : Nat) (x : AiPair) (s : State) : (s.setAiPair n x).sent = s.sent := rfl
@[simp] theorem State.setAiPair_pending (n : Nat) (x : AiPair) (s : State) : (s.setAiPair n x).pending = s.pending := rfl

/-! ## `setTask` -/

@[simp] theorem State.setTask_tb0 (i : Nat) (x : Task) (s : State) : (s.setTask i x).tb0 = s.tb0 := rfl
@[simp] theorem State.setTask_free (i : Nat) (x : Task) (s : State) : (s.setTask i x).free = s.free := rfl
@[simp] theorem State.setTask_cfg (i : Nat) (x : Task) (s : State) : (s.setTask i x).cfg = s.cfg := rfl
@[simp] theorem State.setTask_power (i : Nat) (x : Task) (s : State) : (s.setTask i x).power = s.power := rfl
@[simp] theorem State.setTask_cocoon (i : Nat) (x : Task) (s : State) : (s.setTask i x).cocoon = s.cocoon := rfl
@[simp] theorem State.setTask_host (i : Nat) (x : Task) (s : State) : (s.setTask i x).host = s.host := rfl
@[simp] theorem State.setTask_disp (i : Nat) (x : Task) (s : State) : (s.setTask i x).disp = s.disp := rfl
@[simp] theorem State.setTask_mail (i : Nat) (x : Task) (s : State) : (s.setTask i x).mail = s.mail := rfl
@[simp] theorem State.setTask_inControl (i : Nat) (x : Task) (s : State) : (s.setTask i x).inControl = s.inControl := rfl
@[simp] theorem State.setTask_inData (i : Nat) (x : Task) (s : State) : (s.setTask i x).inData = s.inData := rfl
@[simp] theorem State.setTask_inManagement (i : Nat) (x : Task) (s : State) : (s.setTask i x).inManagement = s.inManagement := rfl
@[simp] theorem State.setTask_recorder (i : Nat) (x : Task) (s : State) : (s.setTask i x).recorder = s.recorder := rfl
@[simp] theorem State.setTask_session (i : Nat) (x : Task) (s : State) : (s.setTask i x).session = s.session := rfl
@[simp] theorem State.setTask_cred (i : Nat) (x : Task) (s : State) : (s.setTask i x).cred = s.cred := rfl
@[simp] theorem State.setTask_safeLog (i : Nat) (x : Task) (s : State) : (s.setTask i x).safeLog = s.safeLog := rfl
@[simp] theorem State.setTask_faults (i : Nat) (x : Task) (s : State) : (s.setTask i x).faults = s.faults := rfl
@[simp] theorem State.setTask_cores (i : Nat) (x : Task) (s : State) : (s.setTask i x).cores = s.cores := rfl
@[simp] theorem State.setTask_prog (i : Nat) (x : Task) (s : State) : (s.setTask i x).prog = s.prog := rfl
@[simp] theorem State.setTask_loops (i : Nat) (x : Task) (s : State) : (s.setTask i x).loops = s.loops := rfl
@[simp] theorem State.setTask_ac (i : Nat) (x : Task) (s : State) : (s.setTask i x).ac = s.ac := rfl
@[simp] theorem State.setTask_modems (i : Nat) (x : Task) (s : State) : (s.setTask i x).modems = s.modems := rfl
@[simp] theorem State.setTask_hart (i : Nat) (x : Task) (s : State) : (s.setTask i x).hart = s.hart := rfl
@[simp] theorem State.setTask_dc (i : Nat) (x : Task) (s : State) : (s.setTask i x).dc = s.dc := rfl
@[simp] theorem State.setTask_dcGroups (i : Nat) (x : Task) (s : State) : (s.setTask i x).dcGroups = s.dcGroups := rfl
@[simp] theorem State.setTask_dcCommon (i : Nat) (x : Task) (s : State) : (s.setTask i x).dcCommon = s.dcCommon := rfl
@[simp] theorem State.setTask_dcCommonAck (i : Nat) (x : Task) (s : State) : (s.setTask i x).dcCommonAck = s.dcCommonAck := rfl
@[simp] theorem State.setTask_so (i : Nat) (x : Task) (s : State) : (s.setTask i x).so = s.so := rfl
@[simp] theorem State.setTask_sv (i : Nat) (x : Task) (s : State) : (s.setTask i x).sv = s.sv := rfl
@[simp] theorem State.setTask_aiPairs (i : Nat) (x : Task) (s : State) : (s.setTask i x).aiPairs = s.aiPairs := rfl
@[simp] theorem State.setTask_triggers (i : Nat) (x : Task) (s : State) : (s.setTask i x).triggers = s.triggers := rfl
@[simp] theorem State.setTask_axes (i : Nat) (x : Task) (s : State) : (s.setTask i x).axes = s.axes := rfl
@[simp] theorem State.setTask_rtc (i : Nat) (x : Task) (s : State) : (s.setTask i x).rtc = s.rtc := rfl
@[simp] theorem State.setTask_bases (i : Nat) (x : Task) (s : State) : (s.setTask i x).bases = s.bases := rfl
@[simp] theorem State.setTask_pgs (i : Nat) (x : Task) (s : State) : (s.setTask i x).pgs = s.pgs := rfl
@[simp] theorem State.setTask_pis (i : Nat) (x : Task) (s : State) : (s.setTask i x).pis = s.pis := rfl
@[simp] theorem State.setTask_net (i : Nat) (x : Task) (s : State) : (s.setTask i x).net = s.net := rfl
@[simp] theorem State.setTask_tx (i : Nat) (x : Task) (s : State) : (s.setTask i x).tx = s.tx := rfl
@[simp] theorem State.setTask_cans (i : Nat) (x : Task) (s : State) : (s.setTask i x).cans = s.cans := rfl
@[simp] theorem State.setTask_cus (i : Nat) (x : Task) (s : State) : (s.setTask i x).cus = s.cus := rfl
@[simp] theorem State.setTask_pair (i : Nat) (x : Task) (s : State) : (s.setTask i x).pair = s.pair := rfl
@[simp] theorem State.setTask_upd (i : Nat) (x : Task) (s : State) : (s.setTask i x).upd = s.upd := rfl
@[simp] theorem State.setTask_panel (i : Nat) (x : Task) (s : State) : (s.setTask i x).panel = s.panel := rfl
@[simp] theorem State.setTask_sent (i : Nat) (x : Task) (s : State) : (s.setTask i x).sent = s.sent := rfl
@[simp] theorem State.setTask_pending (i : Nat) (x : Task) (s : State) : (s.setTask i x).pending = s.pending := rfl

/-! ## `setTaskProg` -/

@[simp] theorem State.setTaskProg_tb0 (i : Nat) (p : TaskProg) (s : State) : (s.setTaskProg i p).tb0 = s.tb0 := rfl
@[simp] theorem State.setTaskProg_free (i : Nat) (p : TaskProg) (s : State) : (s.setTaskProg i p).free = s.free := rfl
@[simp] theorem State.setTaskProg_power (i : Nat) (p : TaskProg) (s : State) : (s.setTaskProg i p).power = s.power := rfl
@[simp] theorem State.setTaskProg_cocoon (i : Nat) (p : TaskProg) (s : State) : (s.setTaskProg i p).cocoon = s.cocoon := rfl
@[simp] theorem State.setTaskProg_host (i : Nat) (p : TaskProg) (s : State) : (s.setTaskProg i p).host = s.host := rfl
@[simp] theorem State.setTaskProg_disp (i : Nat) (p : TaskProg) (s : State) : (s.setTaskProg i p).disp = s.disp := rfl
@[simp] theorem State.setTaskProg_mail (i : Nat) (p : TaskProg) (s : State) : (s.setTaskProg i p).mail = s.mail := rfl
@[simp] theorem State.setTaskProg_inControl (i : Nat) (p : TaskProg) (s : State) : (s.setTaskProg i p).inControl = s.inControl := rfl
@[simp] theorem State.setTaskProg_inData (i : Nat) (p : TaskProg) (s : State) : (s.setTaskProg i p).inData = s.inData := rfl
@[simp] theorem State.setTaskProg_inManagement (i : Nat) (p : TaskProg) (s : State) : (s.setTaskProg i p).inManagement = s.inManagement := rfl
@[simp] theorem State.setTaskProg_recorder (i : Nat) (p : TaskProg) (s : State) : (s.setTaskProg i p).recorder = s.recorder := rfl
@[simp] theorem State.setTaskProg_session (i : Nat) (p : TaskProg) (s : State) : (s.setTaskProg i p).session = s.session := rfl
@[simp] theorem State.setTaskProg_cred (i : Nat) (p : TaskProg) (s : State) : (s.setTaskProg i p).cred = s.cred := rfl
@[simp] theorem State.setTaskProg_safeLog (i : Nat) (p : TaskProg) (s : State) : (s.setTaskProg i p).safeLog = s.safeLog := rfl
@[simp] theorem State.setTaskProg_faults (i : Nat) (p : TaskProg) (s : State) : (s.setTaskProg i p).faults = s.faults := rfl
@[simp] theorem State.setTaskProg_tasks (i : Nat) (p : TaskProg) (s : State) : (s.setTaskProg i p).tasks = s.tasks := rfl
@[simp] theorem State.setTaskProg_cores (i : Nat) (p : TaskProg) (s : State) : (s.setTaskProg i p).cores = s.cores := rfl
@[simp] theorem State.setTaskProg_prog (i : Nat) (p : TaskProg) (s : State) : (s.setTaskProg i p).prog = s.prog := rfl
@[simp] theorem State.setTaskProg_loops (i : Nat) (p : TaskProg) (s : State) : (s.setTaskProg i p).loops = s.loops := rfl
@[simp] theorem State.setTaskProg_ac (i : Nat) (p : TaskProg) (s : State) : (s.setTaskProg i p).ac = s.ac := rfl
@[simp] theorem State.setTaskProg_modems (i : Nat) (p : TaskProg) (s : State) : (s.setTaskProg i p).modems = s.modems := rfl
@[simp] theorem State.setTaskProg_hart (i : Nat) (p : TaskProg) (s : State) : (s.setTaskProg i p).hart = s.hart := rfl
@[simp] theorem State.setTaskProg_dc (i : Nat) (p : TaskProg) (s : State) : (s.setTaskProg i p).dc = s.dc := rfl
@[simp] theorem State.setTaskProg_dcGroups (i : Nat) (p : TaskProg) (s : State) : (s.setTaskProg i p).dcGroups = s.dcGroups := rfl
@[simp] theorem State.setTaskProg_dcCommon (i : Nat) (p : TaskProg) (s : State) : (s.setTaskProg i p).dcCommon = s.dcCommon := rfl
@[simp] theorem State.setTaskProg_dcCommonAck (i : Nat) (p : TaskProg) (s : State) : (s.setTaskProg i p).dcCommonAck = s.dcCommonAck := rfl
@[simp] theorem State.setTaskProg_so (i : Nat) (p : TaskProg) (s : State) : (s.setTaskProg i p).so = s.so := rfl
@[simp] theorem State.setTaskProg_sv (i : Nat) (p : TaskProg) (s : State) : (s.setTaskProg i p).sv = s.sv := rfl
@[simp] theorem State.setTaskProg_aiPairs (i : Nat) (p : TaskProg) (s : State) : (s.setTaskProg i p).aiPairs = s.aiPairs := rfl
@[simp] theorem State.setTaskProg_triggers (i : Nat) (p : TaskProg) (s : State) : (s.setTaskProg i p).triggers = s.triggers := rfl
@[simp] theorem State.setTaskProg_axes (i : Nat) (p : TaskProg) (s : State) : (s.setTaskProg i p).axes = s.axes := rfl
@[simp] theorem State.setTaskProg_rtc (i : Nat) (p : TaskProg) (s : State) : (s.setTaskProg i p).rtc = s.rtc := rfl
@[simp] theorem State.setTaskProg_bases (i : Nat) (p : TaskProg) (s : State) : (s.setTaskProg i p).bases = s.bases := rfl
@[simp] theorem State.setTaskProg_pgs (i : Nat) (p : TaskProg) (s : State) : (s.setTaskProg i p).pgs = s.pgs := rfl
@[simp] theorem State.setTaskProg_pis (i : Nat) (p : TaskProg) (s : State) : (s.setTaskProg i p).pis = s.pis := rfl
@[simp] theorem State.setTaskProg_net (i : Nat) (p : TaskProg) (s : State) : (s.setTaskProg i p).net = s.net := rfl
@[simp] theorem State.setTaskProg_tx (i : Nat) (p : TaskProg) (s : State) : (s.setTaskProg i p).tx = s.tx := rfl
@[simp] theorem State.setTaskProg_cans (i : Nat) (p : TaskProg) (s : State) : (s.setTaskProg i p).cans = s.cans := rfl
@[simp] theorem State.setTaskProg_cus (i : Nat) (p : TaskProg) (s : State) : (s.setTaskProg i p).cus = s.cus := rfl
@[simp] theorem State.setTaskProg_pair (i : Nat) (p : TaskProg) (s : State) : (s.setTaskProg i p).pair = s.pair := rfl
@[simp] theorem State.setTaskProg_upd (i : Nat) (p : TaskProg) (s : State) : (s.setTaskProg i p).upd = s.upd := rfl
@[simp] theorem State.setTaskProg_panel (i : Nat) (p : TaskProg) (s : State) : (s.setTaskProg i p).panel = s.panel := rfl
@[simp] theorem State.setTaskProg_sent (i : Nat) (p : TaskProg) (s : State) : (s.setTaskProg i p).sent = s.sent := rfl
@[simp] theorem State.setTaskProg_pending (i : Nat) (p : TaskProg) (s : State) : (s.setTaskProg i p).pending = s.pending := rfl

/-! ## `setCp` -/

@[simp] theorem State.setCp_tb0 (n : Nat) (x : CorePair) (s : State) : (s.setCp n x).tb0 = s.tb0 := rfl
@[simp] theorem State.setCp_free (n : Nat) (x : CorePair) (s : State) : (s.setCp n x).free = s.free := rfl
@[simp] theorem State.setCp_cfg (n : Nat) (x : CorePair) (s : State) : (s.setCp n x).cfg = s.cfg := rfl
@[simp] theorem State.setCp_power (n : Nat) (x : CorePair) (s : State) : (s.setCp n x).power = s.power := rfl
@[simp] theorem State.setCp_cocoon (n : Nat) (x : CorePair) (s : State) : (s.setCp n x).cocoon = s.cocoon := rfl
@[simp] theorem State.setCp_host (n : Nat) (x : CorePair) (s : State) : (s.setCp n x).host = s.host := rfl
@[simp] theorem State.setCp_disp (n : Nat) (x : CorePair) (s : State) : (s.setCp n x).disp = s.disp := rfl
@[simp] theorem State.setCp_mail (n : Nat) (x : CorePair) (s : State) : (s.setCp n x).mail = s.mail := rfl
@[simp] theorem State.setCp_inControl (n : Nat) (x : CorePair) (s : State) : (s.setCp n x).inControl = s.inControl := rfl
@[simp] theorem State.setCp_inData (n : Nat) (x : CorePair) (s : State) : (s.setCp n x).inData = s.inData := rfl
@[simp] theorem State.setCp_inManagement (n : Nat) (x : CorePair) (s : State) : (s.setCp n x).inManagement = s.inManagement := rfl
@[simp] theorem State.setCp_recorder (n : Nat) (x : CorePair) (s : State) : (s.setCp n x).recorder = s.recorder := rfl
@[simp] theorem State.setCp_session (n : Nat) (x : CorePair) (s : State) : (s.setCp n x).session = s.session := rfl
@[simp] theorem State.setCp_cred (n : Nat) (x : CorePair) (s : State) : (s.setCp n x).cred = s.cred := rfl
@[simp] theorem State.setCp_safeLog (n : Nat) (x : CorePair) (s : State) : (s.setCp n x).safeLog = s.safeLog := rfl
@[simp] theorem State.setCp_faults (n : Nat) (x : CorePair) (s : State) : (s.setCp n x).faults = s.faults := rfl
@[simp] theorem State.setCp_tasks (n : Nat) (x : CorePair) (s : State) : (s.setCp n x).tasks = s.tasks := rfl
@[simp] theorem State.setCp_prog (n : Nat) (x : CorePair) (s : State) : (s.setCp n x).prog = s.prog := rfl
@[simp] theorem State.setCp_loops (n : Nat) (x : CorePair) (s : State) : (s.setCp n x).loops = s.loops := rfl
@[simp] theorem State.setCp_ac (n : Nat) (x : CorePair) (s : State) : (s.setCp n x).ac = s.ac := rfl
@[simp] theorem State.setCp_modems (n : Nat) (x : CorePair) (s : State) : (s.setCp n x).modems = s.modems := rfl
@[simp] theorem State.setCp_hart (n : Nat) (x : CorePair) (s : State) : (s.setCp n x).hart = s.hart := rfl
@[simp] theorem State.setCp_dc (n : Nat) (x : CorePair) (s : State) : (s.setCp n x).dc = s.dc := rfl
@[simp] theorem State.setCp_dcGroups (n : Nat) (x : CorePair) (s : State) : (s.setCp n x).dcGroups = s.dcGroups := rfl
@[simp] theorem State.setCp_dcCommon (n : Nat) (x : CorePair) (s : State) : (s.setCp n x).dcCommon = s.dcCommon := rfl
@[simp] theorem State.setCp_dcCommonAck (n : Nat) (x : CorePair) (s : State) : (s.setCp n x).dcCommonAck = s.dcCommonAck := rfl
@[simp] theorem State.setCp_so (n : Nat) (x : CorePair) (s : State) : (s.setCp n x).so = s.so := rfl
@[simp] theorem State.setCp_sv (n : Nat) (x : CorePair) (s : State) : (s.setCp n x).sv = s.sv := rfl
@[simp] theorem State.setCp_aiPairs (n : Nat) (x : CorePair) (s : State) : (s.setCp n x).aiPairs = s.aiPairs := rfl
@[simp] theorem State.setCp_triggers (n : Nat) (x : CorePair) (s : State) : (s.setCp n x).triggers = s.triggers := rfl
@[simp] theorem State.setCp_axes (n : Nat) (x : CorePair) (s : State) : (s.setCp n x).axes = s.axes := rfl
@[simp] theorem State.setCp_rtc (n : Nat) (x : CorePair) (s : State) : (s.setCp n x).rtc = s.rtc := rfl
@[simp] theorem State.setCp_bases (n : Nat) (x : CorePair) (s : State) : (s.setCp n x).bases = s.bases := rfl
@[simp] theorem State.setCp_pgs (n : Nat) (x : CorePair) (s : State) : (s.setCp n x).pgs = s.pgs := rfl
@[simp] theorem State.setCp_pis (n : Nat) (x : CorePair) (s : State) : (s.setCp n x).pis = s.pis := rfl
@[simp] theorem State.setCp_net (n : Nat) (x : CorePair) (s : State) : (s.setCp n x).net = s.net := rfl
@[simp] theorem State.setCp_tx (n : Nat) (x : CorePair) (s : State) : (s.setCp n x).tx = s.tx := rfl
@[simp] theorem State.setCp_cans (n : Nat) (x : CorePair) (s : State) : (s.setCp n x).cans = s.cans := rfl
@[simp] theorem State.setCp_cus (n : Nat) (x : CorePair) (s : State) : (s.setCp n x).cus = s.cus := rfl
@[simp] theorem State.setCp_pair (n : Nat) (x : CorePair) (s : State) : (s.setCp n x).pair = s.pair := rfl
@[simp] theorem State.setCp_upd (n : Nat) (x : CorePair) (s : State) : (s.setCp n x).upd = s.upd := rfl
@[simp] theorem State.setCp_panel (n : Nat) (x : CorePair) (s : State) : (s.setCp n x).panel = s.panel := rfl
@[simp] theorem State.setCp_sent (n : Nat) (x : CorePair) (s : State) : (s.setCp n x).sent = s.sent := rfl
@[simp] theorem State.setCp_pending (n : Nat) (x : CorePair) (s : State) : (s.setCp n x).pending = s.pending := rfl

/-! ## `setLoop` -/

@[simp] theorem State.setLoop_tb0 (i : Nat) (x : LoopRun) (s : State) : (s.setLoop i x).tb0 = s.tb0 := rfl
@[simp] theorem State.setLoop_free (i : Nat) (x : LoopRun) (s : State) : (s.setLoop i x).free = s.free := rfl
@[simp] theorem State.setLoop_cfg (i : Nat) (x : LoopRun) (s : State) : (s.setLoop i x).cfg = s.cfg := rfl
@[simp] theorem State.setLoop_power (i : Nat) (x : LoopRun) (s : State) : (s.setLoop i x).power = s.power := rfl
@[simp] theorem State.setLoop_cocoon (i : Nat) (x : LoopRun) (s : State) : (s.setLoop i x).cocoon = s.cocoon := rfl
@[simp] theorem State.setLoop_host (i : Nat) (x : LoopRun) (s : State) : (s.setLoop i x).host = s.host := rfl
@[simp] theorem State.setLoop_disp (i : Nat) (x : LoopRun) (s : State) : (s.setLoop i x).disp = s.disp := rfl
@[simp] theorem State.setLoop_mail (i : Nat) (x : LoopRun) (s : State) : (s.setLoop i x).mail = s.mail := rfl
@[simp] theorem State.setLoop_inControl (i : Nat) (x : LoopRun) (s : State) : (s.setLoop i x).inControl = s.inControl := rfl
@[simp] theorem State.setLoop_inData (i : Nat) (x : LoopRun) (s : State) : (s.setLoop i x).inData = s.inData := rfl
@[simp] theorem State.setLoop_inManagement (i : Nat) (x : LoopRun) (s : State) : (s.setLoop i x).inManagement = s.inManagement := rfl
@[simp] theorem State.setLoop_recorder (i : Nat) (x : LoopRun) (s : State) : (s.setLoop i x).recorder = s.recorder := rfl
@[simp] theorem State.setLoop_session (i : Nat) (x : LoopRun) (s : State) : (s.setLoop i x).session = s.session := rfl
@[simp] theorem State.setLoop_cred (i : Nat) (x : LoopRun) (s : State) : (s.setLoop i x).cred = s.cred := rfl
@[simp] theorem State.setLoop_safeLog (i : Nat) (x : LoopRun) (s : State) : (s.setLoop i x).safeLog = s.safeLog := rfl
@[simp] theorem State.setLoop_faults (i : Nat) (x : LoopRun) (s : State) : (s.setLoop i x).faults = s.faults := rfl
@[simp] theorem State.setLoop_tasks (i : Nat) (x : LoopRun) (s : State) : (s.setLoop i x).tasks = s.tasks := rfl
@[simp] theorem State.setLoop_cores (i : Nat) (x : LoopRun) (s : State) : (s.setLoop i x).cores = s.cores := rfl
@[simp] theorem State.setLoop_prog (i : Nat) (x : LoopRun) (s : State) : (s.setLoop i x).prog = s.prog := rfl
@[simp] theorem State.setLoop_ac (i : Nat) (x : LoopRun) (s : State) : (s.setLoop i x).ac = s.ac := rfl
@[simp] theorem State.setLoop_modems (i : Nat) (x : LoopRun) (s : State) : (s.setLoop i x).modems = s.modems := rfl
@[simp] theorem State.setLoop_hart (i : Nat) (x : LoopRun) (s : State) : (s.setLoop i x).hart = s.hart := rfl
@[simp] theorem State.setLoop_dc (i : Nat) (x : LoopRun) (s : State) : (s.setLoop i x).dc = s.dc := rfl
@[simp] theorem State.setLoop_dcGroups (i : Nat) (x : LoopRun) (s : State) : (s.setLoop i x).dcGroups = s.dcGroups := rfl
@[simp] theorem State.setLoop_dcCommon (i : Nat) (x : LoopRun) (s : State) : (s.setLoop i x).dcCommon = s.dcCommon := rfl
@[simp] theorem State.setLoop_dcCommonAck (i : Nat) (x : LoopRun) (s : State) : (s.setLoop i x).dcCommonAck = s.dcCommonAck := rfl
@[simp] theorem State.setLoop_so (i : Nat) (x : LoopRun) (s : State) : (s.setLoop i x).so = s.so := rfl
@[simp] theorem State.setLoop_sv (i : Nat) (x : LoopRun) (s : State) : (s.setLoop i x).sv = s.sv := rfl
@[simp] theorem State.setLoop_aiPairs (i : Nat) (x : LoopRun) (s : State) : (s.setLoop i x).aiPairs = s.aiPairs := rfl
@[simp] theorem State.setLoop_triggers (i : Nat) (x : LoopRun) (s : State) : (s.setLoop i x).triggers = s.triggers := rfl
@[simp] theorem State.setLoop_axes (i : Nat) (x : LoopRun) (s : State) : (s.setLoop i x).axes = s.axes := rfl
@[simp] theorem State.setLoop_rtc (i : Nat) (x : LoopRun) (s : State) : (s.setLoop i x).rtc = s.rtc := rfl
@[simp] theorem State.setLoop_bases (i : Nat) (x : LoopRun) (s : State) : (s.setLoop i x).bases = s.bases := rfl
@[simp] theorem State.setLoop_pgs (i : Nat) (x : LoopRun) (s : State) : (s.setLoop i x).pgs = s.pgs := rfl
@[simp] theorem State.setLoop_pis (i : Nat) (x : LoopRun) (s : State) : (s.setLoop i x).pis = s.pis := rfl
@[simp] theorem State.setLoop_net (i : Nat) (x : LoopRun) (s : State) : (s.setLoop i x).net = s.net := rfl
@[simp] theorem State.setLoop_tx (i : Nat) (x : LoopRun) (s : State) : (s.setLoop i x).tx = s.tx := rfl
@[simp] theorem State.setLoop_cans (i : Nat) (x : LoopRun) (s : State) : (s.setLoop i x).cans = s.cans := rfl
@[simp] theorem State.setLoop_cus (i : Nat) (x : LoopRun) (s : State) : (s.setLoop i x).cus = s.cus := rfl
@[simp] theorem State.setLoop_pair (i : Nat) (x : LoopRun) (s : State) : (s.setLoop i x).pair = s.pair := rfl
@[simp] theorem State.setLoop_upd (i : Nat) (x : LoopRun) (s : State) : (s.setLoop i x).upd = s.upd := rfl
@[simp] theorem State.setLoop_panel (i : Nat) (x : LoopRun) (s : State) : (s.setLoop i x).panel = s.panel := rfl
@[simp] theorem State.setLoop_sent (i : Nat) (x : LoopRun) (s : State) : (s.setLoop i x).sent = s.sent := rfl
@[simp] theorem State.setLoop_pending (i : Nat) (x : LoopRun) (s : State) : (s.setLoop i x).pending = s.pending := rfl

/-! ## `setSlot` -/

@[simp] theorem State.setSlot_tb0 (k : Nat) (x : ProgSlot) (s : State) : (s.setSlot k x).tb0 = s.tb0 := rfl
@[simp] theorem State.setSlot_free (k : Nat) (x : ProgSlot) (s : State) : (s.setSlot k x).free = s.free := rfl
@[simp] theorem State.setSlot_cfg (k : Nat) (x : ProgSlot) (s : State) : (s.setSlot k x).cfg = s.cfg := rfl
@[simp] theorem State.setSlot_power (k : Nat) (x : ProgSlot) (s : State) : (s.setSlot k x).power = s.power := rfl
@[simp] theorem State.setSlot_cocoon (k : Nat) (x : ProgSlot) (s : State) : (s.setSlot k x).cocoon = s.cocoon := rfl
@[simp] theorem State.setSlot_host (k : Nat) (x : ProgSlot) (s : State) : (s.setSlot k x).host = s.host := rfl
@[simp] theorem State.setSlot_disp (k : Nat) (x : ProgSlot) (s : State) : (s.setSlot k x).disp = s.disp := rfl
@[simp] theorem State.setSlot_mail (k : Nat) (x : ProgSlot) (s : State) : (s.setSlot k x).mail = s.mail := rfl
@[simp] theorem State.setSlot_inControl (k : Nat) (x : ProgSlot) (s : State) : (s.setSlot k x).inControl = s.inControl := rfl
@[simp] theorem State.setSlot_inData (k : Nat) (x : ProgSlot) (s : State) : (s.setSlot k x).inData = s.inData := rfl
@[simp] theorem State.setSlot_inManagement (k : Nat) (x : ProgSlot) (s : State) : (s.setSlot k x).inManagement = s.inManagement := rfl
@[simp] theorem State.setSlot_recorder (k : Nat) (x : ProgSlot) (s : State) : (s.setSlot k x).recorder = s.recorder := rfl
@[simp] theorem State.setSlot_session (k : Nat) (x : ProgSlot) (s : State) : (s.setSlot k x).session = s.session := rfl
@[simp] theorem State.setSlot_cred (k : Nat) (x : ProgSlot) (s : State) : (s.setSlot k x).cred = s.cred := rfl
@[simp] theorem State.setSlot_safeLog (k : Nat) (x : ProgSlot) (s : State) : (s.setSlot k x).safeLog = s.safeLog := rfl
@[simp] theorem State.setSlot_faults (k : Nat) (x : ProgSlot) (s : State) : (s.setSlot k x).faults = s.faults := rfl
@[simp] theorem State.setSlot_tasks (k : Nat) (x : ProgSlot) (s : State) : (s.setSlot k x).tasks = s.tasks := rfl
@[simp] theorem State.setSlot_cores (k : Nat) (x : ProgSlot) (s : State) : (s.setSlot k x).cores = s.cores := rfl
@[simp] theorem State.setSlot_loops (k : Nat) (x : ProgSlot) (s : State) : (s.setSlot k x).loops = s.loops := rfl
@[simp] theorem State.setSlot_ac (k : Nat) (x : ProgSlot) (s : State) : (s.setSlot k x).ac = s.ac := rfl
@[simp] theorem State.setSlot_modems (k : Nat) (x : ProgSlot) (s : State) : (s.setSlot k x).modems = s.modems := rfl
@[simp] theorem State.setSlot_hart (k : Nat) (x : ProgSlot) (s : State) : (s.setSlot k x).hart = s.hart := rfl
@[simp] theorem State.setSlot_dc (k : Nat) (x : ProgSlot) (s : State) : (s.setSlot k x).dc = s.dc := rfl
@[simp] theorem State.setSlot_dcGroups (k : Nat) (x : ProgSlot) (s : State) : (s.setSlot k x).dcGroups = s.dcGroups := rfl
@[simp] theorem State.setSlot_dcCommon (k : Nat) (x : ProgSlot) (s : State) : (s.setSlot k x).dcCommon = s.dcCommon := rfl
@[simp] theorem State.setSlot_dcCommonAck (k : Nat) (x : ProgSlot) (s : State) : (s.setSlot k x).dcCommonAck = s.dcCommonAck := rfl
@[simp] theorem State.setSlot_so (k : Nat) (x : ProgSlot) (s : State) : (s.setSlot k x).so = s.so := rfl
@[simp] theorem State.setSlot_sv (k : Nat) (x : ProgSlot) (s : State) : (s.setSlot k x).sv = s.sv := rfl
@[simp] theorem State.setSlot_aiPairs (k : Nat) (x : ProgSlot) (s : State) : (s.setSlot k x).aiPairs = s.aiPairs := rfl
@[simp] theorem State.setSlot_triggers (k : Nat) (x : ProgSlot) (s : State) : (s.setSlot k x).triggers = s.triggers := rfl
@[simp] theorem State.setSlot_axes (k : Nat) (x : ProgSlot) (s : State) : (s.setSlot k x).axes = s.axes := rfl
@[simp] theorem State.setSlot_rtc (k : Nat) (x : ProgSlot) (s : State) : (s.setSlot k x).rtc = s.rtc := rfl
@[simp] theorem State.setSlot_bases (k : Nat) (x : ProgSlot) (s : State) : (s.setSlot k x).bases = s.bases := rfl
@[simp] theorem State.setSlot_pgs (k : Nat) (x : ProgSlot) (s : State) : (s.setSlot k x).pgs = s.pgs := rfl
@[simp] theorem State.setSlot_pis (k : Nat) (x : ProgSlot) (s : State) : (s.setSlot k x).pis = s.pis := rfl
@[simp] theorem State.setSlot_net (k : Nat) (x : ProgSlot) (s : State) : (s.setSlot k x).net = s.net := rfl
@[simp] theorem State.setSlot_tx (k : Nat) (x : ProgSlot) (s : State) : (s.setSlot k x).tx = s.tx := rfl
@[simp] theorem State.setSlot_cans (k : Nat) (x : ProgSlot) (s : State) : (s.setSlot k x).cans = s.cans := rfl
@[simp] theorem State.setSlot_cus (k : Nat) (x : ProgSlot) (s : State) : (s.setSlot k x).cus = s.cus := rfl
@[simp] theorem State.setSlot_pair (k : Nat) (x : ProgSlot) (s : State) : (s.setSlot k x).pair = s.pair := rfl
@[simp] theorem State.setSlot_upd (k : Nat) (x : ProgSlot) (s : State) : (s.setSlot k x).upd = s.upd := rfl
@[simp] theorem State.setSlot_panel (k : Nat) (x : ProgSlot) (s : State) : (s.setSlot k x).panel = s.panel := rfl
@[simp] theorem State.setSlot_sent (k : Nat) (x : ProgSlot) (s : State) : (s.setSlot k x).sent = s.sent := rfl
@[simp] theorem State.setSlot_pending (k : Nat) (x : ProgSlot) (s : State) : (s.setSlot k x).pending = s.pending := rfl

/-! ## `setForce` -/

@[simp] theorem State.setForce_tb0 (id : Nat) (f : Option Force) (s : State) : (s.setForce id f).tb0 = s.tb0 := rfl
@[simp] theorem State.setForce_free (id : Nat) (f : Option Force) (s : State) : (s.setForce id f).free = s.free := rfl
@[simp] theorem State.setForce_cfg (id : Nat) (f : Option Force) (s : State) : (s.setForce id f).cfg = s.cfg := rfl
@[simp] theorem State.setForce_power (id : Nat) (f : Option Force) (s : State) : (s.setForce id f).power = s.power := rfl
@[simp] theorem State.setForce_cocoon (id : Nat) (f : Option Force) (s : State) : (s.setForce id f).cocoon = s.cocoon := rfl
@[simp] theorem State.setForce_host (id : Nat) (f : Option Force) (s : State) : (s.setForce id f).host = s.host := rfl
@[simp] theorem State.setForce_disp (id : Nat) (f : Option Force) (s : State) : (s.setForce id f).disp = s.disp := rfl
@[simp] theorem State.setForce_mail (id : Nat) (f : Option Force) (s : State) : (s.setForce id f).mail = s.mail := rfl
@[simp] theorem State.setForce_inControl (id : Nat) (f : Option Force) (s : State) : (s.setForce id f).inControl = s.inControl := rfl
@[simp] theorem State.setForce_inData (id : Nat) (f : Option Force) (s : State) : (s.setForce id f).inData = s.inData := rfl
@[simp] theorem State.setForce_inManagement (id : Nat) (f : Option Force) (s : State) : (s.setForce id f).inManagement = s.inManagement := rfl
@[simp] theorem State.setForce_recorder (id : Nat) (f : Option Force) (s : State) : (s.setForce id f).recorder = s.recorder := rfl
@[simp] theorem State.setForce_session (id : Nat) (f : Option Force) (s : State) : (s.setForce id f).session = s.session := rfl
@[simp] theorem State.setForce_cred (id : Nat) (f : Option Force) (s : State) : (s.setForce id f).cred = s.cred := rfl
@[simp] theorem State.setForce_safeLog (id : Nat) (f : Option Force) (s : State) : (s.setForce id f).safeLog = s.safeLog := rfl
@[simp] theorem State.setForce_faults (id : Nat) (f : Option Force) (s : State) : (s.setForce id f).faults = s.faults := rfl
@[simp] theorem State.setForce_tasks (id : Nat) (f : Option Force) (s : State) : (s.setForce id f).tasks = s.tasks := rfl
@[simp] theorem State.setForce_cores (id : Nat) (f : Option Force) (s : State) : (s.setForce id f).cores = s.cores := rfl
@[simp] theorem State.setForce_loops (id : Nat) (f : Option Force) (s : State) : (s.setForce id f).loops = s.loops := rfl
@[simp] theorem State.setForce_ac (id : Nat) (f : Option Force) (s : State) : (s.setForce id f).ac = s.ac := rfl
@[simp] theorem State.setForce_modems (id : Nat) (f : Option Force) (s : State) : (s.setForce id f).modems = s.modems := rfl
@[simp] theorem State.setForce_hart (id : Nat) (f : Option Force) (s : State) : (s.setForce id f).hart = s.hart := rfl
@[simp] theorem State.setForce_dc (id : Nat) (f : Option Force) (s : State) : (s.setForce id f).dc = s.dc := rfl
@[simp] theorem State.setForce_dcGroups (id : Nat) (f : Option Force) (s : State) : (s.setForce id f).dcGroups = s.dcGroups := rfl
@[simp] theorem State.setForce_dcCommon (id : Nat) (f : Option Force) (s : State) : (s.setForce id f).dcCommon = s.dcCommon := rfl
@[simp] theorem State.setForce_dcCommonAck (id : Nat) (f : Option Force) (s : State) : (s.setForce id f).dcCommonAck = s.dcCommonAck := rfl
@[simp] theorem State.setForce_so (id : Nat) (f : Option Force) (s : State) : (s.setForce id f).so = s.so := rfl
@[simp] theorem State.setForce_sv (id : Nat) (f : Option Force) (s : State) : (s.setForce id f).sv = s.sv := rfl
@[simp] theorem State.setForce_aiPairs (id : Nat) (f : Option Force) (s : State) : (s.setForce id f).aiPairs = s.aiPairs := rfl
@[simp] theorem State.setForce_triggers (id : Nat) (f : Option Force) (s : State) : (s.setForce id f).triggers = s.triggers := rfl
@[simp] theorem State.setForce_axes (id : Nat) (f : Option Force) (s : State) : (s.setForce id f).axes = s.axes := rfl
@[simp] theorem State.setForce_rtc (id : Nat) (f : Option Force) (s : State) : (s.setForce id f).rtc = s.rtc := rfl
@[simp] theorem State.setForce_bases (id : Nat) (f : Option Force) (s : State) : (s.setForce id f).bases = s.bases := rfl
@[simp] theorem State.setForce_pgs (id : Nat) (f : Option Force) (s : State) : (s.setForce id f).pgs = s.pgs := rfl
@[simp] theorem State.setForce_pis (id : Nat) (f : Option Force) (s : State) : (s.setForce id f).pis = s.pis := rfl
@[simp] theorem State.setForce_net (id : Nat) (f : Option Force) (s : State) : (s.setForce id f).net = s.net := rfl
@[simp] theorem State.setForce_tx (id : Nat) (f : Option Force) (s : State) : (s.setForce id f).tx = s.tx := rfl
@[simp] theorem State.setForce_cans (id : Nat) (f : Option Force) (s : State) : (s.setForce id f).cans = s.cans := rfl
@[simp] theorem State.setForce_cus (id : Nat) (f : Option Force) (s : State) : (s.setForce id f).cus = s.cus := rfl
@[simp] theorem State.setForce_pair (id : Nat) (f : Option Force) (s : State) : (s.setForce id f).pair = s.pair := rfl
@[simp] theorem State.setForce_upd (id : Nat) (f : Option Force) (s : State) : (s.setForce id f).upd = s.upd := rfl
@[simp] theorem State.setForce_panel (id : Nat) (f : Option Force) (s : State) : (s.setForce id f).panel = s.panel := rfl
@[simp] theorem State.setForce_sent (id : Nat) (f : Option Force) (s : State) : (s.setForce id f).sent = s.sent := rfl
@[simp] theorem State.setForce_pending (id : Nat) (f : Option Force) (s : State) : (s.setForce id f).pending = s.pending := rfl

/-! ## `setAx` -/

@[simp] theorem State.setAx_tb0 (n : Nat) (x : AxisChan) (s : State) : (s.setAx n x).tb0 = s.tb0 := rfl
@[simp] theorem State.setAx_free (n : Nat) (x : AxisChan) (s : State) : (s.setAx n x).free = s.free := rfl
@[simp] theorem State.setAx_cfg (n : Nat) (x : AxisChan) (s : State) : (s.setAx n x).cfg = s.cfg := rfl
@[simp] theorem State.setAx_power (n : Nat) (x : AxisChan) (s : State) : (s.setAx n x).power = s.power := rfl
@[simp] theorem State.setAx_cocoon (n : Nat) (x : AxisChan) (s : State) : (s.setAx n x).cocoon = s.cocoon := rfl
@[simp] theorem State.setAx_host (n : Nat) (x : AxisChan) (s : State) : (s.setAx n x).host = s.host := rfl
@[simp] theorem State.setAx_disp (n : Nat) (x : AxisChan) (s : State) : (s.setAx n x).disp = s.disp := rfl
@[simp] theorem State.setAx_mail (n : Nat) (x : AxisChan) (s : State) : (s.setAx n x).mail = s.mail := rfl
@[simp] theorem State.setAx_inControl (n : Nat) (x : AxisChan) (s : State) : (s.setAx n x).inControl = s.inControl := rfl
@[simp] theorem State.setAx_inData (n : Nat) (x : AxisChan) (s : State) : (s.setAx n x).inData = s.inData := rfl
@[simp] theorem State.setAx_inManagement (n : Nat) (x : AxisChan) (s : State) : (s.setAx n x).inManagement = s.inManagement := rfl
@[simp] theorem State.setAx_recorder (n : Nat) (x : AxisChan) (s : State) : (s.setAx n x).recorder = s.recorder := rfl
@[simp] theorem State.setAx_session (n : Nat) (x : AxisChan) (s : State) : (s.setAx n x).session = s.session := rfl
@[simp] theorem State.setAx_cred (n : Nat) (x : AxisChan) (s : State) : (s.setAx n x).cred = s.cred := rfl
@[simp] theorem State.setAx_safeLog (n : Nat) (x : AxisChan) (s : State) : (s.setAx n x).safeLog = s.safeLog := rfl
@[simp] theorem State.setAx_faults (n : Nat) (x : AxisChan) (s : State) : (s.setAx n x).faults = s.faults := rfl
@[simp] theorem State.setAx_tasks (n : Nat) (x : AxisChan) (s : State) : (s.setAx n x).tasks = s.tasks := rfl
@[simp] theorem State.setAx_cores (n : Nat) (x : AxisChan) (s : State) : (s.setAx n x).cores = s.cores := rfl
@[simp] theorem State.setAx_prog (n : Nat) (x : AxisChan) (s : State) : (s.setAx n x).prog = s.prog := rfl
@[simp] theorem State.setAx_loops (n : Nat) (x : AxisChan) (s : State) : (s.setAx n x).loops = s.loops := rfl
@[simp] theorem State.setAx_ac (n : Nat) (x : AxisChan) (s : State) : (s.setAx n x).ac = s.ac := rfl
@[simp] theorem State.setAx_modems (n : Nat) (x : AxisChan) (s : State) : (s.setAx n x).modems = s.modems := rfl
@[simp] theorem State.setAx_hart (n : Nat) (x : AxisChan) (s : State) : (s.setAx n x).hart = s.hart := rfl
@[simp] theorem State.setAx_dc (n : Nat) (x : AxisChan) (s : State) : (s.setAx n x).dc = s.dc := rfl
@[simp] theorem State.setAx_dcGroups (n : Nat) (x : AxisChan) (s : State) : (s.setAx n x).dcGroups = s.dcGroups := rfl
@[simp] theorem State.setAx_dcCommon (n : Nat) (x : AxisChan) (s : State) : (s.setAx n x).dcCommon = s.dcCommon := rfl
@[simp] theorem State.setAx_dcCommonAck (n : Nat) (x : AxisChan) (s : State) : (s.setAx n x).dcCommonAck = s.dcCommonAck := rfl
@[simp] theorem State.setAx_so (n : Nat) (x : AxisChan) (s : State) : (s.setAx n x).so = s.so := rfl
@[simp] theorem State.setAx_sv (n : Nat) (x : AxisChan) (s : State) : (s.setAx n x).sv = s.sv := rfl
@[simp] theorem State.setAx_aiPairs (n : Nat) (x : AxisChan) (s : State) : (s.setAx n x).aiPairs = s.aiPairs := rfl
@[simp] theorem State.setAx_triggers (n : Nat) (x : AxisChan) (s : State) : (s.setAx n x).triggers = s.triggers := rfl
@[simp] theorem State.setAx_rtc (n : Nat) (x : AxisChan) (s : State) : (s.setAx n x).rtc = s.rtc := rfl
@[simp] theorem State.setAx_bases (n : Nat) (x : AxisChan) (s : State) : (s.setAx n x).bases = s.bases := rfl
@[simp] theorem State.setAx_pgs (n : Nat) (x : AxisChan) (s : State) : (s.setAx n x).pgs = s.pgs := rfl
@[simp] theorem State.setAx_pis (n : Nat) (x : AxisChan) (s : State) : (s.setAx n x).pis = s.pis := rfl
@[simp] theorem State.setAx_net (n : Nat) (x : AxisChan) (s : State) : (s.setAx n x).net = s.net := rfl
@[simp] theorem State.setAx_tx (n : Nat) (x : AxisChan) (s : State) : (s.setAx n x).tx = s.tx := rfl
@[simp] theorem State.setAx_cans (n : Nat) (x : AxisChan) (s : State) : (s.setAx n x).cans = s.cans := rfl
@[simp] theorem State.setAx_cus (n : Nat) (x : AxisChan) (s : State) : (s.setAx n x).cus = s.cus := rfl
@[simp] theorem State.setAx_pair (n : Nat) (x : AxisChan) (s : State) : (s.setAx n x).pair = s.pair := rfl
@[simp] theorem State.setAx_upd (n : Nat) (x : AxisChan) (s : State) : (s.setAx n x).upd = s.upd := rfl
@[simp] theorem State.setAx_panel (n : Nat) (x : AxisChan) (s : State) : (s.setAx n x).panel = s.panel := rfl
@[simp] theorem State.setAx_sent (n : Nat) (x : AxisChan) (s : State) : (s.setAx n x).sent = s.sent := rfl
@[simp] theorem State.setAx_pending (n : Nat) (x : AxisChan) (s : State) : (s.setAx n x).pending = s.pending := rfl

/-! ## `setBase` -/

@[simp] theorem State.setBase_tb0 (b : Nat) (x : TimeBase) (s : State) : (s.setBase b x).tb0 = s.tb0 := rfl
@[simp] theorem State.setBase_free (b : Nat) (x : TimeBase) (s : State) : (s.setBase b x).free = s.free := rfl
@[simp] theorem State.setBase_cfg (b : Nat) (x : TimeBase) (s : State) : (s.setBase b x).cfg = s.cfg := rfl
@[simp] theorem State.setBase_power (b : Nat) (x : TimeBase) (s : State) : (s.setBase b x).power = s.power := rfl
@[simp] theorem State.setBase_cocoon (b : Nat) (x : TimeBase) (s : State) : (s.setBase b x).cocoon = s.cocoon := rfl
@[simp] theorem State.setBase_host (b : Nat) (x : TimeBase) (s : State) : (s.setBase b x).host = s.host := rfl
@[simp] theorem State.setBase_disp (b : Nat) (x : TimeBase) (s : State) : (s.setBase b x).disp = s.disp := rfl
@[simp] theorem State.setBase_mail (b : Nat) (x : TimeBase) (s : State) : (s.setBase b x).mail = s.mail := rfl
@[simp] theorem State.setBase_inControl (b : Nat) (x : TimeBase) (s : State) : (s.setBase b x).inControl = s.inControl := rfl
@[simp] theorem State.setBase_inData (b : Nat) (x : TimeBase) (s : State) : (s.setBase b x).inData = s.inData := rfl
@[simp] theorem State.setBase_inManagement (b : Nat) (x : TimeBase) (s : State) : (s.setBase b x).inManagement = s.inManagement := rfl
@[simp] theorem State.setBase_recorder (b : Nat) (x : TimeBase) (s : State) : (s.setBase b x).recorder = s.recorder := rfl
@[simp] theorem State.setBase_session (b : Nat) (x : TimeBase) (s : State) : (s.setBase b x).session = s.session := rfl
@[simp] theorem State.setBase_cred (b : Nat) (x : TimeBase) (s : State) : (s.setBase b x).cred = s.cred := rfl
@[simp] theorem State.setBase_safeLog (b : Nat) (x : TimeBase) (s : State) : (s.setBase b x).safeLog = s.safeLog := rfl
@[simp] theorem State.setBase_faults (b : Nat) (x : TimeBase) (s : State) : (s.setBase b x).faults = s.faults := rfl
@[simp] theorem State.setBase_tasks (b : Nat) (x : TimeBase) (s : State) : (s.setBase b x).tasks = s.tasks := rfl
@[simp] theorem State.setBase_cores (b : Nat) (x : TimeBase) (s : State) : (s.setBase b x).cores = s.cores := rfl
@[simp] theorem State.setBase_prog (b : Nat) (x : TimeBase) (s : State) : (s.setBase b x).prog = s.prog := rfl
@[simp] theorem State.setBase_loops (b : Nat) (x : TimeBase) (s : State) : (s.setBase b x).loops = s.loops := rfl
@[simp] theorem State.setBase_ac (b : Nat) (x : TimeBase) (s : State) : (s.setBase b x).ac = s.ac := rfl
@[simp] theorem State.setBase_modems (b : Nat) (x : TimeBase) (s : State) : (s.setBase b x).modems = s.modems := rfl
@[simp] theorem State.setBase_hart (b : Nat) (x : TimeBase) (s : State) : (s.setBase b x).hart = s.hart := rfl
@[simp] theorem State.setBase_dc (b : Nat) (x : TimeBase) (s : State) : (s.setBase b x).dc = s.dc := rfl
@[simp] theorem State.setBase_dcGroups (b : Nat) (x : TimeBase) (s : State) : (s.setBase b x).dcGroups = s.dcGroups := rfl
@[simp] theorem State.setBase_dcCommon (b : Nat) (x : TimeBase) (s : State) : (s.setBase b x).dcCommon = s.dcCommon := rfl
@[simp] theorem State.setBase_dcCommonAck (b : Nat) (x : TimeBase) (s : State) : (s.setBase b x).dcCommonAck = s.dcCommonAck := rfl
@[simp] theorem State.setBase_so (b : Nat) (x : TimeBase) (s : State) : (s.setBase b x).so = s.so := rfl
@[simp] theorem State.setBase_sv (b : Nat) (x : TimeBase) (s : State) : (s.setBase b x).sv = s.sv := rfl
@[simp] theorem State.setBase_aiPairs (b : Nat) (x : TimeBase) (s : State) : (s.setBase b x).aiPairs = s.aiPairs := rfl
@[simp] theorem State.setBase_triggers (b : Nat) (x : TimeBase) (s : State) : (s.setBase b x).triggers = s.triggers := rfl
@[simp] theorem State.setBase_axes (b : Nat) (x : TimeBase) (s : State) : (s.setBase b x).axes = s.axes := rfl
@[simp] theorem State.setBase_rtc (b : Nat) (x : TimeBase) (s : State) : (s.setBase b x).rtc = s.rtc := rfl
@[simp] theorem State.setBase_pgs (b : Nat) (x : TimeBase) (s : State) : (s.setBase b x).pgs = s.pgs := rfl
@[simp] theorem State.setBase_pis (b : Nat) (x : TimeBase) (s : State) : (s.setBase b x).pis = s.pis := rfl
@[simp] theorem State.setBase_net (b : Nat) (x : TimeBase) (s : State) : (s.setBase b x).net = s.net := rfl
@[simp] theorem State.setBase_tx (b : Nat) (x : TimeBase) (s : State) : (s.setBase b x).tx = s.tx := rfl
@[simp] theorem State.setBase_cans (b : Nat) (x : TimeBase) (s : State) : (s.setBase b x).cans = s.cans := rfl
@[simp] theorem State.setBase_cus (b : Nat) (x : TimeBase) (s : State) : (s.setBase b x).cus = s.cus := rfl
@[simp] theorem State.setBase_pair (b : Nat) (x : TimeBase) (s : State) : (s.setBase b x).pair = s.pair := rfl
@[simp] theorem State.setBase_upd (b : Nat) (x : TimeBase) (s : State) : (s.setBase b x).upd = s.upd := rfl
@[simp] theorem State.setBase_panel (b : Nat) (x : TimeBase) (s : State) : (s.setBase b x).panel = s.panel := rfl
@[simp] theorem State.setBase_sent (b : Nat) (x : TimeBase) (s : State) : (s.setBase b x).sent = s.sent := rfl
@[simp] theorem State.setBase_pending (b : Nat) (x : TimeBase) (s : State) : (s.setBase b x).pending = s.pending := rfl

/-! ## `setPg` -/

@[simp] theorem State.setPg_tb0 (k : Nat) (x : PgRun) (s : State) : (s.setPg k x).tb0 = s.tb0 := rfl
@[simp] theorem State.setPg_free (k : Nat) (x : PgRun) (s : State) : (s.setPg k x).free = s.free := rfl
@[simp] theorem State.setPg_cfg (k : Nat) (x : PgRun) (s : State) : (s.setPg k x).cfg = s.cfg := rfl
@[simp] theorem State.setPg_power (k : Nat) (x : PgRun) (s : State) : (s.setPg k x).power = s.power := rfl
@[simp] theorem State.setPg_cocoon (k : Nat) (x : PgRun) (s : State) : (s.setPg k x).cocoon = s.cocoon := rfl
@[simp] theorem State.setPg_host (k : Nat) (x : PgRun) (s : State) : (s.setPg k x).host = s.host := rfl
@[simp] theorem State.setPg_disp (k : Nat) (x : PgRun) (s : State) : (s.setPg k x).disp = s.disp := rfl
@[simp] theorem State.setPg_mail (k : Nat) (x : PgRun) (s : State) : (s.setPg k x).mail = s.mail := rfl
@[simp] theorem State.setPg_inControl (k : Nat) (x : PgRun) (s : State) : (s.setPg k x).inControl = s.inControl := rfl
@[simp] theorem State.setPg_inData (k : Nat) (x : PgRun) (s : State) : (s.setPg k x).inData = s.inData := rfl
@[simp] theorem State.setPg_inManagement (k : Nat) (x : PgRun) (s : State) : (s.setPg k x).inManagement = s.inManagement := rfl
@[simp] theorem State.setPg_recorder (k : Nat) (x : PgRun) (s : State) : (s.setPg k x).recorder = s.recorder := rfl
@[simp] theorem State.setPg_session (k : Nat) (x : PgRun) (s : State) : (s.setPg k x).session = s.session := rfl
@[simp] theorem State.setPg_cred (k : Nat) (x : PgRun) (s : State) : (s.setPg k x).cred = s.cred := rfl
@[simp] theorem State.setPg_safeLog (k : Nat) (x : PgRun) (s : State) : (s.setPg k x).safeLog = s.safeLog := rfl
@[simp] theorem State.setPg_faults (k : Nat) (x : PgRun) (s : State) : (s.setPg k x).faults = s.faults := rfl
@[simp] theorem State.setPg_tasks (k : Nat) (x : PgRun) (s : State) : (s.setPg k x).tasks = s.tasks := rfl
@[simp] theorem State.setPg_cores (k : Nat) (x : PgRun) (s : State) : (s.setPg k x).cores = s.cores := rfl
@[simp] theorem State.setPg_prog (k : Nat) (x : PgRun) (s : State) : (s.setPg k x).prog = s.prog := rfl
@[simp] theorem State.setPg_loops (k : Nat) (x : PgRun) (s : State) : (s.setPg k x).loops = s.loops := rfl
@[simp] theorem State.setPg_ac (k : Nat) (x : PgRun) (s : State) : (s.setPg k x).ac = s.ac := rfl
@[simp] theorem State.setPg_modems (k : Nat) (x : PgRun) (s : State) : (s.setPg k x).modems = s.modems := rfl
@[simp] theorem State.setPg_hart (k : Nat) (x : PgRun) (s : State) : (s.setPg k x).hart = s.hart := rfl
@[simp] theorem State.setPg_dc (k : Nat) (x : PgRun) (s : State) : (s.setPg k x).dc = s.dc := rfl
@[simp] theorem State.setPg_dcGroups (k : Nat) (x : PgRun) (s : State) : (s.setPg k x).dcGroups = s.dcGroups := rfl
@[simp] theorem State.setPg_dcCommon (k : Nat) (x : PgRun) (s : State) : (s.setPg k x).dcCommon = s.dcCommon := rfl
@[simp] theorem State.setPg_dcCommonAck (k : Nat) (x : PgRun) (s : State) : (s.setPg k x).dcCommonAck = s.dcCommonAck := rfl
@[simp] theorem State.setPg_so (k : Nat) (x : PgRun) (s : State) : (s.setPg k x).so = s.so := rfl
@[simp] theorem State.setPg_sv (k : Nat) (x : PgRun) (s : State) : (s.setPg k x).sv = s.sv := rfl
@[simp] theorem State.setPg_aiPairs (k : Nat) (x : PgRun) (s : State) : (s.setPg k x).aiPairs = s.aiPairs := rfl
@[simp] theorem State.setPg_triggers (k : Nat) (x : PgRun) (s : State) : (s.setPg k x).triggers = s.triggers := rfl
@[simp] theorem State.setPg_axes (k : Nat) (x : PgRun) (s : State) : (s.setPg k x).axes = s.axes := rfl
@[simp] theorem State.setPg_rtc (k : Nat) (x : PgRun) (s : State) : (s.setPg k x).rtc = s.rtc := rfl
@[simp] theorem State.setPg_bases (k : Nat) (x : PgRun) (s : State) : (s.setPg k x).bases = s.bases := rfl
@[simp] theorem State.setPg_pis (k : Nat) (x : PgRun) (s : State) : (s.setPg k x).pis = s.pis := rfl
@[simp] theorem State.setPg_net (k : Nat) (x : PgRun) (s : State) : (s.setPg k x).net = s.net := rfl
@[simp] theorem State.setPg_tx (k : Nat) (x : PgRun) (s : State) : (s.setPg k x).tx = s.tx := rfl
@[simp] theorem State.setPg_cans (k : Nat) (x : PgRun) (s : State) : (s.setPg k x).cans = s.cans := rfl
@[simp] theorem State.setPg_cus (k : Nat) (x : PgRun) (s : State) : (s.setPg k x).cus = s.cus := rfl
@[simp] theorem State.setPg_pair (k : Nat) (x : PgRun) (s : State) : (s.setPg k x).pair = s.pair := rfl
@[simp] theorem State.setPg_upd (k : Nat) (x : PgRun) (s : State) : (s.setPg k x).upd = s.upd := rfl
@[simp] theorem State.setPg_panel (k : Nat) (x : PgRun) (s : State) : (s.setPg k x).panel = s.panel := rfl
@[simp] theorem State.setPg_sent (k : Nat) (x : PgRun) (s : State) : (s.setPg k x).sent = s.sent := rfl
@[simp] theorem State.setPg_pending (k : Nat) (x : PgRun) (s : State) : (s.setPg k x).pending = s.pending := rfl

/-! ## `setPi` -/

@[simp] theorem State.setPi_tb0 (n : Nat) (x : PiRun) (s : State) : (s.setPi n x).tb0 = s.tb0 := rfl
@[simp] theorem State.setPi_free (n : Nat) (x : PiRun) (s : State) : (s.setPi n x).free = s.free := rfl
@[simp] theorem State.setPi_cfg (n : Nat) (x : PiRun) (s : State) : (s.setPi n x).cfg = s.cfg := rfl
@[simp] theorem State.setPi_power (n : Nat) (x : PiRun) (s : State) : (s.setPi n x).power = s.power := rfl
@[simp] theorem State.setPi_cocoon (n : Nat) (x : PiRun) (s : State) : (s.setPi n x).cocoon = s.cocoon := rfl
@[simp] theorem State.setPi_host (n : Nat) (x : PiRun) (s : State) : (s.setPi n x).host = s.host := rfl
@[simp] theorem State.setPi_disp (n : Nat) (x : PiRun) (s : State) : (s.setPi n x).disp = s.disp := rfl
@[simp] theorem State.setPi_mail (n : Nat) (x : PiRun) (s : State) : (s.setPi n x).mail = s.mail := rfl
@[simp] theorem State.setPi_inControl (n : Nat) (x : PiRun) (s : State) : (s.setPi n x).inControl = s.inControl := rfl
@[simp] theorem State.setPi_inData (n : Nat) (x : PiRun) (s : State) : (s.setPi n x).inData = s.inData := rfl
@[simp] theorem State.setPi_inManagement (n : Nat) (x : PiRun) (s : State) : (s.setPi n x).inManagement = s.inManagement := rfl
@[simp] theorem State.setPi_recorder (n : Nat) (x : PiRun) (s : State) : (s.setPi n x).recorder = s.recorder := rfl
@[simp] theorem State.setPi_session (n : Nat) (x : PiRun) (s : State) : (s.setPi n x).session = s.session := rfl
@[simp] theorem State.setPi_cred (n : Nat) (x : PiRun) (s : State) : (s.setPi n x).cred = s.cred := rfl
@[simp] theorem State.setPi_safeLog (n : Nat) (x : PiRun) (s : State) : (s.setPi n x).safeLog = s.safeLog := rfl
@[simp] theorem State.setPi_faults (n : Nat) (x : PiRun) (s : State) : (s.setPi n x).faults = s.faults := rfl
@[simp] theorem State.setPi_tasks (n : Nat) (x : PiRun) (s : State) : (s.setPi n x).tasks = s.tasks := rfl
@[simp] theorem State.setPi_cores (n : Nat) (x : PiRun) (s : State) : (s.setPi n x).cores = s.cores := rfl
@[simp] theorem State.setPi_prog (n : Nat) (x : PiRun) (s : State) : (s.setPi n x).prog = s.prog := rfl
@[simp] theorem State.setPi_loops (n : Nat) (x : PiRun) (s : State) : (s.setPi n x).loops = s.loops := rfl
@[simp] theorem State.setPi_ac (n : Nat) (x : PiRun) (s : State) : (s.setPi n x).ac = s.ac := rfl
@[simp] theorem State.setPi_modems (n : Nat) (x : PiRun) (s : State) : (s.setPi n x).modems = s.modems := rfl
@[simp] theorem State.setPi_hart (n : Nat) (x : PiRun) (s : State) : (s.setPi n x).hart = s.hart := rfl
@[simp] theorem State.setPi_dc (n : Nat) (x : PiRun) (s : State) : (s.setPi n x).dc = s.dc := rfl
@[simp] theorem State.setPi_dcGroups (n : Nat) (x : PiRun) (s : State) : (s.setPi n x).dcGroups = s.dcGroups := rfl
@[simp] theorem State.setPi_dcCommon (n : Nat) (x : PiRun) (s : State) : (s.setPi n x).dcCommon = s.dcCommon := rfl
@[simp] theorem State.setPi_dcCommonAck (n : Nat) (x : PiRun) (s : State) : (s.setPi n x).dcCommonAck = s.dcCommonAck := rfl
@[simp] theorem State.setPi_so (n : Nat) (x : PiRun) (s : State) : (s.setPi n x).so = s.so := rfl
@[simp] theorem State.setPi_sv (n : Nat) (x : PiRun) (s : State) : (s.setPi n x).sv = s.sv := rfl
@[simp] theorem State.setPi_aiPairs (n : Nat) (x : PiRun) (s : State) : (s.setPi n x).aiPairs = s.aiPairs := rfl
@[simp] theorem State.setPi_triggers (n : Nat) (x : PiRun) (s : State) : (s.setPi n x).triggers = s.triggers := rfl
@[simp] theorem State.setPi_axes (n : Nat) (x : PiRun) (s : State) : (s.setPi n x).axes = s.axes := rfl
@[simp] theorem State.setPi_rtc (n : Nat) (x : PiRun) (s : State) : (s.setPi n x).rtc = s.rtc := rfl
@[simp] theorem State.setPi_bases (n : Nat) (x : PiRun) (s : State) : (s.setPi n x).bases = s.bases := rfl
@[simp] theorem State.setPi_pgs (n : Nat) (x : PiRun) (s : State) : (s.setPi n x).pgs = s.pgs := rfl
@[simp] theorem State.setPi_net (n : Nat) (x : PiRun) (s : State) : (s.setPi n x).net = s.net := rfl
@[simp] theorem State.setPi_tx (n : Nat) (x : PiRun) (s : State) : (s.setPi n x).tx = s.tx := rfl
@[simp] theorem State.setPi_cans (n : Nat) (x : PiRun) (s : State) : (s.setPi n x).cans = s.cans := rfl
@[simp] theorem State.setPi_cus (n : Nat) (x : PiRun) (s : State) : (s.setPi n x).cus = s.cus := rfl
@[simp] theorem State.setPi_pair (n : Nat) (x : PiRun) (s : State) : (s.setPi n x).pair = s.pair := rfl
@[simp] theorem State.setPi_upd (n : Nat) (x : PiRun) (s : State) : (s.setPi n x).upd = s.upd := rfl
@[simp] theorem State.setPi_panel (n : Nat) (x : PiRun) (s : State) : (s.setPi n x).panel = s.panel := rfl
@[simp] theorem State.setPi_sent (n : Nat) (x : PiRun) (s : State) : (s.setPi n x).sent = s.sent := rfl
@[simp] theorem State.setPi_pending (n : Nat) (x : PiRun) (s : State) : (s.setPi n x).pending = s.pending := rfl

/-! ## `setBe` -/

@[simp] theorem State.setBe_tb0 (n : Nat) (b : BeInput) (s : State) : (s.setBe n b).tb0 = s.tb0 := rfl
@[simp] theorem State.setBe_free (n : Nat) (b : BeInput) (s : State) : (s.setBe n b).free = s.free := rfl
@[simp] theorem State.setBe_cfg (n : Nat) (b : BeInput) (s : State) : (s.setBe n b).cfg = s.cfg := rfl
@[simp] theorem State.setBe_power (n : Nat) (b : BeInput) (s : State) : (s.setBe n b).power = s.power := rfl
@[simp] theorem State.setBe_cocoon (n : Nat) (b : BeInput) (s : State) : (s.setBe n b).cocoon = s.cocoon := rfl
@[simp] theorem State.setBe_host (n : Nat) (b : BeInput) (s : State) : (s.setBe n b).host = s.host := rfl
@[simp] theorem State.setBe_disp (n : Nat) (b : BeInput) (s : State) : (s.setBe n b).disp = s.disp := rfl
@[simp] theorem State.setBe_mail (n : Nat) (b : BeInput) (s : State) : (s.setBe n b).mail = s.mail := rfl
@[simp] theorem State.setBe_inControl (n : Nat) (b : BeInput) (s : State) : (s.setBe n b).inControl = s.inControl := rfl
@[simp] theorem State.setBe_inData (n : Nat) (b : BeInput) (s : State) : (s.setBe n b).inData = s.inData := rfl
@[simp] theorem State.setBe_inManagement (n : Nat) (b : BeInput) (s : State) : (s.setBe n b).inManagement = s.inManagement := rfl
@[simp] theorem State.setBe_recorder (n : Nat) (b : BeInput) (s : State) : (s.setBe n b).recorder = s.recorder := rfl
@[simp] theorem State.setBe_session (n : Nat) (b : BeInput) (s : State) : (s.setBe n b).session = s.session := rfl
@[simp] theorem State.setBe_cred (n : Nat) (b : BeInput) (s : State) : (s.setBe n b).cred = s.cred := rfl
@[simp] theorem State.setBe_safeLog (n : Nat) (b : BeInput) (s : State) : (s.setBe n b).safeLog = s.safeLog := rfl
@[simp] theorem State.setBe_faults (n : Nat) (b : BeInput) (s : State) : (s.setBe n b).faults = s.faults := rfl
@[simp] theorem State.setBe_tasks (n : Nat) (b : BeInput) (s : State) : (s.setBe n b).tasks = s.tasks := rfl
@[simp] theorem State.setBe_cores (n : Nat) (b : BeInput) (s : State) : (s.setBe n b).cores = s.cores := rfl
@[simp] theorem State.setBe_prog (n : Nat) (b : BeInput) (s : State) : (s.setBe n b).prog = s.prog := rfl
@[simp] theorem State.setBe_loops (n : Nat) (b : BeInput) (s : State) : (s.setBe n b).loops = s.loops := rfl
@[simp] theorem State.setBe_ac (n : Nat) (b : BeInput) (s : State) : (s.setBe n b).ac = s.ac := rfl
@[simp] theorem State.setBe_modems (n : Nat) (b : BeInput) (s : State) : (s.setBe n b).modems = s.modems := rfl
@[simp] theorem State.setBe_hart (n : Nat) (b : BeInput) (s : State) : (s.setBe n b).hart = s.hart := rfl
@[simp] theorem State.setBe_dc (n : Nat) (b : BeInput) (s : State) : (s.setBe n b).dc = s.dc := rfl
@[simp] theorem State.setBe_dcGroups (n : Nat) (b : BeInput) (s : State) : (s.setBe n b).dcGroups = s.dcGroups := rfl
@[simp] theorem State.setBe_dcCommon (n : Nat) (b : BeInput) (s : State) : (s.setBe n b).dcCommon = s.dcCommon := rfl
@[simp] theorem State.setBe_dcCommonAck (n : Nat) (b : BeInput) (s : State) : (s.setBe n b).dcCommonAck = s.dcCommonAck := rfl
@[simp] theorem State.setBe_so (n : Nat) (b : BeInput) (s : State) : (s.setBe n b).so = s.so := rfl
@[simp] theorem State.setBe_sv (n : Nat) (b : BeInput) (s : State) : (s.setBe n b).sv = s.sv := rfl
@[simp] theorem State.setBe_aiPairs (n : Nat) (b : BeInput) (s : State) : (s.setBe n b).aiPairs = s.aiPairs := rfl
@[simp] theorem State.setBe_triggers (n : Nat) (b : BeInput) (s : State) : (s.setBe n b).triggers = s.triggers := rfl
@[simp] theorem State.setBe_axes (n : Nat) (b : BeInput) (s : State) : (s.setBe n b).axes = s.axes := rfl
@[simp] theorem State.setBe_bases (n : Nat) (b : BeInput) (s : State) : (s.setBe n b).bases = s.bases := rfl
@[simp] theorem State.setBe_pgs (n : Nat) (b : BeInput) (s : State) : (s.setBe n b).pgs = s.pgs := rfl
@[simp] theorem State.setBe_pis (n : Nat) (b : BeInput) (s : State) : (s.setBe n b).pis = s.pis := rfl
@[simp] theorem State.setBe_net (n : Nat) (b : BeInput) (s : State) : (s.setBe n b).net = s.net := rfl
@[simp] theorem State.setBe_tx (n : Nat) (b : BeInput) (s : State) : (s.setBe n b).tx = s.tx := rfl
@[simp] theorem State.setBe_cans (n : Nat) (b : BeInput) (s : State) : (s.setBe n b).cans = s.cans := rfl
@[simp] theorem State.setBe_cus (n : Nat) (b : BeInput) (s : State) : (s.setBe n b).cus = s.cus := rfl
@[simp] theorem State.setBe_pair (n : Nat) (b : BeInput) (s : State) : (s.setBe n b).pair = s.pair := rfl
@[simp] theorem State.setBe_upd (n : Nat) (b : BeInput) (s : State) : (s.setBe n b).upd = s.upd := rfl
@[simp] theorem State.setBe_panel (n : Nat) (b : BeInput) (s : State) : (s.setBe n b).panel = s.panel := rfl
@[simp] theorem State.setBe_sent (n : Nat) (b : BeInput) (s : State) : (s.setBe n b).sent = s.sent := rfl
@[simp] theorem State.setBe_pending (n : Nat) (b : BeInput) (s : State) : (s.setBe n b).pending = s.pending := rfl

/-! ## `setCan` -/

@[simp] theorem State.setCan_tb0 (n : Nat) (x : CanChan) (s : State) : (s.setCan n x).tb0 = s.tb0 := rfl
@[simp] theorem State.setCan_free (n : Nat) (x : CanChan) (s : State) : (s.setCan n x).free = s.free := rfl
@[simp] theorem State.setCan_cfg (n : Nat) (x : CanChan) (s : State) : (s.setCan n x).cfg = s.cfg := rfl
@[simp] theorem State.setCan_power (n : Nat) (x : CanChan) (s : State) : (s.setCan n x).power = s.power := rfl
@[simp] theorem State.setCan_cocoon (n : Nat) (x : CanChan) (s : State) : (s.setCan n x).cocoon = s.cocoon := rfl
@[simp] theorem State.setCan_host (n : Nat) (x : CanChan) (s : State) : (s.setCan n x).host = s.host := rfl
@[simp] theorem State.setCan_disp (n : Nat) (x : CanChan) (s : State) : (s.setCan n x).disp = s.disp := rfl
@[simp] theorem State.setCan_mail (n : Nat) (x : CanChan) (s : State) : (s.setCan n x).mail = s.mail := rfl
@[simp] theorem State.setCan_inControl (n : Nat) (x : CanChan) (s : State) : (s.setCan n x).inControl = s.inControl := rfl
@[simp] theorem State.setCan_inData (n : Nat) (x : CanChan) (s : State) : (s.setCan n x).inData = s.inData := rfl
@[simp] theorem State.setCan_inManagement (n : Nat) (x : CanChan) (s : State) : (s.setCan n x).inManagement = s.inManagement := rfl
@[simp] theorem State.setCan_recorder (n : Nat) (x : CanChan) (s : State) : (s.setCan n x).recorder = s.recorder := rfl
@[simp] theorem State.setCan_session (n : Nat) (x : CanChan) (s : State) : (s.setCan n x).session = s.session := rfl
@[simp] theorem State.setCan_cred (n : Nat) (x : CanChan) (s : State) : (s.setCan n x).cred = s.cred := rfl
@[simp] theorem State.setCan_safeLog (n : Nat) (x : CanChan) (s : State) : (s.setCan n x).safeLog = s.safeLog := rfl
@[simp] theorem State.setCan_faults (n : Nat) (x : CanChan) (s : State) : (s.setCan n x).faults = s.faults := rfl
@[simp] theorem State.setCan_tasks (n : Nat) (x : CanChan) (s : State) : (s.setCan n x).tasks = s.tasks := rfl
@[simp] theorem State.setCan_cores (n : Nat) (x : CanChan) (s : State) : (s.setCan n x).cores = s.cores := rfl
@[simp] theorem State.setCan_prog (n : Nat) (x : CanChan) (s : State) : (s.setCan n x).prog = s.prog := rfl
@[simp] theorem State.setCan_loops (n : Nat) (x : CanChan) (s : State) : (s.setCan n x).loops = s.loops := rfl
@[simp] theorem State.setCan_ac (n : Nat) (x : CanChan) (s : State) : (s.setCan n x).ac = s.ac := rfl
@[simp] theorem State.setCan_modems (n : Nat) (x : CanChan) (s : State) : (s.setCan n x).modems = s.modems := rfl
@[simp] theorem State.setCan_hart (n : Nat) (x : CanChan) (s : State) : (s.setCan n x).hart = s.hart := rfl
@[simp] theorem State.setCan_dc (n : Nat) (x : CanChan) (s : State) : (s.setCan n x).dc = s.dc := rfl
@[simp] theorem State.setCan_dcGroups (n : Nat) (x : CanChan) (s : State) : (s.setCan n x).dcGroups = s.dcGroups := rfl
@[simp] theorem State.setCan_dcCommon (n : Nat) (x : CanChan) (s : State) : (s.setCan n x).dcCommon = s.dcCommon := rfl
@[simp] theorem State.setCan_dcCommonAck (n : Nat) (x : CanChan) (s : State) : (s.setCan n x).dcCommonAck = s.dcCommonAck := rfl
@[simp] theorem State.setCan_so (n : Nat) (x : CanChan) (s : State) : (s.setCan n x).so = s.so := rfl
@[simp] theorem State.setCan_sv (n : Nat) (x : CanChan) (s : State) : (s.setCan n x).sv = s.sv := rfl
@[simp] theorem State.setCan_aiPairs (n : Nat) (x : CanChan) (s : State) : (s.setCan n x).aiPairs = s.aiPairs := rfl
@[simp] theorem State.setCan_triggers (n : Nat) (x : CanChan) (s : State) : (s.setCan n x).triggers = s.triggers := rfl
@[simp] theorem State.setCan_axes (n : Nat) (x : CanChan) (s : State) : (s.setCan n x).axes = s.axes := rfl
@[simp] theorem State.setCan_rtc (n : Nat) (x : CanChan) (s : State) : (s.setCan n x).rtc = s.rtc := rfl
@[simp] theorem State.setCan_bases (n : Nat) (x : CanChan) (s : State) : (s.setCan n x).bases = s.bases := rfl
@[simp] theorem State.setCan_pgs (n : Nat) (x : CanChan) (s : State) : (s.setCan n x).pgs = s.pgs := rfl
@[simp] theorem State.setCan_pis (n : Nat) (x : CanChan) (s : State) : (s.setCan n x).pis = s.pis := rfl
@[simp] theorem State.setCan_net (n : Nat) (x : CanChan) (s : State) : (s.setCan n x).net = s.net := rfl
@[simp] theorem State.setCan_tx (n : Nat) (x : CanChan) (s : State) : (s.setCan n x).tx = s.tx := rfl
@[simp] theorem State.setCan_cus (n : Nat) (x : CanChan) (s : State) : (s.setCan n x).cus = s.cus := rfl
@[simp] theorem State.setCan_pair (n : Nat) (x : CanChan) (s : State) : (s.setCan n x).pair = s.pair := rfl
@[simp] theorem State.setCan_upd (n : Nat) (x : CanChan) (s : State) : (s.setCan n x).upd = s.upd := rfl
@[simp] theorem State.setCan_panel (n : Nat) (x : CanChan) (s : State) : (s.setCan n x).panel = s.panel := rfl
@[simp] theorem State.setCan_sent (n : Nat) (x : CanChan) (s : State) : (s.setCan n x).sent = s.sent := rfl
@[simp] theorem State.setCan_pending (n : Nat) (x : CanChan) (s : State) : (s.setCan n x).pending = s.pending := rfl

/-! ## `setCu` -/

@[simp] theorem State.setCu_tb0 (u : Nat) (x : CuRun) (s : State) : (s.setCu u x).tb0 = s.tb0 := rfl
@[simp] theorem State.setCu_free (u : Nat) (x : CuRun) (s : State) : (s.setCu u x).free = s.free := rfl
@[simp] theorem State.setCu_cfg (u : Nat) (x : CuRun) (s : State) : (s.setCu u x).cfg = s.cfg := rfl
@[simp] theorem State.setCu_power (u : Nat) (x : CuRun) (s : State) : (s.setCu u x).power = s.power := rfl
@[simp] theorem State.setCu_cocoon (u : Nat) (x : CuRun) (s : State) : (s.setCu u x).cocoon = s.cocoon := rfl
@[simp] theorem State.setCu_host (u : Nat) (x : CuRun) (s : State) : (s.setCu u x).host = s.host := rfl
@[simp] theorem State.setCu_disp (u : Nat) (x : CuRun) (s : State) : (s.setCu u x).disp = s.disp := rfl
@[simp] theorem State.setCu_mail (u : Nat) (x : CuRun) (s : State) : (s.setCu u x).mail = s.mail := rfl
@[simp] theorem State.setCu_inControl (u : Nat) (x : CuRun) (s : State) : (s.setCu u x).inControl = s.inControl := rfl
@[simp] theorem State.setCu_inData (u : Nat) (x : CuRun) (s : State) : (s.setCu u x).inData = s.inData := rfl
@[simp] theorem State.setCu_inManagement (u : Nat) (x : CuRun) (s : State) : (s.setCu u x).inManagement = s.inManagement := rfl
@[simp] theorem State.setCu_recorder (u : Nat) (x : CuRun) (s : State) : (s.setCu u x).recorder = s.recorder := rfl
@[simp] theorem State.setCu_session (u : Nat) (x : CuRun) (s : State) : (s.setCu u x).session = s.session := rfl
@[simp] theorem State.setCu_cred (u : Nat) (x : CuRun) (s : State) : (s.setCu u x).cred = s.cred := rfl
@[simp] theorem State.setCu_safeLog (u : Nat) (x : CuRun) (s : State) : (s.setCu u x).safeLog = s.safeLog := rfl
@[simp] theorem State.setCu_faults (u : Nat) (x : CuRun) (s : State) : (s.setCu u x).faults = s.faults := rfl
@[simp] theorem State.setCu_tasks (u : Nat) (x : CuRun) (s : State) : (s.setCu u x).tasks = s.tasks := rfl
@[simp] theorem State.setCu_cores (u : Nat) (x : CuRun) (s : State) : (s.setCu u x).cores = s.cores := rfl
@[simp] theorem State.setCu_prog (u : Nat) (x : CuRun) (s : State) : (s.setCu u x).prog = s.prog := rfl
@[simp] theorem State.setCu_loops (u : Nat) (x : CuRun) (s : State) : (s.setCu u x).loops = s.loops := rfl
@[simp] theorem State.setCu_ac (u : Nat) (x : CuRun) (s : State) : (s.setCu u x).ac = s.ac := rfl
@[simp] theorem State.setCu_modems (u : Nat) (x : CuRun) (s : State) : (s.setCu u x).modems = s.modems := rfl
@[simp] theorem State.setCu_hart (u : Nat) (x : CuRun) (s : State) : (s.setCu u x).hart = s.hart := rfl
@[simp] theorem State.setCu_dc (u : Nat) (x : CuRun) (s : State) : (s.setCu u x).dc = s.dc := rfl
@[simp] theorem State.setCu_dcGroups (u : Nat) (x : CuRun) (s : State) : (s.setCu u x).dcGroups = s.dcGroups := rfl
@[simp] theorem State.setCu_dcCommon (u : Nat) (x : CuRun) (s : State) : (s.setCu u x).dcCommon = s.dcCommon := rfl
@[simp] theorem State.setCu_dcCommonAck (u : Nat) (x : CuRun) (s : State) : (s.setCu u x).dcCommonAck = s.dcCommonAck := rfl
@[simp] theorem State.setCu_so (u : Nat) (x : CuRun) (s : State) : (s.setCu u x).so = s.so := rfl
@[simp] theorem State.setCu_sv (u : Nat) (x : CuRun) (s : State) : (s.setCu u x).sv = s.sv := rfl
@[simp] theorem State.setCu_aiPairs (u : Nat) (x : CuRun) (s : State) : (s.setCu u x).aiPairs = s.aiPairs := rfl
@[simp] theorem State.setCu_triggers (u : Nat) (x : CuRun) (s : State) : (s.setCu u x).triggers = s.triggers := rfl
@[simp] theorem State.setCu_axes (u : Nat) (x : CuRun) (s : State) : (s.setCu u x).axes = s.axes := rfl
@[simp] theorem State.setCu_rtc (u : Nat) (x : CuRun) (s : State) : (s.setCu u x).rtc = s.rtc := rfl
@[simp] theorem State.setCu_bases (u : Nat) (x : CuRun) (s : State) : (s.setCu u x).bases = s.bases := rfl
@[simp] theorem State.setCu_pgs (u : Nat) (x : CuRun) (s : State) : (s.setCu u x).pgs = s.pgs := rfl
@[simp] theorem State.setCu_pis (u : Nat) (x : CuRun) (s : State) : (s.setCu u x).pis = s.pis := rfl
@[simp] theorem State.setCu_net (u : Nat) (x : CuRun) (s : State) : (s.setCu u x).net = s.net := rfl
@[simp] theorem State.setCu_tx (u : Nat) (x : CuRun) (s : State) : (s.setCu u x).tx = s.tx := rfl
@[simp] theorem State.setCu_cans (u : Nat) (x : CuRun) (s : State) : (s.setCu u x).cans = s.cans := rfl
@[simp] theorem State.setCu_pair (u : Nat) (x : CuRun) (s : State) : (s.setCu u x).pair = s.pair := rfl
@[simp] theorem State.setCu_upd (u : Nat) (x : CuRun) (s : State) : (s.setCu u x).upd = s.upd := rfl
@[simp] theorem State.setCu_panel (u : Nat) (x : CuRun) (s : State) : (s.setCu u x).panel = s.panel := rfl
@[simp] theorem State.setCu_sent (u : Nat) (x : CuRun) (s : State) : (s.setCu u x).sent = s.sent := rfl
@[simp] theorem State.setCu_pending (u : Nat) (x : CuRun) (s : State) : (s.setCu u x).pending = s.pending := rfl

/-! ## `setPort` -/

@[simp] theorem State.setPort_tb0 (k : Nat) (x : NetPort) (s : State) : (s.setPort k x).tb0 = s.tb0 := rfl
@[simp] theorem State.setPort_free (k : Nat) (x : NetPort) (s : State) : (s.setPort k x).free = s.free := rfl
@[simp] theorem State.setPort_cfg (k : Nat) (x : NetPort) (s : State) : (s.setPort k x).cfg = s.cfg := rfl
@[simp] theorem State.setPort_power (k : Nat) (x : NetPort) (s : State) : (s.setPort k x).power = s.power := rfl
@[simp] theorem State.setPort_cocoon (k : Nat) (x : NetPort) (s : State) : (s.setPort k x).cocoon = s.cocoon := rfl
@[simp] theorem State.setPort_host (k : Nat) (x : NetPort) (s : State) : (s.setPort k x).host = s.host := rfl
@[simp] theorem State.setPort_disp (k : Nat) (x : NetPort) (s : State) : (s.setPort k x).disp = s.disp := rfl
@[simp] theorem State.setPort_mail (k : Nat) (x : NetPort) (s : State) : (s.setPort k x).mail = s.mail := rfl
@[simp] theorem State.setPort_inControl (k : Nat) (x : NetPort) (s : State) : (s.setPort k x).inControl = s.inControl := rfl
@[simp] theorem State.setPort_inData (k : Nat) (x : NetPort) (s : State) : (s.setPort k x).inData = s.inData := rfl
@[simp] theorem State.setPort_inManagement (k : Nat) (x : NetPort) (s : State) : (s.setPort k x).inManagement = s.inManagement := rfl
@[simp] theorem State.setPort_recorder (k : Nat) (x : NetPort) (s : State) : (s.setPort k x).recorder = s.recorder := rfl
@[simp] theorem State.setPort_session (k : Nat) (x : NetPort) (s : State) : (s.setPort k x).session = s.session := rfl
@[simp] theorem State.setPort_cred (k : Nat) (x : NetPort) (s : State) : (s.setPort k x).cred = s.cred := rfl
@[simp] theorem State.setPort_safeLog (k : Nat) (x : NetPort) (s : State) : (s.setPort k x).safeLog = s.safeLog := rfl
@[simp] theorem State.setPort_faults (k : Nat) (x : NetPort) (s : State) : (s.setPort k x).faults = s.faults := rfl
@[simp] theorem State.setPort_tasks (k : Nat) (x : NetPort) (s : State) : (s.setPort k x).tasks = s.tasks := rfl
@[simp] theorem State.setPort_cores (k : Nat) (x : NetPort) (s : State) : (s.setPort k x).cores = s.cores := rfl
@[simp] theorem State.setPort_prog (k : Nat) (x : NetPort) (s : State) : (s.setPort k x).prog = s.prog := rfl
@[simp] theorem State.setPort_loops (k : Nat) (x : NetPort) (s : State) : (s.setPort k x).loops = s.loops := rfl
@[simp] theorem State.setPort_ac (k : Nat) (x : NetPort) (s : State) : (s.setPort k x).ac = s.ac := rfl
@[simp] theorem State.setPort_modems (k : Nat) (x : NetPort) (s : State) : (s.setPort k x).modems = s.modems := rfl
@[simp] theorem State.setPort_hart (k : Nat) (x : NetPort) (s : State) : (s.setPort k x).hart = s.hart := rfl
@[simp] theorem State.setPort_dc (k : Nat) (x : NetPort) (s : State) : (s.setPort k x).dc = s.dc := rfl
@[simp] theorem State.setPort_dcGroups (k : Nat) (x : NetPort) (s : State) : (s.setPort k x).dcGroups = s.dcGroups := rfl
@[simp] theorem State.setPort_dcCommon (k : Nat) (x : NetPort) (s : State) : (s.setPort k x).dcCommon = s.dcCommon := rfl
@[simp] theorem State.setPort_dcCommonAck (k : Nat) (x : NetPort) (s : State) : (s.setPort k x).dcCommonAck = s.dcCommonAck := rfl
@[simp] theorem State.setPort_so (k : Nat) (x : NetPort) (s : State) : (s.setPort k x).so = s.so := rfl
@[simp] theorem State.setPort_sv (k : Nat) (x : NetPort) (s : State) : (s.setPort k x).sv = s.sv := rfl
@[simp] theorem State.setPort_aiPairs (k : Nat) (x : NetPort) (s : State) : (s.setPort k x).aiPairs = s.aiPairs := rfl
@[simp] theorem State.setPort_triggers (k : Nat) (x : NetPort) (s : State) : (s.setPort k x).triggers = s.triggers := rfl
@[simp] theorem State.setPort_axes (k : Nat) (x : NetPort) (s : State) : (s.setPort k x).axes = s.axes := rfl
@[simp] theorem State.setPort_rtc (k : Nat) (x : NetPort) (s : State) : (s.setPort k x).rtc = s.rtc := rfl
@[simp] theorem State.setPort_bases (k : Nat) (x : NetPort) (s : State) : (s.setPort k x).bases = s.bases := rfl
@[simp] theorem State.setPort_pgs (k : Nat) (x : NetPort) (s : State) : (s.setPort k x).pgs = s.pgs := rfl
@[simp] theorem State.setPort_pis (k : Nat) (x : NetPort) (s : State) : (s.setPort k x).pis = s.pis := rfl
@[simp] theorem State.setPort_tx (k : Nat) (x : NetPort) (s : State) : (s.setPort k x).tx = s.tx := rfl
@[simp] theorem State.setPort_cans (k : Nat) (x : NetPort) (s : State) : (s.setPort k x).cans = s.cans := rfl
@[simp] theorem State.setPort_cus (k : Nat) (x : NetPort) (s : State) : (s.setPort k x).cus = s.cus := rfl
@[simp] theorem State.setPort_pair (k : Nat) (x : NetPort) (s : State) : (s.setPort k x).pair = s.pair := rfl
@[simp] theorem State.setPort_upd (k : Nat) (x : NetPort) (s : State) : (s.setPort k x).upd = s.upd := rfl
@[simp] theorem State.setPort_panel (k : Nat) (x : NetPort) (s : State) : (s.setPort k x).panel = s.panel := rfl
@[simp] theorem State.setPort_sent (k : Nat) (x : NetPort) (s : State) : (s.setPort k x).sent = s.sent := rfl
@[simp] theorem State.setPort_pending (k : Nat) (x : NetPort) (s : State) : (s.setPort k x).pending = s.pending := rfl

/-! ## `setCons` -/

@[simp] theorem State.setCons_tb0 (id : Nat) (x : ConsRun) (s : State) : (s.setCons id x).tb0 = s.tb0 := rfl
@[simp] theorem State.setCons_free (id : Nat) (x : ConsRun) (s : State) : (s.setCons id x).free = s.free := rfl
@[simp] theorem State.setCons_cfg (id : Nat) (x : ConsRun) (s : State) : (s.setCons id x).cfg = s.cfg := rfl
@[simp] theorem State.setCons_power (id : Nat) (x : ConsRun) (s : State) : (s.setCons id x).power = s.power := rfl
@[simp] theorem State.setCons_cocoon (id : Nat) (x : ConsRun) (s : State) : (s.setCons id x).cocoon = s.cocoon := rfl
@[simp] theorem State.setCons_host (id : Nat) (x : ConsRun) (s : State) : (s.setCons id x).host = s.host := rfl
@[simp] theorem State.setCons_disp (id : Nat) (x : ConsRun) (s : State) : (s.setCons id x).disp = s.disp := rfl
@[simp] theorem State.setCons_mail (id : Nat) (x : ConsRun) (s : State) : (s.setCons id x).mail = s.mail := rfl
@[simp] theorem State.setCons_inControl (id : Nat) (x : ConsRun) (s : State) : (s.setCons id x).inControl = s.inControl := rfl
@[simp] theorem State.setCons_inData (id : Nat) (x : ConsRun) (s : State) : (s.setCons id x).inData = s.inData := rfl
@[simp] theorem State.setCons_inManagement (id : Nat) (x : ConsRun) (s : State) : (s.setCons id x).inManagement = s.inManagement := rfl
@[simp] theorem State.setCons_recorder (id : Nat) (x : ConsRun) (s : State) : (s.setCons id x).recorder = s.recorder := rfl
@[simp] theorem State.setCons_session (id : Nat) (x : ConsRun) (s : State) : (s.setCons id x).session = s.session := rfl
@[simp] theorem State.setCons_cred (id : Nat) (x : ConsRun) (s : State) : (s.setCons id x).cred = s.cred := rfl
@[simp] theorem State.setCons_safeLog (id : Nat) (x : ConsRun) (s : State) : (s.setCons id x).safeLog = s.safeLog := rfl
@[simp] theorem State.setCons_faults (id : Nat) (x : ConsRun) (s : State) : (s.setCons id x).faults = s.faults := rfl
@[simp] theorem State.setCons_tasks (id : Nat) (x : ConsRun) (s : State) : (s.setCons id x).tasks = s.tasks := rfl
@[simp] theorem State.setCons_cores (id : Nat) (x : ConsRun) (s : State) : (s.setCons id x).cores = s.cores := rfl
@[simp] theorem State.setCons_prog (id : Nat) (x : ConsRun) (s : State) : (s.setCons id x).prog = s.prog := rfl
@[simp] theorem State.setCons_loops (id : Nat) (x : ConsRun) (s : State) : (s.setCons id x).loops = s.loops := rfl
@[simp] theorem State.setCons_ac (id : Nat) (x : ConsRun) (s : State) : (s.setCons id x).ac = s.ac := rfl
@[simp] theorem State.setCons_modems (id : Nat) (x : ConsRun) (s : State) : (s.setCons id x).modems = s.modems := rfl
@[simp] theorem State.setCons_hart (id : Nat) (x : ConsRun) (s : State) : (s.setCons id x).hart = s.hart := rfl
@[simp] theorem State.setCons_dc (id : Nat) (x : ConsRun) (s : State) : (s.setCons id x).dc = s.dc := rfl
@[simp] theorem State.setCons_dcGroups (id : Nat) (x : ConsRun) (s : State) : (s.setCons id x).dcGroups = s.dcGroups := rfl
@[simp] theorem State.setCons_dcCommon (id : Nat) (x : ConsRun) (s : State) : (s.setCons id x).dcCommon = s.dcCommon := rfl
@[simp] theorem State.setCons_dcCommonAck (id : Nat) (x : ConsRun) (s : State) : (s.setCons id x).dcCommonAck = s.dcCommonAck := rfl
@[simp] theorem State.setCons_so (id : Nat) (x : ConsRun) (s : State) : (s.setCons id x).so = s.so := rfl
@[simp] theorem State.setCons_sv (id : Nat) (x : ConsRun) (s : State) : (s.setCons id x).sv = s.sv := rfl
@[simp] theorem State.setCons_aiPairs (id : Nat) (x : ConsRun) (s : State) : (s.setCons id x).aiPairs = s.aiPairs := rfl
@[simp] theorem State.setCons_triggers (id : Nat) (x : ConsRun) (s : State) : (s.setCons id x).triggers = s.triggers := rfl
@[simp] theorem State.setCons_axes (id : Nat) (x : ConsRun) (s : State) : (s.setCons id x).axes = s.axes := rfl
@[simp] theorem State.setCons_rtc (id : Nat) (x : ConsRun) (s : State) : (s.setCons id x).rtc = s.rtc := rfl
@[simp] theorem State.setCons_bases (id : Nat) (x : ConsRun) (s : State) : (s.setCons id x).bases = s.bases := rfl
@[simp] theorem State.setCons_pgs (id : Nat) (x : ConsRun) (s : State) : (s.setCons id x).pgs = s.pgs := rfl
@[simp] theorem State.setCons_pis (id : Nat) (x : ConsRun) (s : State) : (s.setCons id x).pis = s.pis := rfl
@[simp] theorem State.setCons_tx (id : Nat) (x : ConsRun) (s : State) : (s.setCons id x).tx = s.tx := rfl
@[simp] theorem State.setCons_cans (id : Nat) (x : ConsRun) (s : State) : (s.setCons id x).cans = s.cans := rfl
@[simp] theorem State.setCons_cus (id : Nat) (x : ConsRun) (s : State) : (s.setCons id x).cus = s.cus := rfl
@[simp] theorem State.setCons_pair (id : Nat) (x : ConsRun) (s : State) : (s.setCons id x).pair = s.pair := rfl
@[simp] theorem State.setCons_upd (id : Nat) (x : ConsRun) (s : State) : (s.setCons id x).upd = s.upd := rfl
@[simp] theorem State.setCons_panel (id : Nat) (x : ConsRun) (s : State) : (s.setCons id x).panel = s.panel := rfl
@[simp] theorem State.setCons_sent (id : Nat) (x : ConsRun) (s : State) : (s.setCons id x).sent = s.sent := rfl
@[simp] theorem State.setCons_pending (id : Nat) (x : ConsRun) (s : State) : (s.setCons id x).pending = s.pending := rfl

/-! ## `setProd` -/

@[simp] theorem State.setProd_tb0 (c : Nat) (x : ProdRun) (s : State) : (s.setProd c x).tb0 = s.tb0 := rfl
@[simp] theorem State.setProd_free (c : Nat) (x : ProdRun) (s : State) : (s.setProd c x).free = s.free := rfl
@[simp] theorem State.setProd_cfg (c : Nat) (x : ProdRun) (s : State) : (s.setProd c x).cfg = s.cfg := rfl
@[simp] theorem State.setProd_power (c : Nat) (x : ProdRun) (s : State) : (s.setProd c x).power = s.power := rfl
@[simp] theorem State.setProd_cocoon (c : Nat) (x : ProdRun) (s : State) : (s.setProd c x).cocoon = s.cocoon := rfl
@[simp] theorem State.setProd_host (c : Nat) (x : ProdRun) (s : State) : (s.setProd c x).host = s.host := rfl
@[simp] theorem State.setProd_disp (c : Nat) (x : ProdRun) (s : State) : (s.setProd c x).disp = s.disp := rfl
@[simp] theorem State.setProd_mail (c : Nat) (x : ProdRun) (s : State) : (s.setProd c x).mail = s.mail := rfl
@[simp] theorem State.setProd_inControl (c : Nat) (x : ProdRun) (s : State) : (s.setProd c x).inControl = s.inControl := rfl
@[simp] theorem State.setProd_inData (c : Nat) (x : ProdRun) (s : State) : (s.setProd c x).inData = s.inData := rfl
@[simp] theorem State.setProd_inManagement (c : Nat) (x : ProdRun) (s : State) : (s.setProd c x).inManagement = s.inManagement := rfl
@[simp] theorem State.setProd_recorder (c : Nat) (x : ProdRun) (s : State) : (s.setProd c x).recorder = s.recorder := rfl
@[simp] theorem State.setProd_session (c : Nat) (x : ProdRun) (s : State) : (s.setProd c x).session = s.session := rfl
@[simp] theorem State.setProd_cred (c : Nat) (x : ProdRun) (s : State) : (s.setProd c x).cred = s.cred := rfl
@[simp] theorem State.setProd_safeLog (c : Nat) (x : ProdRun) (s : State) : (s.setProd c x).safeLog = s.safeLog := rfl
@[simp] theorem State.setProd_faults (c : Nat) (x : ProdRun) (s : State) : (s.setProd c x).faults = s.faults := rfl
@[simp] theorem State.setProd_tasks (c : Nat) (x : ProdRun) (s : State) : (s.setProd c x).tasks = s.tasks := rfl
@[simp] theorem State.setProd_cores (c : Nat) (x : ProdRun) (s : State) : (s.setProd c x).cores = s.cores := rfl
@[simp] theorem State.setProd_prog (c : Nat) (x : ProdRun) (s : State) : (s.setProd c x).prog = s.prog := rfl
@[simp] theorem State.setProd_loops (c : Nat) (x : ProdRun) (s : State) : (s.setProd c x).loops = s.loops := rfl
@[simp] theorem State.setProd_ac (c : Nat) (x : ProdRun) (s : State) : (s.setProd c x).ac = s.ac := rfl
@[simp] theorem State.setProd_modems (c : Nat) (x : ProdRun) (s : State) : (s.setProd c x).modems = s.modems := rfl
@[simp] theorem State.setProd_hart (c : Nat) (x : ProdRun) (s : State) : (s.setProd c x).hart = s.hart := rfl
@[simp] theorem State.setProd_dc (c : Nat) (x : ProdRun) (s : State) : (s.setProd c x).dc = s.dc := rfl
@[simp] theorem State.setProd_dcGroups (c : Nat) (x : ProdRun) (s : State) : (s.setProd c x).dcGroups = s.dcGroups := rfl
@[simp] theorem State.setProd_dcCommon (c : Nat) (x : ProdRun) (s : State) : (s.setProd c x).dcCommon = s.dcCommon := rfl
@[simp] theorem State.setProd_dcCommonAck (c : Nat) (x : ProdRun) (s : State) : (s.setProd c x).dcCommonAck = s.dcCommonAck := rfl
@[simp] theorem State.setProd_so (c : Nat) (x : ProdRun) (s : State) : (s.setProd c x).so = s.so := rfl
@[simp] theorem State.setProd_sv (c : Nat) (x : ProdRun) (s : State) : (s.setProd c x).sv = s.sv := rfl
@[simp] theorem State.setProd_aiPairs (c : Nat) (x : ProdRun) (s : State) : (s.setProd c x).aiPairs = s.aiPairs := rfl
@[simp] theorem State.setProd_triggers (c : Nat) (x : ProdRun) (s : State) : (s.setProd c x).triggers = s.triggers := rfl
@[simp] theorem State.setProd_axes (c : Nat) (x : ProdRun) (s : State) : (s.setProd c x).axes = s.axes := rfl
@[simp] theorem State.setProd_rtc (c : Nat) (x : ProdRun) (s : State) : (s.setProd c x).rtc = s.rtc := rfl
@[simp] theorem State.setProd_bases (c : Nat) (x : ProdRun) (s : State) : (s.setProd c x).bases = s.bases := rfl
@[simp] theorem State.setProd_pgs (c : Nat) (x : ProdRun) (s : State) : (s.setProd c x).pgs = s.pgs := rfl
@[simp] theorem State.setProd_pis (c : Nat) (x : ProdRun) (s : State) : (s.setProd c x).pis = s.pis := rfl
@[simp] theorem State.setProd_tx (c : Nat) (x : ProdRun) (s : State) : (s.setProd c x).tx = s.tx := rfl
@[simp] theorem State.setProd_cans (c : Nat) (x : ProdRun) (s : State) : (s.setProd c x).cans = s.cans := rfl
@[simp] theorem State.setProd_cus (c : Nat) (x : ProdRun) (s : State) : (s.setProd c x).cus = s.cus := rfl
@[simp] theorem State.setProd_pair (c : Nat) (x : ProdRun) (s : State) : (s.setProd c x).pair = s.pair := rfl
@[simp] theorem State.setProd_upd (c : Nat) (x : ProdRun) (s : State) : (s.setProd c x).upd = s.upd := rfl
@[simp] theorem State.setProd_panel (c : Nat) (x : ProdRun) (s : State) : (s.setProd c x).panel = s.panel := rfl
@[simp] theorem State.setProd_sent (c : Nat) (x : ProdRun) (s : State) : (s.setProd c x).sent = s.sent := rfl
@[simp] theorem State.setProd_pending (c : Nat) (x : ProdRun) (s : State) : (s.setProd c x).pending = s.pending := rfl

/-! ## `setConnVars` -/

@[simp] theorem State.setConnVars_tb0 (id : Nat) (vs : List Nat) (s : State) : (s.setConnVars id vs).tb0 = s.tb0 := rfl
@[simp] theorem State.setConnVars_free (id : Nat) (vs : List Nat) (s : State) : (s.setConnVars id vs).free = s.free := rfl
@[simp] theorem State.setConnVars_power (id : Nat) (vs : List Nat) (s : State) : (s.setConnVars id vs).power = s.power := rfl
@[simp] theorem State.setConnVars_cocoon (id : Nat) (vs : List Nat) (s : State) : (s.setConnVars id vs).cocoon = s.cocoon := rfl
@[simp] theorem State.setConnVars_host (id : Nat) (vs : List Nat) (s : State) : (s.setConnVars id vs).host = s.host := rfl
@[simp] theorem State.setConnVars_disp (id : Nat) (vs : List Nat) (s : State) : (s.setConnVars id vs).disp = s.disp := rfl
@[simp] theorem State.setConnVars_mail (id : Nat) (vs : List Nat) (s : State) : (s.setConnVars id vs).mail = s.mail := rfl
@[simp] theorem State.setConnVars_inControl (id : Nat) (vs : List Nat) (s : State) : (s.setConnVars id vs).inControl = s.inControl := rfl
@[simp] theorem State.setConnVars_inData (id : Nat) (vs : List Nat) (s : State) : (s.setConnVars id vs).inData = s.inData := rfl
@[simp] theorem State.setConnVars_inManagement (id : Nat) (vs : List Nat) (s : State) : (s.setConnVars id vs).inManagement = s.inManagement := rfl
@[simp] theorem State.setConnVars_recorder (id : Nat) (vs : List Nat) (s : State) : (s.setConnVars id vs).recorder = s.recorder := rfl
@[simp] theorem State.setConnVars_session (id : Nat) (vs : List Nat) (s : State) : (s.setConnVars id vs).session = s.session := rfl
@[simp] theorem State.setConnVars_cred (id : Nat) (vs : List Nat) (s : State) : (s.setConnVars id vs).cred = s.cred := rfl
@[simp] theorem State.setConnVars_safeLog (id : Nat) (vs : List Nat) (s : State) : (s.setConnVars id vs).safeLog = s.safeLog := rfl
@[simp] theorem State.setConnVars_faults (id : Nat) (vs : List Nat) (s : State) : (s.setConnVars id vs).faults = s.faults := rfl
@[simp] theorem State.setConnVars_tasks (id : Nat) (vs : List Nat) (s : State) : (s.setConnVars id vs).tasks = s.tasks := rfl
@[simp] theorem State.setConnVars_cores (id : Nat) (vs : List Nat) (s : State) : (s.setConnVars id vs).cores = s.cores := rfl
@[simp] theorem State.setConnVars_prog (id : Nat) (vs : List Nat) (s : State) : (s.setConnVars id vs).prog = s.prog := rfl
@[simp] theorem State.setConnVars_loops (id : Nat) (vs : List Nat) (s : State) : (s.setConnVars id vs).loops = s.loops := rfl
@[simp] theorem State.setConnVars_ac (id : Nat) (vs : List Nat) (s : State) : (s.setConnVars id vs).ac = s.ac := rfl
@[simp] theorem State.setConnVars_modems (id : Nat) (vs : List Nat) (s : State) : (s.setConnVars id vs).modems = s.modems := rfl
@[simp] theorem State.setConnVars_hart (id : Nat) (vs : List Nat) (s : State) : (s.setConnVars id vs).hart = s.hart := rfl
@[simp] theorem State.setConnVars_dc (id : Nat) (vs : List Nat) (s : State) : (s.setConnVars id vs).dc = s.dc := rfl
@[simp] theorem State.setConnVars_dcGroups (id : Nat) (vs : List Nat) (s : State) : (s.setConnVars id vs).dcGroups = s.dcGroups := rfl
@[simp] theorem State.setConnVars_dcCommon (id : Nat) (vs : List Nat) (s : State) : (s.setConnVars id vs).dcCommon = s.dcCommon := rfl
@[simp] theorem State.setConnVars_dcCommonAck (id : Nat) (vs : List Nat) (s : State) : (s.setConnVars id vs).dcCommonAck = s.dcCommonAck := rfl
@[simp] theorem State.setConnVars_so (id : Nat) (vs : List Nat) (s : State) : (s.setConnVars id vs).so = s.so := rfl
@[simp] theorem State.setConnVars_sv (id : Nat) (vs : List Nat) (s : State) : (s.setConnVars id vs).sv = s.sv := rfl
@[simp] theorem State.setConnVars_aiPairs (id : Nat) (vs : List Nat) (s : State) : (s.setConnVars id vs).aiPairs = s.aiPairs := rfl
@[simp] theorem State.setConnVars_triggers (id : Nat) (vs : List Nat) (s : State) : (s.setConnVars id vs).triggers = s.triggers := rfl
@[simp] theorem State.setConnVars_axes (id : Nat) (vs : List Nat) (s : State) : (s.setConnVars id vs).axes = s.axes := rfl
@[simp] theorem State.setConnVars_rtc (id : Nat) (vs : List Nat) (s : State) : (s.setConnVars id vs).rtc = s.rtc := rfl
@[simp] theorem State.setConnVars_bases (id : Nat) (vs : List Nat) (s : State) : (s.setConnVars id vs).bases = s.bases := rfl
@[simp] theorem State.setConnVars_pgs (id : Nat) (vs : List Nat) (s : State) : (s.setConnVars id vs).pgs = s.pgs := rfl
@[simp] theorem State.setConnVars_pis (id : Nat) (vs : List Nat) (s : State) : (s.setConnVars id vs).pis = s.pis := rfl
@[simp] theorem State.setConnVars_net (id : Nat) (vs : List Nat) (s : State) : (s.setConnVars id vs).net = s.net := rfl
@[simp] theorem State.setConnVars_tx (id : Nat) (vs : List Nat) (s : State) : (s.setConnVars id vs).tx = s.tx := rfl
@[simp] theorem State.setConnVars_cans (id : Nat) (vs : List Nat) (s : State) : (s.setConnVars id vs).cans = s.cans := rfl
@[simp] theorem State.setConnVars_cus (id : Nat) (vs : List Nat) (s : State) : (s.setConnVars id vs).cus = s.cus := rfl
@[simp] theorem State.setConnVars_pair (id : Nat) (vs : List Nat) (s : State) : (s.setConnVars id vs).pair = s.pair := rfl
@[simp] theorem State.setConnVars_upd (id : Nat) (vs : List Nat) (s : State) : (s.setConnVars id vs).upd = s.upd := rfl
@[simp] theorem State.setConnVars_panel (id : Nat) (vs : List Nat) (s : State) : (s.setConnVars id vs).panel = s.panel := rfl
@[simp] theorem State.setConnVars_sent (id : Nat) (vs : List Nat) (s : State) : (s.setConnVars id vs).sent = s.sent := rfl
@[simp] theorem State.setConnVars_pending (id : Nat) (vs : List Nat) (s : State) : (s.setConnVars id vs).pending = s.pending := rfl

/-! ## `setIv` -/

@[simp] theorem State.setIv_tb0 (v : IvpastoSession) (s : State) : (s.setIv v).tb0 = s.tb0 := rfl
@[simp] theorem State.setIv_free (v : IvpastoSession) (s : State) : (s.setIv v).free = s.free := rfl
@[simp] theorem State.setIv_cfg (v : IvpastoSession) (s : State) : (s.setIv v).cfg = s.cfg := rfl
@[simp] theorem State.setIv_power (v : IvpastoSession) (s : State) : (s.setIv v).power = s.power := rfl
@[simp] theorem State.setIv_cocoon (v : IvpastoSession) (s : State) : (s.setIv v).cocoon = s.cocoon := rfl
@[simp] theorem State.setIv_host (v : IvpastoSession) (s : State) : (s.setIv v).host = s.host := rfl
@[simp] theorem State.setIv_mail (v : IvpastoSession) (s : State) : (s.setIv v).mail = s.mail := rfl
@[simp] theorem State.setIv_inControl (v : IvpastoSession) (s : State) : (s.setIv v).inControl = s.inControl := rfl
@[simp] theorem State.setIv_inData (v : IvpastoSession) (s : State) : (s.setIv v).inData = s.inData := rfl
@[simp] theorem State.setIv_inManagement (v : IvpastoSession) (s : State) : (s.setIv v).inManagement = s.inManagement := rfl
@[simp] theorem State.setIv_recorder (v : IvpastoSession) (s : State) : (s.setIv v).recorder = s.recorder := rfl
@[simp] theorem State.setIv_session (v : IvpastoSession) (s : State) : (s.setIv v).session = s.session := rfl
@[simp] theorem State.setIv_cred (v : IvpastoSession) (s : State) : (s.setIv v).cred = s.cred := rfl
@[simp] theorem State.setIv_safeLog (v : IvpastoSession) (s : State) : (s.setIv v).safeLog = s.safeLog := rfl
@[simp] theorem State.setIv_faults (v : IvpastoSession) (s : State) : (s.setIv v).faults = s.faults := rfl
@[simp] theorem State.setIv_tasks (v : IvpastoSession) (s : State) : (s.setIv v).tasks = s.tasks := rfl
@[simp] theorem State.setIv_cores (v : IvpastoSession) (s : State) : (s.setIv v).cores = s.cores := rfl
@[simp] theorem State.setIv_prog (v : IvpastoSession) (s : State) : (s.setIv v).prog = s.prog := rfl
@[simp] theorem State.setIv_loops (v : IvpastoSession) (s : State) : (s.setIv v).loops = s.loops := rfl
@[simp] theorem State.setIv_ac (v : IvpastoSession) (s : State) : (s.setIv v).ac = s.ac := rfl
@[simp] theorem State.setIv_modems (v : IvpastoSession) (s : State) : (s.setIv v).modems = s.modems := rfl
@[simp] theorem State.setIv_hart (v : IvpastoSession) (s : State) : (s.setIv v).hart = s.hart := rfl
@[simp] theorem State.setIv_dc (v : IvpastoSession) (s : State) : (s.setIv v).dc = s.dc := rfl
@[simp] theorem State.setIv_dcGroups (v : IvpastoSession) (s : State) : (s.setIv v).dcGroups = s.dcGroups := rfl
@[simp] theorem State.setIv_dcCommon (v : IvpastoSession) (s : State) : (s.setIv v).dcCommon = s.dcCommon := rfl
@[simp] theorem State.setIv_dcCommonAck (v : IvpastoSession) (s : State) : (s.setIv v).dcCommonAck = s.dcCommonAck := rfl
@[simp] theorem State.setIv_so (v : IvpastoSession) (s : State) : (s.setIv v).so = s.so := rfl
@[simp] theorem State.setIv_sv (v : IvpastoSession) (s : State) : (s.setIv v).sv = s.sv := rfl
@[simp] theorem State.setIv_aiPairs (v : IvpastoSession) (s : State) : (s.setIv v).aiPairs = s.aiPairs := rfl
@[simp] theorem State.setIv_triggers (v : IvpastoSession) (s : State) : (s.setIv v).triggers = s.triggers := rfl
@[simp] theorem State.setIv_axes (v : IvpastoSession) (s : State) : (s.setIv v).axes = s.axes := rfl
@[simp] theorem State.setIv_rtc (v : IvpastoSession) (s : State) : (s.setIv v).rtc = s.rtc := rfl
@[simp] theorem State.setIv_bases (v : IvpastoSession) (s : State) : (s.setIv v).bases = s.bases := rfl
@[simp] theorem State.setIv_pgs (v : IvpastoSession) (s : State) : (s.setIv v).pgs = s.pgs := rfl
@[simp] theorem State.setIv_pis (v : IvpastoSession) (s : State) : (s.setIv v).pis = s.pis := rfl
@[simp] theorem State.setIv_net (v : IvpastoSession) (s : State) : (s.setIv v).net = s.net := rfl
@[simp] theorem State.setIv_tx (v : IvpastoSession) (s : State) : (s.setIv v).tx = s.tx := rfl
@[simp] theorem State.setIv_cans (v : IvpastoSession) (s : State) : (s.setIv v).cans = s.cans := rfl
@[simp] theorem State.setIv_cus (v : IvpastoSession) (s : State) : (s.setIv v).cus = s.cus := rfl
@[simp] theorem State.setIv_pair (v : IvpastoSession) (s : State) : (s.setIv v).pair = s.pair := rfl
@[simp] theorem State.setIv_upd (v : IvpastoSession) (s : State) : (s.setIv v).upd = s.upd := rfl
@[simp] theorem State.setIv_panel (v : IvpastoSession) (s : State) : (s.setIv v).panel = s.panel := rfl
@[simp] theorem State.setIv_sent (v : IvpastoSession) (s : State) : (s.setIv v).sent = s.sent := rfl
@[simp] theorem State.setIv_pending (v : IvpastoSession) (s : State) : (s.setIv v).pending = s.pending := rfl

/-! ## `setOmnar` -/

@[simp] theorem State.setOmnar_tb0 (x : OmnarSession) (s : State) : (s.setOmnar x).tb0 = s.tb0 := rfl
@[simp] theorem State.setOmnar_free (x : OmnarSession) (s : State) : (s.setOmnar x).free = s.free := rfl
@[simp] theorem State.setOmnar_cfg (x : OmnarSession) (s : State) : (s.setOmnar x).cfg = s.cfg := rfl
@[simp] theorem State.setOmnar_power (x : OmnarSession) (s : State) : (s.setOmnar x).power = s.power := rfl
@[simp] theorem State.setOmnar_cocoon (x : OmnarSession) (s : State) : (s.setOmnar x).cocoon = s.cocoon := rfl
@[simp] theorem State.setOmnar_host (x : OmnarSession) (s : State) : (s.setOmnar x).host = s.host := rfl
@[simp] theorem State.setOmnar_mail (x : OmnarSession) (s : State) : (s.setOmnar x).mail = s.mail := rfl
@[simp] theorem State.setOmnar_inControl (x : OmnarSession) (s : State) : (s.setOmnar x).inControl = s.inControl := rfl
@[simp] theorem State.setOmnar_inData (x : OmnarSession) (s : State) : (s.setOmnar x).inData = s.inData := rfl
@[simp] theorem State.setOmnar_inManagement (x : OmnarSession) (s : State) : (s.setOmnar x).inManagement = s.inManagement := rfl
@[simp] theorem State.setOmnar_recorder (x : OmnarSession) (s : State) : (s.setOmnar x).recorder = s.recorder := rfl
@[simp] theorem State.setOmnar_session (x : OmnarSession) (s : State) : (s.setOmnar x).session = s.session := rfl
@[simp] theorem State.setOmnar_cred (x : OmnarSession) (s : State) : (s.setOmnar x).cred = s.cred := rfl
@[simp] theorem State.setOmnar_safeLog (x : OmnarSession) (s : State) : (s.setOmnar x).safeLog = s.safeLog := rfl
@[simp] theorem State.setOmnar_faults (x : OmnarSession) (s : State) : (s.setOmnar x).faults = s.faults := rfl
@[simp] theorem State.setOmnar_tasks (x : OmnarSession) (s : State) : (s.setOmnar x).tasks = s.tasks := rfl
@[simp] theorem State.setOmnar_cores (x : OmnarSession) (s : State) : (s.setOmnar x).cores = s.cores := rfl
@[simp] theorem State.setOmnar_prog (x : OmnarSession) (s : State) : (s.setOmnar x).prog = s.prog := rfl
@[simp] theorem State.setOmnar_loops (x : OmnarSession) (s : State) : (s.setOmnar x).loops = s.loops := rfl
@[simp] theorem State.setOmnar_ac (x : OmnarSession) (s : State) : (s.setOmnar x).ac = s.ac := rfl
@[simp] theorem State.setOmnar_modems (x : OmnarSession) (s : State) : (s.setOmnar x).modems = s.modems := rfl
@[simp] theorem State.setOmnar_hart (x : OmnarSession) (s : State) : (s.setOmnar x).hart = s.hart := rfl
@[simp] theorem State.setOmnar_dc (x : OmnarSession) (s : State) : (s.setOmnar x).dc = s.dc := rfl
@[simp] theorem State.setOmnar_dcGroups (x : OmnarSession) (s : State) : (s.setOmnar x).dcGroups = s.dcGroups := rfl
@[simp] theorem State.setOmnar_dcCommon (x : OmnarSession) (s : State) : (s.setOmnar x).dcCommon = s.dcCommon := rfl
@[simp] theorem State.setOmnar_dcCommonAck (x : OmnarSession) (s : State) : (s.setOmnar x).dcCommonAck = s.dcCommonAck := rfl
@[simp] theorem State.setOmnar_so (x : OmnarSession) (s : State) : (s.setOmnar x).so = s.so := rfl
@[simp] theorem State.setOmnar_sv (x : OmnarSession) (s : State) : (s.setOmnar x).sv = s.sv := rfl
@[simp] theorem State.setOmnar_aiPairs (x : OmnarSession) (s : State) : (s.setOmnar x).aiPairs = s.aiPairs := rfl
@[simp] theorem State.setOmnar_triggers (x : OmnarSession) (s : State) : (s.setOmnar x).triggers = s.triggers := rfl
@[simp] theorem State.setOmnar_axes (x : OmnarSession) (s : State) : (s.setOmnar x).axes = s.axes := rfl
@[simp] theorem State.setOmnar_rtc (x : OmnarSession) (s : State) : (s.setOmnar x).rtc = s.rtc := rfl
@[simp] theorem State.setOmnar_bases (x : OmnarSession) (s : State) : (s.setOmnar x).bases = s.bases := rfl
@[simp] theorem State.setOmnar_pgs (x : OmnarSession) (s : State) : (s.setOmnar x).pgs = s.pgs := rfl
@[simp] theorem State.setOmnar_pis (x : OmnarSession) (s : State) : (s.setOmnar x).pis = s.pis := rfl
@[simp] theorem State.setOmnar_net (x : OmnarSession) (s : State) : (s.setOmnar x).net = s.net := rfl
@[simp] theorem State.setOmnar_tx (x : OmnarSession) (s : State) : (s.setOmnar x).tx = s.tx := rfl
@[simp] theorem State.setOmnar_cans (x : OmnarSession) (s : State) : (s.setOmnar x).cans = s.cans := rfl
@[simp] theorem State.setOmnar_cus (x : OmnarSession) (s : State) : (s.setOmnar x).cus = s.cus := rfl
@[simp] theorem State.setOmnar_pair (x : OmnarSession) (s : State) : (s.setOmnar x).pair = s.pair := rfl
@[simp] theorem State.setOmnar_upd (x : OmnarSession) (s : State) : (s.setOmnar x).upd = s.upd := rfl
@[simp] theorem State.setOmnar_panel (x : OmnarSession) (s : State) : (s.setOmnar x).panel = s.panel := rfl
@[simp] theorem State.setOmnar_sent (x : OmnarSession) (s : State) : (s.setOmnar x).sent = s.sent := rfl
@[simp] theorem State.setOmnar_pending (x : OmnarSession) (s : State) : (s.setOmnar x).pending = s.pending := rfl

/-! ## `dropFlight` -/

@[simp] theorem State.dropFlight_tb0 (id : Nat) (s : State) : (s.dropFlight id).tb0 = s.tb0 := rfl
@[simp] theorem State.dropFlight_free (id : Nat) (s : State) : (s.dropFlight id).free = s.free := rfl
@[simp] theorem State.dropFlight_cfg (id : Nat) (s : State) : (s.dropFlight id).cfg = s.cfg := rfl
@[simp] theorem State.dropFlight_power (id : Nat) (s : State) : (s.dropFlight id).power = s.power := rfl
@[simp] theorem State.dropFlight_cocoon (id : Nat) (s : State) : (s.dropFlight id).cocoon = s.cocoon := rfl
@[simp] theorem State.dropFlight_host (id : Nat) (s : State) : (s.dropFlight id).host = s.host := rfl
@[simp] theorem State.dropFlight_mail (id : Nat) (s : State) : (s.dropFlight id).mail = s.mail := rfl
@[simp] theorem State.dropFlight_inControl (id : Nat) (s : State) : (s.dropFlight id).inControl = s.inControl := rfl
@[simp] theorem State.dropFlight_inData (id : Nat) (s : State) : (s.dropFlight id).inData = s.inData := rfl
@[simp] theorem State.dropFlight_inManagement (id : Nat) (s : State) : (s.dropFlight id).inManagement = s.inManagement := rfl
@[simp] theorem State.dropFlight_recorder (id : Nat) (s : State) : (s.dropFlight id).recorder = s.recorder := rfl
@[simp] theorem State.dropFlight_session (id : Nat) (s : State) : (s.dropFlight id).session = s.session := rfl
@[simp] theorem State.dropFlight_cred (id : Nat) (s : State) : (s.dropFlight id).cred = s.cred := rfl
@[simp] theorem State.dropFlight_safeLog (id : Nat) (s : State) : (s.dropFlight id).safeLog = s.safeLog := rfl
@[simp] theorem State.dropFlight_faults (id : Nat) (s : State) : (s.dropFlight id).faults = s.faults := rfl
@[simp] theorem State.dropFlight_tasks (id : Nat) (s : State) : (s.dropFlight id).tasks = s.tasks := rfl
@[simp] theorem State.dropFlight_cores (id : Nat) (s : State) : (s.dropFlight id).cores = s.cores := rfl
@[simp] theorem State.dropFlight_prog (id : Nat) (s : State) : (s.dropFlight id).prog = s.prog := rfl
@[simp] theorem State.dropFlight_loops (id : Nat) (s : State) : (s.dropFlight id).loops = s.loops := rfl
@[simp] theorem State.dropFlight_ac (id : Nat) (s : State) : (s.dropFlight id).ac = s.ac := rfl
@[simp] theorem State.dropFlight_modems (id : Nat) (s : State) : (s.dropFlight id).modems = s.modems := rfl
@[simp] theorem State.dropFlight_hart (id : Nat) (s : State) : (s.dropFlight id).hart = s.hart := rfl
@[simp] theorem State.dropFlight_dc (id : Nat) (s : State) : (s.dropFlight id).dc = s.dc := rfl
@[simp] theorem State.dropFlight_dcGroups (id : Nat) (s : State) : (s.dropFlight id).dcGroups = s.dcGroups := rfl
@[simp] theorem State.dropFlight_dcCommon (id : Nat) (s : State) : (s.dropFlight id).dcCommon = s.dcCommon := rfl
@[simp] theorem State.dropFlight_dcCommonAck (id : Nat) (s : State) : (s.dropFlight id).dcCommonAck = s.dcCommonAck := rfl
@[simp] theorem State.dropFlight_so (id : Nat) (s : State) : (s.dropFlight id).so = s.so := rfl
@[simp] theorem State.dropFlight_sv (id : Nat) (s : State) : (s.dropFlight id).sv = s.sv := rfl
@[simp] theorem State.dropFlight_aiPairs (id : Nat) (s : State) : (s.dropFlight id).aiPairs = s.aiPairs := rfl
@[simp] theorem State.dropFlight_triggers (id : Nat) (s : State) : (s.dropFlight id).triggers = s.triggers := rfl
@[simp] theorem State.dropFlight_axes (id : Nat) (s : State) : (s.dropFlight id).axes = s.axes := rfl
@[simp] theorem State.dropFlight_rtc (id : Nat) (s : State) : (s.dropFlight id).rtc = s.rtc := rfl
@[simp] theorem State.dropFlight_bases (id : Nat) (s : State) : (s.dropFlight id).bases = s.bases := rfl
@[simp] theorem State.dropFlight_pgs (id : Nat) (s : State) : (s.dropFlight id).pgs = s.pgs := rfl
@[simp] theorem State.dropFlight_pis (id : Nat) (s : State) : (s.dropFlight id).pis = s.pis := rfl
@[simp] theorem State.dropFlight_net (id : Nat) (s : State) : (s.dropFlight id).net = s.net := rfl
@[simp] theorem State.dropFlight_tx (id : Nat) (s : State) : (s.dropFlight id).tx = s.tx := rfl
@[simp] theorem State.dropFlight_cans (id : Nat) (s : State) : (s.dropFlight id).cans = s.cans := rfl
@[simp] theorem State.dropFlight_cus (id : Nat) (s : State) : (s.dropFlight id).cus = s.cus := rfl
@[simp] theorem State.dropFlight_pair (id : Nat) (s : State) : (s.dropFlight id).pair = s.pair := rfl
@[simp] theorem State.dropFlight_upd (id : Nat) (s : State) : (s.dropFlight id).upd = s.upd := rfl
@[simp] theorem State.dropFlight_panel (id : Nat) (s : State) : (s.dropFlight id).panel = s.panel := rfl
@[simp] theorem State.dropFlight_sent (id : Nat) (s : State) : (s.dropFlight id).sent = s.sent := rfl
@[simp] theorem State.dropFlight_pending (id : Nat) (s : State) : (s.dropFlight id).pending = s.pending := rfl

/-! ## `enqueue` -/

@[simp] theorem State.enqueue_tb0 (e : Entry) (s : State) : (s.enqueue e).tb0 = s.tb0 := rfl
@[simp] theorem State.enqueue_free (e : Entry) (s : State) : (s.enqueue e).free = s.free := rfl
@[simp] theorem State.enqueue_cfg (e : Entry) (s : State) : (s.enqueue e).cfg = s.cfg := rfl
@[simp] theorem State.enqueue_power (e : Entry) (s : State) : (s.enqueue e).power = s.power := rfl
@[simp] theorem State.enqueue_cocoon (e : Entry) (s : State) : (s.enqueue e).cocoon = s.cocoon := rfl
@[simp] theorem State.enqueue_host (e : Entry) (s : State) : (s.enqueue e).host = s.host := rfl
@[simp] theorem State.enqueue_mail (e : Entry) (s : State) : (s.enqueue e).mail = s.mail := rfl
@[simp] theorem State.enqueue_inControl (e : Entry) (s : State) : (s.enqueue e).inControl = s.inControl := rfl
@[simp] theorem State.enqueue_inData (e : Entry) (s : State) : (s.enqueue e).inData = s.inData := rfl
@[simp] theorem State.enqueue_inManagement (e : Entry) (s : State) : (s.enqueue e).inManagement = s.inManagement := rfl
@[simp] theorem State.enqueue_recorder (e : Entry) (s : State) : (s.enqueue e).recorder = s.recorder := rfl
@[simp] theorem State.enqueue_session (e : Entry) (s : State) : (s.enqueue e).session = s.session := rfl
@[simp] theorem State.enqueue_cred (e : Entry) (s : State) : (s.enqueue e).cred = s.cred := rfl
@[simp] theorem State.enqueue_safeLog (e : Entry) (s : State) : (s.enqueue e).safeLog = s.safeLog := rfl
@[simp] theorem State.enqueue_faults (e : Entry) (s : State) : (s.enqueue e).faults = s.faults := rfl
@[simp] theorem State.enqueue_tasks (e : Entry) (s : State) : (s.enqueue e).tasks = s.tasks := rfl
@[simp] theorem State.enqueue_cores (e : Entry) (s : State) : (s.enqueue e).cores = s.cores := rfl
@[simp] theorem State.enqueue_prog (e : Entry) (s : State) : (s.enqueue e).prog = s.prog := rfl
@[simp] theorem State.enqueue_loops (e : Entry) (s : State) : (s.enqueue e).loops = s.loops := rfl
@[simp] theorem State.enqueue_ac (e : Entry) (s : State) : (s.enqueue e).ac = s.ac := rfl
@[simp] theorem State.enqueue_modems (e : Entry) (s : State) : (s.enqueue e).modems = s.modems := rfl
@[simp] theorem State.enqueue_hart (e : Entry) (s : State) : (s.enqueue e).hart = s.hart := rfl
@[simp] theorem State.enqueue_dc (e : Entry) (s : State) : (s.enqueue e).dc = s.dc := rfl
@[simp] theorem State.enqueue_dcGroups (e : Entry) (s : State) : (s.enqueue e).dcGroups = s.dcGroups := rfl
@[simp] theorem State.enqueue_dcCommon (e : Entry) (s : State) : (s.enqueue e).dcCommon = s.dcCommon := rfl
@[simp] theorem State.enqueue_dcCommonAck (e : Entry) (s : State) : (s.enqueue e).dcCommonAck = s.dcCommonAck := rfl
@[simp] theorem State.enqueue_so (e : Entry) (s : State) : (s.enqueue e).so = s.so := rfl
@[simp] theorem State.enqueue_sv (e : Entry) (s : State) : (s.enqueue e).sv = s.sv := rfl
@[simp] theorem State.enqueue_aiPairs (e : Entry) (s : State) : (s.enqueue e).aiPairs = s.aiPairs := rfl
@[simp] theorem State.enqueue_triggers (e : Entry) (s : State) : (s.enqueue e).triggers = s.triggers := rfl
@[simp] theorem State.enqueue_axes (e : Entry) (s : State) : (s.enqueue e).axes = s.axes := rfl
@[simp] theorem State.enqueue_rtc (e : Entry) (s : State) : (s.enqueue e).rtc = s.rtc := rfl
@[simp] theorem State.enqueue_bases (e : Entry) (s : State) : (s.enqueue e).bases = s.bases := rfl
@[simp] theorem State.enqueue_pgs (e : Entry) (s : State) : (s.enqueue e).pgs = s.pgs := rfl
@[simp] theorem State.enqueue_pis (e : Entry) (s : State) : (s.enqueue e).pis = s.pis := rfl
@[simp] theorem State.enqueue_net (e : Entry) (s : State) : (s.enqueue e).net = s.net := rfl
@[simp] theorem State.enqueue_tx (e : Entry) (s : State) : (s.enqueue e).tx = s.tx := rfl
@[simp] theorem State.enqueue_cans (e : Entry) (s : State) : (s.enqueue e).cans = s.cans := rfl
@[simp] theorem State.enqueue_cus (e : Entry) (s : State) : (s.enqueue e).cus = s.cus := rfl
@[simp] theorem State.enqueue_pair (e : Entry) (s : State) : (s.enqueue e).pair = s.pair := rfl
@[simp] theorem State.enqueue_upd (e : Entry) (s : State) : (s.enqueue e).upd = s.upd := rfl
@[simp] theorem State.enqueue_panel (e : Entry) (s : State) : (s.enqueue e).panel = s.panel := rfl
@[simp] theorem State.enqueue_sent (e : Entry) (s : State) : (s.enqueue e).sent = s.sent := rfl
@[simp] theorem State.enqueue_pending (e : Entry) (s : State) : (s.enqueue e).pending = s.pending := rfl

/-! ## `started` -/

@[simp] theorem State.started_tb0 (e : Entry) (s : State) : (s.started e).tb0 = s.tb0 := rfl
@[simp] theorem State.started_free (e : Entry) (s : State) : (s.started e).free = s.free := rfl
@[simp] theorem State.started_cfg (e : Entry) (s : State) : (s.started e).cfg = s.cfg := rfl
@[simp] theorem State.started_power (e : Entry) (s : State) : (s.started e).power = s.power := rfl
@[simp] theorem State.started_cocoon (e : Entry) (s : State) : (s.started e).cocoon = s.cocoon := rfl
@[simp] theorem State.started_host (e : Entry) (s : State) : (s.started e).host = s.host := rfl
@[simp] theorem State.started_mail (e : Entry) (s : State) : (s.started e).mail = s.mail := rfl
@[simp] theorem State.started_inControl (e : Entry) (s : State) : (s.started e).inControl = s.inControl := rfl
@[simp] theorem State.started_inData (e : Entry) (s : State) : (s.started e).inData = s.inData := rfl
@[simp] theorem State.started_inManagement (e : Entry) (s : State) : (s.started e).inManagement = s.inManagement := rfl
@[simp] theorem State.started_recorder (e : Entry) (s : State) : (s.started e).recorder = s.recorder := rfl
@[simp] theorem State.started_session (e : Entry) (s : State) : (s.started e).session = s.session := rfl
@[simp] theorem State.started_cred (e : Entry) (s : State) : (s.started e).cred = s.cred := rfl
@[simp] theorem State.started_safeLog (e : Entry) (s : State) : (s.started e).safeLog = s.safeLog := rfl
@[simp] theorem State.started_faults (e : Entry) (s : State) : (s.started e).faults = s.faults := rfl
@[simp] theorem State.started_tasks (e : Entry) (s : State) : (s.started e).tasks = s.tasks := rfl
@[simp] theorem State.started_cores (e : Entry) (s : State) : (s.started e).cores = s.cores := rfl
@[simp] theorem State.started_prog (e : Entry) (s : State) : (s.started e).prog = s.prog := rfl
@[simp] theorem State.started_loops (e : Entry) (s : State) : (s.started e).loops = s.loops := rfl
@[simp] theorem State.started_ac (e : Entry) (s : State) : (s.started e).ac = s.ac := rfl
@[simp] theorem State.started_modems (e : Entry) (s : State) : (s.started e).modems = s.modems := rfl
@[simp] theorem State.started_hart (e : Entry) (s : State) : (s.started e).hart = s.hart := rfl
@[simp] theorem State.started_dc (e : Entry) (s : State) : (s.started e).dc = s.dc := rfl
@[simp] theorem State.started_dcGroups (e : Entry) (s : State) : (s.started e).dcGroups = s.dcGroups := rfl
@[simp] theorem State.started_dcCommon (e : Entry) (s : State) : (s.started e).dcCommon = s.dcCommon := rfl
@[simp] theorem State.started_dcCommonAck (e : Entry) (s : State) : (s.started e).dcCommonAck = s.dcCommonAck := rfl
@[simp] theorem State.started_so (e : Entry) (s : State) : (s.started e).so = s.so := rfl
@[simp] theorem State.started_sv (e : Entry) (s : State) : (s.started e).sv = s.sv := rfl
@[simp] theorem State.started_aiPairs (e : Entry) (s : State) : (s.started e).aiPairs = s.aiPairs := rfl
@[simp] theorem State.started_triggers (e : Entry) (s : State) : (s.started e).triggers = s.triggers := rfl
@[simp] theorem State.started_axes (e : Entry) (s : State) : (s.started e).axes = s.axes := rfl
@[simp] theorem State.started_rtc (e : Entry) (s : State) : (s.started e).rtc = s.rtc := rfl
@[simp] theorem State.started_bases (e : Entry) (s : State) : (s.started e).bases = s.bases := rfl
@[simp] theorem State.started_pgs (e : Entry) (s : State) : (s.started e).pgs = s.pgs := rfl
@[simp] theorem State.started_pis (e : Entry) (s : State) : (s.started e).pis = s.pis := rfl
@[simp] theorem State.started_net (e : Entry) (s : State) : (s.started e).net = s.net := rfl
@[simp] theorem State.started_tx (e : Entry) (s : State) : (s.started e).tx = s.tx := rfl
@[simp] theorem State.started_cans (e : Entry) (s : State) : (s.started e).cans = s.cans := rfl
@[simp] theorem State.started_cus (e : Entry) (s : State) : (s.started e).cus = s.cus := rfl
@[simp] theorem State.started_pair (e : Entry) (s : State) : (s.started e).pair = s.pair := rfl
@[simp] theorem State.started_upd (e : Entry) (s : State) : (s.started e).upd = s.upd := rfl
@[simp] theorem State.started_panel (e : Entry) (s : State) : (s.started e).panel = s.panel := rfl
@[simp] theorem State.started_sent (e : Entry) (s : State) : (s.started e).sent = s.sent := rfl
@[simp] theorem State.started_pending (e : Entry) (s : State) : (s.started e).pending = s.pending := rfl

/-! ## `postMail` -/

@[simp] theorem State.postMail_tb0 (p : Posting) (s : State) : (s.postMail p).tb0 = s.tb0 := rfl
@[simp] theorem State.postMail_free (p : Posting) (s : State) : (s.postMail p).free = s.free := rfl
@[simp] theorem State.postMail_cfg (p : Posting) (s : State) : (s.postMail p).cfg = s.cfg := rfl
@[simp] theorem State.postMail_power (p : Posting) (s : State) : (s.postMail p).power = s.power := rfl
@[simp] theorem State.postMail_cocoon (p : Posting) (s : State) : (s.postMail p).cocoon = s.cocoon := rfl
@[simp] theorem State.postMail_host (p : Posting) (s : State) : (s.postMail p).host = s.host := rfl
@[simp] theorem State.postMail_disp (p : Posting) (s : State) : (s.postMail p).disp = s.disp := rfl
@[simp] theorem State.postMail_inControl (p : Posting) (s : State) : (s.postMail p).inControl = s.inControl := rfl
@[simp] theorem State.postMail_inData (p : Posting) (s : State) : (s.postMail p).inData = s.inData := rfl
@[simp] theorem State.postMail_inManagement (p : Posting) (s : State) : (s.postMail p).inManagement = s.inManagement := rfl
@[simp] theorem State.postMail_recorder (p : Posting) (s : State) : (s.postMail p).recorder = s.recorder := rfl
@[simp] theorem State.postMail_session (p : Posting) (s : State) : (s.postMail p).session = s.session := rfl
@[simp] theorem State.postMail_cred (p : Posting) (s : State) : (s.postMail p).cred = s.cred := rfl
@[simp] theorem State.postMail_safeLog (p : Posting) (s : State) : (s.postMail p).safeLog = s.safeLog := rfl
@[simp] theorem State.postMail_faults (p : Posting) (s : State) : (s.postMail p).faults = s.faults := rfl
@[simp] theorem State.postMail_tasks (p : Posting) (s : State) : (s.postMail p).tasks = s.tasks := rfl
@[simp] theorem State.postMail_cores (p : Posting) (s : State) : (s.postMail p).cores = s.cores := rfl
@[simp] theorem State.postMail_prog (p : Posting) (s : State) : (s.postMail p).prog = s.prog := rfl
@[simp] theorem State.postMail_loops (p : Posting) (s : State) : (s.postMail p).loops = s.loops := rfl
@[simp] theorem State.postMail_ac (p : Posting) (s : State) : (s.postMail p).ac = s.ac := rfl
@[simp] theorem State.postMail_modems (p : Posting) (s : State) : (s.postMail p).modems = s.modems := rfl
@[simp] theorem State.postMail_hart (p : Posting) (s : State) : (s.postMail p).hart = s.hart := rfl
@[simp] theorem State.postMail_dc (p : Posting) (s : State) : (s.postMail p).dc = s.dc := rfl
@[simp] theorem State.postMail_dcGroups (p : Posting) (s : State) : (s.postMail p).dcGroups = s.dcGroups := rfl
@[simp] theorem State.postMail_dcCommon (p : Posting) (s : State) : (s.postMail p).dcCommon = s.dcCommon := rfl
@[simp] theorem State.postMail_dcCommonAck (p : Posting) (s : State) : (s.postMail p).dcCommonAck = s.dcCommonAck := rfl
@[simp] theorem State.postMail_so (p : Posting) (s : State) : (s.postMail p).so = s.so := rfl
@[simp] theorem State.postMail_sv (p : Posting) (s : State) : (s.postMail p).sv = s.sv := rfl
@[simp] theorem State.postMail_aiPairs (p : Posting) (s : State) : (s.postMail p).aiPairs = s.aiPairs := rfl
@[simp] theorem State.postMail_triggers (p : Posting) (s : State) : (s.postMail p).triggers = s.triggers := rfl
@[simp] theorem State.postMail_axes (p : Posting) (s : State) : (s.postMail p).axes = s.axes := rfl
@[simp] theorem State.postMail_rtc (p : Posting) (s : State) : (s.postMail p).rtc = s.rtc := rfl
@[simp] theorem State.postMail_bases (p : Posting) (s : State) : (s.postMail p).bases = s.bases := rfl
@[simp] theorem State.postMail_pgs (p : Posting) (s : State) : (s.postMail p).pgs = s.pgs := rfl
@[simp] theorem State.postMail_pis (p : Posting) (s : State) : (s.postMail p).pis = s.pis := rfl
@[simp] theorem State.postMail_net (p : Posting) (s : State) : (s.postMail p).net = s.net := rfl
@[simp] theorem State.postMail_tx (p : Posting) (s : State) : (s.postMail p).tx = s.tx := rfl
@[simp] theorem State.postMail_cans (p : Posting) (s : State) : (s.postMail p).cans = s.cans := rfl
@[simp] theorem State.postMail_cus (p : Posting) (s : State) : (s.postMail p).cus = s.cus := rfl
@[simp] theorem State.postMail_pair (p : Posting) (s : State) : (s.postMail p).pair = s.pair := rfl
@[simp] theorem State.postMail_upd (p : Posting) (s : State) : (s.postMail p).upd = s.upd := rfl
@[simp] theorem State.postMail_panel (p : Posting) (s : State) : (s.postMail p).panel = s.panel := rfl
@[simp] theorem State.postMail_sent (p : Posting) (s : State) : (s.postMail p).sent = s.sent := rfl
@[simp] theorem State.postMail_pending (p : Posting) (s : State) : (s.postMail p).pending = s.pending := rfl

/-! ## `setSupply` -/

@[simp] theorem State.setSupply_tb0 (k mv : Nat) (warn fail : Bool) (s : State) : (s.setSupply k mv warn fail).tb0 = s.tb0 := rfl
@[simp] theorem State.setSupply_free (k mv : Nat) (warn fail : Bool) (s : State) : (s.setSupply k mv warn fail).free = s.free := rfl
@[simp] theorem State.setSupply_cfg (k mv : Nat) (warn fail : Bool) (s : State) : (s.setSupply k mv warn fail).cfg = s.cfg := rfl
@[simp] theorem State.setSupply_cocoon (k mv : Nat) (warn fail : Bool) (s : State) : (s.setSupply k mv warn fail).cocoon = s.cocoon := rfl
@[simp] theorem State.setSupply_host (k mv : Nat) (warn fail : Bool) (s : State) : (s.setSupply k mv warn fail).host = s.host := rfl
@[simp] theorem State.setSupply_disp (k mv : Nat) (warn fail : Bool) (s : State) : (s.setSupply k mv warn fail).disp = s.disp := rfl
@[simp] theorem State.setSupply_mail (k mv : Nat) (warn fail : Bool) (s : State) : (s.setSupply k mv warn fail).mail = s.mail := rfl
@[simp] theorem State.setSupply_inControl (k mv : Nat) (warn fail : Bool) (s : State) : (s.setSupply k mv warn fail).inControl = s.inControl := rfl
@[simp] theorem State.setSupply_inData (k mv : Nat) (warn fail : Bool) (s : State) : (s.setSupply k mv warn fail).inData = s.inData := rfl
@[simp] theorem State.setSupply_inManagement (k mv : Nat) (warn fail : Bool) (s : State) : (s.setSupply k mv warn fail).inManagement = s.inManagement := rfl
@[simp] theorem State.setSupply_recorder (k mv : Nat) (warn fail : Bool) (s : State) : (s.setSupply k mv warn fail).recorder = s.recorder := rfl
@[simp] theorem State.setSupply_session (k mv : Nat) (warn fail : Bool) (s : State) : (s.setSupply k mv warn fail).session = s.session := rfl
@[simp] theorem State.setSupply_cred (k mv : Nat) (warn fail : Bool) (s : State) : (s.setSupply k mv warn fail).cred = s.cred := rfl
@[simp] theorem State.setSupply_safeLog (k mv : Nat) (warn fail : Bool) (s : State) : (s.setSupply k mv warn fail).safeLog = s.safeLog := rfl
@[simp] theorem State.setSupply_faults (k mv : Nat) (warn fail : Bool) (s : State) : (s.setSupply k mv warn fail).faults = s.faults := rfl
@[simp] theorem State.setSupply_tasks (k mv : Nat) (warn fail : Bool) (s : State) : (s.setSupply k mv warn fail).tasks = s.tasks := rfl
@[simp] theorem State.setSupply_cores (k mv : Nat) (warn fail : Bool) (s : State) : (s.setSupply k mv warn fail).cores = s.cores := rfl
@[simp] theorem State.setSupply_prog (k mv : Nat) (warn fail : Bool) (s : State) : (s.setSupply k mv warn fail).prog = s.prog := rfl
@[simp] theorem State.setSupply_loops (k mv : Nat) (warn fail : Bool) (s : State) : (s.setSupply k mv warn fail).loops = s.loops := rfl
@[simp] theorem State.setSupply_ac (k mv : Nat) (warn fail : Bool) (s : State) : (s.setSupply k mv warn fail).ac = s.ac := rfl
@[simp] theorem State.setSupply_modems (k mv : Nat) (warn fail : Bool) (s : State) : (s.setSupply k mv warn fail).modems = s.modems := rfl
@[simp] theorem State.setSupply_hart (k mv : Nat) (warn fail : Bool) (s : State) : (s.setSupply k mv warn fail).hart = s.hart := rfl
@[simp] theorem State.setSupply_dc (k mv : Nat) (warn fail : Bool) (s : State) : (s.setSupply k mv warn fail).dc = s.dc := rfl
@[simp] theorem State.setSupply_dcGroups (k mv : Nat) (warn fail : Bool) (s : State) : (s.setSupply k mv warn fail).dcGroups = s.dcGroups := rfl
@[simp] theorem State.setSupply_dcCommon (k mv : Nat) (warn fail : Bool) (s : State) : (s.setSupply k mv warn fail).dcCommon = s.dcCommon := rfl
@[simp] theorem State.setSupply_dcCommonAck (k mv : Nat) (warn fail : Bool) (s : State) : (s.setSupply k mv warn fail).dcCommonAck = s.dcCommonAck := rfl
@[simp] theorem State.setSupply_so (k mv : Nat) (warn fail : Bool) (s : State) : (s.setSupply k mv warn fail).so = s.so := rfl
@[simp] theorem State.setSupply_sv (k mv : Nat) (warn fail : Bool) (s : State) : (s.setSupply k mv warn fail).sv = s.sv := rfl
@[simp] theorem State.setSupply_aiPairs (k mv : Nat) (warn fail : Bool) (s : State) : (s.setSupply k mv warn fail).aiPairs = s.aiPairs := rfl
@[simp] theorem State.setSupply_triggers (k mv : Nat) (warn fail : Bool) (s : State) : (s.setSupply k mv warn fail).triggers = s.triggers := rfl
@[simp] theorem State.setSupply_axes (k mv : Nat) (warn fail : Bool) (s : State) : (s.setSupply k mv warn fail).axes = s.axes := rfl
@[simp] theorem State.setSupply_rtc (k mv : Nat) (warn fail : Bool) (s : State) : (s.setSupply k mv warn fail).rtc = s.rtc := rfl
@[simp] theorem State.setSupply_bases (k mv : Nat) (warn fail : Bool) (s : State) : (s.setSupply k mv warn fail).bases = s.bases := rfl
@[simp] theorem State.setSupply_pgs (k mv : Nat) (warn fail : Bool) (s : State) : (s.setSupply k mv warn fail).pgs = s.pgs := rfl
@[simp] theorem State.setSupply_pis (k mv : Nat) (warn fail : Bool) (s : State) : (s.setSupply k mv warn fail).pis = s.pis := rfl
@[simp] theorem State.setSupply_net (k mv : Nat) (warn fail : Bool) (s : State) : (s.setSupply k mv warn fail).net = s.net := rfl
@[simp] theorem State.setSupply_tx (k mv : Nat) (warn fail : Bool) (s : State) : (s.setSupply k mv warn fail).tx = s.tx := rfl
@[simp] theorem State.setSupply_cans (k mv : Nat) (warn fail : Bool) (s : State) : (s.setSupply k mv warn fail).cans = s.cans := rfl
@[simp] theorem State.setSupply_cus (k mv : Nat) (warn fail : Bool) (s : State) : (s.setSupply k mv warn fail).cus = s.cus := rfl
@[simp] theorem State.setSupply_pair (k mv : Nat) (warn fail : Bool) (s : State) : (s.setSupply k mv warn fail).pair = s.pair := rfl
@[simp] theorem State.setSupply_upd (k mv : Nat) (warn fail : Bool) (s : State) : (s.setSupply k mv warn fail).upd = s.upd := rfl
@[simp] theorem State.setSupply_panel (k mv : Nat) (warn fail : Bool) (s : State) : (s.setSupply k mv warn fail).panel = s.panel := rfl
@[simp] theorem State.setSupply_sent (k mv : Nat) (warn fail : Bool) (s : State) : (s.setSupply k mv warn fail).sent = s.sent := rfl
@[simp] theorem State.setSupply_pending (k mv : Nat) (warn fail : Bool) (s : State) : (s.setSupply k mv warn fail).pending = s.pending := rfl

/-! ## `setBoot` -/

@[simp] theorem State.setBoot_tb0 (b : BootRecord) (s : State) : (s.setBoot b).tb0 = s.tb0 := rfl
@[simp] theorem State.setBoot_free (b : BootRecord) (s : State) : (s.setBoot b).free = s.free := rfl
@[simp] theorem State.setBoot_cfg (b : BootRecord) (s : State) : (s.setBoot b).cfg = s.cfg := rfl
@[simp] theorem State.setBoot_power (b : BootRecord) (s : State) : (s.setBoot b).power = s.power := rfl
@[simp] theorem State.setBoot_cocoon (b : BootRecord) (s : State) : (s.setBoot b).cocoon = s.cocoon := rfl
@[simp] theorem State.setBoot_host (b : BootRecord) (s : State) : (s.setBoot b).host = s.host := rfl
@[simp] theorem State.setBoot_disp (b : BootRecord) (s : State) : (s.setBoot b).disp = s.disp := rfl
@[simp] theorem State.setBoot_mail (b : BootRecord) (s : State) : (s.setBoot b).mail = s.mail := rfl
@[simp] theorem State.setBoot_inControl (b : BootRecord) (s : State) : (s.setBoot b).inControl = s.inControl := rfl
@[simp] theorem State.setBoot_inData (b : BootRecord) (s : State) : (s.setBoot b).inData = s.inData := rfl
@[simp] theorem State.setBoot_inManagement (b : BootRecord) (s : State) : (s.setBoot b).inManagement = s.inManagement := rfl
@[simp] theorem State.setBoot_recorder (b : BootRecord) (s : State) : (s.setBoot b).recorder = s.recorder := rfl
@[simp] theorem State.setBoot_session (b : BootRecord) (s : State) : (s.setBoot b).session = s.session := rfl
@[simp] theorem State.setBoot_cred (b : BootRecord) (s : State) : (s.setBoot b).cred = s.cred := rfl
@[simp] theorem State.setBoot_safeLog (b : BootRecord) (s : State) : (s.setBoot b).safeLog = s.safeLog := rfl
@[simp] theorem State.setBoot_faults (b : BootRecord) (s : State) : (s.setBoot b).faults = s.faults := rfl
@[simp] theorem State.setBoot_tasks (b : BootRecord) (s : State) : (s.setBoot b).tasks = s.tasks := rfl
@[simp] theorem State.setBoot_cores (b : BootRecord) (s : State) : (s.setBoot b).cores = s.cores := rfl
@[simp] theorem State.setBoot_prog (b : BootRecord) (s : State) : (s.setBoot b).prog = s.prog := rfl
@[simp] theorem State.setBoot_loops (b : BootRecord) (s : State) : (s.setBoot b).loops = s.loops := rfl
@[simp] theorem State.setBoot_ac (b : BootRecord) (s : State) : (s.setBoot b).ac = s.ac := rfl
@[simp] theorem State.setBoot_modems (b : BootRecord) (s : State) : (s.setBoot b).modems = s.modems := rfl
@[simp] theorem State.setBoot_hart (b : BootRecord) (s : State) : (s.setBoot b).hart = s.hart := rfl
@[simp] theorem State.setBoot_dc (b : BootRecord) (s : State) : (s.setBoot b).dc = s.dc := rfl
@[simp] theorem State.setBoot_dcGroups (b : BootRecord) (s : State) : (s.setBoot b).dcGroups = s.dcGroups := rfl
@[simp] theorem State.setBoot_dcCommon (b : BootRecord) (s : State) : (s.setBoot b).dcCommon = s.dcCommon := rfl
@[simp] theorem State.setBoot_dcCommonAck (b : BootRecord) (s : State) : (s.setBoot b).dcCommonAck = s.dcCommonAck := rfl
@[simp] theorem State.setBoot_so (b : BootRecord) (s : State) : (s.setBoot b).so = s.so := rfl
@[simp] theorem State.setBoot_sv (b : BootRecord) (s : State) : (s.setBoot b).sv = s.sv := rfl
@[simp] theorem State.setBoot_aiPairs (b : BootRecord) (s : State) : (s.setBoot b).aiPairs = s.aiPairs := rfl
@[simp] theorem State.setBoot_triggers (b : BootRecord) (s : State) : (s.setBoot b).triggers = s.triggers := rfl
@[simp] theorem State.setBoot_axes (b : BootRecord) (s : State) : (s.setBoot b).axes = s.axes := rfl
@[simp] theorem State.setBoot_rtc (b : BootRecord) (s : State) : (s.setBoot b).rtc = s.rtc := rfl
@[simp] theorem State.setBoot_bases (b : BootRecord) (s : State) : (s.setBoot b).bases = s.bases := rfl
@[simp] theorem State.setBoot_pgs (b : BootRecord) (s : State) : (s.setBoot b).pgs = s.pgs := rfl
@[simp] theorem State.setBoot_pis (b : BootRecord) (s : State) : (s.setBoot b).pis = s.pis := rfl
@[simp] theorem State.setBoot_net (b : BootRecord) (s : State) : (s.setBoot b).net = s.net := rfl
@[simp] theorem State.setBoot_tx (b : BootRecord) (s : State) : (s.setBoot b).tx = s.tx := rfl
@[simp] theorem State.setBoot_cans (b : BootRecord) (s : State) : (s.setBoot b).cans = s.cans := rfl
@[simp] theorem State.setBoot_cus (b : BootRecord) (s : State) : (s.setBoot b).cus = s.cus := rfl
@[simp] theorem State.setBoot_pair (b : BootRecord) (s : State) : (s.setBoot b).pair = s.pair := rfl
@[simp] theorem State.setBoot_panel (b : BootRecord) (s : State) : (s.setBoot b).panel = s.panel := rfl
@[simp] theorem State.setBoot_sent (b : BootRecord) (s : State) : (s.setBoot b).sent = s.sent := rfl
@[simp] theorem State.setBoot_pending (b : BootRecord) (s : State) : (s.setBoot b).pending = s.pending := rfl

/-! ## `mapRec` -/

@[simp] theorem State.mapRec_tb0 (f : RecStore → RecStore) (s : State) : (s.mapRec f).tb0 = s.tb0 := rfl
@[simp] theorem State.mapRec_free (f : RecStore → RecStore) (s : State) : (s.mapRec f).free = s.free := rfl
@[simp] theorem State.mapRec_cfg (f : RecStore → RecStore) (s : State) : (s.mapRec f).cfg = s.cfg := rfl
@[simp] theorem State.mapRec_power (f : RecStore → RecStore) (s : State) : (s.mapRec f).power = s.power := rfl
@[simp] theorem State.mapRec_cocoon (f : RecStore → RecStore) (s : State) : (s.mapRec f).cocoon = s.cocoon := rfl
@[simp] theorem State.mapRec_host (f : RecStore → RecStore) (s : State) : (s.mapRec f).host = s.host := rfl
@[simp] theorem State.mapRec_disp (f : RecStore → RecStore) (s : State) : (s.mapRec f).disp = s.disp := rfl
@[simp] theorem State.mapRec_mail (f : RecStore → RecStore) (s : State) : (s.mapRec f).mail = s.mail := rfl
@[simp] theorem State.mapRec_inControl (f : RecStore → RecStore) (s : State) : (s.mapRec f).inControl = s.inControl := rfl
@[simp] theorem State.mapRec_inData (f : RecStore → RecStore) (s : State) : (s.mapRec f).inData = s.inData := rfl
@[simp] theorem State.mapRec_inManagement (f : RecStore → RecStore) (s : State) : (s.mapRec f).inManagement = s.inManagement := rfl
@[simp] theorem State.mapRec_session (f : RecStore → RecStore) (s : State) : (s.mapRec f).session = s.session := rfl
@[simp] theorem State.mapRec_cred (f : RecStore → RecStore) (s : State) : (s.mapRec f).cred = s.cred := rfl
@[simp] theorem State.mapRec_safeLog (f : RecStore → RecStore) (s : State) : (s.mapRec f).safeLog = s.safeLog := rfl
@[simp] theorem State.mapRec_faults (f : RecStore → RecStore) (s : State) : (s.mapRec f).faults = s.faults := rfl
@[simp] theorem State.mapRec_tasks (f : RecStore → RecStore) (s : State) : (s.mapRec f).tasks = s.tasks := rfl
@[simp] theorem State.mapRec_cores (f : RecStore → RecStore) (s : State) : (s.mapRec f).cores = s.cores := rfl
@[simp] theorem State.mapRec_prog (f : RecStore → RecStore) (s : State) : (s.mapRec f).prog = s.prog := rfl
@[simp] theorem State.mapRec_loops (f : RecStore → RecStore) (s : State) : (s.mapRec f).loops = s.loops := rfl
@[simp] theorem State.mapRec_ac (f : RecStore → RecStore) (s : State) : (s.mapRec f).ac = s.ac := rfl
@[simp] theorem State.mapRec_modems (f : RecStore → RecStore) (s : State) : (s.mapRec f).modems = s.modems := rfl
@[simp] theorem State.mapRec_hart (f : RecStore → RecStore) (s : State) : (s.mapRec f).hart = s.hart := rfl
@[simp] theorem State.mapRec_dc (f : RecStore → RecStore) (s : State) : (s.mapRec f).dc = s.dc := rfl
@[simp] theorem State.mapRec_dcGroups (f : RecStore → RecStore) (s : State) : (s.mapRec f).dcGroups = s.dcGroups := rfl
@[simp] theorem State.mapRec_dcCommon (f : RecStore → RecStore) (s : State) : (s.mapRec f).dcCommon = s.dcCommon := rfl
@[simp] theorem State.mapRec_dcCommonAck (f : RecStore → RecStore) (s : State) : (s.mapRec f).dcCommonAck = s.dcCommonAck := rfl
@[simp] theorem State.mapRec_so (f : RecStore → RecStore) (s : State) : (s.mapRec f).so = s.so := rfl
@[simp] theorem State.mapRec_sv (f : RecStore → RecStore) (s : State) : (s.mapRec f).sv = s.sv := rfl
@[simp] theorem State.mapRec_aiPairs (f : RecStore → RecStore) (s : State) : (s.mapRec f).aiPairs = s.aiPairs := rfl
@[simp] theorem State.mapRec_triggers (f : RecStore → RecStore) (s : State) : (s.mapRec f).triggers = s.triggers := rfl
@[simp] theorem State.mapRec_axes (f : RecStore → RecStore) (s : State) : (s.mapRec f).axes = s.axes := rfl
@[simp] theorem State.mapRec_rtc (f : RecStore → RecStore) (s : State) : (s.mapRec f).rtc = s.rtc := rfl
@[simp] theorem State.mapRec_bases (f : RecStore → RecStore) (s : State) : (s.mapRec f).bases = s.bases := rfl
@[simp] theorem State.mapRec_pgs (f : RecStore → RecStore) (s : State) : (s.mapRec f).pgs = s.pgs := rfl
@[simp] theorem State.mapRec_pis (f : RecStore → RecStore) (s : State) : (s.mapRec f).pis = s.pis := rfl
@[simp] theorem State.mapRec_net (f : RecStore → RecStore) (s : State) : (s.mapRec f).net = s.net := rfl
@[simp] theorem State.mapRec_tx (f : RecStore → RecStore) (s : State) : (s.mapRec f).tx = s.tx := rfl
@[simp] theorem State.mapRec_cans (f : RecStore → RecStore) (s : State) : (s.mapRec f).cans = s.cans := rfl
@[simp] theorem State.mapRec_cus (f : RecStore → RecStore) (s : State) : (s.mapRec f).cus = s.cus := rfl
@[simp] theorem State.mapRec_pair (f : RecStore → RecStore) (s : State) : (s.mapRec f).pair = s.pair := rfl
@[simp] theorem State.mapRec_upd (f : RecStore → RecStore) (s : State) : (s.mapRec f).upd = s.upd := rfl
@[simp] theorem State.mapRec_panel (f : RecStore → RecStore) (s : State) : (s.mapRec f).panel = s.panel := rfl
@[simp] theorem State.mapRec_sent (f : RecStore → RecStore) (s : State) : (s.mapRec f).sent = s.sent := rfl
@[simp] theorem State.mapRec_pending (f : RecStore → RecStore) (s : State) : (s.mapRec f).pending = s.pending := rfl

end Sys2Proof.Machine
end

