-- ==== Sys2Proof/Laws/Ops.lean ====
section
/-! SUPPORT. What the shared operations can do: posting an event, raising a vector, stopping a ring, and completing a command touch the
host interface, the dispatcher, the messages sent and the queues of the ports, the intakes and the latch of the first severity-7 instant, and nothing else. -/

namespace Sys2Proof.Machine

/-- `u` differs from `s` in the outward parts alone. -/
def Outward (s u : State) : Prop :=
  ∃ h d q x c g m f, u = { s with host := h, disp := d, sent := q, tx := x, inControl := c, inData := g, inManagement := m, faults := { s.faults with sev7 := f } }

theorem Outward.refl (s : State) : Outward s s := ⟨_, _, _, _, _, _, _, _, rfl⟩

theorem Outward.trans {s u v : State} (a : Outward s u) (b : Outward u v) : Outward s v := by
  obtain ⟨_, _, _, _, _, _, _, _, rfl⟩ := a
  obtain ⟨_, _, _, _, _, _, _, _, rfl⟩ := b
  exact ⟨_, _, _, _, _, _, _, _, rfl⟩

theorem outward_setIntake (p : Plane) (q : Intake) (s : State) : Outward s (s.setIntake p q) := by
  cases p <;> exact ⟨_, _, _, _, _, _, _, _, rfl⟩

theorem outward_post (p : Plane) (c : Code) (src : Res) (n : Nat) (s : State) (d : Nat) : Outward s (s.post p c src n d) :=
  Outward.trans ⟨_, _, _, _, _, _, _, _, rfl⟩ (outward_setIntake _ _ _)

theorem outward_postIf (b : Bool) (p : Plane) (c : Code) (src : Res) (n : Nat) (s : State) : Outward s (s.postIf b p c src n) := by
  unfold State.postIf
  split
  · exact outward_post _ _ _ _ _ _
  · exact Outward.refl s

theorem outward_raiseVector (k : Nat) (s : State) : Outward s (s.raiseVector k) := by
  unfold State.raiseVector
  dsimp only
  split
  · exact Outward.refl s
  · split <;> exact ⟨_, _, _, _, _, _, _, _, rfl⟩

theorem outward_setRing (k : Nat) (r : Ring) (s : State) : Outward s (s.setRing k r) := ⟨_, _, _, _, _, _, _, _, rfl⟩

theorem outward_hostWrite (a : Nat) (b : Bytes) (s : State) : Outward s (s.hostWrite a b) := ⟨_, _, _, _, _, _, _, _, rfl⟩

theorem outward_send (m : Msg) (s : State) : Outward s (s.send m) := ⟨_, _, _, _, _, _, _, _, rfl⟩

theorem outward_setOmnar (x : OmnarSession) (s : State) : Outward s (s.setOmnar x) := ⟨_, _, _, _, _, _, _, _, rfl⟩

theorem outward_dropFlight (id : Nat) (s : State) : Outward s (s.dropFlight id) := ⟨_, _, _, _, _, _, _, _, rfl⟩

theorem outward_ringFault (k cause : Nat) (s : State) : Outward s (s.ringFault k cause) := by
  unfold State.ringFault
  dsimp only
  refine Outward.trans ?_ (outward_post _ _ _ _ _ _)
  refine Outward.trans ?_ (outward_raiseVector _ _)
  split
  · exact Outward.trans (outward_setRing _ _ _) ⟨_, _, _, _, _, _, _, _, rfl⟩
  · exact outward_setRing _ _ _

theorem outward_txPut (k : Nat) (i : TxItem) (s : State) : Outward s (s.txPut k i) := by
  unfold State.txPut
  split
  · exact Outward.refl s
  · exact ⟨_, _, _, _, _, _, _, _, rfl⟩

theorem outward_sendBoth (dst : Nat) (body : NetBody) (s : State) : Outward s (s.sendBoth dst body) :=
  Outward.trans (Outward.trans (outward_txPut _ _ _) (outward_txPut _ _ _)) ⟨_, _, _, _, _, _, _, _, rfl⟩

theorem outward_sendOmnar (x : OmnarSession) (ty n : Nat) (b : Bytes) (s : State) : Outward s (s.sendOmnar x ty n b) :=
  Outward.trans (outward_sendBoth _ _ _) (outward_setOmnar _ _)

theorem outward_sendIvpasto (ty : Nat) (b : Bytes) (s : State) : Outward s (s.sendIvpasto ty b) :=
  Outward.trans (outward_send _ _) ⟨_, _, _, _, _, _, _, _, rfl⟩

theorem outward_discardCompletion (e : Entry) (st : Status) (s : State) : Outward s (s.discardCompletion e st) :=
  Outward.trans ⟨_, _, _, _, _, _, _, _, rfl⟩ (outward_post _ _ _ _ _ _)

theorem outward_countRefused (r : Route) (st : Status) (s : State) : Outward s (s.countRefused r st) := by
  unfold State.countRefused
  split
  · exact Outward.refl s
  · split
    · exact ⟨_, _, _, _, _, _, _, _, rfl⟩
    · split
      · exact outward_setOmnar _ _
      · exact Outward.refl s
    · exact ⟨_, _, _, _, _, _, _, _, rfl⟩

theorem outward_countDispatched (r : Route) (s : State) : Outward s (s.countDispatched r) := by
  unfold State.countDispatched
  split
  · exact ⟨_, _, _, _, _, _, _, _, rfl⟩
  · split
    · exact outward_setOmnar _ _
    · exact Outward.refl s
  · exact ⟨_, _, _, _, _, _, _, _, rfl⟩

/-- The completion vector after `n` completions without a signal. -/
theorem outward_signal (a n : Nat) (s : State) : Outward s
    (if max 1 s.host.coalesceCount ≤ n then
      ({ s with host := { s.host with unsignalled := 0, unsignalledAt := a } } : State).raiseVector 0
    else { s with host := { s.host with unsignalled := n, unsignalledAt := a } }) := by
  split
  · exact Outward.trans ⟨_, _, _, _, _, _, _, _, rfl⟩ (outward_raiseVector _ _)
  · exact ⟨_, _, _, _, _, _, _, _, rfl⟩

theorem outward_completeHost (e : Entry) (st : Status) (n : Nat) (b : Bytes) (s : State) : Outward s (s.completeHost e st n b) := by
  unfold State.completeHost
  dsimp only
  split
  · exact outward_discardCompletion _ _ _
  · split
    · exact Outward.trans (outward_ringFault _ _ _) (outward_discardCompletion _ _ _)
    · refine Outward.trans (Outward.trans ?_ (Outward.trans (outward_hostWrite _ _ _) (outward_setRing _ _ _))) (outward_signal _ _ _)
      split
      · exact outward_hostWrite _ _ _
      · exact Outward.refl s

/-- A completion touches the outward parts alone. -/
theorem outward_complete (e : Entry) (st : Status) (n : Nat) (b : Bytes) (s : State) : Outward s (s.complete e st n b) := by
  unfold State.complete
  dsimp only
  split
  · exact Outward.refl s
  · split
    · exact Outward.trans (outward_dropFlight _ _) (outward_discardCompletion _ _ _)
    · have h : Outward s ((s.dropFlight e.id).countRefused e.cmd.route st) :=
        Outward.trans (outward_dropFlight _ _) (outward_countRefused _ _ _)
      refine Outward.trans h ?_
      split
      · exact outward_completeHost _ _ _ _ _
      · split
        · exact outward_sendOmnar _ _ _ _ _
        · exact outward_discardCompletion _ _ _
      · split
        · exact outward_sendIvpasto _ _ _
        · exact outward_discardCompletion _ _ _

/-- A command arriving at its checks touches the outward parts, the instant and the safety session's last use alone. -/
theorem outward_indirectFault (c : Cmd) (s : State) : Outward s (s.indirectFault c) := by
  unfold State.indirectFault
  split
  · exact outward_ringFault _ _ _
  · exact Outward.refl s

/-! ## The same, field by field -/

variable {s u : State}

theorem Outward.tb0 (h : Outward s u) : u.tb0 = s.tb0 := by obtain ⟨_, _, _, _, _, _, _, _, rfl⟩ := h; rfl
theorem Outward.free (h : Outward s u) : u.free = s.free := by obtain ⟨_, _, _, _, _, _, _, _, rfl⟩ := h; rfl
theorem Outward.cfg (h : Outward s u) : u.cfg = s.cfg := by obtain ⟨_, _, _, _, _, _, _, _, rfl⟩ := h; rfl
theorem Outward.power (h : Outward s u) : u.power = s.power := by obtain ⟨_, _, _, _, _, _, _, _, rfl⟩ := h; rfl
theorem Outward.cocoon (h : Outward s u) : u.cocoon = s.cocoon := by obtain ⟨_, _, _, _, _, _, _, _, rfl⟩ := h; rfl
theorem Outward.mail (h : Outward s u) : u.mail = s.mail := by obtain ⟨_, _, _, _, _, _, _, _, rfl⟩ := h; rfl
theorem Outward.recorder (h : Outward s u) : u.recorder = s.recorder := by obtain ⟨_, _, _, _, _, _, _, _, rfl⟩ := h; rfl
theorem Outward.session (h : Outward s u) : u.session = s.session := by obtain ⟨_, _, _, _, _, _, _, _, rfl⟩ := h; rfl
theorem Outward.cred (h : Outward s u) : u.cred = s.cred := by obtain ⟨_, _, _, _, _, _, _, _, rfl⟩ := h; rfl
theorem Outward.safeLog (h : Outward s u) : u.safeLog = s.safeLog := by obtain ⟨_, _, _, _, _, _, _, _, rfl⟩ := h; rfl
theorem Outward.tasks (h : Outward s u) : u.tasks = s.tasks := by obtain ⟨_, _, _, _, _, _, _, _, rfl⟩ := h; rfl
theorem Outward.cores (h : Outward s u) : u.cores = s.cores := by obtain ⟨_, _, _, _, _, _, _, _, rfl⟩ := h; rfl
theorem Outward.prog (h : Outward s u) : u.prog = s.prog := by obtain ⟨_, _, _, _, _, _, _, _, rfl⟩ := h; rfl
theorem Outward.loops (h : Outward s u) : u.loops = s.loops := by obtain ⟨_, _, _, _, _, _, _, _, rfl⟩ := h; rfl
theorem Outward.ac (h : Outward s u) : u.ac = s.ac := by obtain ⟨_, _, _, _, _, _, _, _, rfl⟩ := h; rfl
theorem Outward.modems (h : Outward s u) : u.modems = s.modems := by obtain ⟨_, _, _, _, _, _, _, _, rfl⟩ := h; rfl
theorem Outward.hart (h : Outward s u) : u.hart = s.hart := by obtain ⟨_, _, _, _, _, _, _, _, rfl⟩ := h; rfl
theorem Outward.dc (h : Outward s u) : u.dc = s.dc := by obtain ⟨_, _, _, _, _, _, _, _, rfl⟩ := h; rfl
theorem Outward.dcGroups (h : Outward s u) : u.dcGroups = s.dcGroups := by obtain ⟨_, _, _, _, _, _, _, _, rfl⟩ := h; rfl
theorem Outward.dcCommon (h : Outward s u) : u.dcCommon = s.dcCommon := by obtain ⟨_, _, _, _, _, _, _, _, rfl⟩ := h; rfl
theorem Outward.dcCommonAck (h : Outward s u) : u.dcCommonAck = s.dcCommonAck := by obtain ⟨_, _, _, _, _, _, _, _, rfl⟩ := h; rfl
theorem Outward.so (h : Outward s u) : u.so = s.so := by obtain ⟨_, _, _, _, _, _, _, _, rfl⟩ := h; rfl
theorem Outward.sv (h : Outward s u) : u.sv = s.sv := by obtain ⟨_, _, _, _, _, _, _, _, rfl⟩ := h; rfl
theorem Outward.aiPairs (h : Outward s u) : u.aiPairs = s.aiPairs := by obtain ⟨_, _, _, _, _, _, _, _, rfl⟩ := h; rfl
theorem Outward.triggers (h : Outward s u) : u.triggers = s.triggers := by obtain ⟨_, _, _, _, _, _, _, _, rfl⟩ := h; rfl
theorem Outward.axes (h : Outward s u) : u.axes = s.axes := by obtain ⟨_, _, _, _, _, _, _, _, rfl⟩ := h; rfl
theorem Outward.rtc (h : Outward s u) : u.rtc = s.rtc := by obtain ⟨_, _, _, _, _, _, _, _, rfl⟩ := h; rfl
theorem Outward.bases (h : Outward s u) : u.bases = s.bases := by obtain ⟨_, _, _, _, _, _, _, _, rfl⟩ := h; rfl
theorem Outward.pgs (h : Outward s u) : u.pgs = s.pgs := by obtain ⟨_, _, _, _, _, _, _, _, rfl⟩ := h; rfl
theorem Outward.pis (h : Outward s u) : u.pis = s.pis := by obtain ⟨_, _, _, _, _, _, _, _, rfl⟩ := h; rfl
theorem Outward.net (h : Outward s u) : u.net = s.net := by obtain ⟨_, _, _, _, _, _, _, _, rfl⟩ := h; rfl
theorem Outward.cans (h : Outward s u) : u.cans = s.cans := by obtain ⟨_, _, _, _, _, _, _, _, rfl⟩ := h; rfl
theorem Outward.cus (h : Outward s u) : u.cus = s.cus := by obtain ⟨_, _, _, _, _, _, _, _, rfl⟩ := h; rfl
theorem Outward.pair (h : Outward s u) : u.pair = s.pair := by obtain ⟨_, _, _, _, _, _, _, _, rfl⟩ := h; rfl
theorem Outward.upd (h : Outward s u) : u.upd = s.upd := by obtain ⟨_, _, _, _, _, _, _, _, rfl⟩ := h; rfl
theorem Outward.panel (h : Outward s u) : u.panel = s.panel := by obtain ⟨_, _, _, _, _, _, _, _, rfl⟩ := h; rfl
theorem Outward.pending (h : Outward s u) : u.pending = s.pending := by obtain ⟨_, _, _, _, _, _, _, _, rfl⟩ := h; rfl

@[simp] theorem State.post_tb0 (p : Plane) (c : Code) (src : Res) (n : Nat) (s : State) (d : Nat) : (s.post p c src n d).tb0 = s.tb0 :=
  (outward_post p c src n s d).tb0
@[simp] theorem State.post_free (p : Plane) (c : Code) (src : Res) (n : Nat) (s : State) (d : Nat) : (s.post p c src n d).free = s.free :=
  (outward_post p c src n s d).free
@[simp] theorem State.post_cfg (p : Plane) (c : Code) (src : Res) (n : Nat) (s : State) (d : Nat) : (s.post p c src n d).cfg = s.cfg :=
  (outward_post p c src n s d).cfg
@[simp] theorem State.post_power (p : Plane) (c : Code) (src : Res) (n : Nat) (s : State) (d : Nat) : (s.post p c src n d).power = s.power :=
  (outward_post p c src n s d).power
@[simp] theorem State.post_cocoon (p : Plane) (c : Code) (src : Res) (n : Nat) (s : State) (d : Nat) : (s.post p c src n d).cocoon = s.cocoon :=
  (outward_post p c src n s d).cocoon
@[simp] theorem State.post_mail (p : Plane) (c : Code) (src : Res) (n : Nat) (s : State) (d : Nat) : (s.post p c src n d).mail = s.mail :=
  (outward_post p c src n s d).mail
@[simp] theorem State.post_recorder (p : Plane) (c : Code) (src : Res) (n : Nat) (s : State) (d : Nat) : (s.post p c src n d).recorder = s.recorder :=
  (outward_post p c src n s d).recorder
@[simp] theorem State.post_session (p : Plane) (c : Code) (src : Res) (n : Nat) (s : State) (d : Nat) : (s.post p c src n d).session = s.session :=
  (outward_post p c src n s d).session
@[simp] theorem State.post_cred (p : Plane) (c : Code) (src : Res) (n : Nat) (s : State) (d : Nat) : (s.post p c src n d).cred = s.cred :=
  (outward_post p c src n s d).cred
@[simp] theorem State.post_safeLog (p : Plane) (c : Code) (src : Res) (n : Nat) (s : State) (d : Nat) : (s.post p c src n d).safeLog = s.safeLog :=
  (outward_post p c src n s d).safeLog
@[simp] theorem State.post_tasks (p : Plane) (c : Code) (src : Res) (n : Nat) (s : State) (d : Nat) : (s.post p c src n d).tasks = s.tasks :=
  (outward_post p c src n s d).tasks
@[simp] theorem State.post_cores (p : Plane) (c : Code) (src : Res) (n : Nat) (s : State) (d : Nat) : (s.post p c src n d).cores = s.cores :=
  (outward_post p c src n s d).cores
@[simp] theorem State.post_prog (p : Plane) (c : Code) (src : Res) (n : Nat) (s : State) (d : Nat) : (s.post p c src n d).prog = s.prog :=
  (outward_post p c src n s d).prog
@[simp] theorem State.post_loops (p : Plane) (c : Code) (src : Res) (n : Nat) (s : State) (d : Nat) : (s.post p c src n d).loops = s.loops :=
  (outward_post p c src n s d).loops
@[simp] theorem State.post_ac (p : Plane) (c : Code) (src : Res) (n : Nat) (s : State) (d : Nat) : (s.post p c src n d).ac = s.ac :=
  (outward_post p c src n s d).ac
@[simp] theorem State.post_modems (p : Plane) (c : Code) (src : Res) (n : Nat) (s : State) (d : Nat) : (s.post p c src n d).modems = s.modems :=
  (outward_post p c src n s d).modems
@[simp] theorem State.post_hart (p : Plane) (c : Code) (src : Res) (n : Nat) (s : State) (d : Nat) : (s.post p c src n d).hart = s.hart :=
  (outward_post p c src n s d).hart
@[simp] theorem State.post_dc (p : Plane) (c : Code) (src : Res) (n : Nat) (s : State) (d : Nat) : (s.post p c src n d).dc = s.dc :=
  (outward_post p c src n s d).dc
@[simp] theorem State.post_dcGroups (p : Plane) (c : Code) (src : Res) (n : Nat) (s : State) (d : Nat) : (s.post p c src n d).dcGroups = s.dcGroups :=
  (outward_post p c src n s d).dcGroups
@[simp] theorem State.post_dcCommon (p : Plane) (c : Code) (src : Res) (n : Nat) (s : State) (d : Nat) : (s.post p c src n d).dcCommon = s.dcCommon :=
  (outward_post p c src n s d).dcCommon
@[simp] theorem State.post_dcCommonAck (p : Plane) (c : Code) (src : Res) (n : Nat) (s : State) (d : Nat) : (s.post p c src n d).dcCommonAck = s.dcCommonAck :=
  (outward_post p c src n s d).dcCommonAck
@[simp] theorem State.post_so (p : Plane) (c : Code) (src : Res) (n : Nat) (s : State) (d : Nat) : (s.post p c src n d).so = s.so :=
  (outward_post p c src n s d).so
@[simp] theorem State.post_sv (p : Plane) (c : Code) (src : Res) (n : Nat) (s : State) (d : Nat) : (s.post p c src n d).sv = s.sv :=
  (outward_post p c src n s d).sv
@[simp] theorem State.post_aiPairs (p : Plane) (c : Code) (src : Res) (n : Nat) (s : State) (d : Nat) : (s.post p c src n d).aiPairs = s.aiPairs :=
  (outward_post p c src n s d).aiPairs
@[simp] theorem State.post_triggers (p : Plane) (c : Code) (src : Res) (n : Nat) (s : State) (d : Nat) : (s.post p c src n d).triggers = s.triggers :=
  (outward_post p c src n s d).triggers
@[simp] theorem State.post_axes (p : Plane) (c : Code) (src : Res) (n : Nat) (s : State) (d : Nat) : (s.post p c src n d).axes = s.axes :=
  (outward_post p c src n s d).axes
@[simp] theorem State.post_rtc (p : Plane) (c : Code) (src : Res) (n : Nat) (s : State) (d : Nat) : (s.post p c src n d).rtc = s.rtc :=
  (outward_post p c src n s d).rtc
@[simp] theorem State.post_bases (p : Plane) (c : Code) (src : Res) (n : Nat) (s : State) (d : Nat) : (s.post p c src n d).bases = s.bases :=
  (outward_post p c src n s d).bases
@[simp] theorem State.post_pgs (p : Plane) (c : Code) (src : Res) (n : Nat) (s : State) (d : Nat) : (s.post p c src n d).pgs = s.pgs :=
  (outward_post p c src n s d).pgs
@[simp] theorem State.post_pis (p : Plane) (c : Code) (src : Res) (n : Nat) (s : State) (d : Nat) : (s.post p c src n d).pis = s.pis :=
  (outward_post p c src n s d).pis
@[simp] theorem State.post_net (p : Plane) (c : Code) (src : Res) (n : Nat) (s : State) (d : Nat) : (s.post p c src n d).net = s.net :=
  (outward_post p c src n s d).net
@[simp] theorem State.post_cans (p : Plane) (c : Code) (src : Res) (n : Nat) (s : State) (d : Nat) : (s.post p c src n d).cans = s.cans :=
  (outward_post p c src n s d).cans
@[simp] theorem State.post_cus (p : Plane) (c : Code) (src : Res) (n : Nat) (s : State) (d : Nat) : (s.post p c src n d).cus = s.cus :=
  (outward_post p c src n s d).cus
@[simp] theorem State.post_pair (p : Plane) (c : Code) (src : Res) (n : Nat) (s : State) (d : Nat) : (s.post p c src n d).pair = s.pair :=
  (outward_post p c src n s d).pair
@[simp] theorem State.post_upd (p : Plane) (c : Code) (src : Res) (n : Nat) (s : State) (d : Nat) : (s.post p c src n d).upd = s.upd :=
  (outward_post p c src n s d).upd
@[simp] theorem State.post_panel (p : Plane) (c : Code) (src : Res) (n : Nat) (s : State) (d : Nat) : (s.post p c src n d).panel = s.panel :=
  (outward_post p c src n s d).panel
@[simp] theorem State.post_pending (p : Plane) (c : Code) (src : Res) (n : Nat) (s : State) (d : Nat) : (s.post p c src n d).pending = s.pending :=
  (outward_post p c src n s d).pending

@[simp] theorem State.complete_tb0 (e : Entry) (st : Status) (n : Nat) (b : Bytes) (s : State) : (s.complete e st n b).tb0 = s.tb0 :=
  (outward_complete e st n b s).tb0
@[simp] theorem State.complete_free (e : Entry) (st : Status) (n : Nat) (b : Bytes) (s : State) : (s.complete e st n b).free = s.free :=
  (outward_complete e st n b s).free
@[simp] theorem State.complete_cfg (e : Entry) (st : Status) (n : Nat) (b : Bytes) (s : State) : (s.complete e st n b).cfg = s.cfg :=
  (outward_complete e st n b s).cfg
@[simp] theorem State.complete_power (e : Entry) (st : Status) (n : Nat) (b : Bytes) (s : State) : (s.complete e st n b).power = s.power :=
  (outward_complete e st n b s).power
@[simp] theorem State.complete_cocoon (e : Entry) (st : Status) (n : Nat) (b : Bytes) (s : State) : (s.complete e st n b).cocoon = s.cocoon :=
  (outward_complete e st n b s).cocoon
@[simp] theorem State.complete_mail (e : Entry) (st : Status) (n : Nat) (b : Bytes) (s : State) : (s.complete e st n b).mail = s.mail :=
  (outward_complete e st n b s).mail
@[simp] theorem State.complete_recorder (e : Entry) (st : Status) (n : Nat) (b : Bytes) (s : State) : (s.complete e st n b).recorder = s.recorder :=
  (outward_complete e st n b s).recorder
@[simp] theorem State.complete_session (e : Entry) (st : Status) (n : Nat) (b : Bytes) (s : State) : (s.complete e st n b).session = s.session :=
  (outward_complete e st n b s).session
@[simp] theorem State.complete_cred (e : Entry) (st : Status) (n : Nat) (b : Bytes) (s : State) : (s.complete e st n b).cred = s.cred :=
  (outward_complete e st n b s).cred
@[simp] theorem State.complete_safeLog (e : Entry) (st : Status) (n : Nat) (b : Bytes) (s : State) : (s.complete e st n b).safeLog = s.safeLog :=
  (outward_complete e st n b s).safeLog
@[simp] theorem State.complete_tasks (e : Entry) (st : Status) (n : Nat) (b : Bytes) (s : State) : (s.complete e st n b).tasks = s.tasks :=
  (outward_complete e st n b s).tasks
@[simp] theorem State.complete_cores (e : Entry) (st : Status) (n : Nat) (b : Bytes) (s : State) : (s.complete e st n b).cores = s.cores :=
  (outward_complete e st n b s).cores
@[simp] theorem State.complete_prog (e : Entry) (st : Status) (n : Nat) (b : Bytes) (s : State) : (s.complete e st n b).prog = s.prog :=
  (outward_complete e st n b s).prog
@[simp] theorem State.complete_loops (e : Entry) (st : Status) (n : Nat) (b : Bytes) (s : State) : (s.complete e st n b).loops = s.loops :=
  (outward_complete e st n b s).loops
@[simp] theorem State.complete_ac (e : Entry) (st : Status) (n : Nat) (b : Bytes) (s : State) : (s.complete e st n b).ac = s.ac :=
  (outward_complete e st n b s).ac
@[simp] theorem State.complete_modems (e : Entry) (st : Status) (n : Nat) (b : Bytes) (s : State) : (s.complete e st n b).modems = s.modems :=
  (outward_complete e st n b s).modems
@[simp] theorem State.complete_hart (e : Entry) (st : Status) (n : Nat) (b : Bytes) (s : State) : (s.complete e st n b).hart = s.hart :=
  (outward_complete e st n b s).hart
@[simp] theorem State.complete_dc (e : Entry) (st : Status) (n : Nat) (b : Bytes) (s : State) : (s.complete e st n b).dc = s.dc :=
  (outward_complete e st n b s).dc
@[simp] theorem State.complete_dcGroups (e : Entry) (st : Status) (n : Nat) (b : Bytes) (s : State) : (s.complete e st n b).dcGroups = s.dcGroups :=
  (outward_complete e st n b s).dcGroups
@[simp] theorem State.complete_dcCommon (e : Entry) (st : Status) (n : Nat) (b : Bytes) (s : State) : (s.complete e st n b).dcCommon = s.dcCommon :=
  (outward_complete e st n b s).dcCommon
@[simp] theorem State.complete_dcCommonAck (e : Entry) (st : Status) (n : Nat) (b : Bytes) (s : State) : (s.complete e st n b).dcCommonAck = s.dcCommonAck :=
  (outward_complete e st n b s).dcCommonAck
@[simp] theorem State.complete_so (e : Entry) (st : Status) (n : Nat) (b : Bytes) (s : State) : (s.complete e st n b).so = s.so :=
  (outward_complete e st n b s).so
@[simp] theorem State.complete_sv (e : Entry) (st : Status) (n : Nat) (b : Bytes) (s : State) : (s.complete e st n b).sv = s.sv :=
  (outward_complete e st n b s).sv
@[simp] theorem State.complete_aiPairs (e : Entry) (st : Status) (n : Nat) (b : Bytes) (s : State) : (s.complete e st n b).aiPairs = s.aiPairs :=
  (outward_complete e st n b s).aiPairs
@[simp] theorem State.complete_triggers (e : Entry) (st : Status) (n : Nat) (b : Bytes) (s : State) : (s.complete e st n b).triggers = s.triggers :=
  (outward_complete e st n b s).triggers
@[simp] theorem State.complete_axes (e : Entry) (st : Status) (n : Nat) (b : Bytes) (s : State) : (s.complete e st n b).axes = s.axes :=
  (outward_complete e st n b s).axes
@[simp] theorem State.complete_rtc (e : Entry) (st : Status) (n : Nat) (b : Bytes) (s : State) : (s.complete e st n b).rtc = s.rtc :=
  (outward_complete e st n b s).rtc
@[simp] theorem State.complete_bases (e : Entry) (st : Status) (n : Nat) (b : Bytes) (s : State) : (s.complete e st n b).bases = s.bases :=
  (outward_complete e st n b s).bases
@[simp] theorem State.complete_pgs (e : Entry) (st : Status) (n : Nat) (b : Bytes) (s : State) : (s.complete e st n b).pgs = s.pgs :=
  (outward_complete e st n b s).pgs
@[simp] theorem State.complete_pis (e : Entry) (st : Status) (n : Nat) (b : Bytes) (s : State) : (s.complete e st n b).pis = s.pis :=
  (outward_complete e st n b s).pis
@[simp] theorem State.complete_net (e : Entry) (st : Status) (n : Nat) (b : Bytes) (s : State) : (s.complete e st n b).net = s.net :=
  (outward_complete e st n b s).net
@[simp] theorem State.complete_cans (e : Entry) (st : Status) (n : Nat) (b : Bytes) (s : State) : (s.complete e st n b).cans = s.cans :=
  (outward_complete e st n b s).cans
@[simp] theorem State.complete_cus (e : Entry) (st : Status) (n : Nat) (b : Bytes) (s : State) : (s.complete e st n b).cus = s.cus :=
  (outward_complete e st n b s).cus
@[simp] theorem State.complete_pair (e : Entry) (st : Status) (n : Nat) (b : Bytes) (s : State) : (s.complete e st n b).pair = s.pair :=
  (outward_complete e st n b s).pair
@[simp] theorem State.complete_upd (e : Entry) (st : Status) (n : Nat) (b : Bytes) (s : State) : (s.complete e st n b).upd = s.upd :=
  (outward_complete e st n b s).upd
@[simp] theorem State.complete_panel (e : Entry) (st : Status) (n : Nat) (b : Bytes) (s : State) : (s.complete e st n b).panel = s.panel :=
  (outward_complete e st n b s).panel
@[simp] theorem State.complete_pending (e : Entry) (st : Status) (n : Nat) (b : Bytes) (s : State) : (s.complete e st n b).pending = s.pending :=
  (outward_complete e st n b s).pending

end Sys2Proof.Machine
end

