-- ==== Sys2Proof/Laws/Tab.lean ====
section
/-! SUPPORT. Sparse tables: a read after a write, and the canonical form that every operation keeps. -/

namespace Sys2Proof.Machine

variable {α : Type} [DecidableEq α] {d : Nat → α}

/-- A written value that is not the unlisted one reads back, whatever the table. -/
theorem Tab.get_put_of_ne (t : Tab α) (k : Nat) (v : α) (h : v ≠ d k) : Tab.get d (Tab.put d t k v) k = v := by
  induction t with
  | nil => simp [Tab.put, h, Tab.get]
  | cons x r ih =>
    obtain ⟨k', v'⟩ := x
    simp only [Tab.put, h, if_false]
    split
    · simp [Tab.get]
    · split
      · simp [Tab.get]
      · rename_i h1 h2
        simp [Tab.get, h1, h2, ih]

/-- A value that is not the unlisted one leaves every other key alone, whatever the table. -/
theorem Tab.get_put_other_of_ne (t : Tab α) (k k2 : Nat) (v : α) (h : v ≠ d k) (hk : k2 ≠ k) :
    Tab.get d (Tab.put d t k v) k2 = Tab.get d t k2 := by
  induction t with
  | nil => simp [Tab.put, h, Tab.get, hk]
  | cons x r ih =>
    obtain ⟨k', v'⟩ := x
    simp only [Tab.put, h, if_false]
    split
    · rename_i h1
      simp only [Tab.get, if_neg hk]
      split
      · rename_i h2
        have h3 : k2 ≠ k' := by omega
        have h4 : k2 < k' := by omega
        simp [h3, h4]
      · rfl
    · split
      · rename_i h1 h2
        subst h2
        simp [Tab.get, hk]
      · simp only [Tab.get, ih]

omit [DecidableEq α] in
/-- Below the first key of a table everything reads as unlisted. -/
theorem Tab.wfFrom_mono [DecidableEq α] {lo lo' : Nat} {t : Tab α} (h : Tab.wfFrom d lo t = true) (hl : lo' ≤ lo) :
    Tab.wfFrom d lo' t = true := by
  cases t with
  | nil => rfl
  | cons x r =>
    obtain ⟨k, v⟩ := x
    simp only [Tab.wfFrom, Bool.and_eq_true, decide_eq_true_eq] at h ⊢
    exact ⟨⟨by omega, h.1.2⟩, h.2⟩

omit [DecidableEq α] in
theorem Tab.get_of_lt [DecidableEq α] {lo k : Nat} {t : Tab α} (h : Tab.wfFrom d lo t = true) (hk : k < lo) : Tab.get d t k = d k := by
  cases t with
  | nil => rfl
  | cons x r =>
    obtain ⟨k', v⟩ := x
    simp only [Tab.wfFrom, Bool.and_eq_true, decide_eq_true_eq] at h
    have h1 : k ≠ k' := by omega
    have h2 : k < k' := by omega
    simp [Tab.get, h1, h2]

/-- A write keeps the canonical form. -/
theorem Tab.wfFrom_put {lo k : Nat} {t : Tab α} (v : α) (h : Tab.wfFrom d lo t = true) (hk : lo ≤ k) :
    Tab.wfFrom d lo (Tab.put d t k v) = true := by
  induction t generalizing lo with
  | nil =>
    simp only [Tab.put]
    split
    · rfl
    · rename_i hv
      simp [Tab.wfFrom, hk, hv]
  | cons x r ih =>
    obtain ⟨k', v'⟩ := x
    have h0 := h
    simp only [Tab.wfFrom, Bool.and_eq_true, decide_eq_true_eq] at h
    obtain ⟨⟨h1, h2⟩, h3⟩ := h
    simp only [Tab.put]
    split
    · rename_i hlt
      split
      · exact h0
      · rename_i hv
        simp only [Tab.wfFrom, Bool.and_eq_true, decide_eq_true_eq]
        exact ⟨⟨hk, hv⟩, ⟨⟨by omega, h2⟩, h3⟩⟩
    · split
      · rename_i he
        subst he
        split
        · exact Tab.wfFrom_mono h3 (by omega)
        · rename_i hv
          simp only [Tab.wfFrom, Bool.and_eq_true, decide_eq_true_eq]
          exact ⟨⟨hk, hv⟩, h3⟩
      · simp only [Tab.wfFrom, Bool.and_eq_true, decide_eq_true_eq]
        exact ⟨⟨h1, h2⟩, ih h3 (by omega)⟩

theorem Tab.wf_put {t : Tab α} (k : Nat) (v : α) (h : Tab.wf d t = true) : Tab.wf d (Tab.put d t k v) = true :=
  Tab.wfFrom_put v h (Nat.zero_le k)

theorem Tab.wf_upd {t : Tab α} (k : Nat) (f : α → α) (h : Tab.wf d t = true) : Tab.wf d (Tab.upd d t k f) = true :=
  Tab.wf_put k _ h

/-- In a canonical table a written value reads back. -/
theorem Tab.get_put {lo : Nat} {t : Tab α} (k : Nat) (v : α) (h : Tab.wfFrom d lo t = true) :
    Tab.get d (Tab.put d t k v) k = v := by
  by_cases hv : v = d k
  · induction t generalizing lo with
    | nil => simp [Tab.put, hv, Tab.get]
    | cons x r ih =>
      obtain ⟨k', v'⟩ := x
      simp only [Tab.wfFrom, Bool.and_eq_true, decide_eq_true_eq] at h
      simp only [Tab.put, hv, if_true]
      split
      · rename_i h1
        have h2 : k ≠ k' := by omega
        simp [Tab.get, h1, h2]
      · split
        · rename_i h2
          subst h2
          exact Tab.get_of_lt h.2 (by omega)
        · rename_i h1 h2
          simp only [Tab.get, h1, h2, if_false]
          rw [← hv]
          exact ih h.2
  · exact Tab.get_put_of_ne t k v hv

/-- In a canonical table a write leaves every other key alone. -/
theorem Tab.get_put_other {lo : Nat} {t : Tab α} (k k2 : Nat) (v : α) (h : Tab.wfFrom d lo t = true) (hk : k2 ≠ k) :
    Tab.get d (Tab.put d t k v) k2 = Tab.get d t k2 := by
  by_cases hv : v = d k
  · induction t generalizing lo with
    | nil => simp [Tab.put, hv]
    | cons x r ih =>
      obtain ⟨k', v'⟩ := x
      simp only [Tab.wfFrom, Bool.and_eq_true, decide_eq_true_eq] at h
      simp only [Tab.put, hv, if_true]
      split
      · rfl
      · split
        · rename_i h1 h2
          subst h2
          simp only [Tab.get, if_neg hk]
          split
          · exact Tab.get_of_lt h.2 (by omega)
          · rfl
        · simp only [Tab.get]
          rw [← hv, ih h.2]
  · exact Tab.get_put_other_of_ne t k k2 v hv hk

/-- Changing every listed entry keeps the canonical form. -/
theorem Tab.wf_mapVals {lo : Nat} {t : Tab α} (f : α → α) (h : Tab.wfFrom d lo t = true) :
    Tab.wfFrom d lo (Tab.mapVals d f t) = true := by
  induction t generalizing lo with
  | nil => rfl
  | cons x r ih =>
    obtain ⟨k, v⟩ := x
    simp only [Tab.wfFrom, Bool.and_eq_true, decide_eq_true_eq] at h
    have h1 := ih h.2
    simp only [Tab.mapVals, List.map_cons, List.filter_cons] at h1 ⊢
    split
    · rename_i hv
      simp only [ne_eq, decide_not, Bool.not_eq_true', decide_eq_false_iff_not] at hv
      simp only [Tab.wfFrom, Bool.and_eq_true, decide_eq_true_eq]
      exact ⟨⟨h.1.1, hv⟩, h1⟩
    · exact Tab.wfFrom_mono h1 (by omega)

/-- Writing bytes keeps the canonical form. -/
theorem Tab.wf_putBytes {m : Tab Byte} (a : Nat) (b : Bytes) (h : Tab.wf (fun _ => 0) m = true) :
    Tab.wf (fun _ => 0) (Tab.putBytes m a b) = true := by
  induction b generalizing m a with
  | nil => exact h
  | cons x r ih => exact ih (a + 1) (Tab.wf_put a x h)

/-- Bytes written below or above an address leave it alone. -/
theorem Tab.get_putBytes_other {m : Tab Byte} (a k : Nat) (b : Bytes) (h : Tab.wf (fun _ => 0) m = true)
    (hk : k < a ∨ a + b.length ≤ k) : Tab.get (fun _ => 0) (Tab.putBytes m a b) k = Tab.get (fun _ => 0) m k := by
  induction b generalizing m a with
  | nil => rfl
  | cons x r ih =>
    simp only [List.length_cons] at hk
    simp only [Tab.putBytes]
    rw [ih (a + 1) (Tab.wf_put a x h) (by omega)]
    exact Tab.get_put_other a k x h (by omega)

/-- A byte written reads back. -/
theorem Tab.get_putBytes {m : Tab Byte} (a i : Nat) (b : Bytes) (h : Tab.wf (fun _ => 0) m = true) (hi : i < b.length) :
    Tab.get (fun _ => 0) (Tab.putBytes m a b) (a + i) = b[i] := by
  induction b generalizing m a i with
  | nil => simp at hi
  | cons x r ih =>
    simp only [Tab.putBytes]
    cases i with
    | zero =>
      simp only [Nat.add_zero, List.getElem_cons_zero]
      rw [Tab.get_putBytes_other (a + 1) a r (Tab.wf_put a x h) (by omega)]
      exact Tab.get_put a x h
    | succ i =>
      have := ih (a + 1) i (Tab.wf_put a x h) (by simpa using hi)
      rw [show a + (i + 1) = a + 1 + i by omega]
      simpa using this

end Sys2Proof.Machine
end

