-- ==== Sys2Proof/Tests/Slice0.lean ====
section
/-! SUPPORT. Tests: concrete states and operands that meet the hypotheses of every statement (witness_<statement>), the spec's own
examples, and ill-formed commands that well-formedness refuses. Values of the states are chosen to meet the hypotheses; expected
results come from the spec, whose rule each test names. -/

open Sys2Proof Sys2Proof.Machine

section
set_option Elab.async false

/-! ## States -/

/-- A submission entry with tag 1. -/
def wCmd (r : Route) (cls idx sub : Nat) (flags : Nat) (h : Nat) (p : Bytes) (blk : Option Bytes) : Cmd :=
  { route := r, slot := 0, flags := flags, tgtClass := cls, tgtIndex := idx, tgtSub := sub, rsv := 0, tag := 1, handle := h,
    params := p, block := blk, writeFails := false }

/-- `n` zero bytes. -/
def zeros (n : Nat) : Bytes := List.replicate n 0

/-- A running module: the host is ready with its completion ring, a safety session (handle 7) and the service session are open. -/
def wUp : State :=
  { tb0 := 100000000000,
    power := { phase := .running, mgmtUp := true, restoreDone := true, epoch := 1, startedAt := 1000000 },
    host := { endpointUp := true, ready := true, rings := [(1, { log2 := 12, en := true, run := true })] },
    disp := { ivpasto := { connected := true, helloDone := true, isOpen := true, roles := 7 }, omnar := [{ id := 1 }] },
    session := { handle := 7, lastUse := 100000000000 } }
/-- The parameter area that points to an indirect block of `n` bytes; a parameter area of some bytes; an entry with an indirect
block; an entry without. -/
def inds (n : Nat) : Bytes := leBytes 8 0 ++ leBytes 4 n ++ zeros 36
def pad (b : Bytes) : Bytes := b ++ zeros (48 - b.length)
def ind (r : Route) (cls idx sub fl : Nat) (b : Bytes) : Cmd := wCmd r cls idx sub fl 7 (inds b.length) (some b)
def dir (r : Route) (cls idx sub fl : Nat) (b : Bytes) : Cmd := wCmd r cls idx sub fl 7 (pad b) none
/-- The same with analogue, digital and safety points out of service. -/
def wOut : State := { wUp with
  ac := [(0, { st := .outOfService }), (1, { st := .outOfService })],
  dc := [(0, { st := .outOfService }), (1, { st := .outOfService })],
  so := [(0, { retired := true })] }
/-- A command held behind a fence, with tag 5. -/
def wHeld : State :=
  let e : Entry := { id := 0, op := 0x0101, cmd := { wCmd .host 1 0 0 0 0 (zeros 48) none with tag := 5 } }
  { wUp with disp := { wUp.disp with nextId := 1, flights := [{ entry := e, dispatched := false }], queue := [e] } }
/-- A committed Configuration, a slot, a log entry, conditions to acknowledge. -/
def wRich : State :=
  let s : State := { wUp with
    cocoon := { config := Sec.now {} {} },
    safeLog := { entries := [{ lseq := 1, cls := 6, sub := 0, index := 0, old := 0, new := 0, route := 0, session := 7, epoch := 1 }] },
    ac := [(0, { st := .outOfService })], dc := [(0, { st := .outOfService })],
    so := [(0, { tripped := true, cmd := some true })],
    axes := [(0, { st := .standstill, unref := false, segs := [{ t := 1000, p := 0, v := 0 }] }), (1, { st := .moving })],
    bases := [(1, { offset := some 5000, master := some ⟨1, 6, 0x20, 1, 1, 1, none⟩ })],
    recorder := { store := { slots := [⟨0x0100, 0, ⟨1, 0, 0⟩, 1, 1, 1, 0, 0, [], 0, 0⟩] } },
    cans := [(0, { st := .busOff }), (1, { bufs := [(0, { frame := some { xid := 0, rtr := false, esi := false, data := [] } })] })],
    upd := { chrysalis := [(1, zeros 128)], slotA := [(1, zeros 128)] } }
  (((((s.setParam .acMode 0 3).setParam .dcMode 0 1).setParam .taskKind 0 1).setParam .ccLen 0x1000 8).setParam .piMode 0 1).setParam .soAckSource 0 1
/-- An ACTIVE partner of a hedgerow pair with its STANDBY. -/
def wPair : State := { wUp with
  pair := { wUp.pair with
    st := .active, link := true,
    peer := some ⟨1, 4, 0, 0, 0, 0, 0, [], []⟩ } }
/-- A partner without a link role whose ACTIVE partner is compatible. -/
def wJoin : State := { wUp with
  pair := { wUp.pair with
    st := .unlinked, link := true,
    peer := some ⟨1, 2, 0, 0, wUp.net.station, wUp.param .desigPrimary 0, wUp.libVersion, [], []⟩ } }
/-- A valid slot that holds an image without tasks, a variable under a force, a region, a retired core pair, a boot record,
frames and streams in progress. -/
def wMore : State :=
  let e : Entry := { id := 0, op := 0x0408, cmd := dir .host 4 0 0 0 [1] }
  let s : State := { wUp with
    cfg := { wUp.cfg with
      connVars := [(0x1000, [5])],
      panel := { wUp.cfg.panel with regions := [(0, some ⟨0, 0, 8, 8, 1⟩)] },
      prog := { wUp.cfg.prog with vars := [{ id := 1, ref := 0x0A0000, task := 0, flags := 0 }] } },
    hart := { wUp.hart with bursts := [(e, none, [])] },
    panel := { wUp.panel with on := true },
    so := [(0, { tripped := true, cmd := some true })],
    prog := { wUp.prog with forces := [(1, some { value := 1, till := none })] },
    faults := { wUp.faults with store := { wUp.faults.store with retired := [{ key := { cls := 1, index := 0 }, code := 0, last := 0, time := 0 }] } },
    upd := { wUp.upd with boot := Sec.now { state := 1, slot := 1, base := 0, instant := 200000000000 } {} },
    cans := [(0, { bufs := [(0, { frame := some { xid := 0, rtr := false, esi := false, data := [] }, sof := true })] })] }
  let img := imageOf 0 1 1 0 0 [(7, 0xFF, 0, [])]
  let s := s.setSlot 0 { state := .valid, data := Tab.putBytes [] 0 img, plen := img.length }
  (((s.setParam .ccLen 0x1000 8).setParam .pnlKind 0 2).setParam .soAckSource 0 1)
/-- The same as an ACTIVE partner with a link. -/
def wMorePair : State := { wMore with pair := wPair.pair }
/-- The command `AC.SELFTEST` of a flight, for fields that keep the command which asked for something. -/
def wEntry : Entry := { id := 9, op := 0x0405, cmd := dir .host 4 0 0 0 [] }
/-- Analogue channels: 0 switches mode, 1 measures, 2 drives with a calibration and a re-check, 3 dwells; modems with jobs. -/
def wAc : State :=
  let s : State := { wUp with
    ac := [(0, { st := .switching }), (1, { st := .inService, powered := true }),
           (2, { st := .inService, powered := true, recheck := true, cal := some { entry := wEntry, inService := true, waiting := none } })],
    modems := [(0, { job := some (1, .pass { record := [], pass := 0 }) }), (1, { job := some (1, .poll) }), (2, { job := some (1, .dwell) }),
               (3, { testCmd := some wEntry })] }
  ((s.setParam .acMode 2 3).setParam .acHartEn 1 1).setParam .hartPollMs 1 1000
/-- The FA supply has failed. -/
def wFa : State := { wUp with power := { wUp.power with failFlags := [(0, true), (2, true), (6, true)] } }
/-- Digital channels: 0 switches mode, 1 an input, 2 an output that is on, 4 a pair in disagreement; group 1 is below its supply. -/
def wDc : State :=
  let s : State := { wUp with
    dc := [(0, { st := .switching }), (1, { st := .inService }),
           (2, { st := .inService, on := true, retry := true, faultOff := true }), (4, { st := .inService, disagree := some 0 })],
    dcGroups := [(1, { sag := true, uv := true })] }
  (s.setParam .dcMode 2 1).setParam .dcMode 4 3
/-- Safety outputs: 0 is on and in a test, 1 has failed its test once, 2 is de-energised and runs degraded, 3 is energise-to-trip. -/
def wSo : State :=
  let s : State := { wUp with
    so := [(0, { cmd := some true, hsCmd := true, energised := true, hs := { closed := true, testing := some true }, ls := { closed := true } }),
           (1, { hs := { retry := true, failedOnce := true, testing := some false } }),
           (2, { causes := 1, budgetUsed := 4294967296000000000, budgetAt := some 0 }),
           (4, { cmd := some true, hsCmd := true, hs := { closed := true }, ls := { closed := true } })],
    aiPairs := [(0, { beyond := some 0 })], cred := { locked := true } }
  ((((s.setParam .soTripMode 3 1).setParam .aiPairEn 0 1).setParam .soOpenCheck 4 1).setParam .soDiagInterval 4 1).setParam .soTripMode 4 0
/-- Tasks: 0 is free at its grid point, 1 is in a cycle past its deadline, 2 has overrun for two periods, 5 is a safety task without
commit; core pairs: 0 is in a self-test, 1 has one due, 2 has waited for one. -/
def wTask : State :=
  let s : State := { wUp with
    tasks := [(0, { state := .running }), (1, { state := .running, executing := true }),
              (2, { state := .running, executing := true, overran := true }),
              (5, { state := .running, executing := true, lastRelease := some 0 })],
    cores := [(1, { testing := some 0 }), (7, { due := some 0 })],
    triggers := [{ src := 1, index := 0, rising := true }] }
  let s := s.setParam .taskKind 0 1
  let s := s.setParam .taskKind 1 1
  let s := s.setParam .taskKind 2 1
  let s := s.setParam .taskKind 5 5
  (s.setParam .taskOverrunLimit 1 2).setParam .taskPair 0 0
/-- A program exchange whose tasks have all switched, and an image on its way to the partner. -/
def wProg : State :=
  { wMore with
    prog := { wMore.prog with
      forces := [(1, some { value := 1, till := some 0 })],
      exchange := some { slot := 0, mask := 0, entry := some wEntry, pending := [], releaseForces := false, startNew := false,
                         new := {}, blocks := [], old := {}, oldParams := [] } } }
/-- The image of slot 0 is on its way to the STANDBY partner. -/
def wSending : State :=
  { wMore with pair := { wPair.pair with image := some { id := 9, op := 0x0213, cmd := dir .host 2 512 0 0 [] } } }
/-- A loop whose sample is due. -/
def wLoop : State := (wUp.setParam .loopEn 3 1).setParam .loopPvSrc 3 0x30000000
/-- Axes: 0 stands energised with a segment list that starts at 1 ns, 1 moves, 2 waits after a fault, 3 runs on the hysteretic chopper. -/
def wAx : State :=
  let s : State := { wUp with
    axes := [(0, { st := .standstill, energised := true, unref := false, segAt := some (0, 1), segs := [⟨1000, 0, 0⟩] }),
             (1, { st := .moving, energised := true, vel := 54975581388800 }), (2, { st := .standstill, faultWait := some 0, started := true }),
             (3, { st := .standstill, energised := true, hyst := true })] }
  (s.setParam .parkDelay 0 1).setParam .axStallThr 1 10
/-- Partners of a pair in each state that an event speaks of. -/
def wSt (st : PairState) : State := { wUp with pair := { wUp.pair with st := st } }
/-- A STANDBY whose link is up, told of a switchover that is due. -/
def wStandby : State := { wUp with
  pair := { wUp.pair with
    st := .standby, link := true, switch := some (none, 5, 1), peer := some ⟨1, 2, 0, 0, 0, 0, 0, [], []⟩ } }
/-- A cycle of a STANDBY that waits for agreement (task 1) or for the partner's signature (task 2). -/
def wAgree : State := { wStandby with
  tasks := [(1, { state := .running, executing := true }), (2, { state := .running, executing := true, awaiting := true, agreed := true })] }
/-- An ACTIVE partner whose mismatch self-tests have run, and one that has lost its link. -/
def wMism : State := { wPair with pair := { wPair.pair with mismatch := some (1, 0) } }
/-- The link is lost; lane 1 is out of use. -/
def wLost : State := { wUp with pair := { wUp.pair with st := .active, lost := true, lanesOut := [(1, 0)] } }
/-- A STANDBY without a switchover under way, whose link has been silent. -/
def wQuiet : State := { wUp with pair := { wUp.pair with st := .standby, link := true } }
/-- A frame of consumed connection 0x1000. -/
def wOmnar : OmnarFrame :=
  { ty := 1, ver := 1, oflags := 0, src := 9, dst := 0, conn := 5, epoch := 1, seq := 1, txTime := 0, corr := 0, payload := zeros 8 }
def wFrame : NetFrame := { port := 0, srcMac := 5, dstMac := 6, vid := none, fcs := true, long := false, red := none, body := .omnar wOmnar }
/-- Both links are up; connection 0x1000 is consumed from station 9 and heard on port 0 only. -/
def wNet : State :=
  let s : State := { wUp with
    net := { wUp.net with
      ports := [(0, { link := true }), (1, { link := true })],
      cons := [(0x1000, { st := .valid, alive := some 2, heardA := 99999999999 })],
      buckets := [({ port := 0, cls := 1, src := 5 }, { level := 0, at0 := 0, dropSince := some 0 })] } }
  let s := s.setParam .ccEn 0x1000 1
  let s := s.setParam .ccSrc 0x1000 9
  let s := s.setParam .ccConn 0x1000 5
  s.setParam .ccLen 0x1000 8
/-- A safety message with alive counter `a` and a right checksum. -/
def wMsg (a : Nat) : Bytes := let b := zeros 8 ++ beBytes 2 a ++ zeros 2; b ++ beBytes 4 (crc32c b)
/-- A master's announcement and a Sync of it; TB1 follows it; pulse generator 0 is due and in a pulse; pulse input 0 counts. -/
def wAnn : Announce := { prio1 := 1, cls := 6, acc := 0x20, var := 1, prio2 := 1, gm := 6, utc := some 37 }
def wSync : PtpMsg := { port := 0, domain := 0, clock := 6, body := .sync 10 }
def wTime : State :=
  let s : State := { wUp with
    bases := [(1, { servo := .slewing, delay := some 5, valid := 3, master := some wAnn })], pgs := [(0, { armed := true, pulse := true })] }
  let s : State := { s with net := { s.net with ptpIn := [wSync] } }
  s.setParam .piMode 0 1
/-- TB1 is in holdover, TB2, on its own port, a master. -/
def wHold : State :=
  let s : State := { wUp with bases := [(1, { servo := .holdover, wasLocked := true }), (2, { servo := .master })] }
  s.setParam .tbSrc 2 1
/-- TB3 follows TB1, which knows UTC. -/
def wLeap : State := { wUp with bases := [(1, { servo := .locked, stepped := true, master := some wAnn }), (3, { stepped := true })] }
/-- CAN: channel 0 is error active with a frame to send, 1 error passive with a frame to withdraw, 2 about to go bus off,
3 integrates; filters 2 and 3 of channel 0 take every classic frame. -/
def wCanF : CanFrame := { xid := 0x100, rtr := false, esi := false, data := [1, 2] }
def wCan : State :=
  let s : State := { wUp with
    cans := [(0, { st := .errorActive, bufs := [(0, { frame := some wCanF, sof := true })] }),
             (1, { st := .errorPassive, tec := 255, bufs := [(0, { frame := some wCanF, withdraw := true })] }),
             (2, { st := .errorPassive, tec := 256 }), (3, { st := .integrating })] }
  let s := s.setParam .fAction 2 1
  let s := s.setParam .fKind 2 1
  let s := s.setParam .fMask 2 0
  let s := s.setParam .fAction 3 2
  s.setParam .fKind 3 1
/-- Channel 2 carries TB2 as the sending skipper; channel 3 has deferred to another. -/
def wSkip : State :=
  let s : State := { wUp with
    cans := [(2, { st := .busOff, lastRef := some 0 }), (3, { deferred := true })], bases := [(2, { servo := .master })] }
  let s := s.setParam .tbSrc 2 2
  let s := s.setParam .tb2Can 2 2
  s.setParam .canSkipper 2 1
/-- The clock is halted with a valid date, and its registers are frozen. -/
def wRtc : State := { wUp with rtc := { wUp.rtc with halt := some (0, calRegs 0), frozen := some (0, {}) } }
/-- A fault event of analogue channel 1 in the control plane's intake, with another behind it, and in the fault manager's inbox. -/
def wEv : Event := { code := .fAcThermal, src := { cls := 4, index := 1 }, quantity := 0, detail := 1, time := 5, epoch := 1 }
def wFault : State := { wUp with
  inControl := { queue := [wEv, wEv] },
  faults := { wUp.faults with
    inbox := [wEv], march := [(1, 7, .idle)],
    testing := [{ key := { cls := 1, index := 2 }, entry := wEntry }] } }
/-- A slot with one event in it. -/
def wSlot : Slot := ⟨0x0100, 0, ⟨1, 0, 0⟩, 1, 1, 1, 0, 0, [], 0, 0⟩
/-- An update is scheduled on TB1, which is synchronised. -/
def wSched : State :=
  (({ wUp with bases := [(1, { servo := .locked, stepped := true, valid := 3, everSynced := true })] } : State).setBoot
    { state := 1, slot := 1, base := 1, instant := 90000000000 })
/-- The other boot slot runs on trial. -/
def wTrial : State := { (wUp.setBoot { state := 5, slot := 1 }) with upd := { (wUp.setBoot { state := 5, slot := 1 }).upd with active := 1 } }
/-- The service port is free; and it is connected before its greeting. -/
def wFree : State := { wUp with disp := { wUp.disp with ivpasto := {} } }
def wHello : State := { wUp with disp := { wUp.disp with ivpasto := { connected := true } } }
/-- A management message waits, and no station key is provisioned. -/
def wMgmt : State := { wUp with net := { wUp.net with mgmtIn := [(3, 0, zeros 64)] } }
/-- An LCD panel whose PEN was set, and an e-paper panel that shows its strip; a waveform of region 1 has run out. -/
def wPen : State := ({ wUp with panel := { wUp.panel with pen := true } } : State).setParam .pnlKind 0 1
def wShow (k : Nat) : State :=
  let s := wUp.setParam .pnlKind 0 k
  let s := s.setParam .pnlIdle 0 1
  { s with
    panel := { s.panel with
      pen := true, on := true, strip := some s.stripNow, waves := [{ region := 1, cells := [], band := 0, phase := 2, len := 2 }] } }
/-- The completion ring and the submission ring run; bulk ring 0 has an entry waiting. -/
def wRing : State := { wUp with
  host := { wUp.host with
    unsignalled := 1,
    rings := [(0, { log2 := 4, en := true, run := true, tail := 1, db := 1 }), (1, { log2 := 4, en := true, run := true }),
              (2, { log2 := 4 }), (8, { log2 := 4, en := true, run := true, tail := 1, db := 1 }), (9, { log2 := 4 })] } }
/-- A command waits for its dispatch. -/
def wQueue : State :=
  let e : Entry := { id := 0, op := 0x0100, cmd := dir .host 1 0 0 0 [] }
  { wUp with disp := { wUp.disp with nextId := 1, flights := [{ entry := e, dispatched := false }], queue := [e] } }
/-- The management plane is down; the module is in reset; it is in hold-up. -/
def wDown : State := { wUp with power := { wUp.power with mgmtUp := false }, host := {}, disp := {}, session := {} }
def wReset : State := { wUp with power := { wUp.power with phase := .heldReset, pllAttempts := [(0, 3)] } }
def wHoldUp : State := { wUp with power := { wUp.power with phase := .holdUp } }
/-- The margin is lost; the module is hot; the button is stuck. -/
def wWarm : State := { wUp with power := { wUp.power with vcore := 1040, hotAt := some 0, buttonStuck := true } }
/-- Commits are in progress. -/
def wCommit : State := { wUp with
  cocoon := { wUp.cocoon with config := { busy := some true }, retain := { busy := some false, second := true } } }
/-- The calendar clock keeps its time. -/
def wKept : State := { wUp with rtc := { wUp.rtc with lost := false } }
/-- Safety output 6 is in a bright test while its demand has come; output 5 is tripped with its command off. -/
def wSoTest : State := wSo.setSo 6 { hs := { testing := some true, demanded := true } }
/-- What the partner of `wUp` says of itself, in state `st`. -/
def wPeer (st : Nat) : PeerInfo := ⟨1, st, 0, 0, wUp.net.station, wUp.param .desigPrimary 0, wUp.libVersion, [], []⟩
/-- Module frames run. -/
def wRun : State := { wUp with sv := { wUp.sv with heartbeat := true } }
/-- The same with powered channels, a tripped output and an axis whose coupler has taken nine bad frames. -/
def wRunOn : State := { wRun with
  ac := [(1, { powered := true })], dc := [(3, { st := .inService }), (4, { st := .inService, crcOut := 9 })], so := [(1, { tripped := true })],
  axes := [(2, { crcRun := 9 })] }
/-- A bulk ring `k` with an entry, to or from the host, and its streams. -/
def wBulk (dir : Bool) (l : List Stream) : State := { wUp with
  host := { wUp.host with rings := [(8, { log2 := 4, en := true, run := true, dir := dir, tail := 1, db := 1 })] },
  disp := { wUp.disp with streams := l } }
/-- A stream with opcode `op`, to the host or to the module. -/
def wStream (out : Bool) (op : Nat) : Stream := { ring := 0, stream := 2, toHost := out, entry := { wEntry with op := op } }
/-- A bulk entry of 64 bytes for stream `n`. -/
def wBulkRd (n : Nat) : BulkRead := { addr := 0, len := 64, stream := n, flags := 0, rsv := 0, data := some (zeros 64) }
/-- The mismatch self-tests of the two partners have run in pair state `st`. -/
def wMismIn (st : PairState) (link : Bool) : State := { wUp with pair := { wUp.pair with st := st, link := link, mismatch := some (1, 0) } }
/-- A record store with a full history of notices. -/
def wFull : RecStore := { history := List.replicate 8192 ⟨wSlot, 1, 1⟩ }

/-- The command is taken where it stands, and its operands meet `p`. -/
def meets (k : CmdSpec) (c : Cmd) (s : State) (p : Cmd → State → Bool := fun _ _ => true) : Bool := k.taken 0 c s && p c (s.arrived k.op 0 c)
/-- The command passes its checks, and its operands meet `p`. -/
def posted (k : CmdSpec) (c : Cmd) (s : State) (p : Cmd → State → Bool := fun _ _ => true) : Bool := k.passes 0 c s && p c (s.arrived k.op 0 c)

/-! ## Witnesses -/

theorem witness_ModuleCommandsTakeEffect : ([
  meets specModNop (dir .host 1 0 0 0 []) wUp,
  meets specModAbort (dir .host 1 0 0 0 [5]) wHeld,
  meets specModSetEventFilter (dir .ivpasto 1 0 0 0 []) wUp,
  meets specModIdentify (ind .host 1 0 0 4 (zeros 16)) wUp,
  meets specModPowerStatus (ind .host 1 0 0 4 (zeros 16)) wUp,
  meets specModSetPower (dir .host 1 0 0 0 [1]) wUp,
  meets specModProvisionKey (dir .ivpasto 1 0 0 0 [1]) wUp,
  meets specModSessionClose (dir .ivpasto 1 0 0 0 []) wUp,
  meets specModReset (dir .host 1 0 0 0 []) wUp,
  meets specModCommit (dir .host 1 0 0 0 []) wUp,
  meets specModFactory (dir .host 1 0 0 0 []) wUp,
  meets specModConfigSave (dir .host 1 0 0 0 []) wRich (fun c _ => decide (c.expert = false)),
  meets specModConfigLoad (dir .host 1 0 0 0 []) wUp (fun c _ => decide (c.expert = false)),
  meets specModConfigLoad (ind .host 1 0 0 5 ([0, 0, 0, 0, 200] ++ zeros 27)) wUp (fun c s => decide (c.expert = true ∧ (s.gatherWith c).2.2 ≠ [(0, (s.gatherWith c).1)]))] : List Bool).all id = true := by decide +kernel

theorem witness_TaskCommandsTakeEffect : ([
  meets specTaskConfigure (dir .host 2 0 0 0 [0, 0, 0, 0, 232, 3]) wRich (fun c s => decide (taskConfigCheck s c = .sOk)),
  meets specTaskStart (dir .host 2 0 0 0 []) wRich (fun c s => let i := c.tgtIndex; decide (((s.taskOf i).state = .stopped ∨ (s.taskOf i).state = .halted) ∧ s.taskExists i = true ∧ kindFits (s.param .taskKind i) (s.param .pairMode (s.param .taskPair i)) = true ∧ (s.taskCp i).retired = false ∧ s.usesRetired i = false ∧ s.budgetOk i = true)),
  meets specTaskStop (dir .host 2 0 0 0 []) wUp,
  meets specTaskStatus (ind .host 2 0 0 4 (zeros 16)) wUp,
  meets specTaskSetImage (ind .host 2 0 0 4 (zeros 4)) wUp (fun c s => decide (imageCheck s c = .sOk)),
  meets specTaskSetSubstitute (dir .host 2 0 0 0 [0, 16]) wMore (fun c s => decide (substCheck s c = .sOk)),
  meets specTaskSetPair (dir .host 2 256 0 0 []) wUp (fun c s => let n := c.tgtIndex - 0x0100; let new := s.setParams n (pairSettings c); decide ((s.cpOf n).retired = false ∧ (c.field 16 1 ≠ s.param .pairMode n → (s.tasksOf n).all (fun i => !(s.taskOf i).live) = true ∧ (c.field 16 1 = 2 → s.tasksOf n = [])) ∧ new.mRule = true ∧ (new.tasksOf n).all new.budgetOk = true ∧ (pairLogged s c = true → s.logFull = false))),
  meets specTaskSelftest (dir .host 2 256 0 0 []) wUp,
  meets specTaskBudget (ind .host 2 0 0 4 (zeros 16)) wUp] : List Bool).all id = true := by decide +kernel

theorem witness_ProgramAndForceCommandsTakeEffect : ([
  meets specTaskProgLoad (dir .host 2 512 0 0 [0, 0, 0, 0, 32]) wUp,
  meets specTaskProgWrite (ind .host 2 512 0 4 ([0, 0, 0, 0, 64] ++ zeros 43)) wUp (fun c s => let k := slotNo c; decide (((s.slotWrite k (c.blk 4 4) (c.blk 0 4) (c.blockBytes.drop 16)).slot k).bytes ≠ c.blk 4 4)),
  meets specTaskProgWrite (ind .host 2 512 0 4 ([0, 0, 0, 0, 32] ++ zeros 43)) wUp (fun c s => let k := slotNo c; decide (((s.slotWrite k (c.blk 4 4) (c.blk 0 4) (c.blockBytes.drop 16)).slot k).bytes = c.blk 4 4)),
  meets specTaskProgErase (dir .host 2 512 0 0 []) wUp,
  meets specTaskProgStatus (ind .host 2 512 0 4 (zeros 16)) wUp,
  meets specTaskProgRead (dir .host 2 767 0 0 []) wUp,
  meets specTaskProgCheck (ind .host 2 512 0 4 (zeros 16)) wMore (fun c s => (s.judge (slotNo c) false c).isNone && !s.withPartner && (s.slot (slotNo c)).image.isSome),
  meets specTaskProgCheck (ind .host 2 512 0 4 (zeros 16)) wMorePair (fun c s => decide (s.judge (slotNo c) false c = none ∧ s.withPartner = true)),
  meets specTaskProgExchange (dir .host 2 512 0 0 []) wMore (fun c s => (s.judge (slotNo c) false c).isNone && !s.withPartner && (s.slot (slotNo c)).image.isSome),
  meets specTaskProgExchange (dir .host 2 512 0 0 []) wUp (fun c s => (s.judge (slotNo c) false c).isSome),
  meets specVarForce (dir .host 3 0 0 0 [1, 0, 0, 0, 0, 0, 0, 0, 1]) wMore (fun c s => (s.cmdVar c).isSome && decide (forceCheck s c = .sOk)),
  meets specVarRelease (dir .host 3 0 0 0 [1]) wMore (fun c s => (s.varOf (c.field 16 4)).isSome && (s.forceOf (c.field 16 4)).isSome),
  meets specVarReleaseAll (dir .host 3 0 0 0 []) wUp (fun c s => decide (s.releaseTasks c = [])),
  meets specVarReleaseAll (dir .host 3 0 0 0 []) wMore (fun c s => decide (s.releaseTasks c ≠ [] ∧ s.postsToPartner = false)),
  meets specVarReleaseAll (dir .host 3 0 0 0 []) wMorePair (fun c s => decide (s.releaseTasks c ≠ [] ∧ s.postsToPartner = true)),
  meets specVarList (ind .host 3 0 0 4 (zeros 16)) wUp,
  meets specVarSetLimit (dir .host 3 0 0 0 []) wUp] : List Bool).all id = true := by decide +kernel

theorem witness_AnalogueCommandsTakeEffect : ([
  meets specAcConfigure (dir .host 4 0 0 0 [0, 0, 0, 0, 136, 19, 0, 0, 0, 0, 0, 0, 0, 0, 128, 63]) wOut (fun c s => decide (acConfigureCheck acSettings s c = .sOk ∧ newValue s c.tgtIndex (acSettings c) .acMode = s.acMode c.tgtIndex)),
  meets specAcConfigure (dir .host 4 0 0 0 [1, 0, 0, 0, 136, 19, 0, 0, 0, 0, 0, 0, 0, 0, 128, 63]) wOut (fun c s => decide (acConfigureCheck acSettings s c = .sOk ∧ newValue s c.tgtIndex (acSettings c) .acMode ≠ s.acMode c.tgtIndex)),
  meets specAcSetService (dir .host 4 0 0 0 []) wOut (fun c s => decide ((s.acOf c.tgtIndex).st ≠ .retired ∧ (c.field 16 1 = 0 → s.acInSafety c.tgtIndex = true → s.sessionValid c = true) ∧ (s.acInSafety c.tgtIndex = true → s.logFull = false))),
  meets specAcTestOutput (dir .host 4 0 0 0 []) wRich (fun c s => decide ((s.acOf c.tgtIndex).st = .outOfService ∧ 2 ≤ s.acMode c.tgtIndex)),
  meets specAcCalibrate (dir .host 4 0 0 1 [2]) wOut (fun c s => decide (acCalCheck s c = .sOk ∧ c.expert = true ∧ bitOf (c.field 16 1) 1 = true)),
  meets specAcCalibrate (dir .host 4 0 0 0 []) wOut (fun c s => decide (acCalCheck s c = .sOk ∧ ¬ (c.expert = true ∧ bitOf (c.field 16 1) 1 = true))),
  meets specAcSelftest (dir .host 4 0 0 0 []) wUp,
  meets specAcStatus (ind .host 4 0 0 4 (zeros 16)) wUp,
  meets specAcHartConfig (dir .host 4 0 0 0 []) wUp,
  meets specAcHartPass (dir .host 4 512 0 0 []) wUp,
  meets specAcHartBurst (dir .host 4 0 0 0 [1]) wUp (fun c _ => decide (c.field 16 1 = 1)),
  meets specAcHartBurst (dir .host 4 0 0 0 []) wMore (fun c _ => decide (c.field 16 1 ≠ 1))] : List Bool).all id = true := by decide +kernel

theorem witness_DigitalCommandsTakeEffect : ([
  meets specDcConfigure (dir .host 5 0 0 0 [0, 3, 0, 0, 136, 19]) wOut (fun c s => decide (dcConfigureCheck s c = .sOk)),
  meets specDcSetService (dir .host 5 0 0 0 []) wOut (fun c s => decide ((s.dcOf c.tgtIndex).st ≠ .retired ∧ (s.dcInSafety c.tgtIndex = true → s.sessionValid c = true))),
  meets specDcTestOutput (dir .host 5 0 0 0 []) wRich (fun c s => decide ((s.dcOf c.tgtIndex).st = .outOfService ∧ (s.dcMode c.tgtIndex = 1 ∨ s.dcMode c.tgtIndex = 2))),
  meets specDcAck (dir .host 5 256 0 0 []) wUp,
  meets specDcSelftest (dir .host 5 0 0 0 []) wUp,
  meets specDcStatus (ind .host 5 0 0 4 (zeros 16)) wUp,
  meets specDcSetLegacy (dir .host 5 256 0 0 []) wUp] : List Bool).all id = true := by decide +kernel

theorem witness_SafetyCommandsTakeEffect : ([
  meets specSafeSoConfigure (dir .host 6 0 0 0 [0, 0, 0, 0, 60, 0, 0, 0, 0, 0, 0, 0, 0, 0, 0, 0, 60]) wOut (fun c s => decide ((c.field 16 1 ≠ s.param .soTripMode c.tgtIndex → s.soOwnerStopped c.tgtIndex = true) ∧ s.logFull = false)),
  posted specSafeAck (dir .host 6 0 0 0 []) wRich (fun c s => decide (c.tgtIndex < 8 ∧ s.param .soAckSource c.tgtIndex = 1 ∧ (s.soOf c.tgtIndex).testing = false ∧ s.soAckOk c.tgtIndex = true)),
  posted specSafeAck (dir .host 6 0 0 0 []) wUp (fun c s => decide (c.tgtIndex < 8 ∧ (s.soOf c.tgtIndex).testing = false ∧ s.soAckOk c.tgtIndex = false)),
  meets specSafeAck (dir .host 6 512 0 0 []) wMore (fun c s => decide (c.tgtIndex = 0x0200 ∧ s.param .soAckSource 0 = 1 ∧ s.soAckOk 0 = true)),
  meets specSafeSoTest (dir .host 6 0 0 0 []) wUp,
  meets specSafeStatus (ind .host 6 0 0 4 (zeros 16)) wUp,
  meets specSafeBudgetReset (dir .host 6 0 0 0 []) wUp,
  meets specSafeSessionClose (dir .host 6 512 0 0 []) wUp,
  meets specSafeSetPassword (ind .ivpasto 6 512 0 4 (zeros 32 ++ List.replicate 8 65 ++ zeros 24)) wUp (fun c s => (passwordOf (slice c.body 32 32)).isSome && s.cred.password.isNone),
  meets specSafeLogRead (ind .host 6 512 0 4 (zeros 4)) wRich,
  meets specSafeLogAck (dir .host 6 512 0 0 []) wUp] : List Bool).all id = true := by decide +kernel

theorem witness_LoopCommandsTakeEffect : ([
  meets specLoopConfigure (dir .host 7 0 0 0 [1, 0, 0, 0, 5]) wUp (fun c s => decide (loopCheck loopSettings s c = .sOk)),
  meets specLoopSetCoeff (dir .host 7 0 0 0 []) wUp (fun c s => decide (loopCheck coeffSettings s c = .sOk)),
  meets specLoopSetMode (dir .host 7 0 0 0 [2]) wUp (fun c s => decide (s.param .loopModeLock c.tgtIndex ≠ 2 ∧ s.loopModeBad c.tgtIndex (c.field 16 1) = false)),
  meets specLoopSetSp (dir .host 7 0 0 0 []) wUp (fun c s => decide (loopCheck spSettings s c = .sOk)),
  meets specLoopSetManual (dir .host 7 0 0 0 []) wUp (fun c s => decide (s.param .loopManSrc c.tgtIndex ≠ 1)),
  meets specLoopSetLimits (dir .host 7 0 0 0 [0, 0, 0, 0, 0, 0, 128, 63]) wUp (fun c s => decide (loopCheck limitSettings s c = .sOk)),
  meets specLoopStatus (ind .host 7 0 0 4 (zeros 16)) wUp] : List Bool).all id = true := by decide +kernel

theorem witness_AxisCommandsTakeEffectAtTheUpdate : ([
  posted specAxisConfigure (dir .host 8 0 0 0 [0, 0, 0, 0, 0, 0, 128, 63, 0, 0, 128, 63, 0, 0, 128, 63]) wUp (fun c s => decide ((s.axOf c.tgtIndex).st ≠ .retired ∧ (s.axOf c.tgtIndex).resting = true)),
  posted specAxisMove (dir .host 8 0 0 0 [1]) wRich (fun c s => let n := c.tgtIndex; let r := moveReq c; let x := s.axOf n; let q := if r.kind = 1 then f64.toQ r.tgt else (s.axOut n x.pos).add (f64.toQ r.tgt); decide (s.axOwned n = false ∧ (x.st = .standstill ∨ x.st = .parked ∨ x.st = .moving) ∧ 1 ≤ r.kind ∧ r.kind ≤ 3 ∧ (r.kind = 1 → x.unref = false) ∧ f64.isFinite r.tgt = true ∧ vlimOk r.vlim = true ∧ (x.unref = false → r.kind ≠ 3 → q.lt (s.axParam .axSoftLo n) = false ∧ (s.axParam .axSoftHi n).lt q = false))),
  posted specAxisStop (dir .host 8 1 0 0 []) wRich (fun c s => decide (s.axOwned c.tgtIndex = false ∧ ((s.axOf c.tgtIndex).st = .moving ∨ (s.axOf c.tgtIndex).st = .homing))),
  posted specAxisHome (dir .host 8 0 0 0 []) wRich (fun c s => decide (s.axOwned c.tgtIndex = false ∧ s.param .homeMode c.tgtIndex < 3 ∧ ((s.axOf c.tgtIndex).st = .standstill ∨ (s.axOf c.tgtIndex).st = .parked))),
  posted specAxisPark (dir .host 8 0 0 0 []) wRich (fun c s => decide (s.param .axStandstill c.tgtIndex ≠ 1 ∧ (s.axOf c.tgtIndex).st = .standstill ∧ (s.axOf c.tgtIndex).parking = none)),
  posted specAxisEnable (dir .host 8 0 0 0 []) wUp (fun c s => decide (s.axOwned c.tgtIndex = false ∧ (s.axOf c.tgtIndex).st ≠ .retired)),
  posted specAxisSegLoad (ind .host 8 0 0 4 ([1, 0, 0, 0, 0, 0, 0, 0, 0, 0, 0, 0, 0, 0, 0, 0, 232, 3] ++ zeros 14)) wUp (fun c s => let n := c.tgtIndex; let x := s.axOf n; let new := segsOf (c.blk 0 2 % 32768) (c.blockBytes.drop 16); let all := if bitOf (c.blk 0 2) 15 then x.segs ++ new else new; decide (x.st ≠ .segment ∧ all.length ≤ 256 ∧ s.segCheck n 0 0 (s.axOut n x.pos) (Q.ofInt 0) all = none)),
  posted specAxisSegStart (dir .host 8 0 0 0 []) wRich (fun c s => let x := s.axOf c.tgtIndex; decide (s.axOwned c.tgtIndex = false ∧ x.unref = false ∧ (x.st = .standstill ∨ x.st = .parked) ∧ x.segs ≠ [] ∧ (c.expert = true → s.baseSynced (c.field 16 1) = true ∧ s.baseNow (c.field 16 1) ≤ (c.field 24 8 : Int)))),
  meets specAxisStatus (ind .host 8 0 0 4 (zeros 16)) wUp,
  posted specAxisTest (dir .host 8 0 0 0 []) wUp (fun c s => decide ((s.axOf c.tgtIndex).resting = true ∧ (s.axOf c.tgtIndex).testCmd = none)),
  posted specAxisSetHome (dir .host 8 0 0 0 [0, 0, 0, 0, 0, 0, 128, 63, 0, 0, 0, 0, 0, 0, 128, 63]) wUp (fun c s => decide ((s.axOf c.tgtIndex).st ≠ .homing))] : List Bool).all id = true := by decide +kernel

theorem witness_PairCommandsTakeEffect : ([
  meets specPairConfigure (dir .host 9 0 0 0 []) wUp (fun _ s => (List.range 16).all (fun i => decide ((s.taskOf i).state = .stopped)) && !s.logFull),
  meets specPairSetAgree (dir .host 11 512 0 0 []) wUp (fun c s => (List.range 16).all (fun i => decide ((s.setParam .agreeRule (agreeKey (agreeSource c)) (c.field 16 1)).agreedBytes i ≤ 4096))),
  meets specPairSwitchover (dir .host 9 0 0 0 []) wPair (fun _ s => decide (s.mailCount pairOwner < 8)),
  meets specPairJoin (dir .host 9 0 0 0 []) wJoin,
  meets specPairLeave (dir .host 9 0 0 0 []) wJoin (fun _ s => decide (s.pair.st ≠ .active)),
  meets specPairLeave (dir .host 9 0 0 0 []) wPair (fun _ s => decide (s.pair.st = .active ∧ s.mailCount pairOwner < 8)),
  meets specPairStatus (ind .host 9 0 0 4 (zeros 16)) wUp,
  meets specPairLinkTest (dir .host 9 0 0 0 []) wUp] : List Bool).all id = true := by decide +kernel

theorem witness_NetworkCommandsTakeEffect : ([
  posted specNetConfigure (dir .host 10 8192 0 0 [0, 0, 0, 0, 232, 3, 0, 0, 200, 0, 0, 0, 244, 1]) wUp (fun c s => let v := newValue s 0 (netSettings c); let u := s.setParams 0 (netSettings c); decide ((v .netMode = s.param .netMode 0 ∧ v .vlanId = s.param .vlanId 0 ∨ s.allStopped = true) ∧ u.burstFits = true ∧ u.budgetAll = true)),
  meets specNetSetStation (dir .host 10 8192 0 0 [5]) wUp,
  meets specNetProduce (dir .host 10 0 0 0 [0, 1]) wUp (fun c s => decide ((tasksWhere (fun i => s.taskExists i && (s.taskProg i).outMap.any (MapEntry.names 0x0A c.tgtIndex))).length ≤ 1 ∧ (s.setParams c.tgtIndex (produceSettings c)).burstFits = true)),
  meets specNetConsume (dir .host 10 4096 0 0 [0, 1]) wUp,
  meets specNetPort (dir .host 10 8193 0 0 []) wUp (fun c s => decide ((s.port (c.tgtIndex - 0x2001)).retired = false)),
  meets specNetStatus (ind .host 10 8192 0 4 (zeros 16)) wUp,
  meets specNetConnStatus (ind .host 10 4096 0 4 (zeros 16)) wRich,
  meets specSafeConn (dir .host 6 512 0 0 [0, 16, 2, 1, 1, 0, 0, 0, 0, 0, 1]) wRich (fun c s => decide (s.connConfigured (c.field 16 2) = true ∧ s.logFull = false))] : List Bool).all id = true := by decide +kernel

theorem witness_TimeCommandsTakeEffect : ([
  meets specTimeRead (ind .host 11 0 0 4 (zeros 16)) wUp,
  meets specTimeConfigure (dir .host 11 1 0 0 []) wUp,
  meets specTimeRestep (dir .host 11 1 0 0 []) wRich (fun c _ => decide (c.expert = false)),
  meets specTimeRestep (dir .host 11 1 0 1 []) wRich (fun c _ => decide (c.expert = true)),
  meets specTimeStatus (ind .host 11 0 0 4 (zeros 16)) wUp,
  meets specTimePgConfigure (dir .host 11 256 0 0 [0, 0, 0, 0, 232, 3]) wUp (fun c s => decide (pgCheck s c = .sOk)),
  meets specTimePiConfigure (dir .host 11 512 0 0 [1, 0, 0, 0, 5]) wUp,
  meets specTimePiSetCount (dir .host 11 512 0 0 []) wRich (fun c s => decide (s.param .piMode (c.tgtIndex - 0x0200) ≠ 0))] : List Bool).all id = true := by decide +kernel

theorem witness_CanCommandsTakeEffect : ([
  meets specCanConfigure (dir .host 12 0 0 0 [0, 1, 8]) wUp (fun c s => decide ((s.canOf c.tgtIndex).st ≠ .retired ∧ newValue s c.tgtIndex (canSettings c) .canSkipper = 0 ∧ s.param .canSkipper c.tgtIndex = 0)),
  meets specCanFilter (dir .host 12 0 0 0 [1, 1, 0, 0, 1, 0, 0, 0, 255, 7]) wUp,
  meets specCanSend (dir .host 12 0 0 0 []) wUp (fun c s => let n := c.tgtIndex; decide ((s.canOf n).st ≠ .retired ∧ s.canOwned n (sendBuffer c) = false ∧ s.param .canMode n ≠ 1 ∧ (s.canBuf n (sendBuffer c)).frame = none)),
  meets specCanCancel (dir .host 12 1 0 0 []) wRich (fun c s => let n := c.tgtIndex; let b := c.field 16 1; decide (s.canOwned n b = false ∧ (s.canBuf n b).frame ≠ none ∧ (s.canBuf n b).sof = false ∧ s.canOnBus n b = false)),
  meets specCanCancel (dir .host 12 0 0 0 []) wMore (fun c s => decide (s.canOwned c.tgtIndex (c.field 16 1) = false ∧ (s.canBuf c.tgtIndex (c.field 16 1)).frame ≠ none ∧ (s.canBuf c.tgtIndex (c.field 16 1)).sof = true)),
  meets specCanRecover (dir .host 12 0 0 0 []) wRich (fun c s => decide ((s.canOf c.tgtIndex).st = .busOff)),
  meets specCanRead (ind .host 12 0 0 4 (zeros 16)) wUp,
  meets specCanStatus (ind .host 12 0 0 4 (zeros 16)) wUp,
  meets specCanSelftest (dir .host 12 0 0 0 []) wUp] : List Bool).all id = true := by decide +kernel

theorem witness_CrcUnitsTakeEffect : ([
  meets specCuConfigure (dir .host 13 3 0 0 []) wUp (fun c s => decide (s.cuRole c.tgtIndex = none ∧ (s.cuOf c.tgtIndex).retired = false)),
  meets specCuReadValue (ind .host 13 0 0 4 (zeros 16)) wUp,
  meets specCuWriteValue (dir .host 13 3 0 0 []) wUp (fun c s => decide (s.cuRole c.tgtIndex = none ∧ (s.cuOf c.tgtIndex).retired = false)),
  meets specCuStatus (ind .host 13 0 0 4 (zeros 16)) wUp,
  meets specCuSelftest (dir .host 13 0 0 0 []) wUp] : List Bool).all id = true := by decide +kernel

theorem witness_ClockCommandsTakeEffect : ([
  meets specRtcRead (ind .host 14 0 0 4 (zeros 16)) wUp,
  meets specRtcSet (dir .host 14 0 0 0 [234, 7, 1, 1]) wUp,
  meets specRtcTrim (dir .host 14 0 0 0 []) wUp,
  meets specRtcBeConfigure (dir .host 14 256 0 0 [1, 1]) wUp,
  meets specRtcBeRead (ind .host 14 256 0 4 (zeros 16)) wUp,
  meets specRtcBeClear (dir .host 14 256 0 0 []) wUp,
  meets specRtcStatus (ind .host 14 0 0 4 (zeros 16)) wUp] : List Bool).all id = true := by decide +kernel

theorem witness_RecorderCommandsTakeEffect : ([
  meets specRecRead (ind .host 15 0 0 4 (zeros 16)) wUp,
  meets specRecDump (dir .host 15 0 0 0 []) wUp,
  meets specRecSlots (ind .host 15 0 0 5 ([0, 1, 0, 1] ++ zeros 60)) wRich,
  meets specRecClose (dir .host 15 0 0 0 []) wUp,
  meets specRecSetCode (dir .host 15 256 0 0 [10, 0, 10]) wUp,
  meets specRecSetClose (dir .host 15 0 0 0 [232, 3]) wUp,
  meets specRecStatus (ind .host 15 0 0 4 (zeros 16)) wUp,
  meets specRecCodes (ind .host 15 0 0 4 (zeros 16)) wUp] : List Bool).all id = true := by decide +kernel

theorem witness_UpdateCommandsTakeEffect : ([
  meets specUpdStage (dir .ivpasto 16 0 0 0 [1]) wUp (fun c _ => decide (c.field 16 4 ≠ 0)),
  meets specUpdList (ind .host 16 0 0 4 (zeros 16)) wUp,
  meets specUpdDiscard (dir .ivpasto 16 1 0 0 []) wRich,
  meets specUpdActivate (dir .ivpasto 16 0 0 1 [0, 2]) wRich (fun _ s => decide (s.updSafety = [] ∧ s.pair.st = .unpaired)),
  meets specUpdCancel (dir .ivpasto 16 0 0 0 []) wMore (fun _ s => decide (s.pair.st = .unpaired)),
  meets specUpdStatus (ind .host 16 0 0 4 (zeros 16)) wUp,
  meets specUpdSetService (dir .ivpasto 16 0 0 0 [1, 0, 0, 10, 24, 0, 0, 0, 88, 2]) wUp] : List Bool).all id = true := by decide +kernel

theorem witness_PanelTakesEffect : ([
  meets specPanelConfigure (dir .host 17 0 0 0 []) wUp,
  meets specPanelRegion (dir .host 17 0 0 0 []) wUp,
  meets specPanelFrame (dir .host 17 0 0 0 []) wMore,
  meets specPanelPatch (ind .host 17 0 0 4 ([0, 0, 0, 0, 1, 0, 1, 0] ++ zeros 1)) wMore (fun c s => (s.region c.tgtIndex).isSome),
  meets specPanelLoadTable (ind .host 17 0 0 4 ([3] ++ zeros 16)) wUp (fun c _ => decide (c.blk 0 1 ≠ 5)),
  meets specPanelLoadTable (ind .host 17 0 0 5 ([5] ++ zeros 3)) wUp (fun c _ => decide (c.blk 0 1 = 5)),
  meets specPanelSetPower (dir .host 17 0 0 0 []) wUp,
  meets specPanelClear (dir .host 17 0 0 0 []) wUp (fun _ s => decide (s.param .pnlKind 0 ≠ 2 ∨ s.panel.on = false)),
  meets specPanelClear (dir .host 17 0 0 0 []) wMore (fun _ s => decide (s.param .pnlKind 0 = 2 ∧ s.panel.on = true)),
  meets specPanelStatus (ind .host 17 0 0 4 (zeros 16)) wUp] : List Bool).all id = true := by decide +kernel

theorem witness_FaultCommandsTakeEffect : ([
  meets specFltReinstate (dir .host 4 0 0 0 []) wMore (fun c s => match reinstKey c with | some k => !reinstDegraded s c && !s.reinstating k && s.isRetired k && !s.reinstSafety k | none => false),
  posted specFltReinstate (dir .host 4 0 0 0 []) wMore (fun c s => match reinstKey c with | some k => !s.reinstating k && s.isRetired k && !s.reinstSafety k | none => false),
  meets specFltSetPolicy (dir .host 18 0 0 0 [1, 3, 0, 0, 16, 14]) wUp,
  meets specFltStatus (ind .host 18 0 0 4 (zeros 16)) wUp] : List Bool).all id = true := by decide +kernel

/-- The password of the credentials: the check value is uninterpreted, so it is stored as `Config` computes it (note 4). -/
def wWord : Bytes := List.replicate 8 65
def wPass : State := { wUp with cred := { wUp.cred with password := some (Config.passwordVerifier wWord) } }

theorem witness_SafetyCommandsTakeEffect_password : passwordOf (wWord ++ zeros 24) = some wWord
    ∧ wPass.passwordOk (wWord ++ zeros 24) = true ∧ wPass.passwordOk (zeros 32) = false
    ∧ meets specSafeSessionOpen (ind .host 6 512 0 4 (wWord ++ zeros 24)) { wPass with session := {} } = true
    ∧ meets specSafeSessionOpen (ind .host 6 512 0 4 (zeros 32)) { wPass with session := {} } = true
    ∧ meets specSafeSetPassword (ind .host 6 512 0 4 (wWord ++ zeros 24 ++ wWord ++ zeros 24)) wPass = true := by
  have h : passwordOf (wWord ++ zeros 24) = some wWord := by decide +kernel
  have h0 : passwordOf (zeros 32) = none := by decide +kernel
  refine ⟨h, ?_, ?_, by decide +kernel, by decide +kernel, by decide +kernel⟩
  · simp [State.passwordOk, h, wPass]
  · simp [State.passwordOk, h0]

/-- Bounds and a velocity goal; a braking goal. -/
theorem witness_ProfileStaysInsideTheLimits : 0 ≤ (⟨10, 20, 5, 100⟩ : AxBounds).jerk ∧ (AxGoal.target 50).nums.head? ≠ some 3
    ∧ (AxGoal.target 50).nums.head? ≠ some 2 ∧ AxGoal.stop true = .stop true := by decide +kernel

/-- A quiet NaN, and the two zeros, as REAL operands. -/
theorem witness_ComparisonsWithNaNAndZero : tyReal 5 = true ∧ (tyFmt 5).isNan 0x7FC00000 = true ∧ (tyFmt 5).sign true = 0x80000000
    ∧ (tyFmt 5).sign false = 0 := by decide +kernel

/-- A history record to clear. -/
theorem witness_RecorderCommandsTakeEffect_clear :
    meets specRecClear (dir .host 15 0 0 0 [5]) { wUp with recorder := { wUp.recorder with store := { wUp.recorder.store with history := [⟨wSlot, 1, 1⟩] } } }
      (fun c s => s.recorder.store.history.any (fun h => decide (h.recSeq ≤ c.field 16 6))) = true := by decide +kernel

/-- The whole of a small file is gathered. Whether a file passes its checks hangs on keys the model leaves uninterpreted (note 4), so the
clause of `MOD.CONFIG_LOAD` that needs a good file has no witness that the kernel can evaluate. -/
theorem witness_ModuleCommandsTakeEffect_gather :
    ((fun (c : Cmd) => decide ((wUp.gatherWith c).2.2 = [(0, (wUp.gatherWith c).1)]))
      (ind .host 1 0 0 5 (leBytes 4 0 ++ leBytes 4 16 ++ zeros 8 ++ zeros 16))) = true := by decide +kernel

/-- Records of the service port sealed under the session's own key, of each kind that carries something, and the client's `FINISH`. The
cipher is uninterpreted (note 99); what it seals opens. -/
theorem witness_ServicePortSessions_records (s : State) : ∀ ty ∈ [0x03, 0x10, 0x20, 0x30],
    ∃ b, leNat (slice b 2 1) = ty ∧ s.ivOpen b = some [] := by
  intro ty h
  have g : ∀ hdr : Bytes, hdr.length = 4 → beNat (slice hdr 0 2) = 0 → leNat (slice hdr 3 1) = 0 → leNat (slice hdr 2 1) = ty →
      ∃ b, leNat (slice b 2 1) = ty ∧ s.ivOpen b = some [] := fun hdr h4 h0 h3 h2 =>
    ⟨_, by rw [slice_append hdr _ 2 1 (by omega)]; exact h2, ivOpen_sealed s hdr [] h4 (by simp [h0]) h3 (by simp)⟩
  simp only [List.mem_cons, List.not_mem_nil, or_false] at h
  rcases h with rfl | rfl | rfl | rfl
  · exact g [0, 0, 0x03, 0] rfl (by decide) (by decide) (by decide)
  · exact g [0, 0, 0x10, 0] rfl (by decide) (by decide) (by decide)
  · exact g [0, 0, 0x20, 0] rfl (by decide) (by decide) (by decide)
  · exact g [0, 0, 0x30, 0] rfl (by decide) (by decide) (by decide)

/-- The first message of session 1 of `wUp`, under its own tag: commands, and a close. -/
theorem witness_ManagementSessionsAreAuthenticated_messages : ∀ ty ∈ [(1 : Byte), 6], ∃ b m x,
    mgmtType b = ty.toNat ∧ ({ wUp with net := { wUp.net with mgmtIn := [(3, 0, b)] } } : State).mgmtAccept b = some (m, x) := by
  intro ty h
  have g : ∀ head : Bytes, head.length = 16 + beNat (slice head 14 2) → beNat (slice head 0 4) = 1 → beNat (slice head 4 8) = 1 →
      beNat (slice head 12 1) = ty.toNat → ∃ b m x,
    mgmtType b = ty.toNat ∧ ({ wUp with net := { wUp.net with mgmtIn := [(3, 0, b)] } } : State).mgmtAccept b = some (m, x) := by
    intro head hl hs hc ht
    obtain ⟨m, y, hm, -⟩ := mgmtAccept_tagged ({ wUp with net := { wUp.net with mgmtIn := [(3, 0, head ++ gmacTag [] (beBytes 4
      (beNat (slice head 0 4)) ++ beBytes 8 (beNat (slice head 4 8))) head)] } } : State) head { id := 1 } hl (by rw [hs]; rfl) (by rw [hc]; decide)
    exact ⟨_, m, y, by simp [mgmtType, parseMgmt_tagged head _ hl (gmacTag_length _ _ _), ht], hm⟩
  simp only [List.mem_cons, List.not_mem_nil, or_false] at h
  rcases h with rfl | rfl
  · exact g ([0, 0, 0, 1, 0, 0, 0, 0, 0, 0, 0, 1, 1, 0, 0, 0]) (by decide) (by decide) (by decide) (by decide)
  · exact g ([0, 0, 0, 1, 0, 0, 0, 0, 0, 0, 0, 1, 6, 0, 0, 0]) (by decide) (by decide) (by decide) (by decide)

/-- An open request under the station key that a module holds. -/
theorem witness_ManagementSessionsAreAuthenticated_open : ∃ b m, mgmtType b = 4 ∧ parseMgmt b = some m ∧ m.session = 0 ∧ m.body.length = 16
    ∧ m.tag = gmacTag (zeros 16) (m.body.take 12) m.head
    ∧ ({ wUp with cred := { wUp.cred with stationKey := some (zeros 16) }, net := { wUp.net with mgmtIn := [(3, 0, b)] } } : State).cred.stationKey
      = some (zeros 16) ∧ wUp.disp.omnar.length < 8 := by
  have h : (zeros 12 ++ [4, 0, 0, 16] ++ zeros 16).length = 16 + beNat (slice (zeros 12 ++ [4, 0, 0, 16] ++ zeros 16) 14 2) := by decide
  refine ⟨_, _, ?_, parseMgmt_tagged _ (gmacTag (zeros 16) (zeros 12) (zeros 12 ++ [4, 0, 0, 16] ++ zeros 16)) h (gmacTag_length _ _ _),
    by decide, by decide, ?_, rfl, by decide⟩
  · rw [mgmtType, parseMgmt_tagged _ _ h (gmacTag_length _ _ _)]
    decide
  · rfl

/-- A container whose header is right, whatever its key opens to. -/
theorem witness_StagedContainersAreChecked_header (k : Bytes) :
    wUp.contCheck k (leBytes 4 0x4E504946 ++ leBytes 2 1 ++ leBytes 2 1 ++ zeros 12 ++ leBytes 4 1 ++ zeros 185) true ≠ 1 := by
  unfold State.contCheck
  dsimp only
  rw [if_neg (by decide +kernel)]
  (repeat' split) <;> simp

/-- A container of 1 byte for component 3 whose key is sealed under the wrapping key: the cipher is uninterpreted (note 99), and what it
seals opens. -/
theorem witness_StagedContainersAreChecked_passes (k : Bytes) : ∃ b, wUp.contCheck k b false = 0 := by
  have g : ∀ pre : Bytes, pre.length = 64 → leNat (slice pre 0 4) = 0x4E504946 → leNat (slice pre 4 2) = 1 → leNat (slice pre 6 2) = 3 →
      leNat (slice pre 20 4) = 1 → ∃ b, wUp.contCheck k b false = 0 := by
    intro pre hp h0 h4 h6 h20
    obtain ⟨p, hl⟩ : ∃ p : Bytes, p.length = 32 := ⟨zeros 32, by simp [zeros]⟩
    obtain ⟨z, hz⟩ : ∃ z : Bytes, z.length = 97 := ⟨zeros 97, by simp [zeros]⟩
    have sl : ∀ off len, off + len ≤ 64 → slice (pre ++ (gcmSeal k (slice pre 48 12) [] p ++ z)) off len = slice pre off len :=
      fun off len h => slice_append pre _ off len (by omega)
    have lb : (pre ++ (gcmSeal k (slice pre 48 12) [] p ++ z)).length = 209 := by simp [hp, hl, hz]
    have key : slice (pre ++ (gcmSeal k (slice pre 48 12) [] p ++ z)) 64 48 = gcmSeal k (slice pre 48 12) [] p := by
      have l := slice_mid pre (gcmSeal k (slice pre 48 12) [] p) z
      rw [hp, gcmSeal_length, hl] at l
      exact l
    refine ⟨pre ++ (gcmSeal k (slice pre 48 12) [] p ++ z), ?_⟩
    generalize pre ++ (gcmSeal k (slice pre 48 12) [] p ++ z) = b at sl lb key
    have ck : contKey k b = some p := by rw [contKey, key, sl 48 12 (by omega)]; exact gcmOpen_gcmSeal _ _ _ _
    have e6 : contComp b = 3 := by rw [contComp, sl 6 2 (by omega), h6]
    have e20 : contLen b = 1 := by rw [contLen, sl 20 4 (by omega), h20]
    rw [State.contCheck, sl 0 4 (by omega), sl 4 2 (by omega), e6, e20, lb, ck, h0, h4, if_neg (fun h => h ⟨rfl, rfl, by omega, by omega, by omega, by decide +kernel, rfl⟩), if_neg (by simp)]
    rw [if_neg (by simp), if_neg (by simp)]
  exact g (leBytes 4 0x4E504946 ++ leBytes 2 1 ++ leBytes 2 3 ++ zeros 12 ++ leBytes 4 1 ++ zeros 40) (by decide +kernel) (by decide +kernel)
    (by decide +kernel) (by decide +kernel) (by decide +kernel)

theorem witness_StepTakesTheFrontCommand_events :
    (({ wUp with pending := [.modNop 0 (dir .host 1 0 0 0 [])] } : State).pending = [.modNop 0 (dir .host 1 0 0 0 [])] ∧ wUp.pending = [])
    ∧ wUp.pending = [] := by decide +kernel

theorem witness_WellFormedCommandsGoOn_events :
    (Instr.modNop 0 (dir .host 1 0 0 0 [])).wf = true
    ∧ (match exec (.acThermal 0 32 0) wUp with | .fault .noSuchResource => true | _ => false) = true := by decide +kernel

theorem witness_SubmissionEntriesRoundTrip_events :
    (dir .host 1 0 0 0 []).wf = true
    ∧ (∀ x ∈ [(0x0100, dir .host 1 0 0 0 [])], x.1 < 65536 ∧ x.2.wf = true ∧ x.2.route = .host ∧ x.2.slot = 0 ∧ x.2.writeFails = false ∧ (x.2.indirect = false → x.2.block = none))
    ∧ ((ind .host 8 0 0 4 (zeros 16)).indirect = true ∧ (ind .host 8 0 0 4 (zeros 16)).wf = true ∧ (ind .host 8 0 0 4 (zeros 16)).blockLen = 16) := by decide +kernel

theorem witness_CommandsMeetTheirChecksInOrder_events :
    State.reset.routeOpen .host = false
    ∧ (wUp.routeOpen .ivpasto = true ∧ 16 ≤ ({ wUp with disp := { wUp.disp with flights := List.replicate 16 { entry := { wEntry with cmd := dir .ivpasto 1 0 0 0 [] }, dispatched := true } } } : State).inFlight .ivpasto)
    ∧ (let s : State := { wUp with host := { wUp.host with rings := [(1, { log2 := 4, en := true, run := true, tail := 15 })] } }; s.routeOpen .host = true ∧ s.fetchRoom = false)
    ∧ ({ wQueue with disp := { wQueue.disp with nextId := 2 } } : State).heldBack { id := 1, op := 0x0100, cmd := dir .host 1 0 0 2 [] } = true
    ∧ (let c := dir .host 1 0 0 0 []; let d : Entry := { id := 0, op := 0x0100, cmd := c }; let s : State := { wUp with disp := { wUp.disp with nextId := 1, flights := [{ entry := d, dispatched := false }], queue := [d] } }; s.routeOpen c.route = true ∧ s.routeFull c.route = false ∧ ((s.fetched (s.entryFor 0x0100 c)).enqueue (s.entryFor 0x0100 c)).inTurn = some d ∧ d ≠ s.entryFor 0x0100 c)
    ∧ (specModNop.reaches 0 (dir .host 2 0 0 0 []) wUp = true ∧ specModNop.refusal (wUp.entryFor 0x0100 (dir .host 2 0 0 0 [])) (wUp.arrived 0x0100 0 (dir .host 2 0 0 0 [])) = some .sBadTarget)
    ∧ (dir .host 1 0 0 8 []).entryWellFormed = false
    ∧ (posted specSafeAck (dir .host 6 0 0 0 []) wMore = true ∧ (specSafeAck.owner wMore (dir .host 6 0 0 0 [])).isSome = true ∧ specSafeAck.running wMore (dir .host 6 0 0 0 []) = true ∧ wMore.postsToPartner = false)
    ∧ wUp.pair.st = .unpaired := by decide +kernel

theorem witness_CompletionsWriteOnlyTheirEntry_events :
    ((wQueue.flightOf 0).isSome = true ∧ (wQueue.ring 1).run = true ∧ Tab.wf (fun _ => 0) wQueue.host.mem = true)
    ∧ ((wReset.ring 1).run = true ∧ ({ wUp with host := { wUp.host with rings := [(1, { log2 := 4, en := true, run := true, tail := 15 })] } } : State).host.rings.length = 1 ∧ (({ wUp with host := { wUp.host with rings := [(1, { log2 := 4, en := true, run := true, tail := 15 })] } } : State).ring 1).full = true) := by decide +kernel

theorem witness_ResourcesAreIndependent_events :
    (Tab.wf (fun _ => {}) wAc.ac = true ∧ Tab.wf (fun _ => {}) wDc.dc = true ∧ Tab.wf (fun _ => {}) wSo.so = true ∧ Tab.wf (fun _ => {}) wAx.axes = true ∧ Tab.wf (fun _ => {}) wUp.loops = true ∧ Tab.wf (fun _ => {}) wTask.tasks = true ∧ Tab.wf (fun _ => {}) wCan.cans = true ∧ Tab.wf (fun _ => {}) wRing.host.rings = true)
    ∧ (Tab.wf (fun _ => {}) wRunOn.ac = true ∧ Tab.wf (fun _ => {}) wRunOn.dc = true ∧ Tab.wf (fun _ => {}) wRunOn.so = true ∧ Tab.wf (fun _ => {}) wRunOn.axes = true ∧ Tab.wf (fun _ => {}) wLoop.loops = true ∧ Tab.wf (fun _ => {}) wTask.tasks = true ∧ Tab.wf (fun _ => {}) wCan.cans = true ∧ Tab.wf (fun _ => {}) wRing.host.rings = true) := by decide +kernel

theorem witness_CodeNumbersGiveTheSeverityGroup_events :
    (Code.fAcThermal.num % 256 ≥ 0x80 ∧ Code.eSoAck.num % 256 ≤ 0x7F)
    ∧ 0x80 ≤ Code.num .fAcThermal % 256 := by decide +kernel

theorem witness_CheckUnitRecordInTheImage_events :
    ({ cls := 0x0D, index := 7, sub := 0, off := 0, bit := 0, ty := 0, qual := false } : MapEntry).cls = 0x0D
    ∧ ({ cls := 0x0D, index := 7, sub := 0, off := 0, bit := 0, ty := 0, qual := false } : MapEntry).index < 8 := by decide +kernel

theorem witness_FullEventRingsCountTheirLosses_events :
    (wRing.host.eqMinSev ≤ wEv.code.sev ∧ (wRing.ring 2).run = false ∧ ((wRing.setRing 2 { log2 := 4, run := true }).ring 2).run = true)
    ∧ (let s : State := wRing.setRing 2 { log2 := 4, en := true, run := true }; (s.ring 2).run = true ∧ ((s.ring 2).tail + 1) % 2 ^ (s.ring 2).log2 ≠ (s.ring 2).head ∧ Tab.wf (fun _ => 0) s.host.mem = true) := by decide +kernel

theorem witness_AbortWithdrawsHeldCommands_events :
    (meets specModAbort (dir .host 1 0 0 0 [5]) wHeld = true ∧ (wHeld.disp.flights.find? (fun f => f.entry.cmd.route == .host && f.entry.cmd.tag == 5)).isSome = true)
    ∧ (decide (specModAbort.reaches 0 (dir .host 1 0 0 0 [9]) wUp = true) = true ∧ (fun (c : Cmd) (s : State) => (s.disp.flights.find? (fun f => f.entry.cmd.route == c.route && f.entry.cmd.tag == c.field 16 4)).isNone) (dir .host 1 0 0 0 [9]) (wUp.arrived 0x0102 0 (dir .host 1 0 0 0 [9])) = true) := by decide +kernel

theorem witness_HostRegistersAndDoorbells_events :
    (wRing.host.ready = true ∧ (wRing.ring 0).en = true ∧ (wRing.ring 0).run = true ∧ 15 % 4096 < 2 ^ (wRing.ring 0).log2)
    ∧ (wRing.host.ready = true ∧ (wRing.ring 1).en = true ∧ (wRing.ring 1).run = true ∧ 15 % 4096 < 2 ^ (wRing.ring 1).log2)
    ∧ (let s : State := wRing.setRing 2 { log2 := 4, en := true, run := true }; s.host.ready = true ∧ (s.ring 2).en = true ∧ (s.ring 2).run = true ∧ 15 % 4096 < 2 ^ (s.ring 2).log2)
    ∧ (wRing.host.ready = true ∧ (wRing.ring (8 + 0)).en = true ∧ (wRing.ring (8 + 0)).run = true ∧ 15 % 1024 < 2 ^ (wRing.ring (8 + 0)).log2)
    ∧ (let s : State := { wUp with host := { wUp.host with rings := [(0, { log2 := 4 })] } }; s.host.ready = true ∧ (s.ring 0).en = false ∧ 4 ≤ (s.ring 0).log2 ∧ (s.ring 0).log2 ≤ 12)
    ∧ (wRing.host.ready = true ∧ (wRing.ring 9).en = false ∧ (({ wUp with host := { wUp.host with rings := [(1, { log2 := 4 })] } } : State).ring 1).en = false ∧ (({ wUp with host := { wUp.host with rings := [(1, { log2 := 4 })] } } : State).ring 1).log2 = 4)
    ∧ (let s : State := { wUp with host := { wUp.host with rings := [(2, { log2 := 4 })] } }; s.host.ready = true ∧ (s.ring 2).en = false ∧ 4 ≤ (s.ring 2).log2 ∧ (s.ring 2).log2 ≤ 12)
    ∧ (let s : State := { wUp with host := { wUp.host with rings := [((8 + 1), { log2 := 4 })] } }; s.host.ready = true ∧ (s.ring (8 + 1)).en = false ∧ 4 ≤ (s.ring (8 + 1)).log2 ∧ (s.ring (8 + 1)).log2 ≤ 10)
    ∧ (wRing.host.ready = true ∧ Tab.wf (fun _ => {}) wRing.host.rings = true)
    ∧ (wRing.host.endpointUp = true ∧ 0x0000A55A = 0x0000A55A)
    ∧ (1 % 4 ≠ 0 ∨ 15 ≠ 15)
    ∧ (wRing.host.endpointUp = true ∧ wRing.host.d3hot = false ∧ 0x0000A55A % 2 ^ 32 = 0x0000A55A) := by decide +kernel

theorem witness_HostRegistersAndDoorbells_events_2 :
    0x0000A55B % 2 ^ 32 ≠ 0x0000A55A
    ∧ (wRing.host.ready = true ∧ wRing.host.d3hot = false ∧ (wRing.ring 1).en = true)
    ∧ (wRing.host.ready = true ∧ wRing.host.d3hot = false ∧ (wRing.ring 2).en = false)
    ∧ (wRing.host.ready = true ∧ wRing.host.d3hot = false ∧ (wRing.ring (8 + 1)).en = false)
    ∧ (wRing.host.ready = true ∧ wRing.host.d3hot = false ∧ (wRing.host.unsignalled = 0 ∨ wRing.host.unsignalled < 5 % 2 ^ 32 % 256))
    ∧ (wRing.host.ready = true ∧ wRing.host.d3hot = false ∧ wRing.host.unsignalled ≠ 0 ∧ 1 % 2 ^ 32 % 256 ≤ wRing.host.unsignalled)
    ∧ (wRing.host.ready = true ∧ wRing.host.d3hot = false)
    ∧ ({ wUp with host := {} } : State).disp.streams = []
    ∧ wUp.host.endpointUp = true
    ∧ (({ wUp with host := {} } : State).host.endpointUp = false ∧ ({ wUp with host := {} } : State).power.mgmtUp = true ∧ ({ wUp with host := {} } : State).host.ready = false)
    ∧ (wDown.host.endpointUp = false ∧ wDown.power.mgmtUp = false) := by decide +kernel

theorem witness_CommandsAreFetchedAndDispatched_events :
    (wUp.host.ready = false ∨ wUp.power.mgmtUp = false ∨ (wUp.ring 0).run = false ∨ (wUp.ring 0).head = (wUp.ring 0).tail ∨ 128 ≤ wUp.inFlight .host)
    ∧ (wRing.host.ready = true ∧ wRing.host.d3hot = false ∧ wRing.power.mgmtUp = true ∧ (wRing.ring 0).run = true ∧ (wRing.ring 0).head ≠ (wRing.ring 0).tail ∧ wRing.inFlight .host < 128 ∧ wRing.inFlight .host + ((wRing.ring 1).tail + 2 ^ (wRing.ring 1).log2 - (wRing.ring 1).head) % 2 ^ (wRing.ring 1).log2 + 1 < 2 ^ (wRing.ring 1).log2)
    ∧ (wRing.host.ready = true ∧ wRing.host.d3hot = false ∧ wRing.power.mgmtUp = true ∧ (wRing.ring 0).run = true ∧ (wRing.ring 0).head ≠ (wRing.ring 0).tail ∧ wRing.inFlight .host < 128 ∧ wRing.inFlight .host + ((wRing.ring 1).tail + 2 ^ (wRing.ring 1).log2 - (wRing.ring 1).head) % 2 ^ (wRing.ring 1).log2 + 1 < 2 ^ (wRing.ring 1).log2)
    ∧ wUp.disp.queue = []
    ∧ (∀ e ∈ wUp.disp.queue, wUp.routeOpen e.cmd.route = false ∨ wUp.heldBack e = true)
    ∧ ((wQueue.disp.queue.find? (fun e => e.cmd.route.kind == (wQueue.disp.lastRoute + 1) % 3 && wQueue.routeOpen e.cmd.route && !(wQueue.heldBack e))).isSome = true ∧ (specOf 0x0100).isSome = true ∧ (specOf 0xFFFF).isNone = true)
    ∧ (let e : Entry := { id := 1, op := 0x0102, cmd := dir .host 1 0 0 0 [5] }; let u : State := { wHeld with disp := { wHeld.disp with nextId := 2, lastRoute := 2, flights := wHeld.disp.flights ++ [{ entry := e, dispatched := false }], queue := wHeld.disp.queue ++ [e] } }; ((u.disp.queue.filter (fun e => e.cmd.route.kind == (u.disp.lastRoute + 1) % 3 && u.routeOpen e.cmd.route)).find? (fun e => e.op == 0x0102) = some e) ∧ ((specOf 0x0102).map (fun k => (k.refusal e ((((u.started e).countDispatched e.cmd.route).touchSession e.cmd).indirectFault e.cmd)).isNone)) = some true)
    ∧ (wRing.host.unsignalled ≠ 0 ∧ wRing.host.unsignalledAt + wRing.host.coalesceDelayUs * 1000 ≤ wRing.tb0)
    ∧ (wUp.up = true ∧ ¬ (wUp.ring 8).run = true)
    ∧ ((wBulk false []).host.ready = true ∧ (wBulk false []).up = true ∧ (wBulk false []).power.mgmtUp = true ∧ ((wBulk false []).ring 8).run = true ∧ ((wBulk false []).ring 8).head ≠ ((wBulk false []).ring 8).tail)
    ∧ (({ wBulkRd 2 with rsv := 1 } : BulkRead).rsv ≠ 0 ∧ (wBulk true []).host.ready = true ∧ (wBulk true []).up = true ∧ (wBulk true []).power.mgmtUp = true ∧ ((wBulk true []).ring 8).run = true ∧ ((wBulk true []).ring 8).head ≠ ((wBulk true []).ring 8).tail)
    ∧ ((wBulkRd 2).rsv = 0 ∧ (wBulkRd 2).flags < 8 ∧ 1 ≤ (wBulkRd 2).len ∧ (wBulkRd 2).len ≤ 65536 ∧ ((wBulk false []).ring 8).dir = false ∧ (wBulk false []).disp.streams = []) := by decide +kernel

theorem witness_CommandsAreFetchedAndDispatched_events_2 :
    ((wBulkRd 2).rsv = 0 ∧ (wBulkRd 2).flags < 8 ∧ 1 ≤ (wBulkRd 2).len ∧ (wBulkRd 2).len ≤ 65536 ∧ ((wBulk false []).ring 8).dir = false ∧ (wBulk false []).disp.streams = [])
    ∧ ((wBulkRd 2).rsv = 0 ∧ (wBulkRd 2).flags < 8 ∧ 1 ≤ (wBulkRd 2).len ∧ (wBulkRd 2).len ≤ 65536 ∧ (wStream true 0x0216).stream = (wBulkRd 2).stream ∧ (wStream true 0x0216).toHost = true ∧ (wBulk false [wStream true 0x0216]).disp.streams = [wStream true 0x0216] ∧ (wBulk false [wStream true 0x0216]).host.ready = true ∧ (wBulk false [wStream true 0x0216]).up = true ∧ (wBulk false [wStream true 0x0216]).power.mgmtUp = true ∧ ((wBulk false [wStream true 0x0216]).ring 8).run = true ∧ ((wBulk false [wStream true 0x0216]).ring 8).head ≠ ((wBulk false [wStream true 0x0216]).ring 8).tail)
    ∧ ((wBulkRd 2).data = some (zeros 64) ∧ (wBulkRd 2).stream = (wStream false 0x0210).stream ∧ (wStream false 0x0210).ring = 0 ∧ (wStream false 0x0210).toHost = false ∧ (wStream false 0x0210).entry.op = 0x0210 ∧ bitOf (wBulkRd 2).flags 1 = false ∧ (wBulk false [wStream false 0x0210]).host.ready = true ∧ (wBulk false [wStream false 0x0210]).up = true ∧ (wBulk false [wStream false 0x0210]).power.mgmtUp = true ∧ ((wBulk false [wStream false 0x0210]).ring 8).run = true ∧ ((wBulk false [wStream false 0x0210]).ring 8).head ≠ ((wBulk false [wStream false 0x0210]).ring 8).tail)
    ∧ ((wBulkRd 0xFFFF).stream = 0xFFFF ∧ ((wBulk true []).ring 8).dir = true ∧ (wBulk true []).host.ready = true ∧ (wBulk true []).up = true ∧ (wBulk true []).power.mgmtUp = true ∧ ((wBulk true []).ring 8).run = true ∧ ((wBulk true []).ring 8).head ≠ ((wBulk true []).ring 8).tail)
    ∧ ((wStream true 0x0216).data.length ≤ (wBulkRd 2).len ∧ (wBulk true [wStream true 0x0216]).hart.bursts = [] ∧ (wBulk true [wStream true 0x0216]).hart.passes = [] ∧ (wBulk true [wStream true 0x0216]).host.ready = true ∧ (wBulk true [wStream true 0x0216]).up = true ∧ (wBulk true [wStream true 0x0216]).power.mgmtUp = true ∧ ((wBulk true [wStream true 0x0216]).ring 8).run = true ∧ ((wBulk true [wStream true 0x0216]).ring 8).head ≠ ((wBulk true [wStream true 0x0216]).ring 8).tail) := by decide +kernel

theorem witness_SuppliesAndClocksAreWatched_events :
    (wUp.up = true ∧ (17999 < 18000 ∨ 33000 < 17999) ∧ Tab.get (fun _ => false) wUp.power.warnFlags 0 = false)
    ∧ (wUp.up = true ∧ (33001 < 18000 ∨ 33000 < 33001) ∧ Tab.get (fun _ => false) wUp.power.warnFlags 1 = false)
    ∧ (wUp.up = true ∧ 17999 < 18000 ∧ Tab.get (fun _ => false) wUp.power.warnFlags 2 = false)
    ∧ (wUp.up = true ∧ (50001 < 24000 ∨ 50000 < 50001) ∧ Tab.get (fun _ => false) wUp.power.warnFlags 6 = false)
    ∧ Tab.get (fun _ => false) wUp.power.failFlags 2 = false
    ∧ (wUp.up = true ∧ Tab.get (fun _ => false) wUp.power.warnFlags 7 = false ∧ Tab.get (fun _ => false) wUp.power.failFlags 7 = false)
    ∧ wReset.up = false
    ∧ (16000 ≤ 16000 ∨ Tab.get (fun _ => false) wUp.power.failFlags 0 = true)
    ∧ ((wUp.setParam .logicDualFeed 0 0).up = true ∧ Tab.get (fun _ => false) (wUp.setParam .logicDualFeed 0 0).power.failFlags 0 = false ∧ ((wUp.setParam .logicDualFeed 0 0).setSupply 0 15999 true true).param .logicDualFeed 0 = 0)
    ∧ (wUp.up = true ∧ Tab.get (fun _ => false) wUp.power.failFlags 0 = false ∧ (wUp.setSupply 0 15999 true true).param .logicDualFeed 0 ≠ 0)
    ∧ 18000 < 18001
    ∧ (wWarm.up = true ∧ wWarm.power.vcore < 1050) := by decide +kernel

theorem witness_SuppliesAndClocksAreWatched_events_2 :
    (wUp.up = true ∧ 1050 ≤ wUp.power.vcore ∧ wUp.power.marginLost = false)
    ∧ (wUp.up = true ∧ wUp.power.vcoreStepAt + 1000000 ≤ wUp.tb0 ∧ 910 ≤ wUp.power.vcore)
    ∧ ((wReset.power.phase = .heldReset ∨ wReset.power.phase = .pllHeld) ∧ Tab.get (fun _ => 1) wReset.power.pllAttempts 1 < 3)
    ∧ ((wReset.power.phase = .heldReset ∨ wReset.power.phase = .pllHeld) ∧ 3 ≤ Tab.get (fun _ => 1) wReset.power.pllAttempts 0)
    ∧ (wHoldUp.power.phase = .running ∨ wHoldUp.power.phase = .holdUp)
    ∧ (wUp.up = true ∧ wUp.power.hotAt = none)
    ∧ (wUp.up = true ∧ wUp.power.hotAt = none)
    ∧ (({ wUp with power := { wUp.power with hotAt := some 99000000000 } } : State).up = true ∧ ({ wUp with power := { wUp.power with hotAt := some 99000000000 } } : State).power.hotAt = some 99000000000 ∧ ({ wUp with power := { wUp.power with hotAt := some 99000000000 } } : State).tb0 < 99000000000 + 60000000000)
    ∧ wUp.up = true := by decide +kernel

theorem witness_ResetsHoldTheModule_events :
    wUp.power.phase = .running
    ∧ (wUp.power.phase = .running ∧ wDown.disp.flights = [] ∧ wDown.disp.streams = [] ∧ wDown.disp.omnar = [] ∧ wDown.disp.ivpasto.isOpen = false ∧ wDown.session.handle = 0 ∧ wDown.panel.clearing = none ∧ wDown.power.commitCmd = none)
    ∧ (wUp.power.phase ≠ .running ∨ wUp.power.mgmtUp = true)
    ∧ (wDown.power.phase = .running ∧ wDown.power.mgmtUp = false)
    ∧ wUp.up = true
    ∧ wWarm.power.buttonStuck = true
    ∧ (wUp.power.buttonStuck = false ∧ wUp.up = true ∧ wUp.tb0 < max wUp.power.buttonFree wUp.power.startedAt + 100000 * 1000000)
    ∧ (wUp.power.buttonStuck = false ∧ wUp.up = true ∧ max wUp.power.buttonFree wUp.power.startedAt + 49 * 1000000 ≤ wUp.tb0)
    ∧ (wUp.power.buttonStuck = false ∧ wUp.up = true ∧ max wUp.power.buttonFree wUp.power.startedAt + 50 * 1000000 ≤ wUp.tb0)
    ∧ (wUp.power.buttonStuck = false ∧ wUp.up = true ∧ max wUp.power.buttonFree wUp.power.startedAt + 2000 * 1000000 ≤ wUp.tb0)
    ∧ (wUp.power.buttonStuck = false ∧ wUp.up = true ∧ max wUp.power.buttonFree wUp.power.startedAt + 10000 * 1000000 ≤ wUp.tb0)
    ∧ (wUp.up = true ∧ wUp.power.buttonStuck = false) := by decide +kernel

theorem witness_PowerFailureCommitsTheState_events :
    wHoldUp.power.phase ≠ .running
    ∧ (wUp.power.phase = .running ∧ wUp.paired = false)
    ∧ wUp.cocoon.retain.busy = none
    ∧ wHoldUp.power.phase = .holdUp
    ∧ (wUp.cocoon.config.busy = none ∧ wUp.cocoon.retain.busy = none)
    ∧ wCommit.cocoon.retain.busy = some false
    ∧ wCommit.cocoon.config.busy = some true
    ∧ (wCommit.cocoon.retain.busy = some false ∧ wCommit.cocoon.retain.second = true)
    ∧ wUp.cocoon.retain.busy = none
    ∧ ((wUp.advance 90000000000000).power.phase = .running ∧ (wUp.advance 90000000000000).power.retainCommitAt < (wUp.advance 90000000000000).tb0 / ((wUp.advance 90000000000000).param .retainCommitPeriod 0 * 1000000000) * ((wUp.advance 90000000000000).param .retainCommitPeriod 0 * 1000000000)) := by decide +kernel

theorem witness_TheModuleStarts_events :
    (wUp.power.phase ≠ .heldReset ∧ wUp.power.phase ≠ .pllHeld)
    ∧ wReset.power.phase = .heldReset
    ∧ (((State.reset.rtcRebase 0).spoil []).bootRec.state = 0 ∧ ((State.reset.rtcRebase 0).spoil []).upd.active < 2)
    ∧ (State.reset.power.phase = .heldReset ∧ ((State.reset.rtcRebase 0).spoil []).bootRec.state = 0)
    ∧ (({ wUp with cocoon := { wUp.cocoon with header := Sec.now {} {} } } : State).cocoon.header.payload = some {} ∧ ({ wUp with cocoon := { wUp.cocoon with header := Sec.now {} {}, config := Sec.now {} {}, retirement := Sec.now {} {} } } : State).cocoon.fault = none) := by decide +kernel

theorem witness_CouplerFramesJoinTheSides_events :
    (State.reset.power.restoreDone = false ∨ State.reset.sv.heartbeat = false ∨ (State.reset.power.phase ≠ .running ∧ State.reset.power.phase ≠ .holdUp))
    ∧ (pointOk (.ac 32) = false ∧ pointOk (.axis 3) = true)
    ∧ (wRunOn.power.restoreDone = true ∧ wRunOn.sv.heartbeat = true ∧ wRunOn.power.phase = .running ∧ ((wRunOn.atBoundary (acOwner 1)).acOf 1).powered = true ∧ ((wRunOn.atBoundary (acOwner 1)).acOf 1).silent = none)
    ∧ (wUp.power.restoreDone = true ∧ wUp.sv.heartbeat = true ∧ wUp.up = true ∧ ((wAc.atBoundary (acOwner 1)).acOf 1).powered = true ∧ ((wAc.atBoundary (acOwner 1)).acOf 1).silent = none ∧ ((wDc.atBoundary (dcOwner 1)).dcOf 1).st ≠ .powerOn ∧ (wAx.axOf 1).silent = none ∧ (wAx.axOf 1).waitStand = false)
    ∧ (wRunOn.power.restoreDone = true ∧ wRunOn.sv.heartbeat = true ∧ wRunOn.power.phase = .running ∧ ((wRunOn.atBoundary (dcOwner 3)).dcOf 3).st ≠ .powerOn ∧ ((wRunOn.atBoundary (dcOwner 3)).dcOf 3).silent = none)
    ∧ (wRunOn.power.restoreDone = true ∧ wRunOn.sv.heartbeat = true ∧ wRunOn.power.phase = .running ∧ ((wRunOn.atBoundary (dcOwner 4)).dcOf 4).st ≠ .powerOn ∧ ((wRunOn.atBoundary (dcOwner 4)).dcOf 4).crcOut = 9)
    ∧ (wRunOn.power.restoreDone = true ∧ wRunOn.sv.heartbeat = true ∧ wRunOn.power.phase = .running ∧ ((wRunOn.atBoundary (soOwnerBox 1)).soOf 1).ackCmd.isNone = true ∧ ((wRunOn.atBoundary (soOwnerBox 1)).soOf 1).testing = false ∧ ((wRunOn.atBoundary (soOwnerBox 1)).soOf 1).ackSrc.isNone = true ∧ ((wRunOn.atBoundary (soOwnerBox 1)).soOf 1).tripped = true)
    ∧ (wRunOn.power.restoreDone = true ∧ wRunOn.sv.heartbeat = true ∧ wRunOn.power.phase = .running)
    ∧ (wRunOn.power.restoreDone = true ∧ wRunOn.sv.heartbeat = true ∧ wRunOn.power.phase = .running ∧ (wRunOn.axOf 0).silent = none ∧ (wRunOn.axOf 0).paused = none ∧ (wRunOn.axOf 0).waitStand = false)
    ∧ (wRunOn.power.restoreDone = true ∧ wRunOn.sv.heartbeat = true ∧ wRunOn.power.phase = .running ∧ (wRunOn.axOf 3).crcOut < 9)
    ∧ (State.reset.power.restoreDone = false ∨ (State.reset.power.phase ≠ .running ∧ State.reset.power.phase ≠ .holdUp))
    ∧ pointOk (framePoint (.dc 32 ⟨0, 0, 0, 0, 0⟩)) = false := by decide +kernel

theorem witness_CouplerFramesJoinTheSides_events_2 :
    (wAc.power.restoreDone = true ∧ wAc.power.phase = .running ∧ (wAc.acOf 1).powered = true ∧ (wAc.acOf 1).crcRun < 9)
    ∧ (wUp.power.restoreDone = true ∧ wUp.power.phase = .running ∧ (wUp.dcOf 31).st = .powerOn)
    ∧ (wUp.power.restoreDone = true ∧ wUp.power.phase = .running)
    ∧ (wUp.power.restoreDone = true ∧ wUp.power.phase = .running)
    ∧ (wUp.power.restoreDone = true ∧ wUp.power.phase = .running ∧ (wUp.axOf 3).faultWait = none)
    ∧ (wUp.power.restoreDone = true ∧ wUp.power.phase = .running ∧ (wUp.axOf 3).crcRun < 9)
    ∧ (wRunOn.power.restoreDone = true ∧ wRunOn.power.phase = .running ∧ 9 ≤ (wRunOn.axOf 2).crcRun) := by decide +kernel

theorem witness_ModuleCommandsTakeEffect_events :
    (wRich.configCopy 0).isSome = true := by decide +kernel

theorem witness_TaskCyclesRunAsTheRulesSay_events :
    (¬ (wUp.taskFree 0 = true ∧ wUp.releaseRule 0 = true))
    ∧ (wTask.taskFree 0 = true ∧ wTask.releaseRule 0 = true ∧ wTask.param .taskKind 0 ≠ 4 ∧ wTask.param .taskKind 0 ≠ 3)
    ∧ wTask.param .taskKind 1 ≠ 3
    ∧ wTask.inStep = false
    ∧ (wTask.up = true ∧ (wTask.taskOf 1).executing = true ∧ (wTask.taskOf 1).awaiting = false ∧ wTask.inStep = false)
    ∧ (wTask.up = true ∧ (wTask.taskOf 1).executing = true ∧ (wTask.taskOf 1).overran = false ∧ (wTask.taskOf 1).deadline ≤ wTask.tb0 ∧ (wTask.taskOf 1).consecutive + 1 < wTask.overrunLimit 1)
    ∧ (wTask.overrunLimit 5 ≤ (wTask.taskOf 5).consecutive + 1 ∧ (wTask.taskOf 5).executing = true ∧ (wTask.taskOf 5).overran = false ∧ (wTask.taskOf 5).deadline ≤ wTask.tb0)
    ∧ (wTask.up = true ∧ (wTask.taskOf 2).executing = true ∧ (wTask.taskOf 2).overran = true ∧ (wTask.taskOf 2).release + 2 * wTask.taskT 2 ≤ wTask.tb0)
    ∧ wTask.triggers = [{ src := 1, index := 0, rising := true }]
    ∧ (wTask.isSafetyTask 5 = true ∧ (wTask.taskOf 5).live = true ∧ (wTask.taskOf 5).executing = true ∧ (wTask.taskOf 5).lastRelease = some 0 ∧ 0 + wTask.taskT 5 + 10000 ≤ wTask.tb0)
    ∧ (wTask.up = true ∧ (wTask.cpOf 1).testing = some 0 ∧ 0 + 60000 ≤ wTask.tb0)
    ∧ ((wTask.cpOf 3).retired = false ∧ (wTask.cpOf 3).due = none ∧ (wTask.cpOf 3).lastDone + wTask.param .selftestPeriod 3 * 1000000000 ≤ wTask.tb0) := by decide +kernel

theorem witness_TaskCyclesRunAsTheRulesSay_events_2 :
    ((wTask.setCp 3 { testCmd := some wEntry }).up = true ∧ ((wTask.setCp 3 { testCmd := some wEntry }).cpOf 3).retired = false ∧ ((wTask.setCp 3 { testCmd := some wEntry }).cpOf 3).testCmd.isSome = true ∧ (wTask.setCp 3 { testCmd := some wEntry }).cpIdle 3 = true)
    ∧ (wTask.up = true ∧ (wTask.cpOf 7).retired = false ∧ (wTask.cpOf 7).testCmd = none ∧ (wTask.cpOf 7).due.isSome = true ∧ wTask.cpIdle 7 = true)
    ∧ ((wTask.cpOf 7).due = some 0 ∧ (wTask.cpOf 7).skipped = false ∧ 0 + 2 * wTask.param .selftestPeriod 7 * 1000000000 ≤ wTask.tb0) := by decide +kernel

theorem witness_ProgramAndForceCommandsTakeEffect_events :
    (wProg.prog.exchange.map (fun x => (x.pending, x.entry))) = some ([], some wEntry)
    ∧ ((wSending.pair.image.map (·.op)) = some 0x0213 ∧ wSending.pair.link = true ∧ (({ wSending with pair := { wSending.pair with image := none } } : State).judge 0 false (dir .host 2 512 0 0 [])).isNone = true ∧ (wSending.slot 0).image.isSome = true)
    ∧ ((wProg.forceOf 1) = some { value := 1, till := some 0 } ∧ (wProg.varOf 1).isSome = true) := by decide +kernel

theorem witness_AnalogueAndHartEvents_events :
    ((wAc.acOf 0).st = .switching ∧ (wAc.acOf 0).modeAt ≤ wAc.tb0)
    ∧ ((wAc.acOf 1).powered = true ∧ (wAc.acOf 1).silent = none ∧ (wAc.pair.st = .unpaired ∨ wAc.acMode 1 < 2) ∧ (wAc.acOf 1).lastFrame + wAc.param .acSilenceTo 1 * 1000000 ≤ wAc.tb0)
    ∧ (wAc.acDiagnoses 1 .openWire = true ∧ wAc.acCondition 1 .openWire ⟨0, 0, 0, 0⟩ = true ∧ (wAc.acOf 1).flag (acDiagBit .openWire) = false)
    ∧ (wAc.acDiagnoses 2 .readback = true ∧ wAc.acWorks 2 = 3 ∧ 200000 < ((⟨200001, 0, 0, 0⟩ : AcMeas).current - (⟨200001, 0, 0, 0⟩ : AcMeas).readback).natAbs ∧ (wAc.acOf 2).flag 16 = false)
    ∧ ((wAc.acOf 1).powered = true ∧ (wAc.acOf 1).st ≠ .retired ∧ 1400 ≤ 1400 ∧ (wAc.acOf 1).flag 2 = false)
    ∧ (((wUp.setAc 1 { coolAt := some 0 }).acOf 1).coolAt = some 0 ∧ 0 + 5000000000 ≤ (wUp.setAc 1 { coolAt := some 0 }).tb0)
    ∧ ((wAc.acOf 1).powered = true ∧ (wAc.acOf 1).st ≠ .retired ∧ (wAc.acOf 1).testCmd = none)
    ∧ ((wAc.acOf 2).recheck = true ∧ (wAc.acOf 2).recheckAt + 100000000 ≤ wAc.tb0)
    ∧ ((wAc.acOf 2).cal.map (·.waiting)) = some none
    ∧ (wAc.acOf 1).powered = true
    ∧ Tab.get (fun _ => false) wUp.power.failFlags 2 = false
    ∧ (Tab.get (fun _ => false) wFa.power.failFlags 2 = true ∧ wFa.power.restoreDone = true) := by decide +kernel

theorem witness_AnalogueAndHartEvents_events_2 :
    (wAc.modemOf 0).job = some (1, .pass { record := [], pass := 0 })
    ∧ (wAc.modemOf 1).job = some (1, .poll)
    ∧ (wAc.hartOn 1 = true ∧ wAc.param .hartPollMs 1 ≠ 0)
    ∧ (wAc.acOf 1).hart.lastGood + 3 * wAc.param .hartPollMs 1 * 1000000 ≤ wAc.tb0
    ∧ (wAc.modemOf 2).job = some (1, .dwell)
    ∧ ((wAc.modemOf 4).retired = false ∧ (wAc.modemOf 4).job = none ∧ (wAc.modemOf 4).testCmd = none)
    ∧ ((wAc.modemOf 3).retired = false ∧ (wAc.modemOf 3).job = none ∧ (wAc.modemOf 3).testCmd = some wEntry)
    ∧ (wAc.modemOf 2).job = some (1, .dwell) := by decide +kernel

theorem witness_DigitalEvents_events :
    ((wDc.dcOf 0).st = .switching ∧ (wDc.dcOf 0).modeAt ≤ wDc.tb0)
    ∧ ((wDc.dcOf 1).st ≠ .powerOn ∧ (wDc.dcOf 1).st ≠ .switching ∧ wDc.dcMode 1 ≠ 1)
    ∧ ((wDc.dcOf 1).st ≠ .powerOn ∧ (wDc.dcOf 1).silent = none ∧ (wDc.pair.st = .unpaired ∨ (wDc.dcMode 1 ≠ 1 ∧ wDc.dcMode 1 ≠ 2)) ∧ (wDc.dcOf 1).lastFrame + wDc.param .dcSilenceTo 1 * 1000000 ≤ wDc.tb0)
    ∧ ((wDc.dcOf 2).on = true ∧ 650 < 3000)
    ∧ ((wDc.dcOf 2).retry = true ∧ (wDc.dcOf 2).overAt + wDc.param .dcOlRetry 2 * 1000000 ≤ wDc.tb0)
    ∧ ((wDc.dcMode 2 = 1 ∨ wDc.dcMode 2 = 2) ∧ (wDc.dcOf 2).st ≠ .powerOn ∧ (wDc.dcOf 2).st ≠ .retired ∧ 1500 ≤ 1500 ∧ (wDc.dcOf 2).flag 2 = false)
    ∧ (((wUp.setDc 1 { coolAt := some 0 }).dcOf 1).coolAt = some 0 ∧ 0 + 5000000000 ≤ (wUp.setDc 1 { coolAt := some 0 }).tb0)
    ∧ (wDc.dcChecks 2 .failedOpen = true ∧ wDc.dcCondition 2 .failedOpen ⟨0, 0, 0, 0, 0⟩ (wDc.dcOf 2).on = true ∧ (wDc.dcOf 2).flag 0 = false ∧ (wDc.dcOf 2).flag 3 = false ∧ (wDc.dcOf 2).flag 9 = false)
    ∧ ((wDc.dcOf 2).faultOff = true ∧ (wDc.dcOf 2).st ≠ .retired ∧ (wDc.dcOf 2).faultAt + 100000000 ≤ wDc.tb0)
    ∧ (let e := 5 - 5 % 2; (wDc.dcOf e).disagree = some 0 ∧ wDc.dcMode e = 3 ∧ (wDc.dcOf e).disc = false ∧ 0 + wDc.param .dcDiscTime e * 1000000 < wDc.tb0)
    ∧ ((wDc.dcOf 1).st ≠ .powerOn ∧ (wDc.dcOf 1).st ≠ .retired)
    ∧ (wDc.dcGroup 0).sag = false := by decide +kernel

theorem witness_DigitalEvents_events_2 :
    (wDc.dcGroup 0).uv = false
    ∧ (wDc.dcGroup 1).uv = true
    ∧ (wUp.dcGroup 0).uv = false := by decide +kernel

theorem witness_SafetyCommandsTakeEffect_events :
    meets specSafeAck (dir .host 6 0 0 0 []) wOut (fun c s => decide (c.tgtIndex < 8) && !(s.soAckOk c.tgtIndex) && !((s.soOf c.tgtIndex).testing)) = true
    ∧ ((wUp.advance 2000000000000).session.handle ≠ 0 ∧ (wUp.advance 2000000000000).session.lastUse + 1800000000000 ≤ (wUp.advance 2000000000000).tb0)
    ∧ (wSo.cred.locked = true ∧ wSo.session.lockUntil ≤ wSo.tb0)
    ∧ posted specSafeAiPair (ind .host 6 0x100 0 4 (zeros 16)) wUp (fun _ s => !s.postsToPartner && decide (s.mailCount { kind := .aiPair, index := 0 } < 8)) = true
    ∧ (wUp.acMode 0 < 2 ∧ wUp.acMode 1 < 2 ∧ wUp.logFull = false)
    ∧ ((wSo.aiPairOf 0).beyond = some 0 ∧ wSo.param .aiPairEn 0 = 1 ∧ (wSo.aiPairOf 0).disc = false ∧ 0 + wSo.param .aiDiscTime 0 * 1000000 < wSo.tb0) := by decide +kernel

theorem witness_SafetyOutputEvents_events :
    ((wSo.soOf 0).hs.closed = true ∧ 2400 < 3000)
    ∧ (wSo.soWasOn 4 = true ∧ wSo.ett 4 = false)
    ∧ ((wSo.soOf 4).silent = false ∧ (wSo.soOf 4).lastFrame + 1000000 ≤ wSo.tb0 ∧ wSo.pair.st = .unpaired ∧ wSo.soWasOn 4 = true ∧ wSo.ett 4 = false)
    ∧ (((wSo.soOf 4).sw 1).stuck = false ∧ ((wSo.soOf 4).sw 1).failedOpen = false ∧ wSo.soTestSuspended 4 = false ∧ (wSo.soOf 4).testing = false ∧ ((wSo.soOf 4).sw 1).slot ≠ some (wSo.soSlot 4))
    ∧ (((wSo.soOf 1).sw 0).retry = true ∧ ((wSo.soOf 1).sw 0).retryAt + 1000000000 ≤ wSo.tb0)
    ∧ (((wSo.soOf 0).sw 0).testing = some true ∧ ((wSo.soOf 0).sw 0).demanded = false)
    ∧ (((wSo.soOf 1).sw 0).testing = some false ∧ ((wSo.soOf 1).sw 0).demanded = false ∧ ((wSo.soOf 1).sw 0).failedOnce = true)
    ∧ (((wSoTest.soOf 6).sw 0).testing = some true ∧ ((wSoTest.soOf 6).sw 0).demanded = true)
    ∧ (let w := (wSo.soOf 4).sw 0; w.overdue = false ∧ w.stuck = false ∧ w.failedOpen = false ∧ w.since + wSo.param .soDiagInterval 4 * 1000000000 ≤ wSo.tb0)
    ∧ (((wSo.soOf 1).sw 0).failedOnce = true ∧ ((wSo.soOf 1).sw 0).failedAt + 100000000 ≤ wSo.tb0)
    ∧ (wSo.ett 3 = true ∧ (wSo.soOf 3).tripped = false ∧ wSo.soWanted 3 = false ∧ wSo.sv.fsLow = false ∧ wSo.sv.fsFail = false ∧ wSo.fieldActive = true ∧ (wSo.soOf 3).retired = false ∧ wSo.power.phase = .running)
    ∧ (wSo.param .soOpenCheck 4 = 1 ∧ wSo.soEnergised 4 = true ∧ 0 < 10 ∧ (wSo.soOf 4).isOpen = false) := by decide +kernel

theorem witness_SafetyOutputEvents_events_2 :
    ((wSo.soOf 2).causes ≠ 0 ∧ wSo.soBudget 2 ≤ (wSo.soOf 2).used wSo.tb0 ∧ (wSo.soOf 2).budgetOut = false)
    ∧ (wSo.soOf 2).budgetAt.isSome = true
    ∧ wSo.sv.fsFail = false
    ∧ wSo.sv.overtemp = false
    ∧ wSo.sv.selftestFailed = false := by decide +kernel

theorem witness_LoopCommandsTakeEffect_events :
    loopCheck loopSettings wUp (dir .host 8 600 0 0 []) ≠ .sOk := by decide +kernel

theorem witness_LoopSampleFollowsTheLaw_events :
    wUp.loopDue 0 = false
    ∧ ((wLoop.setLoop 4 {}).loopDue 3) = true
    ∧ (wLoop.loopDue 3 = true ∧ (wLoop.atBoundary (loopOwner 3)).loopDue 3 = true ∧ (((wLoop.atBoundary (loopOwner 3)).loopRequest 3).loopOf 3).memFault = false)
    ∧ (wLoop.loopDue 3 = true ∧ (wLoop.atBoundary (loopOwner 3)).loopDue 3 = true ∧ ((wLoop.loopRequest 3).loopOf 3).memFault = false ∧ wLoop.pair.st = .unpaired)
    ∧ ((((wLoop.setParam .loopMode 3 1).setParam .loopPvSrc 3 0x10000000).loopRequest 3).loopMode 3 = 1 ∧ ((((wLoop.setParam .loopMode 3 1).setParam .loopPvSrc 3 0x10000000).loopRequest 3).loopPv 3).2.2 = true ∧ ((((wLoop.setParam .loopMode 3 1).setParam .loopPvSrc 3 0x10000000).loopRequest 3).loopSp 3).2.2 = false) := by decide +kernel

theorem witness_AxisEvents_events :
    (wUp.up = true ∧ wUp.power.restoreDone = true ∧ wUp.sv.heartbeat = true ∧ wUp.tb0 % 50000 = 0 ∧ (wUp.axOf 0).updT < wUp.tb0)
    ∧ (let x := wAx.axOf 1; (x.st = .moving ∨ x.st = .segment ∨ x.st = .stopping) ∧ x.energised = true ∧ x.monitor = false ∧ x.parked = false ∧ wAx.param .axStallThr 1 ≠ 0 ∧ 4 ≤ [1, 1, 1, 1].length ∧ (∀ r ∈ [1, 1, 1, 1].take 4, r < wAx.param .axStallThr 1) ∧ x.hyst = false ∧ 50 * 256 * 4294967296 ≤ (x.vel.natAbs : Int) ∧ wAx.axFeedback 1 = none)
    ∧ ((wAx.axOf 0).st = .standstill ∧ (wAx.axOf 0).energised = true ∧ (wAx.axOf 0).standAt + wAx.param .holdDelay 0 * 1000000 ≤ wAx.tb0)
    ∧ (let x := wAx.axOf 0; x.st = .standstill ∧ x.energised = true ∧ wAx.param .axStandstill 0 = 0 ∧ wAx.param .parkDelay 0 ≠ 0 ∧ x.parking = none ∧ wAx.axWaiting 0 = false ∧ x.standAt + wAx.param .parkDelay 0 * 1000000000 ≤ wAx.tb0)
    ∧ ((wAx.axOf 1).silent = none ∧ wAx.pair.st = .unpaired ∧ (wAx.axOf 1).lastFrame + 1000000 ≤ wAx.tb0 ∧ (wAx.axOf 1).st ≠ .retired)
    ∧ (4500 < 4501 ∧ (wAx.axOf 0).st ≠ .retired ∧ (wAx.axOf 0).bridges = true)
    ∧ (1500 ≤ 1500 ∧ (wAx.axOf 0).st ≠ .retired ∧ (wAx.axOf 0).bridges = true)
    ∧ ((wAx.axOf 2).faultWait = some 0 ∧ (wAx.axOf 2).faultAt + 1000000000 ≤ wAx.tb0 ∧ (wAx.axOf 2).started = true)
    ∧ ((wAx.axOf 2).faultWait = some 0 ∧ (wAx.axOf 2).faultAt + 1000000000 ≤ wAx.tb0)
    ∧ (wAx.axOf 0).bridges = true
    ∧ ((wAx.axOf 3).hyst = true ∧ (wAx.axOf 3).hystTill ≤ wAx.tb0 ∧ (wAx.axOf 3).testAt = none)
    ∧ (let x := wAx.axOf 0; x.segAt = some (0, 1) ∧ (1 : Int) ≤ wAx.baseNow 0 ∧ x.unref = false ∧ (x.st = .standstill ∨ x.st = .parked) ∧ x.segs ≠ []) := by decide +kernel

theorem witness_AxisEvents_events_2 :
    wAx.fmOk = true
    ∧ wFa.fmOk = false := by decide +kernel

theorem witness_PairCommandsTakeEffect_events :
    (wPair.pair.st = .active ∧ wPair.hasStandby = true ∧ wPair.pair.switch = none) := by decide +kernel

theorem witness_PairLinkTraffic_events :
    wUp.pair.st = .unpaired
    ∧ (wStandby.pair.st = .standby ∨ wStandby.pair.st = .syncing ∨ wStandby.pair.st = .dropped ∨ wStandby.pair.st = .incompatible)
    ∧ ((wSt .searching).pair.st = .searching ∧ ((wSt .searching).linkFrame.hear (⟨0, 4, 0, 0, 0, 0, 0, [], []⟩ : PeerInfo)).compatFault (⟨0, 4, 0, 0, 0, 0, 0, [], []⟩ : PeerInfo) = some 2)
    ∧ ((wSt .searching).pair.st = .searching ∧ ((wSt .searching).linkFrame.hear (wPeer 2)).compatFault (wPeer 2) = none ∧ (wPeer 2).st = 2)
    ∧ ((wSt .searching).pair.st = .searching ∧ ((wSt .searching).linkFrame.hear (wPeer 1)).compatFault (wPeer 1) = none ∧ (wPeer 1).st = 1 ∧ ((wSt .searching).linkFrame.hear (wPeer 1)).isPrimary = true)
    ∧ ((((wSt .unlinked).setParam .autoJoin 0 1).pair.st = .unlinked ∨ ((wSt .unlinked).setParam .autoJoin 0 1).pair.st = .isolated) ∧ (wPeer 2).st = 2 ∧ (((wSt .unlinked).setParam .autoJoin 0 1).linkFrame.hear (wPeer 2)).param .autoJoin 0 = 1)
    ∧ (((wSt .active).setParam .desigPrimary 0 1).pair.st = .active ∧ (wPeer 2).st = 2 ∧ (((wSt .active).setParam .desigPrimary 0 1).linkFrame.hear (wPeer 2)).isPrimary = false ∧ (((wSt .active).setParam .desigPrimary 0 1).linkFrame.hear (wPeer 2)).pair.dualAt = none)
    ∧ (wStandby.pair.st = .standby ∨ wStandby.pair.st = .syncing ∨ wStandby.pair.st = .searching)
    ∧ wStandby.pair.st = .standby
    ∧ wStandby.pair.st = .standby
    ∧ ((wStandby.pair.st = .standby ∨ wStandby.pair.st = .syncing) ∧ specTaskStop.owner wStandby.linkFrame (dir .host 2 0 0 0 []) = some (taskOwner 0))
    ∧ (wStandby.pair.st = .standby ∨ wStandby.pair.st = .unlinked) := by decide +kernel

theorem witness_PairLinkTraffic_events_2 :
    wStandby.pair.st = .standby
    ∧ ({ wPair with pair := { wPair.pair with switch := some (some wEntry, 5, 1), next := 0 } } : State).pair.switch = some (some wEntry, 5, 1)
    ∧ (((wPair.setAx 1 { handover := true }).axOf 1).handover = true ∧ (wPair.setAx 1 { handover := true }).pair.st = .active)
    ∧ ({ (wSt .syncing) with pair := { (wSt .syncing).pair with stage := 1 } } : State).pair.stage = 1 := by decide +kernel

theorem witness_TakeoverContinuesTheOutputs_events :
    ((wStandby.pair.st = .unlinked ∨ wStandby.pair.st = .standby) ∧ wStandby.pair.heardAt + 3 * (wStandby.param .netCycle 0 * 1000) ≤ wStandby.tb0)
    ∧ (wStandby.pair.switch = some (none, 5, 1) ∧ wStandby.pair.st = .standby ∧ ((5 : Nat) : Int) ≤ wStandby.pairTimer)
    ∧ (wSt .searching).pair.searchAt + 500000000 ≤ (wSt .searching).tb0
    ∧ (wLost.pair.st = .active ∧ wLost.pair.lost = true ∧ wLost.pair.link = false ∧ max (wLost.port 0).heard (wLost.port 1).heard + 3 * wLost.tNet ≤ wLost.tb0 ∧ wLost.pair.linkAt + 3 * wLost.tNet ≤ wLost.tb0)
    ∧ (beNat (slice ([0, 0, 6, 0] ++ zeros 12) 2 1) = 6 ∧ wStandby.pair.st = .standby) := by decide +kernel

theorem witness_PairComparisons_events :
    (let x := wAgree.taskOf 1; wAgree.paired = true ∧ x.executing = true ∧ x.agreed = false ∧ x.awaiting = false ∧ x.release + wAgree.taskL 1 + 12000 ≤ wAgree.tb0 ∧ wAgree.inStep = true)
    ∧ (let x := wAgree.taskOf 1; wAgree.paired = true ∧ x.executing = true ∧ x.agreed = false ∧ x.awaiting = false ∧ x.release + wAgree.taskL 1 + 12000 ≤ wAgree.tb0 ∧ wAgree.inStep = true)
    ∧ (wAgree.up = true ∧ wAgree.paired = true ∧ (wAgree.taskOf 2).executing = true ∧ (wAgree.taskOf 2).awaiting = true ∧ wAgree.inStep = true)
    ∧ (wMism.pair.mismatch = some (1, 0) ∧ 0 + 100000 ≤ wMism.tb0)
    ∧ ((wMismIn .standby true).pair.mismatch = some (1, 0) ∧ (wMismIn .standby true).isPrimary = true ∧ (wMismIn .standby true).pair.st = .standby ∧ (wMismIn .standby true).up = true)
    ∧ ((wMismIn .active true).pair.mismatch = some (1, 0) ∧ (wMismIn .active true).isPrimary = true ∧ (wMismIn .active true).pair.st = .active ∧ (wMismIn .active true).up = true)
    ∧ ((wMismIn .standby true).pair.mismatch = some (1, 0) ∧ (wMismIn .standby true).isPrimary = true ∧ (wMismIn .standby true).pair.st = .standby ∧ (wMismIn .standby true).up = true)
    ∧ ((wMismIn .active true).pair.mismatch = some (1, 0) ∧ (wMismIn .active true).isPrimary = true ∧ (wMismIn .active true).pair.st = .active ∧ (wMismIn .active true).up = true) := by decide +kernel

theorem witness_LinkLossAndResynchronisation_events :
    wLost.pair.lanesOut.any (fun x => x.1 == 0) = false
    ∧ (wLost.pair.lanesOut.find? (fun x => x.1 == 1) = some (1, 0) ∧ 0 + 1000000000 ≤ wLost.tb0)
    ∧ wLost.pair.hdet ≠ true
    ∧ (wQuiet.pair.link = true ∧ wQuiet.pair.linkAt + 50000 ≤ wQuiet.tb0 ∧ wQuiet.pair.st = .standby ∧ wQuiet.pair.switch = none ∧ wQuiet.pair.next = 0 ∧ wQuiet.pair.late = [])
    ∧ ((wStandby.setParam .acMode 0 2).paired = true ∧ acIsAo ((wStandby.setParam .acMode 0 2).acMode 0) = true ∧ ((wStandby.setParam .acMode 0 2).acOf 0).monitor = false ∧ ((wStandby.setParam .acMode 0 2).acOf 0).lastFrame + 3 * ((wStandby.setParam .acMode 0 2).param .netCycle 0 * 1000) + 400000 ≤ (wStandby.setParam .acMode 0 2).tb0)
    ∧ ((wStandby.setParam .dcMode 0 1).paired = true ∧ dcIsDo ((wStandby.setParam .dcMode 0 1).dcMode 0) = true ∧ ((wStandby.setParam .dcMode 0 1).dcOf 0).monitor = false ∧ ((wStandby.setParam .dcMode 0 1).dcOf 0).lastFrame + 3 * ((wStandby.setParam .dcMode 0 1).param .netCycle 0 * 1000) + 400000 ≤ (wStandby.setParam .dcMode 0 1).tb0)
    ∧ (wStandby.paired = true ∧ (wStandby.axOf 0).monitor = false ∧ (wStandby.axOf 0).lastFrame + 200000 ≤ wStandby.tb0)
    ∧ (wStandby.paired = true ∧ (wStandby.soOf 1).monitor = false ∧ (wStandby.soOf 1).lastFrame + 3 * (wStandby.param .netCycle 0 * 1000) + 400000 ≤ wStandby.tb0)
    ∧ (({ wSt .syncing with pair := { (wSt .syncing).pair with stage := 4 } } : State).pair.st = .syncing ∧ ({ wSt .syncing with pair := { (wSt .syncing).pair with stage := 4 } } : State).pair.stage = 4)
    ∧ (({ wSt .syncing with pair := { (wSt .syncing).pair with stage := 5 } } : State).pair.st = .syncing ∧ ({ wSt .syncing with pair := { (wSt .syncing).pair with stage := 5 } } : State).pair.stage = 5)
    ∧ ({ (wSt .syncing) with pair := { (wSt .syncing).pair with stage := 6 } } : State).bootRec.takes = false
    ∧ ((wSt .syncing).pair.slow = false ∧ (wSt .syncing).pair.syncAt + 30000000000 ≤ (wSt .syncing).tb0) := by decide +kernel

theorem witness_LinkLossAndResynchronisation_events_2 :
    wUp.pair.st ≠ .standby
    ∧ (wStandby.pair.st = .standby ∧ wStandby.loopState 0 ≠ { (wStandby.loopState 0) with out := 1 }) := by decide +kernel

theorem witness_NetworkFramesAreJudgedInOrder_events :
    wUp.portUp 0 = false
    ∧ (wNet.up = true ∧ wNet.portUp 0 = true)
    ∧ wNet.netParses { wFrame with body := .other } = false
    ∧ (wNet.netParses wFrame = true ∧ wNet.param .netMode 0 ≠ 1 ∧ wNet.netFilter wFrame = true ∧ (wNet.policeLocal 0 wFrame.body).1 = true ∧ wNet.consFor 9 5 = some 0x1000 ∧ (zeros 8).length = wNet.consLen 0x1000 ∧ (wNet.consOf 0x1000).accepts wOmnar = true ∧ wNet.param .scRole 0x1000 ≠ 2)
    ∧ wUp.param .scRole 5 ≠ 2 := by decide +kernel

theorem witness_NetworkEvents_events :
    (wNet.safeCheck 0x1000 (zeros 16) ≠ 0 ∧ (wNet.consOf 0x1000).st ≠ .expired)
    ∧ (wNet.safeCheck 0x1000 (wMsg 2) = 0 ∧ beNat (slice (wMsg 2) 8 2) = 2 ∧ (wNet.consOf 0x1000).alive = some 2)
    ∧ (wNet.safeCheck 0x1000 (wMsg 3) = 0 ∧ (beNat (slice (wMsg 3) 8 2) + 65536 - 2) % 65536 = 1 ∧ 1 ≤ wNet.param .aliveGap 0x1000)
    ∧ ((wNet.setCons 0x1000 { st := .expired, alive := some 2 }).safeCheck 0x1000 (wMsg 3) = 0 ∧ ((wNet.setCons 0x1000 { st := .expired, alive := some 2 }).consOf 0x1000).st = .expired)
    ∧ (wNet.param .ccEn 0x1000 = 1 ∧ (wNet.consOf 0x1000).st = .valid ∧ (wNet.consOf 0x1000).wdAt + wNet.param .wdCycles 0x1000 * wNet.param .ccMult 0x1000 * wNet.param .netCycle 0 * 1000 ≤ wNet.tb0)
    ∧ ((wUp.port 1).link = false ∧ (wUp.port 1).retired = false ∧ wUp.param .portEn 1 ≠ 0)
    ∧ (wNet.port 0).link = true
    ∧ (wNet.netCycleDue = true ∧ (wNet.netCycleStart.atBoundary { kind := .network, index := 0 }).net.station = wNet.param .stationId 0)
    ∧ (wNet.up = true ∧ wNet.net.sent = false ∧ wNet.net.cycleAt + wNet.param .sendSlot 0 * 1000 ≤ wNet.tb0 + 1000)
    ∧ (wNet.up = true ∧ wNet.net.lastPresence ≤ wNet.tb0)
    ∧ (wNet.up = true ∧ wNet.net.supervisionAt ≤ wNet.tb0)
    ∧ wNet.net.buckets.find? (fun x => x.1 == { port := 0, cls := 1, src := 5 }) = some ({ port := 0, cls := 1, src := 5 }, { level := 0, at0 := 0, dropSince := some 0 }) := by decide +kernel

theorem witness_NetworkEvents_events_2 :
    (let x := wNet.consOf 0x1000; wNet.param .ccEn 0x1000 = 1 ∧ (wNet.port 0).link = true ∧ (wNet.port 1).link = true ∧ (wNet.port 0).linkAt + 1000000000 ≤ wNet.tb0 ∧ (wNet.port 1).linkAt + 1000000000 ≤ wNet.tb0 ∧ x.single = false ∧ x.heardB + 1000000000 ≤ wNet.tb0 ∧ wNet.tb0 < x.heardA + 1000000000)
    ∧ (wNet.up = true ∧ (wNet.port 0).retired = false ∧ (wNet.port 0).fault = false ∧ wNet.param .portEn 0 ≠ 0)
    ∧ (wUp.port 1).faultAt + 1000000000 ≤ wUp.tb0 := by decide +kernel

theorem witness_PulsesKeepTheirGrid_events :
    ((wUp.setParam .pgMode 0 2).param .pgMode 0) = 2
    ∧ (wUp.pgOf 0).armed = false
    ∧ ((wTime.pgOf 0).armed = true ∧ (wTime.pgOf 0).next ≤ wTime.pgNow 0 + 50 ∧ wTime.param .pgMode 0 ≠ 1)
    ∧ ((wTime.pgOf 0).pulse = true ∧ (wTime.pgOf 0).pulseAt + wTime.param .pgWidth 0 * 1000 ≤ wTime.tb0 + 20)
    ∧ ((wTime.param .piMode 0 = 1 ∨ wTime.param .piMode 0 = 2) ∧ (wTime.piOf 0).levelA = false ∧ (wTime.piOf 0).edges = [] ∧ (wTime.piOf 0).overrange = false ∧ (wTime.piOf 0).changeA = none)
    ∧ (let s : State := (wTime.setParam .piFilter 0 10).setPi 0 { changeA := some wTime.tb0 }; s.param .piMode 0 ≠ 0 ∧ (s.piOf 0).levelA = false ∧ (s.piOf 0).changeA = some s.tb0 ∧ s.tb0 < s.tb0 + s.param .piFilter 0 * 100 ∧ (s.piOf 0).overrange = false) := by decide +kernel

theorem witness_TimeBaseEvents_events :
    (wTime.net.ptpIn.head? = some wSync ∧ wTime.ptpServes wSync 1 = true ∧ wTime.param .tbSrc 2 ≠ 1 ∧ ((wTime.servoSync 1 10).tb3Follow).param .tbSrc 2 ≠ 1 ∧ (wTime.base 1).master = some wAnn ∧ wAnn.gm = 6 ∧ (wTime.base 1).servo ≠ .master)
    ∧ (({ wAnn with gm := 7 }).gm ≠ wAnn.gm ∧ announceBetter { wAnn with gm := 7 } wAnn = false ∧ wUp.param .ptpRole 1 ≠ 1)
    ∧ ((wUp.base 1).master = none ∧ (wUp.base 1).servo ≠ .master ∧ (wUp.setParam .ptpRole 1 1).param .ptpRole 1 = 1 ∧ (((wUp.setParam .ptpRole 1 1).becomeMaster 1).pgWake 1).param .tbSrc 2 ≠ 1 ∧ announceBetter (wUp.ownAnnounce 1) { wAnn with prio1 := 129 } = true)
    ∧ ((wTime.base 1).stepped = false ∧ (wTime.base 1).delay ≠ none ∧ (wTime.base 1).valid = 3)
    ∧ (((wTime.setBase 1 { servo := .jumpNeeded }).base 1).synced = false ∧ 1000000 < (1000001 : Int).natAbs ∧ wTime.param .syncThr 1 ≤ 100000)
    ∧ Tab.wf (fun _ => ({} : TimeBase)) wTime.bases = true
    ∧ ((({ wTime with tb0 := 375000000 } : State).setParam .ptpRole 1 1).ptpDriven 1 = true ∧ ((({ wTime with tb0 := 375000000 } : State).setParam .ptpRole 1 1).base 1).servo ≠ .master ∧ ((({ wTime with tb0 := 375000000 } : State).setParam .ptpRole 1 1).base 1).lastAnnounce + 375000000 ≤ (({ wTime with tb0 := 375000000 } : State).setParam .ptpRole 1 1).tb0 ∧ (({ wTime with tb0 := 375000000 } : State).setParam .ptpRole 1 1).param .ptpRole 1 = 1)
    ∧ (({ wTime with tb0 := 375000000 } : State).ptpDriven 1 = true ∧ (({ wTime with tb0 := 375000000 } : State).base 1).lastAnnounce + 375000000 ≤ ({ wTime with tb0 := 375000000 } : State).tb0 ∧ (({ wTime with tb0 := 375000000 } : State).base 1).servo ≠ .master ∧ (({ wTime with tb0 := 375000000 } : State).base 1).servo ≠ .free ∧ (({ wTime with tb0 := 375000000 } : State).base 1).servo ≠ .holdover ∧ ({ wTime with tb0 := 375000000 } : State).param .ptpRole 1 ≠ 1)
    ∧ (let x := wHold.base 1; x.servo = .holdover ∧ x.wasLocked = true ∧ x.holdOut = false ∧ x.holdAt + wHold.param .holdoverS 1 * 1000000000 ≤ wHold.tb0)
    ∧ (wHold.ptpDriven 2 = true ∧ (wHold.base 2).servo = .master ∧ (wHold.base 2).syncAt ≤ wHold.tb0)
    ∧ (wHold.ptpDriven 2 = true ∧ (wHold.base 2).servo = .master ∧ (wHold.base 2).announceAt ≤ wHold.tb0)
    ∧ ((wTime.setParam .ptpDelay 1 1).ptpDriven 1 = true ∧ (wTime.setParam .ptpDelay 1 1).param .ptpDelay 1 = 1) := by decide +kernel

theorem witness_TimeBaseEvents_events_2 :
    (wTime.ptpDriven 1 = true ∧ wTime.param .ptpDelay 1 ≠ 1 ∧ wTime.param .netMode 0 ≠ 1 ∧ (wTime.base 1).master ≠ none)
    ∧ wLeap.tb3FromTb1 = true
    ∧ (((wLeap.base 3).rtcAt ≤ wLeap.tb0 ∨ wLeap.rtc.lost = true) ∧ wLeap.tb3FromTb1 = true ∧ wLeap.rtc.halt = none) := by decide +kernel

theorem witness_CanEvents_events :
    ((wCan.canOf 0).st = .errorActive ∧ (wCan.canOf 0).rerr = 0 ∧ wCan.pair.st = .unpaired ∧ wCan.canTb2 0 = false ∧ wCan.canFilterTakes 0 wCanF 2 = true ∧ wCan.canFilterTakes 0 wCanF 0 = false ∧ wCan.canFilterTakes 0 wCanF 1 = false ∧ wCan.param .fAction 2 = 1 ∧ (wCan.canOf 0).fifo.length < 32)
    ∧ (wCan.canFilterTakes 0 wCanF 2 = true ∧ wCan.canFilterTakes 0 wCanF 0 = false ∧ wCan.canFilterTakes 0 wCanF 1 = false ∧ wCan.param .fAction 2 = 1 ∧ (wCan.canOf 0).fifo.length < 32 ∧ (wCan.canOf 0).lastOverflow = none)
    ∧ ((wCan.setParam .fAction 2 4).canFilterTakes 0 wCanF 2 = true ∧ (wCan.setParam .fAction 2 2).canFilterTakes 0 wCanF 2 = true ∧ wCan.up = true ∧ wCan.param .canMode 0 ≠ 2 ∧ (wCan.canOf 0).st = .errorActive ∧ (wCan.canOf 0).rerr = 0 ∧ wCan.canTb2 0 = false ∧ xidFdf wCanF.xid = false)
    ∧ ¬ ((wCan.setCan 0 { wCan.canOf 0 with fifo := List.replicate 32 { frame := wCanF, fseq := 0, time := 0 } }).canOf 0).fifo.length < 32
    ∧ ((wCan.canOf 0).tec ≤ 127 ∧ 127 < (wCan.canOf 1).tec ∧ (wCan.canOf 1).tec ≤ 255 ∧ 255 < (wCan.canOf 2).tec ∧ wCan.canPending 2 = [])
    ∧ ((wCan.canOf 1).tec ≤ 255 ∧ 127 < (wCan.canOf 1).tec)
    ∧ (255 < (wCan.canOf 2).tec ∧ wCan.canPending 2 = [])
    ∧ (wCan.up = true ∧ ((wCan.canOf 0).st = .errorActive ∨ (wCan.canOf 0).st = .errorPassive) ∧ wCan.canListens 0 = false)
    ∧ (wCan.canLive 0 = true ∧ wCan.canOnBus 0 0 = true)
    ∧ ((wCan.canOf 3).st = .integrating ∧ (wCan.canOf 3).retest = false)
    ∧ (((wCan.setCan 3 { st := .recovering }).canOf 3).st = .recovering ∧ ((wCan.setCan 3 { st := .recovering }).canOf 3).retest = false)
    ∧ (wCan.canOnBus 0 0 = true ∧ (wCan.canBuf 0 0).frame = some wCanF ∧ (wCan.canBuf 0 0).isRef = false ∧ wCan.param .canMode 0 ≠ 2 ∧ xidFdf wCanF.xid = false) := by decide +kernel

theorem witness_CanEvents_events_2 :
    (wCan.canOnBus 0 0 = true ∧ (wCan.canBuf 0 0).withdraw = false ∧ (wCan.canBuf 0 0).next = none)
    ∧ (wCan.canOnBus 1 0 = true ∧ (wCan.canBuf 1 0).withdraw = true)
    ∧ (wSkip.canSkips 2 = true ∧ wSkip.canTb2 2 = true ∧ wSkip.param .canSkipFollow 2 ≠ 1 ∧ (wSkip.base 2).servo = .master ∧ (wSkip.canOf 2).st = .busOff ∧ wSkip.canRefTime 2 = true)
    ∧ (((wSkip.setParam .canSkipper 2 0).canOf 2).lastRef = some 0 ∧ (wSkip.setParam .canSkipper 2 0).canTb2 2 = true ∧ (wSkip.setParam .canSkipper 2 0).canSkips 2 = false ∧ 0 + 3 * (wSkip.setParam .canSkipper 2 0).param .canRefPeriod 2 * 1000 ≤ (wSkip.setParam .canSkipper 2 0).tb0 ∧ ((wSkip.setParam .canSkipper 2 0).base 2).servo ≠ .free)
    ∧ ((wSkip.canOf 3).deferred = true ∧ (wSkip.canOf 3).lastHigher + 3 * wSkip.param .canRefPeriod 3 * 1000 ≤ wSkip.tb0)
    ∧ ((wCan.canOf 0).st ≠ .retired ∧ (wCan.canOf 0).st ≠ .disabled)
    ∧ (((wCan.setCan 3 { st := .integrating, retest := true }).canOf 3).retest = true ∧ ((wCan.setCan 3 { st := .integrating, retest := true }).canOf 3).st ≠ .retired ∧ ((wCan.setCan 3 { st := .integrating, retest := true }).canOf 3).retestAt ≤ (wCan.setCan 3 { st := .integrating, retest := true }).tb0)
    ∧ (let s : State := wUp.setCan 1 { retest := true }; (s.canOf 1).retest = true ∧ (s.canOf 1).st ≠ .retired ∧ (s.canOf 1).retestAt ≤ s.tb0) := by decide +kernel

theorem witness_CrcUnitsTakeEffect_events :
    (wUp.cuOf 0).retired = false
    ∧ (wUp.cuOf 3).retired = false
    ∧ (((wUp.setCu 3 { retest := true }).cuOf 3).retest = true ∧ ((wUp.setCu 3 { retest := true }).cuOf 3).retestAt ≤ (wUp.setCu 3 { retest := true }).tb0 ∧ ((wUp.setCu 3 { retest := true }).cuOf 3).retired = false)
    ∧ (List.range 8).all (fun v => !(wUp.cuSnoops v 1 0 true)) = true
    ∧ (let s : State := (wUp.setParam .cuStream 4 1).setParam .cuSel 4 9; Tab.wf (fun _ => ({} : CuRun)) s.cus = true ∧ s.cuSnoops 4 1 9 true = true ∧ s.cuServes 4 1 = false ∧ ∀ v, v < 8 → v ≠ 4 → s.cuSnoops v 1 9 true = false)
    ∧ (let s : State := (wUp.setParam .cuStream 4 4); s.cuSnoops 4 4 9 true = true ∧ ∀ v, v < 8 → v ≠ 4 → s.cuSnoops v 4 9 true = false ∧ s.cuServes v 4 = false)
    ∧ (wUp.param .cuCmpMode 3 = 0 ∧ wUp.param .cuAcEn 3 = 0 ∧ (wUp.cuOf 3).loaded = false) := by decide +kernel

theorem witness_ClockCommandsTakeEffect_events :
    (bitOf 9 0 = true ∧ wUp.windowUp = true ∧ bitOf 9 3 = wUp.rtc.trimEn ∧ wUp.rtc.halt = none)
    ∧ (wRtc.windowUp = true ∧ bitOf 8 3 = wRtc.rtc.trimEn ∧ wRtc.rtc.halt = some (0, (calRegs 0)) ∧ (calRegs 0).ok = true)
    ∧ (({ wRtc with rtc := { wRtc.rtc with halt := some (0, {}) } } : State).windowUp = true ∧ bitOf 8 3 = ({ wRtc with rtc := { wRtc.rtc with halt := some (0, {}) } } : State).rtc.trimEn ∧ ({ wRtc with rtc := { wRtc.rtc with halt := some (0, {}) } } : State).rtc.halt = some (0, ({} : CalRegs)) ∧ ({} : CalRegs).ok = false)
    ∧ (wUp.windowUp = true ∧ wUp.rtc.frozen = none)
    ∧ (wRtc.windowUp = true ∧ wRtc.rtc.frozen = some (0, {}))
    ∧ (wUp.windowUp = true ∧ wUp.rtc.frozen = none)
    ∧ wUp.windowUp = true
    ∧ wUp.windowUp = true
    ∧ wUp.windowUp = true := by decide +kernel

theorem witness_CalendarRoundTrip_events :
    (dateOk 2028 2 29 23 59 59 = true ∧ 1023 < 1024) := by decide +kernel

theorem witness_BackupDomainEvents_events :
    ((wUp.beOf 0).level ≠ true ∧ bitOf (wUp.beOf 0).edge 1 = true)
    ∧ (wUp.beOf 0).level = false
    ∧ (wRtc.rtc.halt = some (0, (calRegs 0)) ∧ 0 + 60000000000 ≤ (wRtc.tb0 : Int))
    ∧ (wRtc.rtc.frozen = some (0, {}) ∧ 0 + 1000000000 ≤ (wRtc.tb0 : Int))
    ∧ wUp.rtc.trimEn = true
    ∧ (wKept.power.mgmtUp = true ∧ 200 < (201 : Int).natAbs ∧ wKept.rtc.lost = false)
    ∧ (wUp.power.mgmtUp = true ∧ (200 : Int).natAbs ≤ 200)
    ∧ (wKept.rtc.lost = false ∧ wKept.power.mgmtUp = true)
    ∧ (let s : State := { wKept with rtc := { wKept.rtc with tick0 := rangeEndTicks - 1 } }; s.rtc.lost = false ∧ s.power.mgmtUp = true ∧ rangeEndTicks ≤ s.rtcTicks + 1)
    ∧ (wKept.rtc.lost = false ∧ wKept.power.mgmtUp = true) := by decide +kernel

theorem witness_TheRecorderKeepsItsHistory_events :
    (wDown.power.mgmtUp = false ∨ wDown.power.phase ≠ .running)
    ∧ (wUp.inControl.queue = [] ∧ wUp.inData.queue = [] ∧ wUp.inManagement.queue = [])
    ∧ (wFault.power.mgmtUp = true ∧ wFault.power.phase = .running ∧ wFault.recorder.drainNext = 0 ∧ wFault.inControl.queue = [wEv, wEv])
    ∧ ((wUp.advance 90000000000000).power.mgmtUp = true ∧ (wUp.advance 90000000000000).power.phase = .running ∧ (wUp.advance 90000000000000).recorder.lastPeriodic < (wUp.advance 90000000000000).tb0 / ((wUp.advance 90000000000000).param .recClosePeriod 0 * 1000000000) * ((wUp.advance 90000000000000).param .recClosePeriod 0 * 1000000000))
    ∧ (wSlot.count ≠ 0 ∧ { wSlot with count := 0 }.count = 0)
    ∧ ({ wSlot with count := 0 } : Slot).count = 0
    ∧ wSlot.count ≠ 0
    ∧ (([] : List HistRec).length < 8192 ∧ (∀ r ∈ ([⟨wSlot, 1, 1⟩] : List HistRec), sevOf r.slot.code < sevOf Code.fAcThermal.num))
    ∧ 8192 ≤ wFull.history.length
    ∧ (∀ r ∈ [wSlot], sevOf wSlot.code < sevOf 0x0180)
    ∧ wFull.history.length ≤ 8192 := by decide +kernel

theorem witness_UpdatesAreCheckedAndActivated_events :
    wUp.contCheck [] (zeros 4) false = 1
    ∧ (wUp.up = true ∧ wUp.bootRec.state ≠ 1)
    ∧ (wSched.up = true ∧ wSched.bootRec.state = 1 ∧ wSched.bootRec.immediate = false ∧ wSched.bootRec.base = 1 ∧ wSched.pair.st = .unpaired ∧ wSched.bootRec.instant ≤ wSched.baseNow 1 ∧ wSched.baseSynced 1 = true ∧ wSched.baseAt 1 wSched.power.startedAt ≤ wSched.bootRec.instant)
    ∧ (({ wSched with bases := [] } : State).up = true ∧ ({ wSched with bases := [] } : State).bootRec.state = 1 ∧ ({ wSched with bases := [] } : State).bootRec.immediate = false ∧ ({ wSched with bases := [] } : State).bootRec.base = 1 ∧ ({ wSched with bases := [] } : State).pair.st = .unpaired ∧ ({ wSched with bases := [] } : State).bootRec.instant ≤ ({ wSched with bases := [] } : State).baseNow 1 ∧ ({ wSched with bases := [] } : State).baseSynced 1 = false)
    ∧ (wTrial.up = true ∧ wTrial.bootRec.state = 5 ∧ wTrial.upd.active = wTrial.bootRec.slot ∧ wTrial.power.startedAt + 10000000000 ≤ wTrial.tb0 ∧ wTrial.faults.sev7 = none ∧ wTrial.stagedIn wTrial.bootRec.mask = [])
    ∧ (wUp.bootRec.state ≠ 5 ∨ wUp.tb0 < wUp.power.startedAt + 10000000000) := by decide +kernel

theorem witness_SessionsAreAuthenticated_events :
    (wFree.power.mgmtUp = true ∧ wFree.upd.ip = wFree.upd.ip ∧ wFree.disp.ivpasto.connected = false)
    ∧ (wHello.power.mgmtUp = true ∧ wHello.disp.ivpasto.connected = true ∧ wHello.disp.ivpasto.helloDone = false)
    ∧ leNat (slice (zeros 4) 2 1) ≠ 1
    ∧ (wUp.helloOk (zeros 4) = false ∧ wUp.upd.helloReplyAt = 0)
    ∧ (wUp.power.mgmtUp = true ∧ ({ wFree with disp := { wFree.disp with ivpasto := { connected := true, helloDone := true } } } : State).disp.ivpasto.isOpen = false ∧ (wUp.ivOpen []).isNone = true)
    ∧ (wUp.power.mgmtUp = true ∧ wUp.disp.ivpasto.connected = true ∧ wUp.disp.ivpasto.helloDone = true ∧ wUp.disp.ivpasto.isOpen = true ∧ (wUp.ivOpen []).isNone = true)
    ∧ ((wUp.advance 90000000000000).disp.ivpasto.isOpen = true ∧ (wUp.advance 90000000000000).disp.ivpasto.lastAt + (wUp.advance 90000000000000).param .svcIdle 0 * 1000000000 ≤ (wUp.advance 90000000000000).tb0)
    ∧ wHello.disp.ivpasto.isOpen = false
    ∧ wUp.disp.ivpasto.isOpen = true
    ∧ (mgmtType (zeros 12 ++ [4] ++ zeros 19) = 4 ∧ ({ wUp with net := { wUp.net with mgmtIn := [(3, 0, zeros 12 ++ [4] ++ zeros 19)] } } : State).net.mgmtIn = [(3, 0, zeros 12 ++ [4] ++ zeros 19)] ∧ wUp.power.mgmtUp = true ∧ wUp.cred.stationKey = none ∧ Tab.get (fun _ => 0) wUp.disp.authReplyAt 3 = 0)
    ∧ (mgmtType (zeros 64) ≠ 4 ∧ mgmtType (zeros 64) ≠ 6 ∧ wMgmt.net.mgmtIn = [(3, 0, zeros 64)] ∧ wMgmt.power.mgmtUp = true ∧ (wMgmt.mgmtAccept (zeros 64)).isNone = true)
    ∧ (mgmtType (zeros 12 ++ [6] ++ zeros 19) = 6 ∧ (wUp.mgmtAccept (zeros 12 ++ [6] ++ zeros 19)).isNone = true) := by decide +kernel

theorem witness_SessionsAreAuthenticated_events_2 :
    (wUp.omnarOf 1 = some ({ id := 1 } : OmnarSession) ∧ ({ id := 1 } : OmnarSession).lastAt + 60000000000 ≤ wUp.tb0)
    ∧ (({ wUp with disp := { wUp.disp with omnar := [{ id := 1, lastAt := 100000000000 }] } } : State).omnarOf 1) = some { id := 1, lastAt := 100000000000 }
    ∧ ({ id := 1 } : OmnarSession).fresh 1 = true := by decide +kernel

theorem witness_PanelTakesEffect_events :
    (wPen.power.mgmtUp = true ∧ wPen.panel.pen = true ∧ wPen.panel.on = false ∧ wPen.panel.penAt + 50000000 ≤ wPen.tb0 ∧ wPen.param .pnlKind 0 = 1 ∧ wPen.panel.clearing = none)
    ∧ ((wShow 1).panel.on = true ∨ (wShow 1).tb0 < (wShow 1).panel.penAt + 50000000)
    ∧ ((wShow 1).power.mgmtUp = true ∧ (wShow 1).panel.on = true ∧ (wShow 1).panel.pen = true ∧ (wShow 1).power.phase = .running ∧ (wShow 1).panel.strip = some (wShow 1).stripNow ∧ (wShow 1).param .pnlKind 0 = 1)
    ∧ ((wShow 2).power.mgmtUp = true ∧ (wShow 2).panel.on = true ∧ (wShow 2).panel.pen = true ∧ (wShow 2).power.phase = .running ∧ (wShow 2).panel.strip = some (wShow 2).stripNow ∧ (wShow 2).param .pnlKind 0 = 2)
    ∧ (wShow 1).panel.waves.find? (fun x => x.region == 1 && decide (x.len ≤ x.phase)) = some { region := 1, cells := [], band := 0, phase := 2, len := 2 }
    ∧ ({ wUp with panel := { wUp.panel with waves := [{ region := 33, cells := [], band := 0, phase := 2, len := 2 }] } } : State).panel.waves.find? (fun x => x.region == 33 && decide (x.len ≤ x.phase)) = some { region := 33, cells := [], band := 0, phase := 2, len := 2 }
    ∧ (wShow 1).panel.waves.find? (fun x => x.region == 2 && decide (x.len ≤ x.phase)) = none
    ∧ ((wShow 1).panel.on = true ∧ (wShow 1).param .pnlIdle 0 ≠ 0 ∧ (wShow 1).panel.lastUpdate + (wShow 1).param .pnlIdle 0 * 1000000000 ≤ (wShow 1).tb0 ∧ (wShow 1).panel.low = false)
    ∧ (wUp.panel.on = false ∨ wUp.param .pnlIdle 0 = 0 ∨ wUp.tb0 < wUp.panel.lastUpdate + wUp.param .pnlIdle 0 * 1000000000) := by decide +kernel

theorem witness_FaultCommandsTakeEffect_events :
    wUp.faults.testing.find? (fun u => u.key == { cls := 1, index := 0, sub := 0 }) = none
    ∧ (wFault.faults.testing.find? (fun y => y.key == { cls := 1, index := 2 }) = some { key := { cls := 1, index := 2 }, entry := wEntry } ∧ wFault.reinstSafety { cls := 1, index := 2 } = false) := by decide +kernel

theorem witness_TheFaultManagerDecides_events :
    wDown.power.mgmtUp = false
    ∧ (wFault.faults.inbox.find? (fun e => !(wFault.faultWaits e)) = some wEv ∧ faultKeyOf wEv = some { cls := 1, index := 1 } ∧ ({ wFault with faults := { wFault.faults with inbox := [] } } : State).newFaults { cls := 1, index := 1 } wEv = 1)
    ∧ (∀ x ∈ wFault.faults.march, x.1 ≠ 2)
    ∧ wFault.faults.march = [(1, 7, .idle)]
    ∧ ((1, 7, MemUser.idle) ∈ wFault.faults.march ∧ (1, 7, MemUser.idle).1 = 1) := by decide +kernel

/-- A queue of one well-formed command, which a step takes. -/
theorem witness_WellFormedQueuesRunOn : ({ wUp with pending := [.modNop 0 (dir .host 1 0 0 0 [])] } : State).queueWf = true
    ∧ (match step { wUp with pending := [.modNop 0 (dir .host 1 0 0 0 [])] } with | .next u => u.pending.isEmpty && u.queueWf | _ => false) = true := by
  decide +kernel

/-! ## The spec's own examples -/

/-- The state that a row leaves. -/
def wAfter (i : Instr) (s : State) : State := match exec i s with | .next t => t | _ => {}

/-- "123456789" of the preset table of 16 R448. -/
def wDigits : Bytes := [0x31, 0x32, 0x33, 0x34, 0x35, 0x36, 0x37, 0x38, 0x39]

/-- 16 R448, the last column of its preset table. -/
theorem test_crc_presets : crc32 wDigits = 0xCBF43926 ∧ crc32c wDigits = 0xE3069283
    ∧ crcFinish 16 false 0 (crcRun 16 0x1021 false 0xFFFF wDigits) = 0x29B1
    ∧ crcFinish 8 false 0 (crcRun 8 0x07 false 0 wDigits) = 0xF4 := by decide +kernel

/-- Unit 5 of the example of 16 R450: `AC_GAP` 2, a 2-byte counter. -/
def wCu5 : State := ((wUp.setParam .cuAcEn 5 1).setParam .cuAcWidth 5 2).setParam .cuAcGap 5 2
def wCounts (l : List Nat) : Option Nat × Nat :=
  let s := l.foldl (fun s v => s.cuAlive 5 1 (leBytes 2 v)) wCu5
  ((s.cuOf 5).base, (s.cuOf 5).aliveFails)

/-- The table of the example of 16 R450. -/
theorem test_alive_counter : wCounts [0xFFFE] = (some 0xFFFE, 0) ∧ wCounts [0xFFFE, 0xFFFF, 0x0001] = (some 1, 0)
    ∧ wCounts [0xFFFE, 0xFFFF, 0x0001, 0x0001] = (none, 1) ∧ wCounts [0xFFFE, 0xFFFF, 0x0001, 0x0001, 0x0004] = (some 4, 1)
    ∧ wCounts [0xFFFE, 0xFFFF, 0x0001, 0x0001, 0x0004, 0x0007] = (none, 2) := by decide +kernel

/-- The example of 17 R465: 2100 is not a leap year. -/
theorem test_leap_year : dateOk 2100 2 29 8 0 0 = false ∧ dateOk 2096 2 29 8 0 0 = true ∧ dateOk 2099 6 10 14 0 0 = true := by decide +kernel

/-- The example of 21 R522: three faults within 540 s retire with N 3 and W 600 s; with the third at 610 s they do not. -/
theorem test_fault_window : nWithin 3 600 [0, 250, 540] = true ∧ nWithin 3 600 [0, 250, 610] = false := by decide +kernel

/-- The example of 21, step 1: monitor and readback of AC7 differ by 0.31 mA; F_AC_READBACK with quantity 0x0700_0136, sequence 1. -/
theorem test_ac_readback : ((wAfter (.acDiagnostic 0 7 .readback ⟨12310000, 12000000, 0, 0⟩)
      { (wUp.setParam .acMode 7 3) with ac := [(7, { st := .inService, powered := true })] }).inData.queue.map
        (fun e => (e.code, e.quantity, e.detail % 256))) = [(.fAcReadback, 0x07000136, 1)] := by decide +kernel

/-- The entries of 04 R97 by hand: `MOD.ABORT` (0x0102) of tag 0x0000_0101 with tag 0x0000_0103. -/
theorem test_submission_entry :
    parseEntry .host 0 ([0x02, 0x01, 0x00, 0x01, 0x00, 0x00, 0x00, 0x00, 0x03, 0x01, 0x00, 0x00, 0x00, 0x00, 0x00, 0x00,
      0x01, 0x01, 0x00, 0x00] ++ zeros 44) none
      = (0x0102, { wCmd .host 1 0 0 0 0 ([0x01, 0x01, 0x00, 0x00] ++ zeros 44) none with tag := 0x103 }) := by decide +kernel

/-- The completion entry of 04 R97 by hand: tag, S_OK, head 0, result 0, slot 0, `PHASE` 1 in the first pass. -/
theorem test_nop_completion :
    Tab.getBytes (wAfter (.modNop 0 { dir .host 1 0 0 0 [] with tag := 0x103 }) wUp).host.mem 0 16
      = [0x03, 0x01, 0x00, 0x00, 0x00, 0x00, 0x00, 0x00, 0x00, 0x00, 0x00, 0x00, 0x00, 0x00, 0x00, 0x01] := by decide +kernel

/-- A 16-entry ring takes tail 1 (04 R99); 16 is ring fault cause 0x02. -/
theorem test_doorbell : ((wAfter (.dbSqTail 0 1) wRing).ring 0).tail = 1 ∧ (wAfter (.dbSqTail 0 1) wRing).host.faultCause = 0
    ∧ (wAfter (.dbSqTail 0 16) wRing).host.faultCause = 2 ∧ ((wAfter (.dbSqTail 0 16) wRing).ring 0).run = false := by decide +kernel

/-! ## Well-formedness refuses what it should -/

theorem test_wf_command_fields :
    [{ dir .host 1 0 0 0 [] with slot := 65536 }, { dir .host 1 0 0 0 [] with flags := 256 }, { dir .host 1 0 0 0 [] with tgtClass := 256 },
     { dir .host 1 0 0 0 [] with tgtIndex := 65536 }, { dir .host 1 0 0 0 [] with tgtSub := 256 }, { dir .host 1 0 0 0 [] with rsv := 256 },
     { dir .host 1 0 0 0 [] with tag := 4294967296 }, { dir .host 1 0 0 0 [] with handle := 4294967296 },
     { dir .host 1 0 0 0 [] with params := zeros 47 }, { dir .host 1 0 0 4 [] with block := some (zeros 4097) }].map
      (fun c => (Instr.modNop 0 c).wf) = List.replicate 10 false ∧ (Instr.modNop 0 (dir .host 1 0 0 0 [])).wf = true := by decide +kernel

theorem test_wf_events :
    [Instr.acThermal 0 32 0, .dbSqTail 0 4294967296, .connWatchdogExpiry 0 0x2000, .ptpSyncSend 0 3, .couplerFrameOut 0 ⟨.so 8, false⟩,
     .couplerFrameIn 0 (.axis 4 ⟨0, 0, 0, 0⟩) false, .networkFrameReceived 0 { wFrame with port := 2 },
     .networkFrameReceived 0 { wFrame with srcMac := 281474976710656 }, .canFrameReceived 0 0 { wCanF with xid := 4294967296 } 0,
     .canFrameReceived 0 0 { wCanF with data := zeros 65 } 0].map Instr.wf = List.replicate 10 false := by decide +kernel

end
end

section
/-! PROOFS. Statements of the host interface (04): what the shared host operations leave, a rule per outcome of an event offered to the
host's ring, the checks of a command apart from its own, and the numbers of the recorder's codes. -/

namespace Sys2Proof.Machine

/-! ## The numbers of the recorder's codes (04 R110) -/

/-- No two codes share a number: the look-up by number finds the code itself. -/
@[simp] theorem Code.ofNum_num (c : Code) : Code.ofNum c.num = some c := by cases c <;> decide +kernel

theorem Code.mem_all (c : Code) : c ∈ Code.all := List.mem_of_find?_eq_some (Code.ofNum_num c)

theorem Code.num_injective : Function.Injective Code.num := fun c d h =>
  Option.some.inj (by rw [← Code.ofNum_num c, h, Code.ofNum_num])

theorem Code.sev_le_three_of_low (c : Code) : c.num % 256 ≤ 0x7F → c.sev ≤ 3 :=
  (show ∀ c ∈ Code.all, c.num % 256 ≤ 0x7F → c.sev ≤ 3 by decide +kernel) c c.mem_all

theorem Code.sev_of_high (c : Code) : 0x80 ≤ c.num % 256 → 4 ≤ c.sev ∧ c.sev ≤ 7 :=
  (show ∀ c ∈ Code.all, 0x80 ≤ c.num % 256 → 4 ≤ c.sev ∧ c.sev ≤ 7 by decide +kernel) c c.mem_all

/-! ## The host interface under the shared operations -/

@[simp] theorem State.post_host (p : Plane) (c : Code) (src : Res) (n : Nat) (s : State) (d : Nat) :
    (s.post p c src n d).host = s.host := by
  cases p <;> rfl

/-- A vector's interrupt is counted or left pending; nothing else of the host interface changes (04 R87, R94). -/
theorem State.raiseVector_host (k : Nat) (s : State) :
    ∃ pend irqs, (s.raiseVector k).host = { s.host with msixPending := pend, irqs := irqs } := by
  unfold State.raiseVector
  dsimp only
  split
  · exact ⟨_, _, rfl⟩
  · split <;> exact ⟨_, _, rfl⟩

@[simp] theorem State.raiseVector_mem (k : Nat) (s : State) : (s.raiseVector k).host.mem = s.host.mem := by
  obtain ⟨_, _, h⟩ := s.raiseVector_host k
  rw [h]

@[simp] theorem State.raiseVector_rings (k : Nat) (s : State) : (s.raiseVector k).host.rings = s.host.rings := by
  obtain ⟨_, _, h⟩ := s.raiseVector_host k
  rw [h]

@[simp] theorem State.raiseVector_eventLost (k : Nat) (s : State) : (s.raiseVector k).host.eventLost = s.host.eventLost := by
  obtain ⟨_, _, h⟩ := s.raiseVector_host k
  rw [h]

@[simp] theorem State.raiseVector_eqLostSince (k : Nat) (s : State) : (s.raiseVector k).host.eqLostSince = s.host.eqLostSince := by
  obtain ⟨_, _, h⟩ := s.raiseVector_host k
  rw [h]

/-- A ring that differs from an unlisted one reads back, whatever the table of rings. -/
theorem State.ring_setRing_of_ne (k : Nat) (r : Ring) (s : State) (h : r ≠ {}) : (s.setRing k r).ring k = r :=
  Tab.get_put_of_ne _ k r h

/-- A ring fault changes of the rings the faulted one alone, which stops with its fault bit set (04 R99), and counts no lost event. -/
theorem State.ringFault_host (k cause : Nat) (s : State) :
    (s.ringFault k cause).host.rings = (s.setRing k { s.ring k with run := false, fault := true }).host.rings
      ∧ (s.ringFault k cause).host.eventLost = s.host.eventLost := by
  unfold State.ringFault
  dsimp only
  rw [State.post_host, State.raiseVector_rings, State.raiseVector_eventLost]
  split <;> exact ⟨rfl, rfl⟩

theorem State.ringFault_ring (k cause : Nat) (s : State) :
    (s.ringFault k cause).ring k = { s.ring k with run := false, fault := true } := by
  obtain ⟨hrings, -⟩ := s.ringFault_host k cause
  rw [State.ring, hrings]
  exact s.ring_setRing_of_ne k _ (fun h => Bool.noConfusion (congrArg Ring.fault h))

/-! ## An event offered to the host's event ring (04 R102), by its outcomes -/

@[simp] theorem leBytes_length (n v : Nat) : (leBytes n v).length = n := by
  induction n generalizing v with
  | zero => rfl
  | succ n ih => simp [leBytes, ih]

@[simp] theorem eventEntry_length (e : Event) (n lost : Nat) (phase : Bool) : (eventEntry e n lost phase).length = 32 := by
  simp [eventEntry]

/-- `LOST` is byte 30 of the entry (04 R97). -/
theorem eventEntry_lost (e : Event) (n lost : Nat) (phase : Bool) :
    (eventEntry e n lost phase)[30]'(by simp) = BitVec.ofNat 8 (min 255 lost) := rfl

@[simp] theorem State.eventLost1_ring (s : State) (k : Nat) : s.eventLost1.ring k = s.ring k := rfl

section
variable {s : State} {e : Event} {n : Nat}

/-- The ring takes no entry: it is disabled or stopped, or has no released entry. -/
theorem State.offerHost_of_full (wf : Bool) (hsev : s.host.eqMinSev ≤ e.code.sev)
    (h : (s.ring 2).run = false ∨ ((s.ring 2).tail + 1) % (s.ring 2).size = (s.ring 2).head) : s.offerHost e n wf = s.eventLost1 := by
  simp [State.offerHost, Nat.not_lt.2 hsev, h]

/-- The link refuses the write of the entry: the ring stops, and the event is lost. -/
theorem State.offerHost_of_writeFails (hsev : s.host.eqMinSev ≤ e.code.sev) (hrun : (s.ring 2).run = true)
    (hroom : ((s.ring 2).tail + 1) % (s.ring 2).size ≠ (s.ring 2).head) :
    s.offerHost e n true = (s.ringFault 2 0x04).eventLost1 := by
  simp [State.offerHost, Nat.not_lt.2 hsev, hrun, hroom]

/-- The entry is written with the losses before it, which then count from zero. -/
theorem State.offerHost_of_room (hsev : s.host.eqMinSev ≤ e.code.sev) (hrun : (s.ring 2).run = true)
    (hroom : ((s.ring 2).tail + 1) % (s.ring 2).size ≠ (s.ring 2).head) :
    (s.offerHost e n false).host.mem
        = Tab.putBytes s.host.mem ((s.ring 2).base + 32 * (s.ring 2).tail) (eventEntry e n s.host.eqLostSince (s.ring 2).phase)
      ∧ (s.offerHost e n false).host.eqLostSince = 0
      ∧ (s.offerHost e n false).host.eventLost = s.host.eventLost := by
  simp [State.offerHost, Nat.not_lt.2 hsev, hrun, hroom, State.setRing, State.hostWrite]

end

/-! ## A command's own check after all others (04 R105) -/

/-- A command that passes every check but its own kind's is answered by that one alone. -/
theorem CmdSpec.refusal_of_others {k : CmdSpec} {e : Entry} {s : State}
    (h : CmdSpec.refusal { k with check := fun _ _ => .sOk } e s = none) :
    k.refusal e s = if k.check s e.cmd = .sOk then none else some (k.check s e.cmd) := by
  obtain ⟨hform, htag, hroute, htarget, hsession, hactive, hparams, -⟩ := refusal_none h
  dsimp only at hform hroute htarget hsession hactive hparams
  simp only [CmdSpec.refusal, hform, htag, hroute, htarget, hsession, hactive, hparams, not_true_eq_false, Bool.false_eq_true, if_false,
    ne_eq, ite_not]

theorem CmdSpec.refusal_of_check_ok {k : CmdSpec} {e : Entry} {s : State}
    (h : CmdSpec.refusal { k with check := fun _ _ => .sOk } e s = none) (hok : k.check s e.cmd = .sOk) : k.refusal e s = none := by
  rw [CmdSpec.refusal_of_others h, if_pos hok]

theorem CmdSpec.refusal_of_check_fails {k : CmdSpec} {e : Entry} {s : State} {st : Status}
    (h : CmdSpec.refusal { k with check := fun _ _ => .sOk } e s = none) (hcheck : k.check s e.cmd = st) (hst : st ≠ .sOk) :
    k.refusal e s = some st := by
  subst hcheck
  rw [CmdSpec.refusal_of_others h, if_neg hst]

/-- A command that no owner has to take is taken once its checks pass. -/
theorem CmdSpec.taken_of_no_owner {k : CmdSpec} {t : Nat} {c : Cmd} {s : State} (hreach : k.reaches t c s = true)
    (hpass : k.refusal (s.entryFor k.op c) (s.arrived k.op t c) = none) (howner : k.owner (s.arrived k.op t c) c = none) :
    k.taken t c s = true := by
  simp [CmdSpec.taken, CmdSpec.passes, CmdSpec.actsNow, hreach, hpass, howner]

/-! ## `MOD.ABORT` (04 R107), by the command in flight that it names -/

theorem exec_modAbort (t : Nat) (c : Cmd) (s : State) : exec (.modAbort t c) s = .next (specModAbort.submit c (s.advance t)) := rfl

/-- A named command that was dispatched is out of reach. -/
theorem specModAbort_check_of_some {s : State} {c : Cmd} {f : Flight} (h : s.abortTarget c = some f) :
    specModAbort.check s c = whenS f.dispatched .sTooLate := by
  simp [specModAbort, h]

theorem specModAbort_check_of_none {s : State} {c : Cmd} (h : s.abortTarget c = none) : specModAbort.check s c = .sNotFound := by
  simp [specModAbort, h]

/-- The withdrawal: the named command leaves the queue and completes with S_ABORTED. -/
theorem specModAbort_run_of_some {s : State} {e : Entry} {f : Flight} (h : s.abortTarget e.cmd = some f) :
    specModAbort.run e s = .ok
      (({ s with disp := { s.disp with queue := s.disp.queue.filter (fun q => q.id != f.entry.id) } } : State).complete f.entry .sAborted 0 []) := by
  simp [specModAbort, h]

end Sys2Proof.Machine

open Sys2Proof Sys2Proof.Machine

/-- Settles O9: the number determines the code, and each half of a class's numbers keeps to its severities. -/
theorem codeNumbersGiveTheSeverityGroup : Obligations.CodeNumbersGiveTheSeverityGroup := fun c =>
  ⟨c.sev_le_three_of_low, c.sev_of_high, fun _ h => congrArg Code.sev (Code.num_injective h)⟩

/-- Settles O12, by the outcomes of an offer: no entry to take, an entry written, a write refused. -/
theorem fullEventRingsCountTheirLosses : Obligations.FullEventRingsCountTheirLosses := by
  intro s e n wf hsev
  refine ⟨fun hfull => State.offerHost_of_full wf hsev hfull, fun hrun hroom hmem => ?_, fun hrun hroom => ?_⟩
  · obtain ⟨written, restarted, kept⟩ := State.offerHost_of_room (n := n) hsev hrun hroom
    refine ⟨?_, restarted, kept⟩
    rw [written, Tab.get_putBytes _ 30 _ hmem (by simp), eventEntry_lost]
  · rw [State.offerHost_of_writeFails hsev hrun hroom]
    refine ⟨?_, ?_⟩
    · obtain ⟨-, kept⟩ := s.ringFault_host 2 0x04
      simp [State.eventLost1, kept]
    · rw [State.eventLost1_ring, State.ringFault_ring]

/-- Settles O13, by what the table of flights holds under the named tag: a held command, a dispatched one, none. -/
theorem abortWithdrawsHeldCommands : Obligations.AbortWithdrawsHeldCommands := by
  rintro t c s w e rfl rfl hreach hothers
  rw [exec_modAbort]
  refine ⟨fun f hf => ⟨fun hheld => ?_, fun hgone => ?_⟩, fun hnone => ?_⟩
  · have inReach : specModAbort.check (s.arrived 0x0102 t c) c = .sOk := by
      rw [specModAbort_check_of_some hf, hheld]
      rfl
    have withdrawn := specModAbort_run_of_some (e := s.entryFor 0x0102 c) hf
    rw [submit_of_taken (CmdSpec.taken_of_no_owner hreach (CmdSpec.refusal_of_check_ok hothers inReach) rfl)]
    exact congrArg (fun r => Host.Outcome.next (State.finish _ _ r)) withdrawn
  · have tooLate : specModAbort.check (s.arrived 0x0102 t c) c = .sTooLate := by
      rw [specModAbort_check_of_some hf, hgone]
      rfl
    rw [submit_of_refusal hreach (CmdSpec.refusal_of_check_fails hothers tooLate (by decide))]
    rfl
  · have notFound := specModAbort_check_of_none hnone
    rw [submit_of_refusal hreach (CmdSpec.refusal_of_check_fails hothers notFound (by decide))]
    rfl
end

section
/-! PROOFS. Comparison blocks (06 R170, R178): the order of NaNs and of zeros in a format, and what a comparison block writes for an order. -/

namespace Sys2Proof.Machine

/-! ## The order of two real patterns (06 R170) -/

theorem Fmt.isNan_iff (f : Fmt) (b : Nat) : f.isNan b = true ↔ f.decode b = .nan := by
  cases h : f.decode b <;> simp [Fmt.isNan, h]

/-- A NaN on either side has no order. -/
theorem Fmt.cmp_of_nan {f : Fmt} {a b : Nat} (h : f.isNan a = true ∨ f.isNan b = true) : f.cmp a b = none := by
  rw [Fmt.isNan_iff, Fmt.isNan_iff] at h
  rcases h with ha | hb
  · simp [Fmt.cmp, ha]
  · cases ha : f.decode a <;> simp [Fmt.cmp, ha, hb]

/-- The bare sign bit reads as the zero of its sign. -/
theorem Fmt.decode_sign {f : Fmt} (heb : 0 < f.eb) (hsub : f.subnormal = false) (neg : Bool) : f.decode (f.sign neg) = .fin neg 0 0 := by
  have hbit : bitOf (f.sign neg) (f.eb + f.mb) = neg := by
    cases neg <;> simp [bitOf, Fmt.sign]
  have hexp : bitsOf (f.sign neg) (f.eb + f.mb - 1) f.mb = 0 := by
    have hwidth : f.eb + f.mb - 1 + 1 - f.mb = f.eb := by omega
    cases neg <;> simp [bitsOf, hwidth, Fmt.sign, Nat.pow_add]
  have hmax : (0 : Nat) ≠ 2 ^ f.eb - 1 := by
    have := Nat.one_lt_two_pow heb.ne'
    omega
  simp [Fmt.decode, hbit, hexp, hmax, hsub]

/-- Zeros compare equal whatever their signs. -/
theorem Fmt.cmp_sign {f : Fmt} (heb : 0 < f.eb) (hsub : f.subnormal = false) (x y : Bool) :
    f.cmp (f.sign x) (f.sign y) = some .eq := by
  have zero : ∀ neg, sm neg 0 = 0 := by decide
  simp [Fmt.cmp, Fmt.decode_sign heb hsub, zero]

theorem tyFmt_eb_pos (t : Nat) : 0 < (tyFmt t).eb := by
  unfold tyFmt
  split <;> decide

@[simp] theorem tyFmt_subnormal (t : Nat) : (tyFmt t).subnormal = false := by
  unfold tyFmt
  split <;> rfl

theorem tyCmp_of_real {t : Nat} (h : tyReal t = true) (x y : Nat) : tyCmp t x y = (tyFmt t).cmp x y := by
  simp [tyCmp, h]

/-! ## What a comparison block writes (06 R178) -/

/-- The codes of the comparison blocks: `GT`, `GE`, `EQ`, `LE`, `LT`, `NE`. -/
def cmpCodes : List Nat := [0x0400, 0x0401, 0x0402, 0x0403, 0x0404, 0x0405]

theorem evSelect_outs_of_cmpCode {code : Nat} (h : code ∈ cmpCodes) (a : Args) (c : Ctx) :
    (evSelect code a c).outs = [some (b2n (cmpHolds code (tyCmp (a.ty 0) (a.v 0) (a.v 1))))] := by
  simp only [cmpCodes, List.mem_cons, List.not_mem_nil, or_false] at h
  rcases h with rfl | rfl | rfl | rfl | rfl | rfl <;> rfl

/-- Operands without an order make `NE` TRUE and the five other blocks FALSE. -/
theorem cmpHolds_none : ∀ code ∈ cmpCodes, cmpHolds code none = decide (code = 0x0405) := by decide

/-- Equal operands make the blocks that admit equality TRUE and the others FALSE. -/
theorem cmpHolds_eq : ∀ code ∈ cmpCodes, cmpHolds code (some .eq) = decide (code ∈ [0x0401, 0x0402, 0x0403]) := by decide

theorem evSelect_outs_of_nan {a : Args} (hreal : tyReal (a.ty 0) = true)
    (hnan : (tyFmt (a.ty 0)).isNan (a.v 0) = true ∨ (tyFmt (a.ty 0)).isNan (a.v 1) = true)
    {code : Nat} (h : code ∈ cmpCodes) (c : Ctx) : (evSelect code a c).outs = [some (b2n (decide (code = 0x0405)))] := by
  rw [evSelect_outs_of_cmpCode h, tyCmp_of_real hreal, Fmt.cmp_of_nan hnan, cmpHolds_none code h]

theorem evSelect_outs_of_zeros {a : Args} (hreal : tyReal (a.ty 0) = true) {x y : Bool}
    (h0 : a.v 0 = (tyFmt (a.ty 0)).sign x) (h1 : a.v 1 = (tyFmt (a.ty 0)).sign y)
    {code : Nat} (h : code ∈ cmpCodes) (c : Ctx) :
    (evSelect code a c).outs = [some (b2n (decide (code ∈ [0x0401, 0x0402, 0x0403])))] := by
  rw [evSelect_outs_of_cmpCode h, tyCmp_of_real hreal, h0, h1, Fmt.cmp_sign (tyFmt_eb_pos _) (tyFmt_subnormal _), cmpHolds_eq code h]

end Sys2Proof.Machine

open Sys2Proof Sys2Proof.Machine

/-- Settles O10: a NaN leaves the operands without an order, two zeros are equal, and the order alone gives what each block writes. -/
theorem comparisonsWithNaNAndZero : Obligations.ComparisonsWithNaNAndZero := by
  intro a c hreal
  refine ⟨fun hnan => ⟨fun code h => ?_, ?_⟩, fun x y h0 h1 => ⟨fun code h => ?_, fun code h => ?_⟩⟩
  · obtain ⟨hcode, hne⟩ : code ∈ cmpCodes ∧ code ≠ 0x0405 := by revert code; decide
    simp [evSelect_outs_of_nan hreal hnan hcode, hne, b2n]
  · exact evSelect_outs_of_nan hreal hnan (by decide) c
  · have hcode : code ∈ cmpCodes := by revert code; decide
    simp only [evSelect_outs_of_zeros hreal h0 h1 hcode, h, decide_true, b2n, if_true]
  · obtain ⟨hcode, hother⟩ : code ∈ cmpCodes ∧ code ∉ [0x0401, 0x0402, 0x0403] := by revert code; decide
    simp [evSelect_outs_of_zeros hreal h0 h1 hcode, hother, b2n]
end

section
/-! PROOFS. Check units (16 R455): the bytes of a number read back, and the record of a check unit as an input entry's value. -/

namespace Sys2Proof.Machine

/-! ## The number that little-endian bytes spell (00 R3) -/

/-- The bytes of a number spell it, but for the bits that they have no room for. -/
theorem leNat_leBytes (n v : Nat) : leNat (leBytes n v) = v % 256 ^ n := by
  induction n generalizing v with
  | zero => simp [leBytes, leNat, Nat.mod_one]
  | succ n ih =>
    calc leNat (leBytes (n + 1) v) = v % 256 + 256 * (v / 256 % 256 ^ n) := by simp [leBytes, leNat, ih]
      _ = v % 256 ^ (n + 1) := by rw [Nat.pow_succ', Nat.mod_mul]

/-- A number's bytes inside a text are read where the text before them ends. -/
theorem leNat_slice_leBytes {a : Bytes} {off : Nat} (ha : a.length = off) (n v : Nat) (y : Bytes) :
    leNat (slice (a ++ (leBytes n v ++ y)) off n) = v % 256 ^ n := by
  have hmid := slice_mid a (leBytes n v) y
  rw [leBytes_length, ha] at hmid
  rw [hmid, leNat_leBytes]

/-! ## The record of a check unit (16 R455) -/

@[simp] theorem State.cuRecord_length (s : State) (u : Nat) : (s.cuRecord u).length = 16 := by
  simp [State.cuRecord]

/-- The record's four words: the last result and the three counts, each modulo 2^32.
Each grouping of the four puts one word between the words before it and those after it. -/
theorem State.cuRecord_words (s : State) (u : Nat) :
    leNat (slice (s.cuRecord u) 0 4) = (s.cuOf u).result % 2 ^ 32
      ∧ leNat (slice (s.cuRecord u) 4 4) = (s.cuOf u).streams % 2 ^ 32
      ∧ leNat (slice (s.cuRecord u) 8 4) = (s.cuOf u).mismatches % 2 ^ 32
      ∧ leNat (slice (s.cuRecord u) 12 4) = (s.cuOf u).aliveFails % 2 ^ 32 := by
  have first (x y z w : Bytes) : x ++ y ++ z ++ w = [] ++ (x ++ (y ++ z ++ w)) := by simp
  have second (x y z w : Bytes) : x ++ y ++ z ++ w = x ++ (y ++ (z ++ w)) := by simp
  have third (x y z w : Bytes) : x ++ y ++ z ++ w = (x ++ y) ++ (z ++ w) := by simp
  have fourth (x y z w : Bytes) : x ++ y ++ z ++ w = (x ++ y ++ z) ++ (w ++ []) := by simp
  unfold State.cuRecord
  refine ⟨?_, ?_, ?_, ?_⟩
  · rw [first]
    exact leNat_slice_leBytes rfl 4 _ _
  · rw [second]
    exact leNat_slice_leBytes rfl 4 _ _
  · rw [third]
    exact leNat_slice_leBytes rfl 4 _ _
  · rw [fourth]
    exact leNat_slice_leBytes rfl 4 _ _

/-- The value of an input entry of class 0x0D is its unit's record; a retired unit's has quality BAD (16 R454). -/
theorem State.latchValue_of_checkUnit (s : State) {e : MapEntry} (h : e.cls = 0x0D) :
    s.latchValue e = (s.cuRecord e.index, if (s.cuOf e.index).retired then 0x80 else 0) := by
  simp [State.latchValue, h]

/-- An input entry of class 0x0D names one of the eight units, with sub-index 0. -/
theorem State.inForm_of_checkUnit (s : State) {e : MapEntry} (h : e.cls = 0x0D) :
    s.inForm e = if e.index < 8 ∧ e.sub = 0 then some (0, 16) else none := by
  simp [State.inForm, h]

/-- The class 0x0D has no output entry. -/
theorem State.outForm_of_checkUnit (s : State) {e : MapEntry} (h : e.cls = 0x0D) : s.outForm e = none := by
  simp [State.outForm, h]

end Sys2Proof.Machine

open Sys2Proof Sys2Proof.Machine

/-- Settles O11: the class fixes the entry's form, and its value is the unit's record, read word by word. -/
theorem checkUnitRecordInTheImage : Obligations.CheckUnitRecordInTheImage := by
  refine ⟨fun s e hcls => ⟨s.inForm_of_checkUnit hcls, s.outForm_of_checkUnit hcls⟩, ?_⟩
  rintro s e hcls - - b rfl
  rw [State.latchValue_of_checkUnit s hcls]
  exact ⟨s.cuRecord_length e.index, s.cuRecord_words e.index⟩
end

section
/-! PROOFS. The shape of a step, the state after reset, and the independence of like resources. -/

namespace Sys2Proof.Machine
variable {α : Type} [DecidableEq α] {d : Nat → α}

/-- A write to a canonical table leaves every other key, reads back, and keeps the form. -/
theorem Tab.put_independent {t : Tab α} {n m : Nat} (hne : n ≠ m) (v : α) (h : Tab.wf d t = true) :
    Tab.get d (Tab.put d t n v) m = Tab.get d t m ∧ Tab.get d (Tab.put d t n v) n = v ∧ Tab.wf d (Tab.put d t n v) = true :=
  ⟨Tab.get_put_other n m v h hne.symm, Tab.get_put n v h, Tab.wf_put n v h⟩
end Sys2Proof.Machine
open Sys2Proof Sys2Proof.Machine

/-- Settles O7: each kind of resource is one sparse table, and every write goes to one key of it. -/
theorem resourcesAreIndependent : Obligations.ResourcesAreIndependent := by
  intro s n m hne
  exact ⟨fun x h => Tab.put_independent hne x h, fun x h => Tab.put_independent hne x h, fun x h => Tab.put_independent hne x h,
    fun x h => Tab.put_independent hne x h, fun x h => Tab.put_independent hne x h, fun x h => Tab.put_independent hne x h,
    fun x h => Tab.put_independent hne x h, fun x h => Tab.put_independent hne x h⟩
/-- Settles O1: both equations are the definition's, branch by branch. -/
theorem stepTakesTheFrontCommand : Obligations.StepTakesTheFrontCommand :=
  ⟨fun c r s h => by rw [step, h], fun s h => by rw [step, h], fun _ _ _ => rfl⟩

/-- Settles O8. -/
theorem resetHoldsTheModule : Obligations.ResetHoldsTheModule := by
  refine ⟨rfl, rfl, rfl, rfl, rfl, rfl, rfl, fun _ => ⟨rfl, rfl, rfl, rfl⟩, rfl, rfl, rfl, fun _ => rfl, fun _ => rfl, fun _ => rfl,
    fun _ => rfl, rfl, rfl⟩
end

section
/-! PROOFS. Submission entries (04 R97, R111): slices of a text put together, and the fields of an entry. -/

namespace Sys2Proof.Machine

/-- Bytes that lie in the second of two texts. -/
theorem slice_append_right {a : Bytes} {off : Nat} (b : Bytes) (len : Nat) (h : a.length ≤ off) :
    slice (a ++ b) off len = slice b (off - a.length) len := by
  have hdrop : (a ++ b).drop off = b.drop (off - a.length) := by
    rw [List.drop_append, List.drop_eq_nil_of_le h, List.nil_append]
  simp only [slice, hdrop]

/-- A whole text. -/
theorem slice_all {b : Bytes} {len : Nat} (h : b.length = len) : slice b 0 len = b := by
  simp [slice, ← h]

/-- The number at the head of a text. -/
theorem leNat_slice_head (n v : Nat) (y : Bytes) : leNat (slice (leBytes n v ++ y) 0 n) = v % 256 ^ n :=
  leNat_slice_leBytes (a := []) rfl n v y

/-! ## Submission entries (04 R97, R111) -/

theorem submissionBytes_length (op : Nat) {c : Cmd} (h : c.params.length = 48) : (submissionBytes op c).length = 64 := by
  simp [submissionBytes, h]

/-- Every field of a well-formed entry is read as it was written. -/
theorem submissionBytes_fields {op : Nat} {c : Cmd} (hop : op < 65536) (h : c.wf = true) :
    leNat (slice (submissionBytes op c) 0 2) = op ∧ leNat (slice (submissionBytes op c) 2 1) = c.flags
      ∧ leNat (slice (submissionBytes op c) 3 1) = c.tgtClass ∧ leNat (slice (submissionBytes op c) 4 2) = c.tgtIndex
      ∧ leNat (slice (submissionBytes op c) 6 1) = c.tgtSub ∧ leNat (slice (submissionBytes op c) 7 1) = c.rsv
      ∧ leNat (slice (submissionBytes op c) 8 4) = c.tag ∧ leNat (slice (submissionBytes op c) 12 4) = c.handle
      ∧ slice (submissionBytes op c) 16 48 = c.params ∧ c.params.length = 48 := by
  simp only [Cmd.wf, Bool.and_eq_true, decide_eq_true_eq] at h
  obtain ⟨⟨⟨⟨⟨⟨⟨⟨⟨-, hflags⟩, hclass⟩, hindex⟩, hsub⟩, hrsv⟩, htag⟩, hhandle⟩, hparams⟩, -⟩ := h
  simp only [submissionBytes, List.append_assoc]
  simp [slice_append_right, leNat_slice_head, slice_all, hparams, Nat.mod_eq_of_lt, hop]
  exact ⟨hflags, hclass, hindex, hsub, hrsv, htag, hhandle⟩

/-- A well-formed entry is read back, with the block that its route brings. -/
theorem parseEntry_submissionBytes {op : Nat} {c : Cmd} (hop : op < 65536) (h : c.wf = true) (slot : Nat) (block : Option Bytes) :
    parseEntry c.route slot (submissionBytes op c) block = (op, { c with slot := slot, block := block, writeFails := false }) := by
  obtain ⟨h0, hflags, hclass, hindex, hsub, hrsv, htag, hhandle, hparams, -⟩ := submissionBytes_fields hop h
  simp only [parseEntry, h0, hflags, hclass, hindex, hsub, hrsv, htag, hhandle, hparams]

/-- The length of an entry's block, where the body's reader finds it. -/
theorem submissionBytes_blockLen (op : Nat) {c : Cmd} : leNat (slice (submissionBytes op c) 24 4) = c.blockLen := by
  simp [submissionBytes, slice_append_right, Cmd.blockLen]

/-- A block goes with its entry where the entry's flag says so, whole. -/
def blockTravels (c : Cmd) : Prop :=
  (c.indirect = false → c.block = none) ∧ (c.indirect = true → ∃ b, c.block = some b ∧ b.length = c.blockLen)

/-- A message body's first entry is read with its block, and the rest from behind the block. -/
theorem parseEntries_cons {op n : Nat} {c : Cmd} (hop : op < 65536) (h : c.wf = true) (hblock : blockTravels c) (rest : Bytes) :
    parseEntries c.route (n + 1) (submissionBytes op c ++ c.blockBytes ++ rest)
      = (op, { c with slot := 0, writeFails := false }) :: parseEntries c.route n rest := by
  obtain ⟨-, hflags, -, -, -, -, -, -, -, hlen⟩ := submissionBytes_fields hop h
  have hlen := submissionBytes_length op hlen
  have hhead : (submissionBytes op c ++ c.blockBytes ++ rest).take 64 = submissionBytes op c := by
    rw [List.append_assoc, List.take_append_of_le_length hlen.ge, List.take_of_length_le hlen.le]
  have htail : (submissionBytes op c ++ c.blockBytes ++ rest).drop 64 = c.blockBytes ++ rest := by
    rw [List.append_assoc, ← hlen, List.drop_left]
  have hbit : bitOf (leNat (slice (submissionBytes op c) 2 1)) 2 = c.indirect := by rw [hflags]; rfl
  rw [parseEntries, if_neg (by simp [hlen])]
  simp only [hhead, htail, hbit, submissionBytes_blockLen, parseEntry_submissionBytes hop h]
  obtain ⟨hnone, hsome⟩ := hblock
  cases hind : c.indirect with
  | false => simp [hnone hind, Cmd.blockBytes]
  | true =>
    obtain ⟨b, hb, hblen⟩ := hsome hind
    simp [Cmd.blockBytes, hb, ← hblen]

end Sys2Proof.Machine

open Sys2Proof Sys2Proof.Machine

/-- Settles O4: each field is read where it was written, and a body by induction on its entries. -/
theorem submissionEntriesRoundTrip : Obligations.SubmissionEntriesRoundTrip := by
  refine ⟨fun op c hop h => parseEntry_submissionBytes hop h c.slot c.block, fun r l hl => ?_⟩
  induction l with
  | nil => rfl
  | cons x l ih =>
    obtain ⟨⟨hop, hwf, rfl, hslot, hwrite, hblock⟩, hrest⟩ := List.forall_mem_cons.1 hl
    rw [List.flatMap_cons, List.length_cons, parseEntries_cons hop hwf hblock, ih hrest, ← hslot, ← hwrite]
end

section
/-! PROOFS. The calendar (17 R462): days of a 400-year era, and the date that a count of days spells. -/

namespace Sys2Proof.Machine

/-! ## The 400-year era that begins on 1 March of a year divisible by 400 (17 R462) -/

/-- Days of an era before its year `yoe`. -/
def eraDays (yoe : Nat) : Nat := yoe * 365 + yoe / 4 - yoe / 100

theorem eraDays_split {c q r : Nat} (hq : q < 25) (hr : r < 4) : eraDays (100 * c + 4 * q + r) = 36524 * c + 1461 * q + 365 * r := by
  unfold eraDays
  omega

/-- Only a year that ends with a 29 February has a day 365. -/
def dayOfYearOk (yoe doy : Nat) : Prop := doy < 366 ∧ (doy = 365 → yoe % 4 = 3 ∧ (yoe % 100 ≠ 99 ∨ yoe = 399))

/-- The year a day of the era lies in: the quotients take out the leap days before the day, one more where the day is its cycle's last. -/
theorem year_of_eraDay {yoe doy : Nat} (hy : yoe < 400) (hd : dayOfYearOk yoe doy) :
    (eraDays yoe + doy - (eraDays yoe + doy) / 1460 + (eraDays yoe + doy) / 36524 - (eraDays yoe + doy) / 146096) / 365 = yoe := by
  obtain ⟨hd, hleap⟩ := hd
  obtain ⟨c, q, r, hc, hq, hr, rfl⟩ : ∃ c q r, c < 4 ∧ q < 25 ∧ r < 4 ∧ yoe = 100 * c + 4 * q + r :=
    ⟨yoe / 100, yoe % 100 / 4, yoe % 4, by omega⟩
  have hcycle : doy = 365 → r = 3 ∧ (q ≠ 24 ∨ c = 3) := by omega
  rw [eraDays_split hq hr]
  by_cases hlast : c = 3 ∧ q = 24 ∧ r = 3 ∧ doy = 365
  · obtain ⟨rfl, rfl, rfl, rfl⟩ := hlast
    rfl
  · have hcentury : 1461 * q + 365 * r + doy < 36524 := by omega
    have h36524 : (36524 * c + 1461 * q + 365 * r + doy) / 36524 = c := by omega
    have h146096 : (36524 * c + 1461 * q + 365 * r + doy) / 146096 = 0 := by omega
    by_cases hk : 1460 ≤ 24 * c + q + 365 * r + doy
    · have h1460 : (36524 * c + 1461 * q + 365 * r + doy) / 1460 = 25 * c + q + 1 := by omega
      rw [h36524, h146096, h1460]
      omega
    · have h1460 : (36524 * c + 1461 * q + 365 * r + doy) / 1460 = 25 * c + q := by omega
      rw [h36524, h146096, h1460]
      omega

theorem eraDay_lt {yoe doy : Nat} (hy : yoe < 400) (hd : dayOfYearOk yoe doy) : eraDays yoe + doy < 146097 := by
  obtain ⟨hd, -⟩ := hd
  unfold eraDays
  omega

/-! ## Dates -/

/-- The year from 1600 that begins in March. -/
def marchYear (y m : Nat) : Nat := (if m ≤ 2 then y - 1 else y) - 1600

/-- The month counted from March as 0. -/
def marchMonth (m : Nat) : Nat := if m > 2 then m - 3 else m + 9

/-- The day of the year that begins in March. -/
def marchDay (m d : Nat) : Nat := (153 * marchMonth m + 2) / 5 + d - 1

/-- The date of a count of days from 1600-03-01, which a year, a month and a day of the month spell. -/
def dateOfMarch (y doy : Nat) : Nat × Nat × Nat :=
  let mp := (5 * doy + 2) / 153
  let m := if mp < 10 then mp + 3 else mp - 9
  (y + 1600 + b2n (decide (m ≤ 2)), m, doy - (153 * mp + 2) / 5 + 1)

theorem daysOf_eq (y m d : Nat) :
    daysOf y m d = marchYear y m / 400 * 146097 + (eraDays (marchYear y m % 400) + marchDay m d) + 60 - 146097 := rfl

/-- A year's day of a count of days is read back with its year. -/
theorem dateOf_of_era {days era yoe doy : Nat} (hy : yoe < 400) (hd : dayOfYearOk yoe doy)
    (hdays : days + 146097 - 60 = era * 146097 + (eraDays yoe + doy)) : dateOf days = dateOfMarch (yoe + era * 400) doy := by
  have hlt := eraDay_lt hy hd
  have hyear := year_of_eraDay hy hd
  have hera : (era * 146097 + (eraDays yoe + doy)) / 146097 = era := by omega
  have hday : (era * 146097 + (eraDays yoe + doy)) % 146097 = eraDays yoe + doy := by omega
  have hdoy : eraDays yoe + doy - (365 * yoe + yoe / 4 - yoe / 100) = doy := by
    unfold eraDays
    omega
  simp only [dateOf, dateOfMarch, hdays, hera, hday, hyear, hdoy]

/-- The last day of February is the 28th but in leap years. -/
theorem le_monthDays_two {y d : Nat} : d ≤ monthDays y 2 ↔ d ≤ 28 ∨ d = 29 ∧ y % 4 = 0 ∧ (y % 100 ≠ 0 ∨ y % 400 = 0) := by
  have hleap : isLeap y = true ↔ y % 4 = 0 ∧ (y % 100 ≠ 0 ∨ y % 400 = 0) := by simp [isLeap]
  simp only [monthDays, if_true, hleap]
  split <;> omega

theorem monthDays_of_ne (y : Nat) {m : Nat} (h : m ≠ 2) : monthDays y m = if m = 4 ∨ m = 6 ∨ m = 9 ∨ m = 11 then 30 else 31 := by
  rw [monthDays, if_neg h]

section
variable {y m d : Nat} (hm : 1 ≤ m ∧ m ≤ 12) (hd : 1 ≤ d ∧ d ≤ monthDays y m)
include hm hd

theorem marchDay_ok (hy : 2000 ≤ y) : dayOfYearOk (marchYear y m % 400) (marchDay m d) := by
  obtain ⟨h1, h12⟩ := hm
  unfold dayOfYearOk marchDay marchYear
  interval_cases m <;> simp [marchMonth, le_monthDays_two, monthDays_of_ne] at hd ⊢ <;> omega

/-- A day of a month lies in that month of the year that begins in March, on the day it was. -/
theorem dateOfMarch_marchDay (hy : 2000 ≤ y) : dateOfMarch (marchYear y m) (marchDay m d) = (y, m, d) := by
  have hmonth : (5 * marchDay m d + 2) / 153 = marchMonth m := by
    obtain ⟨h1, h12⟩ := hm
    unfold marchDay
    interval_cases m <;> simp [marchMonth, le_monthDays_two, monthDays_of_ne] at hd ⊢ <;> omega
  obtain ⟨h1, h12⟩ := hm
  unfold dateOfMarch
  rw [hmonth]
  by_cases h2 : m ≤ 2
  · have hyear : marchYear y m = y - 1 - 1600 := congrArg (· - 1600) (if_pos h2)
    have hmarch : marchMonth m = m + 9 := if_neg (by omega)
    have hm9 : (if marchMonth m < 10 then marchMonth m + 3 else marchMonth m - 9) = m := by
      rw [hmarch, if_neg (by omega)]
      omega
    simp only [hm9, h2, decide_true, b2n, if_true, marchDay]
    refine Prod.ext ?_ (Prod.ext rfl ?_) <;> dsimp only <;> omega
  · have hyear : marchYear y m = y - 1600 := congrArg (· - 1600) (if_neg h2)
    have hmarch : marchMonth m = m - 3 := if_pos (by omega)
    have hm3 : (if marchMonth m < 10 then marchMonth m + 3 else marchMonth m - 9) = m := by
      rw [hmarch, if_pos (by omega)]
      omega
    simp only [hm3, h2, decide_false, b2n, Bool.false_eq_true, if_false, marchDay]
    refine Prod.ext ?_ (Prod.ext rfl ?_) <;> dsimp only <;> omega

/-- A valid date is the date of its count of days (17 R462). -/
theorem dateOf_daysOf (hy : 2000 ≤ y) : dateOf (daysOf y m d) = (y, m, d) := by
  have hera : 400 ≤ marchYear y m ∨ marchYear y m = 399 ∧ m ≤ 2 := by
    unfold marchYear
    split <;> omega
  have hdays : daysOf y m d + 146097 - 60 = marchYear y m / 400 * 146097 + (eraDays (marchYear y m % 400) + marchDay m d) := by
    have hfirst : 146097 ≤ marchYear y m / 400 * 146097 + (eraDays (marchYear y m % 400) + marchDay m d) + 60 := by
      rcases hera with hera | ⟨hera, hm2⟩
      · omega
      · have hmarch : marchMonth m = m + 9 := if_neg (by omega)
        simp only [hera, eraDays, marchDay, hmarch]
        omega
    rw [daysOf_eq]
    omega
  rw [dateOf_of_era (Nat.mod_lt _ (by decide)) (marchDay_ok hm hd hy) hdays, Nat.mod_add_div', dateOfMarch_marchDay hm hd hy]
end

end Sys2Proof.Machine

open Sys2Proof Sys2Proof.Machine

/-- Settles O51: the quotients of the tick count give back the day and the time of day, and the day its date. -/
theorem calendarRoundTrip : Obligations.CalendarRoundTrip := by
  intro y m d h mi se sub hok hsub
  simp only [dateOk, decide_eq_true_eq] at hok
  obtain ⟨hy, -, hm1, hm12, hd1, hdn, hh, hmi, hse⟩ := hok
  have hdate := dateOf_daysOf ⟨hm1, hm12⟩ ⟨hd1, hdn⟩ hy
  have hsec : ticksOf y m d h mi se sub / 1024 = ((daysOf y m d * 24 + h) * 60 + mi) * 60 + se := by
    unfold ticksOf
    omega
  have hday : (((daysOf y m d * 24 + h) * 60 + mi) * 60 + se) / 86400 = daysOf y m d := by omega
  have htick : ticksOf y m d h mi se sub % 1024 = sub := by
    unfold ticksOf
    omega
  have hregs : calRegs (ticksOf y m d h mi se sub)
      = { sub := sub, time := se + mi * 256 + h * 65536 + weekdayOf (daysOf y m d) * 16777216, date := y + m * 65536 + d * 16777216 } := by
    have htime : (((daysOf y m d * 24 + h) * 60 + mi) * 60 + se) % 60 = se
        ∧ (((daysOf y m d * 24 + h) * 60 + mi) * 60 + se) / 60 % 60 = mi
        ∧ (((daysOf y m d * 24 + h) * 60 + mi) * 60 + se) / 3600 % 24 = h := by omega
    simp only [calRegs, hsec, hday, hdate, htick, htime]
  have hhour : (se + mi * 256 + h * 65536 + weekdayOf (daysOf y m d) * 16777216) / 2 ^ 16 = h + weekdayOf (daysOf y m d) * 256 := by omega
  rw [hregs]
  unfold bitsOf
  refine ⟨rfl, ?_, ?_, ?_, rfl⟩ <;> dsimp only
  · omega
  · omega
  · rw [hhour]
    omega
end

section
/-! PROOFS. Completions (04 R97, R100, R101): what a completion touches, and its entry in host memory. -/

namespace Sys2Proof.Machine

/-! ## What a completion can touch (04 R100, R101, R115) -/

/-- `u` differs from `s` in the host interface, the dispatcher, the management plane's intake and what leaves by the ports alone. -/
def Delivers (s u : State) : Prop :=
  ∃ h d m q x, u = { s with host := h, disp := d, inManagement := m, sent := q, tx := x }

theorem Delivers.refl (s : State) : Delivers s s := ⟨_, _, _, _, _, rfl⟩

theorem Delivers.trans {s u v : State} (a : Delivers s u) (b : Delivers u v) : Delivers s v := by
  obtain ⟨_, _, _, _, _, rfl⟩ := a
  obtain ⟨_, _, _, _, _, rfl⟩ := b
  exact ⟨_, _, _, _, _, rfl⟩

theorem Delivers.eq {s u : State} (h : Delivers s u) :
    u = { s with host := u.host, disp := u.disp, inManagement := u.inManagement, sent := u.sent, tx := u.tx } := by
  obtain ⟨_, _, _, _, _, rfl⟩ := h
  rfl

/-- An event of the management plane below severity 7 enters its intake. -/
theorem delivers_post {c : Code} (h : c.sev ≠ 7) (src : Res) (n : Nat) (s : State) (d : Nat) : Delivers s (s.post .management c src n d) := by
  refine ⟨s.host, s.disp, (s.post .management c src n d).inManagement, s.sent, s.tx, ?_⟩
  simp [State.post, State.setIntake, h]

theorem delivers_raiseVector (k : Nat) (s : State) : Delivers s (s.raiseVector k) := by
  unfold State.raiseVector
  dsimp only
  split
  · exact Delivers.refl s
  · split <;> exact ⟨_, _, _, _, _, rfl⟩

theorem delivers_ringFault (k cause : Nat) (s : State) : Delivers s (s.ringFault k cause) := by
  refine Delivers.trans (Delivers.trans ?_ (delivers_raiseVector 2 _)) (delivers_post (by decide) _ _ _ _)
  split <;> exact ⟨_, _, _, _, _, rfl⟩

theorem delivers_discardCompletion (e : Entry) (st : Status) (s : State) : Delivers s (s.discardCompletion e st) :=
  Delivers.trans ⟨_, _, _, _, _, rfl⟩ (delivers_post (by decide) _ _ _ _)

theorem delivers_countRefused (r : Route) (st : Status) (s : State) : Delivers s (s.countRefused r st) := by
  unfold State.countRefused
  split
  · exact Delivers.refl s
  · split
    · exact ⟨_, _, _, _, _, rfl⟩
    · split <;> exact ⟨_, _, _, _, _, rfl⟩
    · exact ⟨_, _, _, _, _, rfl⟩

theorem delivers_hostWrite (a : Nat) (b : Bytes) (s : State) : Delivers s (s.hostWrite a b) := ⟨_, _, _, _, _, rfl⟩

/-- An entry of a ring, and the ring as it then stands. -/
theorem delivers_entry (a k : Nat) (b : Bytes) (r : Ring) (s : State) : Delivers s ((s.hostWrite a b).setRing k r) := ⟨_, _, _, _, _, rfl⟩

/-- The completion vector after `n` completions without a signal. -/
theorem delivers_signal (a n : Nat) (s : State) : Delivers s
    (if max 1 s.host.coalesceCount ≤ n then
      ({ s with host := { s.host with unsignalled := 0, unsignalledAt := a } } : State).raiseVector 0
    else { s with host := { s.host with unsignalled := n, unsignalledAt := a } }) := by
  split
  · exact Delivers.trans ⟨_, _, _, _, _, rfl⟩ (delivers_raiseVector _ _)
  · exact ⟨_, _, _, _, _, rfl⟩

theorem delivers_completeHost (e : Entry) (st : Status) (n : Nat) (b : Bytes) (s : State) : Delivers s (s.completeHost e st n b) := by
  unfold State.completeHost
  dsimp only
  split
  · exact delivers_discardCompletion _ _ _
  · split
    · exact Delivers.trans (delivers_ringFault _ _ _) (delivers_discardCompletion _ _ _)
    · refine Delivers.trans (Delivers.trans ?_ (delivers_entry _ _ _ _ _)) (delivers_signal _ _ _)
      split
      · exact delivers_hostWrite _ _ _
      · exact Delivers.refl s

theorem delivers_txPut (k : Nat) (i : TxItem) (s : State) : Delivers s (s.txPut k i) := by
  unfold State.txPut
  split
  · exact Delivers.refl s
  · exact ⟨_, _, _, _, _, rfl⟩

theorem delivers_sendOmnar (x : OmnarSession) (ty n : Nat) (b : Bytes) (s : State) : Delivers s (s.sendOmnar x ty n b) :=
  Delivers.trans (Delivers.trans (delivers_txPut _ _ _) (delivers_txPut _ _ _)) ⟨_, _, _, _, _, rfl⟩

theorem delivers_complete (e : Entry) (st : Status) (n : Nat) (b : Bytes) (s : State) : Delivers s (s.complete e st n b) := by
  have dropped : Delivers s (s.dropFlight e.id) := ⟨_, _, _, _, _, rfl⟩
  unfold State.complete
  dsimp only
  split
  · exact Delivers.refl s
  · split
    · exact dropped.trans (delivers_discardCompletion _ _ _)
    · refine (dropped.trans (delivers_countRefused e.cmd.route st _)).trans ?_
      split
      · exact delivers_completeHost _ _ _ _ _
      · split
        · exact delivers_sendOmnar _ _ _ _ _
        · exact delivers_discardCompletion _ _ _
      · split
        · exact ⟨_, _, _, _, _, rfl⟩
        · exact delivers_discardCompletion _ _ _

/-! ## The completion entry in host memory (04 R97, R100) -/

@[simp] theorem completionBytes_length (tag st head result slot : Nat) (phase long : Bool) :
    (completionBytes tag st head result slot phase long).length = 16 := by
  simp [completionBytes]

/-- Every field of a completion entry is read as it was written. -/
theorem completionBytes_fields (tag st head result slot : Nat) (phase long : Bool) :
    leNat (slice (completionBytes tag st head result slot phase long) 0 4) = tag % 2 ^ 32
      ∧ leNat (slice (completionBytes tag st head result slot phase long) 4 2) = st % 2 ^ 16
      ∧ leNat (slice (completionBytes tag st head result slot phase long) 6 2) = head % 2 ^ 16
      ∧ leNat (slice (completionBytes tag st head result slot phase long) 8 4) = result % 2 ^ 32
      ∧ leNat (slice (completionBytes tag st head result slot phase long) 12 2) = slot % 2 ^ 16
      ∧ leNat (slice (completionBytes tag st head result slot phase long) 15 1) = b2n phase + 2 * b2n long := by
  have hflags : (b2n phase + 2 * b2n long) % 256 = b2n phase + 2 * b2n long := by cases phase <;> cases long <;> rfl
  simp only [completionBytes, List.append_assoc]
  simp [slice_append_right, leNat_slice_head, slice_all, leNat_leBytes, hflags]

@[simp] theorem State.countRefused_rings (r : Route) (st : Status) (s : State) : (s.countRefused r st).host.rings = s.host.rings := by
  unfold State.countRefused
  split
  · rfl
  · cases r with
    | omnar id => dsimp only; split <;> rfl
    | _ => rfl

@[simp] theorem State.countRefused_mem (r : Route) (st : Status) (s : State) : (s.countRefused r st).host.mem = s.host.mem := by
  unfold State.countRefused
  split
  · rfl
  · cases r with
    | omnar id => dsimp only; split <;> rfl
    | _ => rfl

/-- The result area of a long result, where the command has one. -/
def State.resultWritten (e : Entry) (block : Bytes) (s : State) : State :=
  if e.cmd.indirect && !block.isEmpty then s.hostWrite e.cmd.blockAddr (block.take e.cmd.blockLen) else s

@[simp] theorem State.hostWrite_ring (a : Nat) (b : Bytes) (s : State) (k : Nat) : (s.hostWrite a b).ring k = s.ring k := rfl

theorem State.hostWrite_mem (a : Nat) (b : Bytes) (s : State) : (s.hostWrite a b).host.mem = Tab.putBytes s.host.mem a b := rfl

@[simp] theorem State.setRing_mem (k : Nat) (r : Ring) (s : State) : (s.setRing k r).host.mem = s.host.mem := rfl

theorem State.signal_mem (a n : Nat) (s : State) :
    (if max 1 s.host.coalesceCount ≤ n then
      ({ s with host := { s.host with unsignalled := 0, unsignalledAt := a } } : State).raiseVector 0
    else { s with host := { s.host with unsignalled := n, unsignalledAt := a } }).host.mem = s.host.mem := by
  split
  · exact State.raiseVector_mem _ _
  · rfl

/-- A completion that the ring takes writes the result area and then its entry at the ring's tail. -/
theorem State.completeHost_mem {e : Entry} {st : Status} {result : Nat} {block : Bytes} {s : State} (hwrite : e.cmd.writeFails = false)
    (hrun : (s.ring 1).run = true) (hfull : (s.ring 1).full = false) :
    (s.completeHost e st result block).host.mem
      = Tab.putBytes (s.resultWritten e block).host.mem ((s.ring 1).base + 16 * (s.ring 1).tail)
        (completionBytes e.cmd.tag st.code (s.ring 0).head result e.cmd.slot (s.ring 1).phase (e.cmd.indirect && !block.isEmpty)) := by
  have hopen : ¬(¬(s.ring 1).run = true ∨ (s.ring 1).full = true) := by simp [hrun, hfull]
  have hok : ¬e.cmd.writeFails = true := by simp [hwrite]
  have hring : (s.resultWritten e block).ring 0 = s.ring 0 := by
    unfold State.resultWritten
    split <;> rfl
  have hdef : (if (e.cmd.indirect && !block.isEmpty) = true then s.hostWrite e.cmd.blockAddr (block.take e.cmd.blockLen) else s)
      = s.resultWritten e block := rfl
  unfold State.completeHost
  dsimp only
  rw [if_neg hopen, if_neg hok, State.signal_mem, hdef, hring, State.setRing_mem, State.hostWrite_mem]

/-- A completion of the host's route that no reset has orphaned goes to the completion ring. -/
theorem State.complete_of_host {s : State} {e : Entry} {f : Flight} (hf : s.flightOf e.id = some f) (horphan : f.orphan = false)
    (hroute : e.cmd.route = .host) (st : Status) (result : Nat) (block : Bytes) :
    s.complete e st result block = ((s.dropFlight e.id).countRefused .host st).completeHost e st result block := by
  simp only [State.complete, hf, horphan, hroute, Bool.false_eq_true, if_false]

theorem State.resultWritten_mem_wf (e : Entry) (block : Bytes) {s : State} (h : Tab.wf (fun _ => 0) s.host.mem = true) :
    Tab.wf (fun _ => 0) (s.resultWritten e block).host.mem = true := by
  unfold State.resultWritten
  split
  · exact Tab.wf_putBytes _ _ h
  · exact h

/-- The result area lies inside the command's block. -/
theorem State.resultWritten_mem_other {e : Entry} {block : Bytes} {s : State} (h : Tab.wf (fun _ => 0) s.host.mem = true) {x : Nat}
    (hx : e.cmd.indirect = false ∨ x < e.cmd.blockAddr ∨ e.cmd.blockAddr + e.cmd.blockLen ≤ x) :
    Tab.get (fun _ => 0) (s.resultWritten e block).host.mem x = Tab.get (fun _ => 0) s.host.mem x := by
  unfold State.resultWritten
  split
  · next hlong =>
    refine Tab.get_putBytes_other _ _ _ h ?_
    have hlen : (block.take e.cmd.blockLen).length ≤ e.cmd.blockLen := List.length_take_le _ _
    rcases hx with hx | hx | hx
    · simp [hx] at hlong
    · exact Or.inl hx
    · exact Or.inr (by omega)
  · rfl

end Sys2Proof.Machine

open Sys2Proof Sys2Proof.Machine

/-- Settles O6: what each step of a completion touches, and the completion ring's tail as the place of its entry. -/
theorem completionsWriteOnlyTheirEntry : Obligations.CompletionsWriteOnlyTheirEntry := by
  refine ⟨?_, ?_, ?_, ?_⟩
  · rintro s e st result block u rfl
    exact (delivers_complete e st result block s).eq
  · rintro s e st result block f hf horphan hroute hwrite hrun hfull hmem a u rfl rfl
    have hmem' := State.resultWritten_mem_wf (s := (s.dropFlight e.id).countRefused .host st) e block (by simpa using hmem)
    have hwritten := State.completeHost_mem (st := st) (result := result) (block := block)
      (s := (s.dropFlight e.id).countRefused .host st) hwrite (by simpa [State.ring] using hrun) (by simpa [State.ring] using hfull)
    simp only [State.ring, State.countRefused_rings, State.dropFlight_host] at hwritten
    rw [State.complete_of_host hf horphan hroute]
    simp only [State.ring]
    rw [hwritten]
    refine ⟨fun i hi => ?_, fun x hx hblock => ?_, Tab.wf_putBytes _ _ hmem'⟩
    · rw [Tab.get_putBytes _ i _ hmem' (by simpa using hi), getElem!_pos]
    · rw [Tab.get_putBytes_other _ _ _ hmem' (by simpa using hx), State.resultWritten_mem_other (by simpa using hmem) hblock]
      simp
  · intro s e st result block h
    have hstop : ¬(s.ring 1).run = true ∨ (s.ring 1).full = true := by simpa using h
    simp only [State.completeHost]
    rw [if_pos hstop]
    rfl
  · rintro tag st head result slot phase long b rfl
    exact ⟨completionBytes_length _ _ _ _ _ _ _, completionBytes_fields _ _ _ _ _ _ _⟩
end

section
/-! PROOFS. The life of a command (01 R17 to R19; 04 R98, R101, R105, R117). -/

namespace Sys2Proof.Machine

/-! ## The first check that fails (04 R105) -/

section
variable {k : CmdSpec} {e : Entry} {s : State}

/-- Check 1 as one Bool: reserved fields, layout, form, and a block where a long result needs one. -/
def CmdSpec.formOk (k : CmdSpec) (e : Entry) (s : State) : Bool :=
  e.cmd.entryWellFormed && e.cmd.reservedOk (k.layout e.cmd) && k.form s e.cmd && !(k.long e.cmd && e.cmd.onHost && !e.cmd.indirect)

/-- Check 3 as one Bool: the route and the roles of its session. -/
def CmdSpec.routeOk (k : CmdSpec) (e : Entry) (s : State) : Bool := k.route e.cmd && s.rolesAllow k.op e.cmd

/-- The checks in their order. -/
theorem CmdSpec.refusal_eq : k.refusal e s =
    if ¬ k.formOk e s = true then some .sMalformed
    else if s.tagInUse e = true then some .sTagInUse
    else if ¬ k.routeOk e s = true then some .sRoute
    else if ¬ k.target s e.cmd = true then some .sBadTarget
    else if (k.needsSession s e.cmd && !(s.sessionValid e.cmd)) = true then some .sSafetySessionRequired
    else if ¬ k.params s e.cmd = true then some .sBadParam
    else if (s.standbyRole && ((k.owner s e.cmd).isSome || (e.cmd.tgtClass == 0x03 && k.op != 0x0303))) = true then some .sNotActive
    else if k.check s e.cmd ≠ .sOk then some (k.check s e.cmd)
    else none := rfl

end

/-! ## A command's arrival (04 R98, R101, R117) -/

section
variable {k : CmdSpec} {c : Cmd} {s : State}

theorem CmdSpec.submit_of_closed (h : s.routeOpen c.route = false) : k.submit c s = s := by
  simp [CmdSpec.submit, h]

theorem CmdSpec.submit_of_full (hopen : s.routeOpen c.route = true) (hfull : s.routeFull c.route = true) :
    k.submit c s = s.answerFull c.route c.tag := by
  simp [CmdSpec.submit, hopen, hfull]

/-- A command whose route has room waits for its turn unless it is the next. -/
theorem CmdSpec.submit_of_waits (hopen : s.routeOpen c.route = true) (hroom : s.routeFull c.route = false)
    (hturn : (s.queued k.op c).inTurn ≠ some (s.entryFor k.op c)) : k.submit c s = s.queued k.op c := by
  simp [CmdSpec.submit, hopen, hroom, hturn]

end

/-- A candidate is one of the waiting commands. -/
theorem State.candidate_spec {s : State} {r : Nat} {e : Entry} (h : s.candidate r = some e) : e.op = 0x0102 ∨ s.heldBack e = false := by
  unfold State.candidate at h
  dsimp only at h
  split at h
  · next e' he =>
    obtain rfl := Option.some.inj h
    exact Or.inl (by simpa using List.find?_some he)
  · exact Or.inr (by simpa using List.find?_some h)

/-- The command in turn is a `MOD.ABORT` or is not held back. -/
theorem State.inTurn_spec {s : State} {e : Entry} (h : s.inTurn = some e) : e.op = 0x0102 ∨ s.heldBack e = false := by
  unfold State.inTurn at h
  dsimp only at h
  split at h
  · next he =>
    obtain rfl := Option.some.inj h
    exact State.candidate_spec he
  · split at h
    · next he =>
      obtain rfl := Option.some.inj h
      exact State.candidate_spec he
    · exact State.candidate_spec h

/-- A held-back command is no `MOD.ABORT`, and stays held back behind itself in the queue. -/
theorem State.heldBack_enqueue {s : State} {e : Entry} (h : s.heldBack e = true) : e.op ≠ 0x0102 ∧ (s.enqueue e).heldBack e = true := by
  simp only [State.heldBack, Bool.and_eq_true, Bool.or_eq_true, bne_iff_ne, ne_eq] at h ⊢
  obtain ⟨hop, hheld⟩ := h
  refine ⟨hop, hop, ?_⟩
  simpa [State.enqueue] using hheld

/-! ## Owner boundaries (01 R18) -/

section
variable {k : CmdSpec} {t : Nat} {c : Cmd} {s : State} {o : Owner}

/-- A command whose owner is in a cycle, or has postings that wait, is posted where there is room (01 R18). -/
theorem CmdSpec.submit_of_posted (h : k.passes t c s = true) (howner : k.owner (s.arrived k.op t c) c = some o)
    (hbusy : k.running (s.arrived k.op t c) c = true ∨ (s.arrived k.op t c).mailWaits o = true)
    (hpair : (s.arrived k.op t c).postsToPartner = false) :
    k.submit c (s.advance t) = if 8 ≤ (s.arrived k.op t c).mailCount o then (s.arrived k.op t c).complete (s.entryFor k.op c) .sMailboxFull 0 []
      else (s.arrived k.op t c).postMail { owner := o, body := .cmd (s.entryFor k.op c) } := by
  have hcmd : (s.entryFor k.op c).cmd = c := rfl
  have hbusy : (k.running (s.arrived k.op t c) c || (s.arrived k.op t c).mailWaits o) = true := by simpa using hbusy
  rw [submit_of_passes h]
  simp only [CmdSpec.act, hcmd, howner, hpair, hbusy, Bool.false_eq_true, if_false, if_true]

end

/-- Outside a pair every posting of an owner is due at its boundary. -/
theorem State.boundary_of_unpaired {s : State} (h : s.pair.st = .unpaired) (specOf : Nat → Option CmdSpec) (own : PostBody → State → State)
    (o : Owner) : s.boundary specOf own o = (s.mail.filter (fun p => p.owner == o)).foldl (fun s p => applyPosting specOf own p s)
      { s with mail := s.mail.filter (fun p => !(p.owner == o)) } := by
  have hdue (p : Posting) : s.isDue p = true := by simp [State.isDue, h]
  simp only [State.boundary, State.duePostings, hdue, Bool.and_true]

end Sys2Proof.Machine

open Sys2Proof Sys2Proof.Machine

/-- Settles O5: the arrival by the state of its route and turn, the checks by the first that fails, the boundary by its mailbox. -/
theorem commandsMeetTheirChecksInOrder : Obligations.CommandsMeetTheirChecksInOrder := by
  refine ⟨fun k c s h => CmdSpec.submit_of_closed h, ?_, ?_, ?_, ?_, fun k t c s st => submit_of_refusal, ?_, ?_, ?_⟩
  · intro k c s hopen hroute hfull
    rw [CmdSpec.submit_of_full hopen (by simpa [State.routeFull, hroute] using hfull), hroute]
    rfl
  · intro k c s hopen hroute hfull
    rw [CmdSpec.submit_of_full hopen (by simp [State.routeFull, hroute, hfull]), hroute]
    rfl
  · rintro k c s e u rfl rfl hopen hroom hheld
    obtain ⟨hop, hheld⟩ := State.heldBack_enqueue hheld
    refine CmdSpec.submit_of_waits hopen hroom fun hturn => ?_
    rcases State.inTurn_spec hturn with h | h
    · exact hop h
    · exact Bool.noConfusion (hheld.symm.trans h)
  · rintro k c s e d u rfl rfl hopen hroom hturn hne
    exact CmdSpec.submit_of_waits hopen hroom fun h => hne (Option.some.inj (hturn.symm.trans h))
  · intro k e s a b ha hb
    obtain rfl : a = k.formOk e s := ha
    obtain rfl : b = k.routeOk e s := hb
    rw [CmdSpec.refusal_eq]
    refine ⟨?_, ?_, ?_, ?_, ?_, ?_, ?_, fun hnone => ?_⟩
    · intro hform
      simp [hform]
    · intro hform htag
      simp [hform, htag]
    · intro hform htag hroute
      simp [hform, htag, hroute]
    · intro hform htag hroute htarget
      simp [hform, htag, hroute, htarget]
    · intro hform htag hroute htarget hneeds hvalid
      simp [hform, htag, hroute, htarget, hneeds, hvalid]
    · intro hform htag hroute htarget hneeds hparams
      simp [hform, htag, hroute, htarget, hneeds, hparams]
    · intro hform htag hroute htarget hneeds hparams hstandby howner
      simp [hform, htag, hroute, htarget, hneeds, hparams, hstandby, howner]
    · obtain ⟨hform, htag, hroute, htarget, -, -, hparams, hcheck⟩ := refusal_none (CmdSpec.refusal_eq.trans hnone)
      exact ⟨hform, htag, hroute, htarget, hparams, hcheck⟩
  · intro k t c s o h howner hbusy hpair
    rw [CmdSpec.submit_of_posted h howner hbusy hpair]
    exact ⟨fun hroom => if_neg (by omega), fun hfull => if_pos hfull⟩
  · intro o s h
    exact State.boundary_of_unpaired h _ _ _
end

section
/-! PROOFS. How a command ends: with a next state, or with the one fault, which no well-formed command meets. -/

namespace Sys2Proof.Machine

/-- The outcome is a next state, or the fault of a command that is not well-formed. -/
def Settles (wf : Bool) (o : Host.Outcome State Fault Refusal) : Prop := (∃ u, o = .next u) ∨ (o = .fault .noSuchResource ∧ wf = false)

theorem next_ite {p : Prop} [Decidable p] {a b : Host.Outcome State Fault Refusal} (ha : ∃ u, a = .next u) (hb : ∃ u, b = .next u) :
    ∃ u, (if p then a else b) = .next u := by
  by_cases hp : p
  · rwa [if_pos hp]
  · rwa [if_neg hp]

/-- A bound of the model's, and a bound of the command's operands that implies it. -/
theorem settles_ite {p : Prop} [Decidable p] {wf : Bool} {u : State} (h : ¬p → wf = false) :
    Settles wf (if p then .next u else .fault .noSuchResource) := by
  by_cases hp : p
  · exact Or.inl ⟨u, if_pos hp⟩
  · exact Or.inr ⟨if_neg hp, h hp⟩

theorem settles_ite_not {p : Prop} [Decidable p] {wf : Bool} {u : State} (h : ¬p → wf = false) :
    Settles wf (if ¬p then .fault .noSuchResource else .next u) := by
  by_cases hp : p
  · exact Or.inl ⟨u, if_neg (not_not.2 hp)⟩
  · exact Or.inr ⟨if_pos hp, h hp⟩

theorem settles_below {n k : Nat} {u : State} : Settles (below n k) (if n < k then .next u else .fault .noSuchResource) :=
  settles_ite (by simp [below])

theorem settles_below_and {n k : Nat} {b : Bool} {u : State} : Settles (below n k && b) (if n < k then .next u else .fault .noSuchResource) :=
  settles_ite (fun h => by simp [below, h])

theorem settles_below_and_and {n k : Nat} {a b : Bool} {u : State} :
    Settles (below n k && a && b) (if n < k then .next u else .fault .noSuchResource) :=
  settles_ite (fun h => by simp [below, h])

theorem settles_ptpBase {b : Nat} {u : State} : Settles (ptpBase b) (if b = 1 ∨ b = 2 then .next u else .fault .noSuchResource) :=
  settles_ite (by simp [ptpBase])

theorem settles_switch {n sw : Nat} {u : State} :
    Settles (below n 8 && below sw 2) (if n < 8 ∧ sw < 2 then .next u else .fault .noSuchResource) :=
  settles_ite (by simp [below])

theorem settles_consumed {id : Nat} {u : State} :
    Settles (consumedId id) (if ¬(0x1000 ≤ id ∧ id < 0x2000) then .fault .noSuchResource else .next u) :=
  settles_ite_not (by simp [consumedId])

/-- The points of the coupler are those of a well-formed row. -/
theorem pointOk_eq_wf (p : FieldPoint) : pointOk p = p.wf := by cases p <;> rfl

theorem pointOk_framePoint (f : FieldFrame) : pointOk (framePoint f) = f.wf := by cases f <;> rfl

theorem settles_point {p : FieldPoint} {wf : Bool} {u : State} (h : pointOk p = wf) :
    Settles wf (if ¬pointOk p = true then .fault .noSuchResource else .next u) :=
  settles_ite_not (by simp [h])

/-- Every row settles: it is an event of a resource that its operands must name, or it goes on whatever they are. -/
theorem exec_settles (i : Instr) (s : State) : Settles i.wf (exec i s) := by
  cases i
  case dbBulkTail | beClearBit | canFrameReceived | executionEnd => exact settles_below_and
  case networkFrameReceived => exact settles_below_and_and
  case soTestDue | soTestEnd | soTestRetry | soTestOverdue | soTestRepeat => exact settles_switch
  case ptpAnnounceTimeout | holdoverExpiry | ptpSyncSend | ptpAnnounceSend | ptpDelayReqSend => exact settles_ptpBase
  case connWatchdogExpiry | netPathSingle => exact settles_consumed
  case couplerFrameOut => exact settles_point (pointOk_eq_wf _)
  case couplerFrameIn => exact settles_point (pointOk_framePoint _)
  case
    bulkEn | bulkEntry | supplyWarning | pairSelftestEnd | pairSelftestDue | selftestSlice | selftestSkipped | hartTransactionEnd
    | hartModemLoopback | soOverload | soOvertemp | soSilenceTrip | ettLightPulse | soOpenCheck | degradedBudgetExpiry | pgFire | pgPulseEnd
    | cuPeriodicSelftest | cuSelftestRetry | burstDwellEnd | beStampLoRead | axisProfileUpdate | axisStall | axisHoldDelay | axisParkDelay
    | axisSilence | axisBridgeFault | axisThermal | axisFaultRetry | axisOpenPhase | axisChopperChange | axisSegStartTime | piEdge
    | canFrameTransmitted | canArbitrationLost | canBusError | canIntegrationEnd | canRecoveryEnd | canReferenceDue | canReferenceLost
    | canSkipperResume | canDominantTimeout | beEdge | canTransceiverRetest | logicSupplyFail | logicSupplyRecovery | fdSag | fdUndervoltage
    | fdRecovery | laneFailure | laneRetry | netLinkChange | portSelftest | portRetrain | railBrownOut | pllLockTimeout | cocoonCommitEnd
    | taskRelease | taskDeadline | taskAbandon | safetyCommitMissing | aiPairDiscrepancy | agreeWindowEnd | compareWindowEnd | loopSample
    | acModeSwitchEnd | acSilenceTimeout | acDiagnostic | acThermal | acThermalRecovery | acReferenceCheck | acReadbackRecheck
    | acCalibrationEnd | hartPollDue | hartPollStale | hartBurstFrame | dcModeSwitchEnd | dcLevelAccepted | dcSilenceTimeout | dcOverload
    | dcOlRetry | dcThermal | dcThermalRecovery | dcDiagnostic | dcSwitchRetest | dcInputSelftest | dcDiscrepancy | acIsolatedSample
    | dcDiagnosticCheck | pairSilenceTimeout | memoryEccError | memoryEccCorrected | memoryMarchTestEnd => exact settles_below
  case svOvertemp t temp => exact Or.inl (next_ite ⟨_, rfl⟩ (next_ite ⟨_, rfl⟩ ⟨_, rfl⟩))
  case svSelftestFail t test => exact Or.inl (next_ite ⟨_, rfl⟩ ⟨_, rfl⟩)
  all_goals exact Or.inl ⟨_, rfl⟩

end Sys2Proof.Machine

open Sys2Proof Sys2Proof.Machine

/-- Settles O2: every row settles, with a next state or with the fault that only an ill-formed row meets. -/
theorem wellFormedCommandsGoOn : Obligations.WellFormedCommandsGoOn := by
  refine ⟨fun i s hwf => ?_, fun i s r h => ?_, fun i s f h => ?_⟩
  · rcases exec_settles i s with hnext | ⟨-, hill⟩
    · exact hnext
    · exact Bool.noConfusion (hwf.symm.trans hill)
  · rcases exec_settles i s with ⟨u, hnext⟩ | ⟨hfault, -⟩
    · cases h.symm.trans hnext
    · cases h.symm.trans hfault
  · rcases exec_settles i s with ⟨u, hnext⟩ | ⟨hfault, hill⟩
    · cases h.symm.trans hnext
    · cases h.symm.trans hfault
      exact ⟨rfl, hill⟩
end

section
/-! PROOFS. Rules for the shapes of the statements: an event by what its row runs, a command by its action, now or at its owner's boundary. -/

namespace Sys2Proof.Machine

/-! ## Events -/

section
variable {i : Instr} {t : Nat} {g : State → Prop} {f : State → State}

/-- An event whose row runs `F` has the effect `f` where `F` has it. -/
theorem occurs_of (F : State → State) (hexec : ∀ s, exec i s = .next (F (s.advance t))) (h : ∀ s, g s → F s = f s) : Occurs i t g f := by
  intro s hg
  rw [hexec, h _ hg]

/-- An event that has an effect where `g` holds and none elsewhere. -/
theorem occursIf_of (F : State → State) (hexec : ∀ s, exec i s = .next (F (s.advance t))) (h : ∀ s, g s → F s = f s)
    (hnot : ∀ s, ¬ g s → F s = s) : OccursIf i t g f :=
  ⟨occurs_of F hexec h, occurs_of F hexec hnot⟩

/-- An event on resource `n` of `k`. -/
theorem occurs_on {n k : Nat} (hn : n < k) (F : State → State)
    (hexec : ∀ s, exec i s = if n < k then .next (F (s.advance t)) else .fault .noSuchResource) (h : ∀ s, g s → F s = f s) : Occurs i t g f :=
  occurs_of F (fun s => (hexec s).trans (if_pos hn)) h

theorem occursIf_on {n k : Nat} (hn : n < k) (F : State → State)
    (hexec : ∀ s, exec i s = if n < k then .next (F (s.advance t)) else .fault .noSuchResource) (h : ∀ s, g s → F s = f s)
    (hnot : ∀ s, ¬ g s → F s = s) : OccursIf i t g f :=
  ⟨occurs_on hn F hexec h, occurs_on hn F hexec hnot⟩

end

/-! ## Commands -/

section
variable {k : CmdSpec} {mk : Nat → Cmd → Instr} {f : Entry → State → State} {p : Cmd → State → Prop}

/-- The row of a command submits it by its kind. -/
def Submits (k : CmdSpec) (mk : Nat → Cmd → Instr) : Prop := ∀ t c s, exec (mk t c) s = .next (k.submit c (s.advance t))

/-- A taken command does its action in the state it finds. -/
theorem exec_of_taken (hrow : Submits k mk) {t : Nat} {c : Cmd} {s : State} (h : k.taken t c s = true) :
    exec (mk t c) s = .next ((s.arrived k.op t c).finish (s.entryFor k.op c) (k.run (s.entryFor k.op c) (s.arrived k.op t c))) := by
  rw [hrow, submit_of_taken h]

/-- A command whose action finishes as `f` says does `f`. -/
theorem does_of (hrow : Submits k mk) (h : ∀ e s, p e.cmd s → s.finish e (k.run e s) = f e s) : Does k mk f p := by
  intro t c s htaken hp
  rw [exec_of_taken hrow htaken, h _ _ hp]

/-- A command whose action leaves `f` and answers S_OK completes. -/
theorem completes_of (hrow : Submits k mk) (h : ∀ e s, p e.cmd s → k.run e s = .ok (f e s)) : Completes k mk f p := by
  intro t c s htaken hp
  rw [exec_of_taken hrow htaken, h _ _ hp, finish_ok]

/-- A command whose action answers a block reports it. -/
theorem reports_of {b : Cmd → State → Bytes} (hrow : Submits k mk) (h : ∀ e s, p e.cmd s → k.run e s = .long (b e.cmd s) (f e s)) :
    Reports k mk b f p := by
  intro t c s htaken hp
  rw [exec_of_taken hrow htaken, h _ _ hp, finish_long]
  rfl

/-- A command with an owner in its cycle waits in the owner's mailbox (01 R18). -/
theorem waits_of (hrow : Submits k mk) : Waits k mk := by
  intro t c s o hpass howner hbusy hpair hroom
  rw [hrow, CmdSpec.submit_of_posted hpass howner (by simpa using hbusy) hpair, if_neg (by omega)]

/-- A posted command is applied by the action of its kind. -/
theorem appliesAs_of (hspec : specOf k.op = some k) (h : ∀ e s, p e.cmd s → s.finish e (k.run e s) = f e s) : AppliesAs k f p := by
  intro o due e s hop hp
  simp only [applyPosting, hop, hspec]
  exact h e s hp

theorem completesAtBoundary_of (hrow : Submits k mk) (hspec : specOf k.op = some k) (h : ∀ e s, p e.cmd s → k.run e s = .ok (f e s)) :
    CompletesAtBoundary k mk f p :=
  ⟨waits_of hrow, appliesAs_of hspec fun e s hp => by rw [h e s hp, finish_ok]⟩

theorem completesEitherWay_of (hrow : Submits k mk) (hspec : specOf k.op = some k) (h : ∀ e s, p e.cmd s → k.run e s = .ok (f e s)) :
    CompletesEitherWay k mk f p :=
  ⟨completes_of hrow h, completesAtBoundary_of hrow hspec h⟩

theorem doesEitherWay_of (hrow : Submits k mk) (hspec : specOf k.op = some k) (h : ∀ e s, p e.cmd s → s.finish e (k.run e s) = f e s) :
    DoesEitherWay k mk f p :=
  ⟨does_of hrow h, waits_of hrow, appliesAs_of hspec h⟩

end

end Sys2Proof.Machine
end

section
/-! PROOFS. The host registers, doorbells, ring enables and resets (04 R87 to R104, R118). -/

namespace Sys2Proof.Machine

section
variable {s : State} {k : Nat}

/-! ## Ring enables (04 R93, R99) -/

theorem State.ringEnable_idle {on : Bool} (h : s.host.ready = false ∨ (s.ring k).en = on) : s.ringEnable k on = s := by
  have : ¬s.host.ready = true ∨ (s.ring k).en = on := by simpa using h
  simp only [State.ringEnable, this, if_true]

/-- A ring that starts takes its place at entry 0; of the completion ring what was not signalled is forgotten; a bad size is a fault. -/
theorem State.ringEnable_on (hready : s.host.ready = true) (hen : (s.ring k).en = false) :
    s.ringEnable k true =
      (let u := ringAtStart k s
       let u := if k = 1 then { u with host := { u.host with unsignalled := 0 } } else u
       if (s.ring k).log2 < 4 ∨ ringMaxLog2 k < (s.ring k).log2 then u.ringFault k 0x01 else u) := by
  have hgo : ¬(¬s.host.ready = true ∨ (s.ring k).en = true) := by simp [hready, hen]
  simp only [State.ringEnable, if_neg hgo, if_true]
  rfl

theorem State.ringEnable_starts {top : Nat} (htop : ringMaxLog2 k = top) (h : ringMayStart s k top) :
    s.ringEnable k true =
      (let u := ringAtStart k s
       if k = 1 then { u with host := { u.host with unsignalled := 0 } } else u) := by
  obtain ⟨hready, hen, hlo, hhi⟩ := h
  rw [State.ringEnable_on hready hen]
  dsimp only
  rw [if_neg (by omega)]

/-- A ring that stops keeps its place; the streams of a bulk ring end. -/
theorem State.ringEnable_off (hready : s.host.ready = true) (hen : (s.ring k).en = true) :
    s.ringEnable k false =
      (let u := s.setRing k { s.ring k with en := false, run := false }
       if 8 ≤ k then u.abortRing (k - 8) else u) := by
  have hgo : ¬(¬s.host.ready = true ∨ (s.ring k).en = false) := by simp [hready, hen]
  simp only [State.ringEnable, if_neg hgo, Bool.false_eq_true, if_false]

/-- With no open stream a bulk ring's end aborts nothing. -/
theorem State.abortRing_of_no_streams {k : Nat} (h : s.disp.streams = []) : s.abortRing k = s := by
  simp [State.abortRing, State.streamsOn, h]

/-! ## Doorbells (04 R96, R99, R100) -/

/-- The entries a doorbell can name. -/
def doorbellMod (k : Nat) : Nat := if k < 8 then 4096 else 1024

theorem State.doorbell_idle {v : Nat} (h : s.host.ready = false ∨ (s.ring k).en = false) : s.doorbell k v = s := by
  have : ¬s.host.ready = true ∨ ¬(s.ring k).en = true := by simpa using h
  simp only [State.doorbell, this, if_true]

theorem State.doorbell_past {v : Nat} (h : doorbellPast s k (v % doorbellMod k)) :
    s.doorbell k v = (s.setRing k { s.ring k with db := v % doorbellMod k }).ringFault k 0x02 := by
  obtain ⟨hready, hen, hpast⟩ := h
  have hgo : ¬(¬s.host.ready = true ∨ ¬(s.ring k).en = true) := by simp [hready, hen]
  unfold State.doorbell
  dsimp only
  rw [if_neg hgo]
  exact if_pos hpast

/-- A doorbell that counts moves the head of a ring that the module fills, and the tail of one that the host fills. -/
theorem State.doorbell_taken {v : Nat} (h : doorbellTaken s k (v % doorbellMod k)) :
    s.doorbell k v = s.setRing k (if k = 1 ∨ k = 2 then { s.ring k with db := v % doorbellMod k, head := v % doorbellMod k }
      else { s.ring k with db := v % doorbellMod k, tail := v % doorbellMod k }) := by
  obtain ⟨hready, hen, hrun, hlt⟩ := h
  have hgo : ¬(¬s.host.ready = true ∨ ¬(s.ring k).en = true) := by simp [hready, hen]
  unfold State.doorbell
  dsimp only
  rw [if_neg hgo, if_neg (not_not.2 hrun)]
  exact if_neg (Nat.not_le.2 hlt)

theorem doorbellMod_bulk (j : Nat) : doorbellMod (8 + j) = 1024 := if_neg (by omega)

/-! ## PERST# (04 R89, R118) -/

theorem State.abortRings_of_no_streams (h : s.disp.streams = []) : (List.range 8).foldl (fun (s : State) k => s.abortRing k) s = s :=
  List.foldl_fixed' (fun _ => State.abortRing_of_no_streams h) _

/-- The host's undispatched commands withdrawn, as PERST# does. -/
def State.withdrawn (s : State) : State :=
  (s.disp.flights.filter (fun f => f.entry.cmd.route == .host && !f.dispatched)).foldl (fun (s : State) f => s.withdraw f) s

/-- PERST# with no open stream, by the host interface it leaves (04 R118). -/
theorem State.perst_of_no_streams {v : State}
    (hv : v = ({ s.clearReady with host := { mem := s.clearReady.host.mem, irqs := s.clearReady.host.irqs } } : State).withdrawn)
    (hstreams : v.disp.streams = []) :
    s.perst = { v with
      disp := { v.disp with flights := v.disp.flights.map (fun f => if f.entry.cmd.route = .host then { f with orphan := true } else f) } } := by
  subst hv
  unfold State.perst
  exact State.abortRings_of_no_streams hstreams

/-- What the release of PERST# runs. -/
def State.perstReleased (s : State) : State :=
  if s.host.endpointUp then s else ({ s with host := { s.host with endpointUp := true } } : State).setReady

/-! ## Fault bits (04 R99) -/

/-- The fault bits of some rings are cleared where the written word says so. -/
def State.clearFaults (v : Nat) (l : List (Nat × Nat)) (s : State) : State :=
  l.foldl (fun (s : State) b => if bitOf v (16 + b.2) then s.setRing b.1 { s.ring b.1 with fault := false } else s) s

/-- A ring with its fault bit cleared where `b` says so. -/
def Ring.cleared (r : Ring) (b : Bool) : Ring := { r with fault := r.fault && !b }

theorem State.setRing_rings_wf {x : Ring} (h : Tab.wf (fun _ => {}) s.host.rings = true) :
    Tab.wf (fun _ => {}) (s.setRing k x).host.rings = true :=
  Tab.wf_put k x h

/-- One ring's fault bit. -/
theorem State.clearFault_ring {v : Nat} {b : Nat × Nat} (h : Tab.wf (fun _ => {}) s.host.rings = true) {u : State}
    (hu : u = if bitOf v (16 + b.2) then s.setRing b.1 { s.ring b.1 with fault := false } else s) :
    Tab.wf (fun _ => {}) u.host.rings = true ∧ u.host.faultCause = s.host.faultCause
      ∧ u.ring b.1 = (s.ring b.1).cleared (bitOf v (16 + b.2)) ∧ ∀ j, j ≠ b.1 → u.ring j = s.ring j := by
  subst hu
  by_cases hbit : bitOf v (16 + b.2) = true
  · rw [if_pos hbit]
    refine ⟨State.setRing_rings_wf h, rfl, ?_, fun j hj => Tab.get_put_other _ _ _ h hj⟩
    rw [hbit]
    exact (Tab.get_put b.1 _ h).trans (by simp [Ring.cleared])
  · rw [if_neg hbit, Bool.eq_false_of_not_eq_true hbit]
    exact ⟨h, rfl, by simp [Ring.cleared], fun _ _ => rfl⟩

/-- Each listed ring loses its fault bit alone, and every other ring stays. -/
theorem State.clearFaults_rings {v : Nat} {l : List (Nat × Nat)} (hl : (l.map Prod.fst).Nodup) (h : Tab.wf (fun _ => {}) s.host.rings = true) :
    (s.clearFaults v l).host.faultCause = s.host.faultCause
      ∧ (∀ b ∈ l, (s.clearFaults v l).ring b.1 = (s.ring b.1).cleared (bitOf v (16 + b.2)))
      ∧ ∀ j, j ∉ l.map Prod.fst → (s.clearFaults v l).ring j = s.ring j := by
  induction l generalizing s with
  | nil => exact ⟨rfl, fun b hb => absurd hb List.not_mem_nil, fun _ _ => rfl⟩
  | cons b l ih =>
    rw [List.map_cons, List.nodup_cons] at hl
    obtain ⟨hwf, hcause, hsame, hother⟩ := State.clearFault_ring (v := v) (b := b) h rfl
    obtain ⟨icause, ilisted, iother⟩ := ih hl.2 hwf
    refine ⟨icause.trans hcause, fun b' hb' => ?_, fun j hj => ?_⟩
    · rcases List.mem_cons.1 hb' with rfl | hb'
      · exact (iother _ hl.1).trans hsame
      · refine (ilisted b' hb').trans (congrArg (Ring.cleared · _) (hother _ fun he => hl.1 ?_))
        exact he ▸ List.mem_map_of_mem hb'
    · rw [List.map_cons, List.mem_cons, not_or] at hj
      exact (iother j hj.2).trans (hother j hj.1)

/-- The fault cause stays while a fault bit stands. -/
theorem State.faultClear_spec {v : Nat} (hready : s.host.ready = true) (h : Tab.wf (fun _ => {}) s.host.rings = true) :
    (∀ b ∈ ringBits, (s.faultClear v).ring b.1 = (s.ring b.1).cleared (bitOf v (16 + b.2)))
      ∧ (s.faultClear v).host.faultCause
        = if ringBits.any (fun b => (s.ring b.1).fault && !bitOf v (16 + b.2)) then s.host.faultCause else 0 := by
  obtain ⟨hcause, hlisted, -⟩ := State.clearFaults_rings (v := v) (l := ringBits) (by decide) h
  have hdef : s.faultClear v = if ringBits.any (fun b => ((s.clearFaults v ringBits).ring b.1).fault) then s.clearFaults v ringBits
      else { s.clearFaults v ringBits with host := { (s.clearFaults v ringBits).host with faultCause := 0, faultRing := 0 } } := by
    rw [State.faultClear, if_neg (not_not.2 hready)]
    rfl
  have hany : ringBits.any (fun b => ((s.clearFaults v ringBits).ring b.1).fault)
      = ringBits.any (fun b => (s.ring b.1).fault && !bitOf v (16 + b.2)) := by
    refine Bool.eq_iff_iff.2 ?_
    simp only [List.any_eq_true]
    exact exists_congr fun b => and_congr_right fun hb => by rw [hlisted b hb]; rfl
  rw [hdef, hany]
  split
  · exact ⟨hlisted, hcause⟩
  · exact ⟨hlisted, rfl⟩

/-! ## Register writes (04 R88, R92, R94, R103) -/

theorem State.registerWrite_misplaced {o v be : Nat} (h : o % 4 ≠ 0 ∨ be ≠ 15) : s.registerWrite o v be = s :=
  if_pos (by tauto)

/-- A write of a ring or vector register of a ready interface. -/
theorem State.registerWrite_hostReg {o v : Nat} (ho : o % 4 = 0) (hlow : o < 0x0300) (hd3 : s.host.d3hot = false) :
    s.registerWrite o v 15 = s.hostReg o (v % 2 ^ 32) := by
  have hgo : ¬(o % 4 ≠ 0 ∨ (15 : Nat) ≠ 15 ∨ s.host.d3hot = true) := by simp [ho, hd3]
  unfold State.registerWrite
  dsimp only
  rw [if_neg hgo, if_neg (by omega), if_neg (by omega)]

theorem State.registerWrite_reset {v : Nat} (hd3 : s.host.d3hot = false) :
    s.registerWrite 0x0300 v 15 = s.resetRegister (v % 2 ^ 32) := by
  have hgo : ¬((0x0300 : Nat) % 4 ≠ 0 ∨ (15 : Nat) ≠ 15 ∨ s.host.d3hot = true) := by simp [hd3]
  unfold State.registerWrite
  dsimp only
  rw [if_neg hgo, if_pos rfl]

/-- The base registers of the three command rings. -/
theorem ringReg_base {k : Nat} (hk : k < 3) : ringReg (0x0100 + 16 * k) = some (k, 0) := by
  interval_cases k <;> rfl

/-- The size registers of the bulk rings. -/
theorem ringReg_bulkSize {k : Nat} (hk : k < 8) : ringReg (0x0140 + 16 * k + 8) = some (8 + k, 8) := by
  interval_cases k <;> rfl

theorem State.hostReg_coalesce {v : Nat} (hready : s.host.ready = true) : s.hostReg 0x011C v
    = ({ s with host := { s.host with coalesceCount := v % 256, coalesceDelayUs := bitsOf v 23 8 } } : State).coalesceCheck :=
  if_neg (not_not.2 hready)

theorem State.hostReg_ringSetup {o v f : Nat} (hready : s.host.ready = true) (hreg : ringReg o = some (k, f)) :
    s.hostReg o v = s.ringSetup k f v := by
  simp [State.hostReg, hready, hreg]

theorem State.resetRegister_of_not_key {v : Nat} (h : s.host.endpointUp = false ∨ v ≠ 0x0000A55A) : s.resetRegister v = s := by
  refine if_neg fun hk => ?_
  rcases h with h | h
  · simp [h] at hk
  · exact h hk.2

end

end Sys2Proof.Machine

open Sys2Proof Sys2Proof.Machine

/-- Settles O14: a rule for each register, enable bit and doorbell, and PERST# by what it leaves of the host interface. -/
theorem hostRegistersAndDoorbells : Obligations.HostRegistersAndDoorbells := by
  refine ⟨⟨fun t => ⟨?_, ?_, ?_, fun on => ?_⟩, fun t => ⟨?_, ?_⟩, fun t => ⟨?_, ?_⟩, fun t j hj => ⟨?_, ?_, ?_⟩, fun t v s hready hwf => ?_,
      fun t v => ?_, fun t o v be h => ?_, fun t v => ?_, fun t v => ?_, fun t k v hk => ?_, fun t k v hk => ?_, fun t k v hk => ?_,
      fun t v => ?_, fun t v => ?_, fun t v => ?_⟩,
    ⟨fun t v => ⟨?_, ?_, ?_⟩, fun t v => ⟨?_, ?_, ?_⟩, fun t v => ⟨?_, ?_, ?_⟩, fun t j v hj => ⟨?_, ?_, ?_⟩⟩,
    fun t s u w v hu hw hv hstreams => ?_, fun t => ?_, fun t => ?_, fun t => ?_⟩
  · exact occurs_of (State.ringEnable 0 true) (fun _ => rfl) fun s h => State.ringEnable_starts rfl h
  · refine occurs_of (State.ringEnable 0 true) (fun _ => rfl) fun s h => ?_
    obtain ⟨hready, hen, hlog2⟩ := h
    exact (State.ringEnable_on hready hen).trans (if_pos (Or.inl hlog2))
  · exact occurs_of (State.ringEnable 0 false) (fun _ => rfl) fun s h => State.ringEnable_off h.1 h.2
  · exact occurs_of (State.ringEnable 0 on) (fun _ => rfl) fun s h => State.ringEnable_idle h
  · exact occurs_of (State.ringEnable 1 true) (fun _ => rfl) fun s h => State.ringEnable_starts rfl h
  · exact occurs_of (State.ringEnable 1 false) (fun _ => rfl) fun s h => State.ringEnable_off h.1 h.2
  · exact occurs_of (State.ringEnable 2 true) (fun _ => rfl) fun s h => State.ringEnable_starts rfl h
  · exact occurs_of (State.ringEnable 2 false) (fun _ => rfl) fun s h => State.ringEnable_off h.1 h.2
  · refine occurs_on hj (State.ringEnable (8 + j) true) (fun _ => rfl) fun s h => ?_
    exact (State.ringEnable_starts (if_neg (by omega)) h).trans (if_neg (by omega))
  · refine occurs_on hj (State.ringEnable (8 + j) true) (fun _ => rfl) fun s h => ?_
    obtain ⟨hready, hen, hlog2⟩ := h
    have hmax : ringMaxLog2 (8 + j) = 10 := if_neg (by omega)
    rw [State.ringEnable_on hready hen, hmax]
    dsimp only
    rw [if_pos (Or.inr hlog2), if_neg (by omega)]
  · refine occurs_on hj (State.ringEnable (8 + j) false) (fun _ => rfl) fun s h => ?_
    obtain ⟨hready, hen, hstreams⟩ := h
    rw [State.ringEnable_off hready hen]
    dsimp only
    exact (if_pos (by omega)).trans (State.abortRing_of_no_streams hstreams)
  · exact ⟨_, rfl, State.faultClear_spec hready hwf⟩
  · exact occursIf_of (State.resetRegister v) (fun _ => rfl) (fun s h => if_pos h) fun s h => if_neg h
  · exact occurs_of (State.registerWrite o v be) (fun _ => rfl) fun s _ => State.registerWrite_misplaced h
  · refine occurs_of (State.registerWrite 0x0300 v 15) (fun _ => rfl) fun s h => ?_
    obtain ⟨hup, hd3, hkey⟩ := h
    exact (State.registerWrite_reset hd3).trans (if_pos ⟨hup, hkey⟩)
  · refine occurs_of (State.registerWrite 0x0300 v 15) (fun _ => rfl) fun s h => ?_
    cases hd3 : s.host.d3hot with
    | true => exact if_pos (by simp [hd3])
    | false => exact (State.registerWrite_reset hd3).trans (State.resetRegister_of_not_key h)
  · refine occurs_of (State.registerWrite (0x0100 + 16 * k) v 15) (fun _ => rfl) fun s h => ?_
    obtain ⟨hready, hd3, hen⟩ := h
    rw [State.registerWrite_hostReg (by omega) (by omega) hd3, State.hostReg_ringSetup hready (ringReg_base hk)]
    exact if_pos hen
  · refine occurs_of (State.registerWrite (0x0100 + 16 * k) v 15) (fun _ => rfl) fun s h => ?_
    obtain ⟨hready, hd3, hen⟩ := h
    rw [State.registerWrite_hostReg (by omega) (by omega) hd3, State.hostReg_ringSetup hready (ringReg_base hk)]
    exact if_neg (by simp [hen])
  · refine occurs_of (State.registerWrite (0x0140 + 16 * k + 8) v 15) (fun _ => rfl) fun s h => ?_
    obtain ⟨hready, hd3, hen⟩ := h
    rw [State.registerWrite_hostReg (by omega) (by omega) hd3, State.hostReg_ringSetup hready (ringReg_bulkSize hk)]
    simp [State.ringSetup, hen]
  · refine occurs_of (State.registerWrite 0x011C v 15) (fun _ => rfl) fun s h => ?_
    obtain ⟨hready, hd3, hcount⟩ := h
    rw [State.registerWrite_hostReg rfl (by omega) hd3, State.hostReg_coalesce hready]
    exact if_neg (by dsimp only; omega)
  · refine occurs_of (State.registerWrite 0x011C v 15) (fun _ => rfl) fun s h => ?_
    obtain ⟨hready, hd3, hwaiting, hcount⟩ := h
    rw [State.registerWrite_hostReg rfl (by omega) hd3, State.hostReg_coalesce hready]
    exact if_pos (by dsimp only; omega)
  · refine occurs_of (State.registerWrite 0x012C v 15) (fun _ => rfl) fun s h => ?_
    obtain ⟨hready, hd3⟩ := h
    rw [State.registerWrite_hostReg rfl (by omega) hd3]
    exact if_neg (not_not.2 hready)
  · exact occurs_of (State.doorbell 0 v) (fun _ => rfl) fun s h => State.doorbell_taken h
  · exact occurs_of (State.doorbell 0 v) (fun _ => rfl) fun s h => State.doorbell_past h
  · exact occurs_of (State.doorbell 0 v) (fun _ => rfl) fun s h => State.doorbell_idle h
  · exact occurs_of (State.doorbell 1 v) (fun _ => rfl) fun s h => State.doorbell_taken h
  · exact occurs_of (State.doorbell 1 v) (fun _ => rfl) fun s h => State.doorbell_past h
  · exact occurs_of (State.doorbell 1 v) (fun _ => rfl) fun s h => State.doorbell_idle h
  · exact occurs_of (State.doorbell 2 v) (fun _ => rfl) fun s h => State.doorbell_taken h
  · exact occurs_of (State.doorbell 2 v) (fun _ => rfl) fun s h => State.doorbell_past h
  · exact occurs_of (State.doorbell 2 v) (fun _ => rfl) fun s h => State.doorbell_idle h
  · refine occurs_on hj (State.doorbell (8 + j) v) (fun _ => rfl) fun s h => ?_
    rw [State.doorbell_taken (by rwa [doorbellMod_bulk]), if_neg (by omega), doorbellMod_bulk]
  · refine occurs_on hj (State.doorbell (8 + j) v) (fun _ => rfl) fun s h => ?_
    rw [State.doorbell_past (by rwa [doorbellMod_bulk]), doorbellMod_bulk]
  · exact occurs_on hj (State.doorbell (8 + j) v) (fun _ => rfl) fun s h => State.doorbell_idle h
  · subst hu hw hv
    exact congrArg Host.Outcome.next (State.perst_of_no_streams rfl hstreams)
  · exact occurs_of State.perstReleased (fun _ => rfl) fun s h => if_pos h
  · refine occurs_of State.perstReleased (fun _ => rfl) fun s h => ?_
    obtain ⟨hdown, hmgmt, hready⟩ := h
    simp [State.perstReleased, State.setReady, hdown, hmgmt, hready]
  · refine occurs_of State.perstReleased (fun _ => rfl) fun s h => ?_
    obtain ⟨hdown, hmgmt⟩ := h
    simp [State.perstReleased, State.setReady, hdown, hmgmt]
end

section
/-! PROOFS. Commands fetched and dispatched, and the entries of the bulk rings (04 R97 to R105, R118). -/

namespace Sys2Proof.Machine

/-! ## Vectors (04 R87, R94) -/

/-- The host interface with vector register `k` raised. -/
def HostIf.raised (k : Nat) (h : HostIf) : HostIf :=
  let v := Tab.get vectorUnlisted h.vectors k
  if ¬ bitOf v 31 then h
  else if Tab.get (fun _ => false) h.msixMasked (v % 32) then { h with msixPending := Tab.put (fun _ => false) h.msixPending (v % 32) true }
  else { h with irqs := Tab.upd (fun _ => 0) h.irqs (v % 32) (fun n => n + 1) }

/-- A vector touches the host interface alone. -/
theorem State.raiseVector_eq (k : Nat) (s : State) : s.raiseVector k = { s with host := s.host.raised k } := by
  unfold State.raiseVector HostIf.raised
  dsimp only
  split
  · rfl
  · split <;> rfl

/-! ## Fetching (04 R99, R101) -/

section
variable {s : State} {rd block : Option Bytes} {wf : Bool}

theorem State.fetchRoom_iff : s.fetchRoom = true ↔ s.inFlight .host < 128
    ∧ s.inFlight .host + ((s.ring 1).tail + 2 ^ (s.ring 1).log2 - (s.ring 1).head) % 2 ^ (s.ring 1).log2 + 1 < 2 ^ (s.ring 1).log2 := by
  simp only [State.fetchRoom, Bool.and_eq_true, decide_eq_true_eq]
  rfl

theorem State.sqFetch_idle (h : ¬sqMayFetch s) : s.sqFetch rd block wf = s := by
  refine if_pos fun hgo => h ?_
  simp only [Bool.and_eq_true, Bool.not_eq_true', bne_iff_ne, State.fetchRoom_iff] at hgo
  obtain ⟨⟨⟨⟨⟨hready, hd3⟩, hmgmt⟩, hrun⟩, hwaits⟩, hroom, hring⟩ := hgo
  exact ⟨hready, hd3, hmgmt, hrun, hwaits, hroom, hring⟩

theorem State.sqFetch_goes (h : sqMayFetch s) : s.sqFetch rd block wf =
    match rd with
    | none => s.ringFault 0 0x03
    | some b => (s.setRing 0 { s.ring 0 with head := ((s.ring 0).head + 1) % (s.ring 0).size }).takeEntry
        ((parseEntry .host (s.ring 0).head b block).1, { (parseEntry .host (s.ring 0).head b block).2 with writeFails := wf }) := by
  obtain ⟨hready, hd3, hmgmt, hrun, hwaits, hroom, hring⟩ := h
  refine if_neg (not_not.2 ?_)
  simp [hready, hd3, hmgmt, hrun, hwaits, State.fetchRoom_iff, hroom, hring]

end

/-! ## The dispatcher's turn (04 R105, R107) -/

/-- What COMMAND_DISPATCH runs. -/
def State.dispatchTurn (s : State) : State := match s.inTurn with | some e => s.dispatchEntry e | none => s

/-- The waiting commands of a kind of route whose routes are open. -/
def State.waiting (s : State) (r : Nat) : List Entry := s.disp.queue.filter (fun e => e.cmd.route.kind == r && s.routeOpen e.cmd.route)

section
variable {s : State} {e : Entry}

theorem State.candidate_of_abort {r : Nat} (h : (s.waiting r).find? (fun e => e.op == 0x0102) = some e) : s.candidate r = some e := by
  unfold State.candidate
  unfold State.waiting at h
  simp only [h]

theorem State.candidate_of_first {r : Nat} (hnone : (s.waiting r).find? (fun e => e.op == 0x0102) = none)
    (h : (s.waiting r).find? (fun e => !(s.heldBack e)) = some e) : s.candidate r = some e := by
  unfold State.candidate
  unfold State.waiting at hnone h
  simp only [hnone, h]

/-- A candidate waits, and its route is open. -/
theorem State.candidate_mem {r : Nat} (h : s.candidate r = some e) : e ∈ s.disp.queue ∧ s.routeOpen e.cmd.route = true := by
  have hmem : e ∈ s.waiting r := by
    unfold State.candidate at h
    dsimp only at h
    split at h
    · next e' he =>
      obtain rfl := Option.some.inj h
      exact List.mem_of_find?_eq_some he
    · exact List.mem_of_find?_eq_some h
  simp only [State.waiting, List.mem_filter, Bool.and_eq_true] at hmem
  exact ⟨hmem.1, hmem.2.2⟩

theorem State.dispatchTurn_of_candidate (h : s.candidate ((s.disp.lastRoute + 1) % 3) = some e) : s.dispatchTurn = s.dispatchEntry e := by
  simp only [State.dispatchTurn, State.inTurn, h]

/-- Nothing is dispatched where every waiting command's route is closed or the command is held back. -/
theorem State.dispatchTurn_idle (h : ∀ e ∈ s.disp.queue, s.routeOpen e.cmd.route = false ∨ s.heldBack e = true) : s.dispatchTurn = s := by
  have hnone (r : Nat) : s.candidate r = none := by
    cases hc : s.candidate r with
    | none => rfl
    | some e =>
      obtain ⟨hmem, hopen⟩ := State.candidate_mem hc
      rcases h e hmem with hclosed | hheld
      · exact Bool.noConfusion (hopen.symm.trans hclosed)
      · rcases State.candidate_spec hc with habort | hfree
        · simp [State.heldBack, habort] at hheld
        · exact Bool.noConfusion (hheld.symm.trans hfree)
  simp only [State.dispatchTurn, State.inTurn, hnone]

/-- An entry of a known opcode that fails a check. -/
theorem State.dispatchEntry_refused {k : CmdSpec} {st : Status} (hspec : specOf e.op = some k) (h : k.refusal e (asDispatched e s) = some st) :
    s.dispatchEntry e = (asDispatched e s).complete e st 0 [] := by
  unfold asDispatched at h
  simp only [State.dispatchEntry, hspec, CmdSpec.dispatch, h]
  rfl

theorem State.dispatchEntry_acts {k : CmdSpec} (hspec : specOf e.op = some k) (h : k.refusal e (asDispatched e s) = none)
    (howner : k.owner (asDispatched e s) e.cmd = none) :
    s.dispatchEntry e = (asDispatched e s).finish e (k.run e (asDispatched e s)) := by
  unfold asDispatched at h howner
  simp only [State.dispatchEntry, hspec, CmdSpec.dispatch, h, CmdSpec.act, howner]
  rfl

end

/-! ## Bulk entries (04 R97, R99, R104) -/

section
variable {s : State} {k : Nat} {rd : BulkRead} {wf : Bool}

theorem State.bulkEntry_idle {rd : Option BulkRead} (h : ¬bulkMayTake s k) : s.bulkEntry k rd wf = s := by
  refine if_pos fun hgo => h ?_
  simp only [Bool.and_eq_true, bne_iff_ne] at hgo
  obtain ⟨⟨⟨⟨hready, hup⟩, hmgmt⟩, hrun⟩, hwaits⟩ := hgo
  exact ⟨hready, hup, hmgmt, hrun, hwaits⟩

theorem State.bulkEntry_goes {rd : Option BulkRead} (h : bulkMayTake s k) : s.bulkEntry k rd wf =
    match rd with
    | none => s.ringFault (8 + k) 0x03
    | some rd =>
      if rd.rsv ≠ 0 ∨ 8 ≤ rd.flags ∨ rd.len < 1 ∨ 65536 < rd.len then s.ringFault (8 + k) 0x06
      else if (s.ring (8 + k)).dir then s.bulkOut k rd wf
      else s.bulkIn k rd wf := by
  obtain ⟨hready, hup, hmgmt, hrun, hwaits⟩ := h
  refine if_neg (not_not.2 ?_)
  simp [bulkRing, hready, hup, hmgmt, hrun, hwaits]

/-- An entry whose fields are allowed reaches its ring's direction. -/
theorem State.bulkEntry_in (h : bulkMayTake s k) (hok : bulkFieldsOk rd) (hdir : (s.ring (8 + k)).dir = false) :
    s.bulkEntry k (some rd) wf = s.bulkIn k rd wf := by
  obtain ⟨hrsv, hflags, hlo, hhi⟩ := hok
  rw [State.bulkEntry_goes h]
  dsimp only
  rw [if_neg (by omega), if_neg (by simp [hdir])]

theorem State.bulkEntry_out (h : bulkMayTake s k) (hok : bulkFieldsOk rd) (hdir : (s.ring (8 + k)).dir = true) :
    s.bulkEntry k (some rd) wf = s.bulkOut k rd wf := by
  obtain ⟨hrsv, hflags, hlo, hhi⟩ := hok
  rw [State.bulkEntry_goes h]
  dsimp only
  rw [if_neg (by omega), if_pos hdir]

theorem State.bulkMark_done (used stream : Nat) (fin err : Bool) (s : State) :
    s.bulkMark k used stream fin err false = bulkDone k used fin stream err s := rfl

theorem State.bulkMark_fails (used stream : Nat) (fin err : Bool) (s : State) : s.bulkMark k used stream fin err true = s.ringFault (8 + k) 0x04 := rfl

/-- A mark touches the host interface alone. -/
theorem bulkDone_eq (k used : Nat) (fin : Bool) (stream : Nat) (err : Bool) (s : State) :
    bulkDone k used fin stream err s = { s with host := (bulkDone k used fin stream err s).host } := by
  unfold bulkDone
  rw [State.raiseVector_eq]
  rfl

/-- What a mark leaves of the host interface depends on nothing else. -/
theorem bulkDone_host_congr {s u : State} (h : u.host = s.host) (k used : Nat) (fin : Bool) (stream : Nat) (err : Bool) :
    (bulkDone k used fin stream err u).host = (bulkDone k used fin stream err s).host := by
  have halone (v : State) : (bulkDone k used fin stream err v).host = (bulkDone k used fin stream err ({ host := v.host } : State)).host := by
    unfold bulkDone
    rw [State.raiseVector_eq, State.raiseVector_eq]
    rfl
  rw [halone u, halone s, h]

/-- A mark leaves the dispatcher and takes no notice of it. -/
theorem bulkDone_disp (used stream a : Nat) (fin err : Bool) (b : Bytes) (d : Dispatcher) :
    bulkDone k used fin stream err (({ s with disp := d } : State).hostWrite a b)
      = { bulkDone k used fin stream err (s.hostWrite a b) with disp := d } := by
  rw [bulkDone_eq, bulkDone_host_congr (u := ({ s with disp := d } : State).hostWrite a b) (s := s.hostWrite a b) rfl,
    bulkDone_eq k used fin stream err (s.hostWrite a b)]
  rfl

/-- An entry that no stream to the module takes is marked with its error bit, which ends a command that has the stream open the other
way. -/
theorem State.bulkIn_of_no_taker (hnone : (s.streamsOn k).find? (fun x => x.stream == rd.stream && !x.toHost) = none) :
    s.bulkIn k rd wf =
      match s.disp.streams.find? (fun x => x.stream == rd.stream && x.toHost) with
      | some x => if wf then s.bulkMark k 0 rd.stream (bitOf rd.flags 1) true wf
          else (s.bulkMark k 0 rd.stream (bitOf rd.flags 1) true wf).abortStream x
      | none => s.bulkMark k 0 rd.stream (bitOf rd.flags 1) true wf := by
  simp only [State.bulkIn, hnone] <;> rfl

/-- An entry of a program's stream reaches the slot. -/
theorem State.bulkIn_program {x : Stream} {b : Bytes} (hstreams : s.disp.streams = [x]) (hring : x.ring = k) (hto : x.toHost = false)
    (hstream : rd.stream = x.stream) (hdata : rd.data = some b) (hop : x.entry.op = 0x0210) (hfin : bitOf rd.flags 1 = false) :
    s.bulkIn k rd false = (
      let u := bulkDone k rd.len false rd.stream false s
      ({ u with disp := { u.disp with streams := [{ x with entries := x.entries + 1, bytes := x.bytes + (slice b 0 rd.len).length }] } } : State)
        |>.progStream x.entry x.bytes (slice b 0 rd.len) false) := by
  have hfind : (s.streamsOn k).find? (fun x => x.stream == rd.stream && !x.toHost) = some x := by
    simp [State.streamsOn, hstreams, hring, hto, hstream]
  have hkept : (bulkDone k rd.len false rd.stream false s).disp.streams = [x] := by rw [bulkDone_eq]; exact hstreams
  simp only [State.bulkIn, hfind, hdata, hfin, State.bulkMark_done, hop, State.streamIn, State.setStream, hkept]
  simp

/-- An entry of a ring to the host carries what is left of its stream, which ends. -/
theorem State.bulkOut_last {x : Stream} (hstreams : s.disp.streams = [x]) (hbursts : s.hart.bursts = []) (hpasses : s.hart.passes = [])
    (hring : x.ring = k) (hto : x.toHost = true) (hstream : rd.stream = x.stream) (hop : x.entry.op = 0x0216)
    (hlen : x.data.length ≤ rd.len) :
    s.bulkOut k rd false = (
      let u := bulkDone k x.data.length true rd.stream false (s.hostWrite rd.addr x.data)
      ({ u with disp := { u.disp with streams := [] } } : State).complete x.entry .sOk 0 []) := by
  have hout : s.outStreams k rd.stream = [x] := by simp [State.outStreams, State.streamsOn, hstreams, hring, hto, hstream]
  have hnext : s.outNext rd.len [x]
      = some (x, x.data, true, s.setStream { x with entries := x.entries + 1, data := [] }) := by
    simp [State.outNext, State.streamOut, hop, List.take_of_length_le hlen, List.drop_eq_nil_of_le hlen]
  obtain ⟨d, hset, hd, hrest⟩ : ∃ d : Dispatcher, s.setStream { x with entries := x.entries + 1, data := [] } = { s with disp := d }
      ∧ d.streams = [{ x with entries := x.entries + 1, data := [] }] ∧ { d with streams := [] } = { s.disp with streams := [] } :=
    ⟨_, rfl, by simp [hstreams], rfl⟩
  have hdisp : (bulkDone k x.data.length true rd.stream false (s.hostWrite rd.addr x.data)).disp = s.disp := by
    rw [bulkDone_eq]
    rfl
  have hhart : (bulkDone k x.data.length true rd.stream false (s.hostWrite rd.addr x.data)).hart = s.hart := by
    rw [bulkDone_eq]
    rfl
  have hbulk : s.bulkOut k rd false = ((bulkDone k x.data.length true x.stream false (({ s with disp := d } : State).hostWrite rd.addr x.data)).closeStreams
      x.entry.id).complete x.entry .sOk 0 [] := by
    simp only [State.bulkOut, hout, hnext, hop, State.bulkMark_done, hset]
    simp
  have hhart' : { s.hart with passes := [], bursts := [] } = s.hart := by rw [← hpasses, ← hbursts]
  rw [hbulk, bulkDone_disp, ← hstream]
  simp only [State.closeStreams, hd, hdisp, hhart, hpasses, hbursts, List.filter_nil, hhart']
  simp [hrest, ← hhart]

end

end Sys2Proof.Machine

open Sys2Proof Sys2Proof.Machine

/-- Settles O15: fetches and bulk entries by what their rings allow, dispatch by the candidate of the route in turn. -/
theorem commandsAreFetchedAndDispatched : Obligations.CommandsAreFetchedAndDispatched := by
  refine ⟨⟨fun t rd block wf => ?_, fun t block wf => ?_, fun t b block wf => ?_, fun t => ?_, fun t => ?_, fun t e l s u hu hl hnone hfirst => ?_,
      fun t e k s u hu hspec hfirst hpass => ?_, fun t => ?_⟩,
    fun t k rd wf hk => ?_, fun t k wf hk => ?_, fun t k wf rd hk hbad => ?_, fun t k rd hk hok => ?_, fun t k rd hk hok => ?_,
    fun t k rd x hk hok hx hto => ?_, fun t k rd x b hk hok hdata hstream hring hto hop hfin => ?_, fun t k rd hk hok hany => ?_,
    fun t k rd x hk hok hring hto hstream hop hlen => ?_⟩
  · refine occurs_of (State.sqFetch rd block wf) (fun _ => rfl) fun s h => State.sqFetch_idle fun hmay => ?_
    obtain ⟨hready, hd3, hmgmt, hrun, hwaits, hroom, hring⟩ := hmay
    rcases h with h | h | h | h | h
    · simp [hready] at h
    · simp [hmgmt] at h
    · simp [hrun] at h
    · exact hwaits h
    · omega
  · exact occurs_of (State.sqFetch none block wf) (fun _ => rfl) fun s h => State.sqFetch_goes h
  · exact occurs_of (State.sqFetch (some b) block wf) (fun _ => rfl) fun s h => State.sqFetch_goes h
  · exact occurs_of State.dispatchTurn (fun _ => rfl) fun s h => State.dispatchTurn_idle (by simp [h])
  · exact occurs_of State.dispatchTurn (fun _ => rfl) fun s h => State.dispatchTurn_idle h
  · subst hu hl
    have hturn := State.dispatchTurn_of_candidate (State.candidate_of_first hnone hfirst)
    refine ⟨fun hspec hwf => ?_, fun k hspec => ⟨fun st hst => ?_, fun hpass howner => ?_⟩⟩
    · refine congrArg Host.Outcome.next (hturn.trans ?_)
      simp only [State.dispatchEntry, hspec, hwf]
      rfl
    · exact congrArg Host.Outcome.next (hturn.trans (State.dispatchEntry_refused hspec hst))
    · exact congrArg Host.Outcome.next (hturn.trans (State.dispatchEntry_acts hspec hpass howner))
  · subst hu
    have habort : specOf 0x0102 = some specModAbort := rfl
    obtain rfl := Option.some.inj (habort.symm.trans hspec)
    have hop : e.op = 0x0102 := by simpa using List.find?_some hfirst
    refine congrArg Host.Outcome.next ((State.dispatchTurn_of_candidate (State.candidate_of_abort hfirst)).trans ?_)
    exact State.dispatchEntry_acts (hop ▸ hspec) hpass rfl
  · exact occursIf_of State.coalesceTimeout (fun _ => rfl) (fun s h => if_pos h) fun s h => if_neg h
  · exact occurs_on hk (State.bulkEntry k rd wf) (fun _ => rfl) fun s h => State.bulkEntry_idle h
  · exact occurs_on hk (State.bulkEntry k none wf) (fun _ => rfl) fun s h => State.bulkEntry_goes h
  · refine occurs_on hk (State.bulkEntry k (some rd) wf) (fun _ => rfl) fun s h => ?_
    exact (State.bulkEntry_goes h).trans (if_pos hbad)
  · refine occurs_on hk (State.bulkEntry k (some rd) false) (fun _ => rfl) fun s h => ?_
    obtain ⟨htake, hdir, hstreams⟩ := h
    rw [State.bulkEntry_in htake hok hdir, State.bulkIn_of_no_taker (by simp [State.streamsOn, hstreams])]
    simp only [hstreams, List.find?_nil, State.bulkMark_done]
  · refine occurs_on hk (State.bulkEntry k (some rd) true) (fun _ => rfl) fun s h => ?_
    obtain ⟨htake, hdir, hstreams⟩ := h
    rw [State.bulkEntry_in htake hok hdir, State.bulkIn_of_no_taker (by simp [State.streamsOn, hstreams])]
    simp only [hstreams, List.find?_nil, State.bulkMark_fails]
  · refine occurs_on hk (State.bulkEntry k (some rd) false) (fun _ => rfl) fun s h => ?_
    obtain ⟨htake, hdir, hstreams⟩ := h
    have hnone : (s.streamsOn k).find? (fun x => x.stream == rd.stream && !x.toHost) = none := by
      have hin : ∀ y ∈ s.streamsOn k, y = x := by simp +contextual [State.streamsOn, hstreams]
      refine List.find?_eq_none.2 fun y hy => ?_
      simp [hin y hy, hto]
    have hsome : s.disp.streams.find? (fun x => x.stream == rd.stream && x.toHost) = some x := by simp [hstreams, hx, hto]
    rw [State.bulkEntry_in htake hok hdir, State.bulkIn_of_no_taker hnone]
    simp only [hsome, State.bulkMark_done, Bool.false_eq_true, if_false]
  · refine occurs_on hk (State.bulkEntry k (some rd) false) (fun _ => rfl) fun s h => ?_
    obtain ⟨htake, hdir, hstreams⟩ := h
    rw [State.bulkEntry_in htake hok hdir, State.bulkIn_program hstreams hring hto hstream hdata hop hfin]
  · refine occurs_on hk (State.bulkEntry k (some rd) false) (fun _ => rfl) fun s h => ?_
    obtain ⟨htake, hdir, hstreams⟩ := h
    rw [State.bulkEntry_out htake hok hdir]
    simp [State.bulkOut, State.outStreams, State.streamsOn, hstreams, hany, State.outNext]
  · refine occurs_on hk (State.bulkEntry k (some rd) false) (fun _ => rfl) fun s h => ?_
    obtain ⟨htake, hdir, hstreams, hbursts, hpasses⟩ := h
    rw [State.bulkEntry_out htake hok hdir, State.bulkOut_last hstreams hbursts hpasses hring hto hstream hop hlen]
end

section
/-! PROOFS. Supplies, VCORE, the PLLs and the baseplate (03 R60 to R65; 22 R538). -/

namespace Sys2Proof.Machine

section
variable {s : State} {k mv cell : Nat}

/-! ## Supplies (03 R60, R61) -/

/-- A measured supply is outside its warning thresholds. -/
def supplyOut (k mv : Nat) : Bool := decide (mv < (supplyLimits k).1) || (match (supplyLimits k).2 with | some h => decide (h < mv) | none => false)

/-- The warning of a supply with no engine of its own: its flags, and the record where it newly leaves its thresholds. -/
theorem State.supplyWarn_eq (h3 : k ≠ 3) (h4 : k ≠ 4) (h5 : k ≠ 5) (h7 : k ≠ 7) :
    s.supplyWarn k mv cell =
      (let u := s.setSupply k mv (supplyOut k mv || Tab.get (fun _ => false) s.power.failFlags k) (Tab.get (fun _ => false) s.power.failFlags k)
       if supplyOut k mv && !Tab.get (fun _ => false) s.power.warnFlags k then u.tellSupply (supplyWarning k mv) else u) := by
  unfold State.supplyWarn supplyOut
  simp only [h3, h4, h5, h7, or_self, if_false] <;> rfl

/-- A supply that newly leaves its thresholds while the module runs is recorded. -/
theorem State.supplyWarn_told {c : Code} {r : Res} {q : Nat} (h3 : k ≠ 3) (h4 : k ≠ 4) (h5 : k ≠ 5) (h7 : k ≠ 7)
    (hwarning : supplyWarning k mv = some (c, r, q)) (hout : supplyOut k mv = true) (hup : s.up = true)
    (hnew : Tab.get (fun _ => false) s.power.warnFlags k = false) :
    s.supplyWarn k mv cell = (s.setSupply k mv true (Tab.get (fun _ => false) s.power.failFlags k)).post .management c r q := by
  have hup' : (s.setSupply k mv true (Tab.get (fun _ => false) s.power.failFlags k)).up = true := hup
  rw [State.supplyWarn_eq h3 h4 h5 h7]
  simp only [hout, hnew, Bool.true_or, Bool.not_false, Bool.and_self, if_true, hwarning, State.tellSupply, State.postIf, hup']

/-- A supply's event is recorded by a running module alone (01 R11). -/
theorem State.tellSupply_of_down {e : Option (Code × Res × Nat)} (h : s.up = false) : s.tellSupply e = s := by
  cases e with
  | none => rfl
  | some e => exact if_neg (by simp [h])

/-- The backup supply's warning keeps the two voltages it was measured at (02 R52). -/
theorem State.supplyWarn_backup (hlow : max mv cell < 1200) (hup : s.up = true) (hnew : Tab.get (fun _ => false) s.power.warnFlags 7 = false)
    (hfail : Tab.get (fun _ => false) s.power.failFlags 7 = false) :
    s.supplyWarn 7 mv cell =
      (let u := s.setSupply 7 (max mv cell) true false
       ({ u with rtc := { u.rtc with capMv := mv, cellMv := cell } } : State).post .management .eVbkLow { cls := 0x0E, index := 0 } (max mv cell)) := by
  have hphase : s.power.phase = .running := by simpa [State.up] using hup
  unfold State.supplyWarn
  simp [supplyLimits, hlow, hnew, hfail, State.tellSupply, supplyWarning, State.postIf, State.up, State.setSupply, hphase]

/-- What the row of a failed logic supply runs. -/
def State.logicFail (k mv : Nat) (s : State) : State :=
  if 16000 ≤ mv ∨ Tab.get (fun _ => false) s.power.failFlags k = true then s
  else (s.setSupply k mv true true).tellSupply (supplyLost (s.param .logicDualFeed 0 != 0) k mv)

/-- The loss of one logic supply is a fault where two feed the module, and else a record (03 R61). -/
theorem State.logicFail_low (hlow : mv < 16000) (hup : s.up = true) (hnew : Tab.get (fun _ => false) s.power.failFlags k = false) (hk : k < 2) :
    s.logicFail k mv =
      if (s.setSupply k mv true true).param .logicDualFeed 0 ≠ 0 then
        (s.setSupply k mv true true).post .management (if k = 0 then .fSupplyLaLost else .fSupplyLbLost) modRes mv
      else (s.setSupply k mv true true).post .management .eLogicSupplySingle modRes k := by
  have hup' : (s.setSupply k mv true true).up = true := hup
  have hparam : (s.setSupply k mv true true).param .logicDualFeed 0 = s.param .logicDualFeed 0 := rfl
  rw [State.logicFail, if_neg (by simp [hnew]; omega), hparam]
  by_cases hfeed : s.param .logicDualFeed 0 = 0
  · interval_cases k <;> simp [hfeed, supplyLost, State.tellSupply, State.postIf, hup']
  · interval_cases k <;> simp [hfeed, supplyLost, State.tellSupply, State.postIf, hup']

/-! ## VCORE, the PLLs and the baseplate (03 R63, R65; 22 R538) -/

/-- What the rows of VCORE's adaptation run. -/
def State.marginLost (s : State) : State := if s.up then s.vcoreUp else s

def State.stepDown (s : State) : State := if s.up then s.vcoreDown else s

/-- What the row of a PLL's timeout runs. -/
def State.pllTimeout (k : Nat) (s : State) : State :=
  if s.power.phase ≠ .heldReset ∧ s.power.phase ≠ .pllHeld then s
  else if s.pllTries k < 3 then
    { s with power := { s.power with phase := .heldReset, pllAttempts := Tab.put (fun _ => 1) s.power.pllAttempts k (s.pllTries k + 1) } }
  else { s with power := { s.power with
    phase := .pllHeld, pllAttempts := [], lastCause := 0x10, lastCauseEpoch := s.power.epoch, pllFailed := k } }

/-- What the row of the baseplate's temperature runs. -/
def State.baseplate (temp : Int) (s : State) : State :=
  if ¬ s.up then s
  else if temp < 680 then { s with power := { s.power with hotAt := none } }
  else
    let due := match s.power.hotAt with | some a => decide (a + 60000000000 ≤ s.tb0) | none => decide (720 ≤ temp)
    if due then ({ s with power := { s.power with hotAt := some s.tb0 } } : State).post .management .eBaseplateHot modRes (wrapInt 32 temp)
    else s

end

end Sys2Proof.Machine

open Sys2Proof Sys2Proof.Machine

/-- Settles O16: each supply by its thresholds, VCORE by its steps, a PLL by its attempts, the baseplate by its last record. -/
theorem suppliesAndClocksAreWatched : Obligations.SuppliesAndClocksAreWatched := by
  refine ⟨fun t mv cell => ?_, fun t mv cell => ?_, fun t mv cell => ?_, fun t mv cell => ?_, fun t k mv cell hk => ?_, fun t mv cell hlow => ?_,
    fun t k mv cell hk h3 h4 h5 h7 => ?_, fun t k mv hk => ?_, fun t k mv hk hlow => ?_, fun t k mv hk hlow => ?_, fun t k mv hk => ?_,
    fun t => ?_, fun t => ?_, fun t => ?_, fun t k hk => ?_, fun t k hk => ?_, fun t k hk => ?_, fun t temp hhot => ?_,
    fun t temp a hhot => ?_, fun t temp a hhot => ?_, fun t temp hcool => ?_⟩
  · refine occurs_on (show 0 < 8 by decide) (State.supplyWarn 0 mv cell) (fun _ => rfl) fun s h => ?_
    obtain ⟨hup, hout, hnew⟩ := h
    exact State.supplyWarn_told (by decide) (by decide) (by decide) (by decide) rfl (by simpa [supplyOut, supplyLimits] using hout) hup hnew
  · refine occurs_on (show 1 < 8 by decide) (State.supplyWarn 1 mv cell) (fun _ => rfl) fun s h => ?_
    obtain ⟨hup, hout, hnew⟩ := h
    exact State.supplyWarn_told (by decide) (by decide) (by decide) (by decide) rfl (by simpa [supplyOut, supplyLimits] using hout) hup hnew
  · refine occurs_on (show 2 < 8 by decide) (State.supplyWarn 2 mv cell) (fun _ => rfl) fun s h => ?_
    obtain ⟨hup, hout, hnew⟩ := h
    exact State.supplyWarn_told (by decide) (by decide) (by decide) (by decide) rfl (by simpa [supplyOut, supplyLimits] using hout) hup hnew
  · refine occurs_on (show 6 < 8 by decide) (State.supplyWarn 6 mv cell) (fun _ => rfl) fun s h => ?_
    obtain ⟨hup, hout, hnew⟩ := h
    exact State.supplyWarn_told (by decide) (by decide) (by decide) (by decide) rfl (by simpa [supplyOut, supplyLimits] using hout) hup hnew
  · refine occurs_on (by omega) (State.supplyWarn k mv cell) (fun _ => rfl) fun s h => ?_
    obtain ⟨hlo, hhi, hfail⟩ := h
    have hin : supplyOut k mv = false := by
      interval_cases k <;> simp [supplyOut, supplyLimits, hlo, hhi]
    rw [State.supplyWarn_eq (by omega) (by omega) (by omega) (by omega), hin, hfail]
    simp
  · refine occurs_on (show 7 < 8 by decide) (State.supplyWarn 7 mv cell) (fun _ => rfl) fun s h => ?_
    obtain ⟨hup, hnew, hfail⟩ := h
    exact State.supplyWarn_backup hlow hup hnew hfail
  · refine occurs_on hk (State.supplyWarn k mv cell) (fun _ => rfl) fun s h => ?_
    rw [State.supplyWarn_eq h3 h4 h5 h7]
    dsimp only
    rw [State.tellSupply_of_down (s := State.setSupply _ _ _ _ s) h, ite_self]
    rfl
  · refine occurs_on hk (State.logicFail k mv) (fun _ => rfl) fun s h => if_pos h
  · refine occurs_on hk (State.logicFail k mv) (fun _ => rfl) fun s h => ?_
    obtain ⟨hup, hnew, hfeed⟩ := h
    rw [State.logicFail_low hlow hup hnew hk, if_neg (not_not.2 hfeed)]
  · refine occurs_on hk (State.logicFail k mv) (fun _ => rfl) fun s h => ?_
    obtain ⟨hup, hnew, hfeed⟩ := h
    rw [State.logicFail_low hlow hup hnew hk, if_pos hfeed]
  · exact occursIf_on hk (fun s => if mv ≤ 18000 then s else s.setSupply k mv (decide (33000 < mv)) false) (fun _ => rfl)
      (fun s h => if_neg (Nat.not_le.2 h)) fun s h => if_pos (Nat.not_lt.1 h)
  · refine occurs_of State.marginLost (fun _ => rfl) fun s h => ?_
    simp [State.marginLost, h.1, State.vcoreUp, h.2]
  · refine occurs_of State.marginLost (fun _ => rfl) fun s h => ?_
    obtain ⟨hup, hhigh, hnew⟩ := h
    simp [State.marginLost, hup, State.vcoreUp, Nat.not_lt.2 hhigh, hnew]
  · refine occursIf_of State.stepDown (fun _ => rfl) (fun s h => ?_) fun s h => ?_
    · obtain ⟨hup, hdue, hhigh⟩ := h
      simp only [State.stepDown, hup, if_true, State.vcoreDown]
      exact if_neg (by omega)
    · unfold State.stepDown
      split
      · next hup => exact if_pos (by by_contra hgo; exact h ⟨hup, by omega⟩)
      · rfl
  · refine occurs_on hk (State.pllTimeout k) (fun _ => rfl) fun s h => ?_
    obtain ⟨hheld, htries⟩ := h
    exact (if_neg (by tauto)).trans (if_pos htries)
  · refine occurs_on hk (State.pllTimeout k) (fun _ => rfl) fun s h => ?_
    obtain ⟨hheld, htries⟩ := h
    exact (if_neg (by tauto)).trans (if_neg (Nat.not_lt.2 htries))
  · refine occurs_on hk (State.pllTimeout k) (fun _ => rfl) fun s h => if_pos ?_
    rcases h with h | h <;> simp [h]
  · refine occurs_of (State.baseplate temp) (fun _ => rfl) fun s h => ?_
    obtain ⟨hup, hnone⟩ := h
    simp [State.baseplate, hup, hnone, hhot, show ¬temp < 680 by omega]
  · refine occurs_of (State.baseplate temp) (fun _ => rfl) fun s h => ?_
    obtain ⟨hup, hsome, hdue⟩ := h
    simp [State.baseplate, hup, hsome, hdue, show ¬temp < 680 by omega]
  · refine occurs_of (State.baseplate temp) (fun _ => rfl) fun s h => ?_
    obtain ⟨hup, hsome, hdue⟩ := h
    simp [State.baseplate, hup, hsome, hdue, show ¬temp < 680 by omega]
  · refine occurs_of (State.baseplate temp) (fun _ => rfl) fun s h => ?_
    simp [State.baseplate, h, hcool]
end

section
/-! PROOFS. The causes of a reset and what it keeps (03 R62, R66, R77 to R81; 11 R291; 13 R348). -/

namespace Sys2Proof.Machine

/-! ## Departures (14 R400) -/

theorem outward_txOne (k : Nat) (s : State) : Outward s (s.txOne k) := by
  unfold State.txOne
  dsimp only
  split
  · exact Outward.refl s
  · split
    · exact Outward.refl s
    · exact ⟨_, _, _, _, _, _, _, _, rfl⟩

theorem outward_txLoop (k n : Nat) (s : State) : Outward s (State.txLoop k n s) := by
  induction n generalizing s with
  | zero => exact Outward.refl s
  | succ n ih => exact (outward_txOne k s).trans (ih _)

theorem outward_txRun (s : State) : Outward s s.txRun := (outward_txLoop _ _ s).trans (outward_txLoop _ _ _)

theorem outward_clearReady (s : State) : Outward s s.clearReady := by
  unfold State.clearReady
  split
  · exact outward_raiseVector _ _
  · exact Outward.refl s

/-! ## The module held in reset (03 R77, R80) -/

/-- What the reset record, the backup domain and the stores are after a reset. -/
structure HeldAfter (s u : State) (cause : Nat) : Prop where
  phase : u.power.phase = .heldReset
  lastCause : u.power.lastCause = cause
  lastCauseEpoch : u.power.lastCauseEpoch = s.power.epoch
  epoch : u.power.epoch = s.power.epoch
  mgmtUp : u.power.mgmtUp = false
  ready : u.host.ready = false
  disp : u.disp = {}
  mail : u.mail = []
  tasks : u.tasks = []
  rtc : u.rtc = s.rtc
  so : u.so = []
  cocoon : u.cocoon = s.cocoon.cut
  chrysalis : u.upd.chrysalis = s.upd.chrysalis
  arb : u.upd.arb = s.upd.arb
  slots : u.prog.slots = s.prog.slots
  tb0 : u.tb0 = s.tb0

theorem State.heldReset_keeps (cause : Nat) (s : State) : HeldAfter s (s.heldReset cause) cause := by
  have h : Outward s s.clearReady.txRun := (outward_clearReady s).trans (outward_txRun _)
  exact {
    phase := rfl, lastCause := rfl, mgmtUp := rfl, ready := rfl, disp := rfl, mail := rfl, tasks := rfl, so := rfl
    lastCauseEpoch := (congrArg Power.epoch h.power :), epoch := (congrArg Power.epoch h.power :), rtc := h.rtc
    cocoon := congrArg Cocoon.cut h.cocoon, chrysalis := (congrArg Update.chrysalis h.upd :), arb := (congrArg Update.arb h.upd :)
    slots := (congrArg ProgState.slots h.prog :), tb0 := h.tb0 }

/-- A reset without warning takes hold of a running module and of one in its hold-up (03 R77). -/
theorem State.hardReset_of_on {cause : Nat} {s : State} (h : s.power.phase = .running ∨ s.power.phase = .holdUp) :
    s.hardReset cause = s.heldReset cause := if_pos h

/-! ## The management plane's reset (03 R77, R80; 04 R118) -/

/-- The host interface once READY's fall has been told. -/
def HostIf.fallTold (h : HostIf) : HostIf := if h.ready then h.raised 2 else h

theorem State.clearReady_eq (s : State) : s.clearReady = { s with host := s.host.fallTold } := by
  unfold State.clearReady HostIf.fallTold
  split
  · exact State.raiseVector_eq 2 s
  · rfl

/-- With no command, stream or session open the management plane's reset leaves the other planes as they were. -/
theorem State.mgmtReset_of_quiet {cause : Nat} {s : State} (hphase : s.power.phase = .running) (hmgmt : s.power.mgmtUp = true)
    (hflights : s.disp.flights = []) (hstreams : s.disp.streams = []) (homnar : s.disp.omnar = []) (hiv : s.disp.ivpasto.isOpen = false)
    (hclearing : s.panel.clearing = none) (hcommit : s.power.commitCmd = none) :
    ∃ d p x n, s.mgmtReset cause = { s with
      power := { s.power with lastCause := cause, lastCauseEpoch := s.power.epoch, mgmtUp := false, gather := none, commitCmd := none }
      host := s.host.fallTold.factory, disp := d, session := x, upd := n, panel := p } := by
  have hgo : ¬(s.power.phase ≠ .running ∨ ¬s.power.mgmtUp = true) := by simp [hphase, hmgmt]
  unfold State.mgmtReset
  dsimp only
  rw [if_neg hgo]
  simp only [State.clearReady_eq, hflights, List.filter_nil, List.foldl_nil, List.map_nil]
  rw [State.abortRings_of_no_streams ?streams]
  case streams => exact hstreams
  simp only [State.closeAllOmnar, homnar, List.foldl_nil, State.closeIvpasto, hiv, Bool.false_eq_true, if_false, State.closeSafety, hclearing, hcommit,
    List.append_nil]
  exact ⟨_, _, _, _, rfl⟩

/-! ## The button (03 R79, R81) -/

/-- A press that counts, by how long it was held. -/
theorem State.buttonRelease_of_counts {ms : Nat} {s : State} (h : pressCounts ms s) :
    s.buttonRelease ms =
      if ms < 50 then s
      else if ms < 100 then s.post .management .eResetButtonShort modRes ms
      else if ms ≤ 2000 then s.moduleReset 0x08 true
      else if ms ≤ 10000 then s.post .management .eResetButtonLong modRes ms
      else s := by
  obtain ⟨hstuck, hup, hfree⟩ := h
  unfold State.buttonRelease
  rw [if_neg (by simp [hstuck]), if_neg (by simp only [hup, not_true_eq_false, false_or]; omega)]

/-- The state that a rail's brown-out is marked in. -/
def State.railDown (k : Nat) (s : State) : State := { s with power := { s.power with railsOk := Tab.put (fun _ => true) s.power.railsOk k false } }

theorem exec_railBrownOut (t : Nat) {k : Nat} (hk : k < 5) (s : State) : exec (.railBrownOut t k) s
    = .next (if k = 4 then ((s.advance t).railDown k).mgmtReset 0x07 else ((s.advance t).railDown k).hardReset (3 + k)) :=
  if_pos hk

end Sys2Proof.Machine

open Sys2Proof Sys2Proof.Machine

/-- A cause that holds the whole module. -/
theorem exec_holds {t cause : Nat} {i : Instr} (hi : (∃ k, k < 4 ∧ i = .railBrownOut t k ∧ cause = 3 + k) ∨ (i = .svClockFault t ∧ cause = 0x0C)
    ∨ (i = .schedulerHeartbeatMissing t ∧ cause = 0x0D)) {s : State} (h : (s.advance t).power.phase = .running ∨ (s.advance t).power.phase = .holdUp) :
    ∃ u, exec i s = .next u ∧ HeldAfter (s.advance t) u cause := by
  rcases hi with ⟨k, hk, rfl, rfl⟩ | ⟨rfl, rfl⟩ | ⟨rfl, rfl⟩
  · rw [exec_railBrownOut t (by omega), if_neg (by omega), State.hardReset_of_on (s := (s.advance t).railDown k) h]
    exact ⟨_, rfl, { State.heldReset_keeps (3 + k) ((s.advance t).railDown k) with }⟩
  · exact ⟨_, congrArg Host.Outcome.next (State.hardReset_of_on h), State.heldReset_keeps _ _⟩
  · exact ⟨_, congrArg Host.Outcome.next (State.hardReset_of_on h), State.heldReset_keeps _ _⟩

/-- A cause that resets the management plane alone, and what the state it finds has of the one before. -/
theorem exec_resetsManagement {t cause : Nat} {i : Instr} (hi : (i = .railBrownOut t 4 ∧ cause = 0x07) ∨ (i = .managementWatchdog t ∧ cause = 0x0E)
    ∨ (i = .managementLockstepError t ∧ cause = 0x0F)) {s : State} :
    ∃ r : State, exec i s = .next (r.mgmtReset cause)
      ∧ (r.power.phase = s.power.phase ∧ r.power.mgmtUp = s.power.mgmtUp ∧ r.power.commitCmd = s.power.commitCmd ∧ r.power.epoch = s.power.epoch)
      ∧ r.disp = s.disp ∧ r.panel = s.panel ∧ r.tasks = s.tasks ∧ r.so = s.so ∧ r.cocoon = s.cocoon ∧ r.prog = s.prog := by
  rcases hi with ⟨rfl, rfl⟩ | ⟨rfl, rfl⟩ | ⟨rfl, rfl⟩
  · exact ⟨(s.advance t).railDown 4, exec_railBrownOut t (by decide) s, ⟨rfl, rfl, rfl, rfl⟩, rfl, rfl, rfl, rfl, rfl, rfl⟩
  · exact ⟨s.advance t, rfl, ⟨rfl, rfl, rfl, rfl⟩, rfl, rfl, rfl, rfl, rfl, rfl⟩
  · exact ⟨s.advance t, rfl, ⟨rfl, rfl, rfl, rfl⟩, rfl, rfl, rfl, rfl, rfl, rfl⟩

/-- Settles O17: what a held module keeps, the management plane's reset of a quiet module, the button by how long it was pressed. -/
theorem resetsHoldTheModule : Obligations.ResetsHoldTheModule := by
  refine ⟨fun t cause i hi s hphase => ?_, fun t cause i hi s hphase hmgmt hflights hstreams homnar hiv hsession hclearing hcommit => ?_, fun t => ?_,
    fun t => ?_, fun t => ?_, fun t ms => ?_, fun t ms => ?_, fun t ms hms => ?_, fun t ms h50 h100 => ?_, fun t ms h100 h2000 => ?_,
    fun t ms h2000 h10000 => ?_, fun t => ?_⟩
  · obtain ⟨u, hu, h⟩ := exec_holds (s := s) hi hphase
    exact ⟨u, hu, h.phase, h.lastCause, h.lastCauseEpoch, h.epoch, h.mgmtUp, h.ready, h.disp, h.mail, h.tasks, h.rtc, h.so, h.cocoon, h.chrysalis,
      h.arb, h.slots, h.tb0⟩
  · obtain ⟨r, hrow, ⟨hrun, hup, hnone, hepoch⟩, hdisp, hpanel, htasks, hso, hcocoon, hprog⟩ := exec_resetsManagement (s := s) hi
    obtain ⟨d, p, x, n, h⟩ := State.mgmtReset_of_quiet (cause := cause) (hrun.trans hphase) (hup.trans hmgmt) (hdisp ▸ hflights) (hdisp ▸ hstreams)
      (hdisp ▸ homnar) (hdisp ▸ hiv) (hpanel ▸ hclearing) (hnone.trans hcommit)
    rw [h] at hrow
    exact ⟨_, hrow, hrun.trans hphase, rfl, rfl, hepoch, rfl, htasks, hso, congrArg Cocoon.config hcocoon, congrArg ProgState.store hprog⟩
  · intro s h
    exact congrArg Host.Outcome.next (if_pos h)
  · intro s h
    refine congrArg Host.Outcome.next (if_neg fun hor => ?_)
    rcases hor with hne | hup
    · exact hne h.1
    · exact Bool.noConfusion (hup.symm.trans h.2)
  · exact ⟨fun s h => congrArg Host.Outcome.next (if_pos h), fun s h => congrArg Host.Outcome.next (if_neg h)⟩
  · exact occurs_of (State.buttonRelease ms) (fun _ => rfl) fun s h => if_pos h
  · refine occurs_of (State.buttonRelease ms) (fun _ => rfl) fun s h => ?_
    obtain ⟨hstuck, -, hearly⟩ := h
    exact (if_neg (by simp [hstuck])).trans (if_pos (Or.inr hearly))
  · refine occurs_of (State.buttonRelease ms) (fun _ => rfl) fun s h => ?_
    rw [State.buttonRelease_of_counts h, if_pos hms]
  · refine occurs_of (State.buttonRelease ms) (fun _ => rfl) fun s h => ?_
    rw [State.buttonRelease_of_counts h, if_neg (by omega), if_pos h100]
  · refine occurs_of (State.buttonRelease ms) (fun _ => rfl) fun s h => ?_
    rw [State.buttonRelease_of_counts h, if_neg (by omega), if_neg (by omega), if_pos h2000]
  · refine occurs_of (State.buttonRelease ms) (fun _ => rfl) fun s h => ?_
    rw [State.buttonRelease_of_counts h, if_neg (by omega), if_neg (by omega), if_neg (by omega), if_pos h10000]
  · have hiff (s : State) : (s.up = true ∧ ¬s.power.buttonStuck = true) ↔ (s.up = true ∧ s.power.buttonStuck = false) := by simp
    exact ⟨fun s h => congrArg Host.Outcome.next (if_pos ((hiff _).2 h)), fun s h => congrArg Host.Outcome.next (if_neg fun h' => h ((hiff _).1 h'))⟩
end

section
/-! PROOFS. The power failure, commits of the cocoon and the RETAIN grid (03 R67 to R73). -/

namespace Sys2Proof.Machine

/-! ## Commits of a section (03 R70) -/

section
variable {α : Type}

/-- The copy that a commit of `p` writes. -/
def Sec.fresh (p : α) (x : Sec α) : Copy α := { payload := p, seqHdr := x.highest + 1, seqMark := none }

theorem Sec.begin_of_b {x : Sec α} (p : α) (h : x.target = true) :
    x.begin p = { x with a := if x.only.isSome then none else x.a, b := some (x.fresh p), busy := some true } := if_pos h

theorem Sec.begin_of_a {x : Sec α} (p : α) (h : x.target = false) :
    x.begin p = { x with a := some (x.fresh p), b := if x.only.isSome then none else x.b, busy := some false } := by
  unfold Sec.begin
  simp [h, Sec.fresh]

theorem Sec.finish_of_idle {x : Sec α} (h : x.busy = none) : x.finish = x := by
  simp [Sec.finish, h]

/-- The copy in progress holds the payload of the commit. -/
theorem Sec.begin_busy (x : Sec α) (p : α) :
    ∃ b, (x.begin p).busy = some b ∧ (if b then (x.begin p).b else (x.begin p).a).map (·.payload) = some p := by
  cases h : x.target
  · exact ⟨false, by rw [Sec.begin_of_a p h], by rw [Sec.begin_of_a p h]; rfl⟩
  · exact ⟨true, by rw [Sec.begin_of_b p h], by rw [Sec.begin_of_b p h]; rfl⟩

theorem validSeq_marked (c : Copy α) (h : c.crcOk = true) : validSeq (some c.mark) = some c.seqHdr := by
  simp [validSeq, Copy.mark, Copy.valid, h]

theorem validSeq_le {c : Option (Copy α)} {n : Nat} (h : validSeq c = some n) : ∃ x, c = some x ∧ x.seqHdr = n := by
  cases c with
  | none => cases h
  | some x =>
    simp only [validSeq] at h
    split at h
    · exact ⟨x, rfl, Option.some.inj h⟩
    · cases h

theorem Sec.validSeq_a_le {x : Sec α} {n : Nat} (h : validSeq x.a = some n) : n ≤ x.highest := by
  obtain ⟨c, hc, rfl⟩ := validSeq_le h
  simp [Sec.highest, hc]

theorem Sec.validSeq_b_le {x : Sec α} {n : Nat} (h : validSeq x.b = some n) : n ≤ x.highest := by
  obtain ⟨c, hc, rfl⟩ := validSeq_le h
  simp [Sec.highest, hc]

/-- The newest copy is that of buffer b where no valid copy of a is as high. -/
theorem Sec.newest_eq_b {x : Sec α} {n : Nat} (hb : validSeq x.b = some n) (ha : ∀ m, validSeq x.a = some m → m < n) : x.newest = x.b := by
  unfold Sec.newest
  rw [hb]
  cases h : validSeq x.a with
  | none => rfl
  | some m => exact if_pos (ha m h)

theorem Sec.newest_eq_a {x : Sec α} {m : Nat} (ha : validSeq x.a = some m) (hb : ∀ n, validSeq x.b = some n → n ≤ m) : x.newest = x.a := by
  unfold Sec.newest
  rw [ha]
  cases h : validSeq x.b with
  | none => rfl
  | some n => exact if_neg (Nat.not_lt.mpr (hb n h))

/-- Buffer a beside a commit to b: emptied where it lies in a RETIRED bank. -/
theorem validSeq_spared {c : Option (Copy α)} {b : Bool} {n : Nat} (h : validSeq (if b then none else c) = some n) : validSeq c = some n := by
  cases b
  · exact h
  · cases h

/-- A commit that ends is what a restore finds (03 R70). -/
theorem Sec.newest_finish_begin (x : Sec α) (p : α) : (x.begin p).finish.newest.map (·.payload) = some p := by
  cases h : x.target
  · rw [Sec.begin_of_a p h]
    rw [Sec.newest_eq_a (m := x.highest + 1) (validSeq_marked (x.fresh p) rfl)]
    · rfl
    · intro n hn
      exact Nat.le_succ_of_le (Sec.validSeq_b_le (validSeq_spared hn))
  · rw [Sec.begin_of_b p h]
    rw [Sec.newest_eq_b (n := x.highest + 1) (validSeq_marked (x.fresh p) rfl)]
    · rfl
    · intro m hm
      exact Nat.lt_succ_of_le (Sec.validSeq_a_le (validSeq_spared hm))

end

/-- A commit's end at a section that commits nothing leaves the Header and the programs. -/
theorem State.commitEnd_keeps (mism : Bool) (s : State) : ∀ k, (k = 1 → s.cocoon.config.busy = none) → (k = 5 → s.cocoon.retain.busy = none) →
    k ≠ 6 → k ≠ 7 → k ≠ 8 → k ≠ 9 → (s.commitEnd k mism).cocoon.header = s.cocoon.header ∧ (s.commitEnd k mism).prog = s.prog
  | 1, h1, _, _, _, _, _ => by simp only [State.commitEnd, h1 rfl, and_self]
  | 5, _, h5, _, _, _, _ => by simp only [State.commitEnd, h5 rfl, and_self]
  | 6, _, _, h, _, _, _ | 7, _, _, _, h, _, _ | 8, _, _, _, _, h, _ | 9, _, _, _, _, _, h => absurd rfl h
  | 0, _, _, _, _, _, _ | 2, _, _, _, _, _, _ | 3, _, _, _, _, _, _ | 4, _, _, _, _, _, _ | _ + 10, _, _, _, _, _, _ => ⟨rfl, rfl⟩

/-- The hold-up of a running module in whose tasks no cycle has gone on. -/
theorem State.powerFail_of_running {s : State} (h : s.power.phase = .running) : s.powerFail [] =
    ((((((({ s.dropCycles with power := { s.dropCycles.power with phase := .holdUp } } : State).departs.each
      (fun n s => (s.setSo n { s.soOf n with hsCmd := false }).soSwitches n) (List.range 8)).each
        State.dcToSafe (List.range 32)).each State.acToSafe (List.range 32)).each State.axDisable (List.range 4))).axesOff.failBegin) := by
  unfold State.powerFail
  rw [if_neg (not_not.mpr h), List.foldl_nil]

end Sys2Proof.Machine

open Sys2Proof Sys2Proof.Machine

/-- Settles O18: each row by its branch; a commit's copy has the highest sequence number, so its mark makes it the newest. -/
theorem powerFailureCommitsTheState : Obligations.PowerFailureCommitsTheState := by
  refine ⟨fun t cycles => ?_, fun t s u v hu hphase hv => ?_, fun s hs => ?_, fun t => ?_, fun s => ⟨rfl, rfl, rfl, rfl⟩,
    fun t k bad hk s h1 h5 h6 h7 h8 h9 => ?_, fun t b => ?_, fun t b => ?_, fun t b => ?_, fun x p _ => ?_, fun t => ?_⟩
  · exact occurs_of (State.powerFail cycles) (fun _ => rfl) fun s h => if_pos h
  · have hrow : exec (.powerFailWarning t []) s = .next (u.powerFail []) := by rw [← hu]; rfl
    rw [hrow, hv, State.powerFail_of_running hphase]
  · have h : s.failBegin.cocoon.retain = s.cocoon.retain.begin s.retainNow := congrArg (Sec.begin s.retainNow) (Sec.finish_of_idle hs)
    rw [h]
    exact Sec.begin_busy _ _
  · exact occursIf_of (fun s => if s.power.phase = .holdUp then s.failEnd.heldReset 0x02 else s) (fun _ => rfl) (fun s h => if_pos h)
      (fun s h => if_neg h)
  · refine ⟨_, if_pos hk, ?_⟩
    exact State.commitEnd_keeps bad (s.advance t) k h1 h5 h6 h7 h8 h9
  · refine occurs_on (show 5 < 10 by decide) (State.commitEnd 5 false) (fun _ => rfl) fun s h => ?_
    simp only [State.commitEnd, h]; rfl
  · refine occurs_on (show 1 < 10 by decide) (State.commitEnd 1 false) (fun _ => rfl) fun s h => ?_
    simp only [State.commitEnd, h]; rfl
  · refine occurs_on (show 5 < 10 by decide) (State.commitEnd 5 true) (fun _ => rfl) fun s h => ?_
    obtain ⟨hb, h2⟩ := h
    simp only [State.commitEnd, hb, h2]; rfl
  · obtain ⟨b, hb, -⟩ := Sec.begin_busy x p
    exact ⟨b, hb, Sec.newest_finish_begin x p⟩
  · exact occursIf_of State.retainPeriodic (fun _ => rfl) (fun s h => if_pos h) (fun s h => if_neg h)
end

section
/-! PROOFS. The start of the module (03 R72, R74; 19 R499). -/

namespace Sys2Proof.Machine

theorem Sec.payload_now {α : Type} (x : Sec α) (p : α) : (x.now p).payload = some p := Sec.newest_finish_begin x.finish p

/-- A boot loader with no activation in progress goes on with the active slot. -/
theorem State.activation_of_idle {cut : Nat} {s : State} (h : s.bootRec.state = 0) : s.activation cut = (s, {}) := by
  unfold State.activation
  simp only [h]

theorem State.bootSlot_of_good {bad : List Nat} {s : State} (h : bad.contains s.upd.active = false) : State.bootSlot bad (s, {}) = (s, {}) :=
  if_pos (.inr h)

theorem State.bootSlot_of_none {bad : List Nat} {s : State} (h0 : bad.contains 0 = true) (h1 : bad.contains 1 = true) (hk : s.upd.active < 2) :
    State.bootSlot bad (s, {}) = (s, { dead := true }) := by
  have hboth : bad.contains s.upd.active = true ∧ bad.contains (1 - s.upd.active) = true := by
    have hcases : s.upd.active = 0 ∨ s.upd.active = 1 := by omega
    rcases hcases with h | h <;> rw [h]
    · exact ⟨h0, h1⟩
    · exact ⟨h1, h0⟩
  have hgo : ¬(({} : BootFound).cut = true ∨ bad.contains s.upd.active = false) := by
    rintro (h | h)
    · cases h
    · exact Bool.false_ne_true (h.symm.trans hboth.1)
  exact (if_neg hgo).trans (if_pos hboth.2)

/-- A start from reset, up to the boot loader. -/
theorem State.moduleStart_of_held {t gap : Nat} {bad : List Nat} {crc : List (Nat × Bool)} {idMem : Option Bytes} {s v : State}
    {x : State × BootFound} (hs : s.power.phase = .heldReset) (hv : v = (s.rtcRebase gap).spoil crc) (hidle : v.bootRec.state = 0)
    (hx : State.bootSlot bad (v, {}) = x) (hcut : x.2.cut = false) : s.moduleStart t gap bad crc idMem none =
      if x.2.dead then { x.1 with tb0 := t } else x.1.stepSix.startRun t x.2 idMem x.1.cocoon.fault x.1.cocoon.header.payload := by
  have hheld : ¬(s.power.phase ≠ .heldReset ∧ s.power.phase ≠ .pllHeld) := by simp [hs]
  unfold State.moduleStart
  rw [if_neg hheld, ← hv]
  dsimp only
  rw [State.activation_of_idle hidle, hx]
  simp [hcut]

theorem State.nextEpoch_of_valid {s : State} {h : HeaderData} (hvalid : s.cocoon.fault = none) (hh : s.cocoon.header.payload = some h) :
    s.nextEpoch = (h.epoch + 1) % 2 ^ 32 := by
  simp [State.nextEpoch, hvalid, hh]

/-- A parameter that no configuration lists has its factory value (00 R7). -/
theorem Param.unlisted_key (p : Param) (i : Nat) : Param.unlisted (p.key i) = p.factory i := by
  have hidx : p.ctorIdx < 512 ∧ Param.all[p.ctorIdx]? = some p := by cases p <;> decide
  unfold Param.unlisted Param.key
  rw [Nat.add_mul_mod_self_left, Nat.mod_eq_of_lt hidx.1, hidx.2, Nat.add_mul_div_left _ _ (by decide), Nat.div_eq_of_lt hidx.1, Nat.zero_add]

/-- Loops that are not enabled stay as they are at the start. -/
theorem State.loopStarts_of_off (s : State) (l : List Nat) (h : ∀ i ∈ l, s.param .loopEn i ≠ 1) : s.each State.loopStart l = s := by
  induction l with
  | nil => rfl
  | cons i l ih =>
    have hi : s.loopStart i = s := if_pos (h i List.mem_cons_self)
    unfold State.each at ih ⊢
    rw [List.foldl_cons, hi, ih fun j hj => h j (List.mem_cons_of_mem i hj)]

/-- A start's steps 7 to 9 up to the field sides. -/
def State.startField (t : Nat) (f : BootFound) (idMem : Option Bytes) (invalid : Option Nat) (had : Option HeaderData) (s : State) : State :=
  let r := s.restore invalid had
  ((({ r with
    tb0 := t, panel := { r.panel with idMem := idMem },
    power := { r.power with phase := .running, mgmtUp := true, startedAt := t, railsOk := [],
                            lastCause := if r.power.lastCause = 0 then 0x01 else r.power.lastCause } } : State).startEvents f invalid
      s.cocoon.recorder.payload.isNone).storeStart.retiredStart.pairStart.fieldStart)

/-- The rest of step 9: what follows the loops. -/
def State.startRest (s : State) : State :=
  let s := (s.netStart.each State.taskResume (List.range 16)).panelReset.panelCheck
  let s := if s.updScheduled && s.bootRec.base == 3 && !s.bootRec.immediate && s.baseValid 3 && decide (s.bootRec.instant ≤ s.baseNow 3)
    then s.updCancel 2 else s
  ({ s with prog := { s.prog with lostForces := 0 } } : State).setReady

theorem State.startRun_eq (t : Nat) (f : BootFound) (idMem : Option Bytes) (invalid : Option Nat) (had : Option HeaderData) (s : State) :
    s.startRun t f idMem invalid had = ((s.startField t f idMem invalid had).each State.loopStart (List.range 512)).startRest := by
  unfold State.startRun State.startField State.startRest
  dsimp only

/-- The field sides at the first start of a module. -/
def State.firstField : State :=
  ((State.reset.rtcRebase 0).spoil []).stepSix.startField 0 {} none ((State.reset.rtcRebase 0).spoil []).cocoon.fault
    ((State.reset.rtcRebase 0).spoil []).cocoon.header.payload

theorem firstField_loops (i : Nat) : State.firstField.param .loopEn i ≠ 1 := by
  have hcfg : State.firstField.cfg.params = [] := by decide +kernel
  unfold State.param
  rw [hcfg]
  change Param.unlisted _ ≠ 1
  rw [Param.unlisted_key]
  exact Nat.zero_ne_one

/-- The first start of a module, from the state at reset. -/
theorem moduleStart_reset : State.reset.moduleStart 0 0 [] [] none none = State.firstField.startRest := by
  have hgood : State.bootSlot [] ((State.reset.rtcRebase 0).spoil [], {}) = ((State.reset.rtcRebase 0).spoil [], {}) := State.bootSlot_of_good rfl
  have hstart := (State.moduleStart_of_held (t := 0) (idMem := none) (by rfl : State.reset.power.phase = .heldReset) rfl (by decide) hgood rfl).trans
    (if_neg Bool.false_ne_true)
  rw [hstart, State.startRun_eq]
  exact congrArg State.startRest (State.loopStarts_of_off State.firstField _ fun i _ => firstField_loops i)

theorem firstStart_runs : State.firstField.startRest.power.phase = .running ∧ State.firstField.startRest.power.mgmtUp = true
    ∧ State.firstField.startRest.power.restoreDone = true ∧ State.firstField.startRest.power.epoch = 1
    ∧ State.firstField.startRest.power.lastCause = 0x01 := by
  decide +kernel

end Sys2Proof.Machine

open Sys2Proof Sys2Proof.Machine

/-- Settles O19: the start up to the boot loader's answer, then by that answer; the first start of a module is run. -/
theorem theModuleStarts : Obligations.TheModuleStarts := by
  refine ⟨fun t gap bad crc idMem cut s h1 h2 => ?_, fun t gap bad crc idMem cause s h => ?_, fun t cause s => ⟨rfl, ?_, rfl, rfl⟩,
    fun t gap bad crc idMem s v hs hv hidle h0 h1 hk => ?_, fun t gap crc idMem s v hs hv hidle => ?_, fun s h hvalid hh => ?_,
    fun s bad had => ⟨rfl, rfl, rfl, rfl⟩, _,
    congrArg Host.Outcome.next moduleStart_reset, firstStart_runs⟩
  · exact congrArg Host.Outcome.next (if_pos ⟨h1, h2⟩)
  · have hheld : ¬(s.power.phase ≠ .heldReset ∧ s.power.phase ≠ .pllHeld) := by simp [h]
    exact congrArg Host.Outcome.next (if_neg hheld)
  · cases cause <;> rfl
  · exact congrArg Host.Outcome.next ((State.moduleStart_of_held hs hv hidle (State.bootSlot_of_none h0 h1 hk) rfl).trans (if_pos rfl))
  · have hgood : State.bootSlot [] (v, {}) = (v, {}) := State.bootSlot_of_good rfl
    exact congrArg Host.Outcome.next ((State.moduleStart_of_held hs hv hidle hgood rfl).trans (if_neg Bool.false_ne_true))
  · exact ⟨State.nextEpoch_of_valid hvalid hh,
      (congrArg (Option.map HeaderData.epoch) (Sec.payload_now _ _)).trans (congrArg some (State.nextEpoch_of_valid hvalid hh))⟩
end

section
/-! PROOFS. A second write of a table's key, and coupler frames (09 R233, 10 R263, 11 R287, 12 R331). -/

namespace Sys2Proof.Machine

/-! ## The second write -/

section
variable {α : Type} [DecidableEq α] {d : Nat → α}

/-- A write over a value that is not the unlisted one replaces it, whatever the table. -/
theorem Tab.put_put_of_ne (t : Tab α) (k : Nat) {v : α} (w : α) (h : v ≠ d k) : Tab.put d (Tab.put d t k v) k w = Tab.put d t k w := by
  induction t with
  | nil => simp [Tab.put, h]
  | cons x r ih =>
    obtain ⟨j, u⟩ := x
    rcases Nat.lt_trichotomy k j with hlt | rfl | hgt
    · simp [Tab.put, h, hlt]
    · simp [Tab.put, h]
    · simp [Tab.put, ih, Nat.not_lt.mpr hgt.le, hgt.ne']

/-- In a canonical table a key below the first listed one can be unlisted again without effect. -/
theorem Tab.put_of_lt {lo k : Nat} {t : Tab α} (w : α) (h : Tab.wfFrom d lo t = true) (hk : k < lo) :
    Tab.put d t k w = if w = d k then t else (k, w) :: t := by
  cases t with
  | nil => rfl
  | cons x r =>
    obtain ⟨j, u⟩ := x
    simp only [Tab.wfFrom, Bool.and_eq_true, decide_eq_true_eq] at h
    exact if_pos (by omega)

/-- In a canonical table the second write of a key counts alone. -/
theorem Tab.put_put {lo : Nat} {t : Tab α} (k : Nat) (v w : α) (h : Tab.wfFrom d lo t = true) :
    Tab.put d (Tab.put d t k v) k w = Tab.put d t k w := by
  by_cases hv : v = d k
  · induction t generalizing lo with
    | nil => simp [Tab.put, hv]
    | cons x r ih =>
      obtain ⟨j, u⟩ := x
      simp only [Tab.wfFrom, Bool.and_eq_true, decide_eq_true_eq] at h
      rcases Nat.lt_trichotomy k j with hlt | rfl | hgt
      · simp [Tab.put, hv, hlt]
      · simp [Tab.put, hv, Tab.put_of_lt w h.2 (Nat.lt_succ_self k)]
      · simp [Tab.put, ih h.2, Nat.not_lt.mpr hgt.le, hgt.ne']
  · exact Tab.put_put_of_ne t k w hv

end

/-! ## A good frame in from an axis -/

theorem State.setAx_setAx_of_wf (n : Nat) (x y : AxisChan) {s : State} (hwf : Tab.wf (fun _ => {}) s.axes = true) :
    (s.setAx n x).setAx n y = s.setAx n y :=
  congrArg (fun t => ({ s with axes := t } : State)) (Tab.put_put n x y hwf)

/-- On a canonical table of axes a good frame brings the measurement and ends the run of bad ones. -/
theorem State.axFrameIn_of_wf {n : Nat} {m : AxMeasure} {s : State} (hwf : Tab.wf (fun _ => {}) s.axes = true) (hwait : (s.axOf n).faultWait = none) :
    s.axFrameIn n false m = s.setAx n { s.axOf n with crcRun := 0, meas := m, coolAt := none } := by
  have hread : (s.setAx n { s.axOf n with crcRun := 0 }).axOf n = { s.axOf n with crcRun := 0 } := Tab.get_put n _ hwf
  have hgood : s.axFrameIn n false m = (s.setAx n { s.axOf n with crcRun := 0 }).axMeasured n m := rfl
  rw [hgood]
  unfold State.axMeasured
  rw [hread]
  simp only [hwait]
  exact State.setAx_setAx_of_wf n _ _ hwf

/-- A running module whose table of axes lists axis 0 twice, which no canonical table does. -/
def State.axisTwice : State :=
  { power := { phase := .running, mgmtUp := true, restoreDone := true }, axes := [(0, { crcRun := 5 }), (0, { crcRun := 7 })] }

end Sys2Proof.Machine

open Sys2Proof Sys2Proof.Machine

/-- Refutes O20: its clause on a good frame in from an axis quantifies over every table of axes. In a table that lists the axis twice the reset of
`crcRun` to 0 uncovers the second entry, from which the measurement then goes on; on a canonical table the clause holds
(`State.axFrameIn_of_wf`). -/
theorem not_couplerFramesJoinTheSides : ¬ Obligations.CouplerFramesJoinTheSides := by
  unfold Obligations.CouplerFramesJoinTheSides
  intro h
  obtain ⟨-, -, -, -, -, -, -, -, -, -, -, -, -, -, -, -, hframe, -⟩ := h
  have hrun := hframe 0 0 ⟨1, 0, 0, 0⟩ (by decide) State.axisTwice ⟨rfl, rfl, rfl⟩
  have haxes := congrArg State.axes (Host.Outcome.next.inj hrun)
  exact absurd haxes (by decide)
end

section
/-! PROOFS. Commands whose action leans on their checks, and the commands of class 0x01 (03 R82 to R86; 04 R107, R115, R119, R120). -/

namespace Sys2Proof.Machine

/-! ## What a taken command's checks found (04 R105) -/

section
variable {k : CmdSpec} {mk : Nat → Cmd → Instr} {f : Entry → State → State} {p : Cmd → State → Prop}

/-- The operands and the state passed the command's own checks. -/
structure CmdSpec.Checked (k : CmdSpec) (e : Entry) (s : State) : Prop where
  target : k.target s e.cmd = true
  params : k.params s e.cmd = true
  check : k.check s e.cmd = .sOk

theorem CmdSpec.checked_of_taken {t : Nat} {c : Cmd} {s : State} (h : k.taken t c s = true) :
    k.Checked (s.entryFor k.op c) (s.arrived k.op t c) := by
  simp only [CmdSpec.taken, CmdSpec.passes, Bool.and_eq_true, Option.isNone_iff_eq_none] at h
  obtain ⟨⟨-, hnone⟩, -⟩ := h
  obtain ⟨-, -, -, htarget, -, -, hparams, hcheck⟩ := refusal_none (CmdSpec.refusal_eq.trans hnone)
  exact ⟨htarget, hparams, hcheck⟩

theorem does_of_checked (hrow : Submits k mk) (h : ∀ e s, k.Checked e s → p e.cmd s → s.finish e (k.run e s) = f e s) : Does k mk f p := by
  intro t c s htaken hp
  rw [exec_of_taken hrow htaken, h _ _ (CmdSpec.checked_of_taken htaken) hp]

theorem completes_of_checked (hrow : Submits k mk) (h : ∀ e s, k.Checked e s → p e.cmd s → k.run e s = .ok (f e s)) : Completes k mk f p := by
  intro t c s htaken hp
  rw [exec_of_taken hrow htaken, h _ _ (CmdSpec.checked_of_taken htaken) hp, finish_ok]

end

theorem firstOf_whenS {b : Bool} {x : Status} {r : List Status} (hx : x ≠ .sOk) : firstOf (whenS b x :: r) = .sOk ↔ b = false ∧ firstOf r = .sOk := by
  cases b
  · simp [whenS, firstOf]
  · cases x <;> simp_all [whenS, firstOf]

/-- The expert form of a save answers a piece of the file, and the last piece tells it. -/
theorem configSave_of_expert {e : Entry} {s : State} {x : Copy Settings} (hexp : e.cmd.expert = true) (hx : s.configCopy (e.cmd.blk 4 4) = some x) :
    s.finish e (specModConfigSave.run e s) =
      let f := s.configFile x (bitOf (e.cmd.blk 8 1) 0)
      let piece := (f.drop (e.cmd.blk 0 4)).take e.cmd.blockLen
      (if e.cmd.blk 0 4 + piece.length = f.length then s.post .management .eConfigSaved modRes x.seqHdr else s).complete e .sOk f.length piece := by
  simp only [specModConfigSave, hexp, hx, if_true, savedFile, State.tellSaved, State.finish]

end Sys2Proof.Machine

open Sys2Proof Sys2Proof.Machine

/-- Settles O21: each command by its action; `MOD.ABORT` and `MOD.CONFIG_SAVE` by the check that found their target as well. -/
theorem moduleCommandsTakeEffect : Obligations.ModuleCommandsTakeEffect := by
  refine ⟨⟨?_, ?_, ?_, ?_, ?_, ?_, ?_, ?_, ?_, ?_, ?_⟩, ?_, ?_, ?_, ?_, ?_⟩
  · exact completes_of (fun _ _ _ => rfl) fun _ _ _ => rfl
  · refine completes_of_checked (fun _ _ _ => rfl) fun e s hc _ => ?_
    have hcheck := hc.check
    simp only [specModAbort] at hcheck ⊢
    cases h : s.abortTarget e.cmd with
    | none => simp [h] at hcheck
    | some f => rfl
  · refine completes_of (fun _ _ _ => rfl) fun e s _ => ?_
    simp only [specModSetEventFilter]
    cases e.cmd.route with
    | omnar id => dsimp only; cases s.omnarOf id <;> rfl
    | host => rfl
    | ivpasto => rfl
  · exact reports_of (fun _ _ _ => rfl) fun _ _ _ => rfl
  · exact reports_of (fun _ _ _ => rfl) fun _ _ _ => rfl
  · refine completes_of (fun _ _ _ => rfl) fun e s _ => ?_
    simp only [specModSetPower, powerSettings]
    cases e.cmd.expert <;> rfl
  · exact completes_of (fun _ _ _ => rfl) fun _ _ _ => rfl
  · exact does_of (fun _ _ _ => rfl) fun _ _ _ => rfl
  · exact does_of (fun _ _ _ => rfl) fun _ _ _ => rfl
  · exact does_of (fun _ _ _ => rfl) fun _ _ _ => rfl
  · exact does_of (fun _ _ _ => rfl) fun _ _ _ => rfl
  · refine does_of_checked (fun _ _ _ => rfl) fun e s hc hp => ?_
    have hcheck := hc.check
    simp only [specModConfigSave, hp, Bool.false_eq_true, if_false] at hcheck ⊢
    rw [firstOf_whenS (by decide), firstOf_whenS (by decide)] at hcheck
    cases h : s.configCopy 0 with
    | none => simp [h] at hcheck
    | some x => rfl
  · intro t c s htaken hexp x hx
    exact (exec_of_taken (mk := Instr.modConfigSave) (fun _ _ _ => rfl) htaken).trans (congrArg Host.Outcome.next (configSave_of_expert hexp hx))
  · refine does_of (fun _ _ _ => rfl) fun e s hp => ?_
    simp only [specModConfigLoad, hp, Bool.false_eq_true, if_false]; rfl
  · refine completes_of (fun _ _ _ => rfl) fun e s hp => ?_
    simp only [specModConfigLoad, hp.1, hp.2, if_true, if_false]
  · refine does_of (fun _ _ _ => rfl) fun e s hp => ?_
    obtain ⟨hexp, hg, hok⟩ := hp
    simp only [specModConfigLoad, hexp, hg, hok, if_true]; rfl
end

section
/-! PROOFS. Commands behind conditions at their boundary, and the commands of tasks and core pairs (05 R123, R149 to R153, R559, R560). -/

namespace Sys2Proof.Machine

/-- Conditions of which the first does not hold. -/
theorem firstOf_whenS_false {b : Bool} {x : Status} {r : List Status} (hb : b = false) (hr : firstOf r = .sOk) : firstOf (whenS b x :: r) = .sOk := by
  rw [hb]
  exact hr

end Sys2Proof.Machine

open Sys2Proof Sys2Proof.Machine

/-- Settles O22: each command by its action, behind the conditions at its boundary. -/
theorem taskCommandsTakeEffect : Obligations.TaskCommandsTakeEffect := by
  refine ⟨?_, ?_, ?_, ?_, ?_, ?_, ?_, ?_, ?_⟩
  · exact completesEitherWay_of (fun _ _ _ => rfl) rfl fun _ _ h => if_pos h
  · refine completesEitherWay_of (fun _ _ _ => rfl) rfl fun e s h => if_pos ?_
    obtain ⟨hidle, hexists, hfits, hpair, hused, hbudget⟩ := h
    have hlive : (s.taskOf e.cmd.tgtIndex).live = false := by rcases hidle with h | h <;> simp [Task.live, h]
    simp [hlive, hexists, hfits, hpair, hused, hbudget, whenS, firstOf]
  · exact completesEitherWay_of (fun _ _ _ => rfl) rfl fun _ _ _ => rfl
  · exact reports_of (fun _ _ _ => rfl) fun _ _ _ => rfl
  · exact completesEitherWay_of (fun _ _ _ => rfl) rfl fun _ _ h => if_pos h
  · exact completesEitherWay_of (fun _ _ _ => rfl) rfl fun _ _ h => if_pos h
  · refine completes_of (fun _ _ _ => rfl) fun e s h => if_pos ?_
    obtain ⟨hretired, hmode, hrule, hbudget, hlog⟩ := h
    refine firstOf_whenS_false hretired (firstOf_whenS_false ?_ (firstOf_whenS_false ?_ (firstOf_whenS_false ?_ (firstOf_whenS_false ?_ rfl))))
    · by_cases hsame : e.cmd.field 16 1 = s.param .pairMode (e.cmd.tgtIndex - 0x0100)
      · simp [hsame]
      · obtain ⟨hidle, hspare⟩ := hmode hsame
        simp only [List.all_eq_true, Bool.not_eq_true'] at hidle
        have hlive : (s.tasksOf (e.cmd.tgtIndex - 0x0100)).any (fun i => (s.taskOf i).live) = false := by
          simpa using hidle
        by_cases h2 : e.cmd.field 16 1 = 2
        · simp [hspare h2]
        · simp [hlive, h2]
    · simp [hrule]
    · simp [hbudget]
    · cases h : pairLogged s e.cmd
      · rfl
      · simp [hlog h]
  · exact does_of (fun _ _ _ => rfl) fun _ _ _ => rfl
  · exact reports_of (fun _ _ _ => rfl) fun _ _ _ => rfl
end

section
/-! PROOFS. Cycles of tasks and the self-tests of core pairs (05 R127, R132 to R138, R147, R149; 11 R291). -/

namespace Sys2Proof.Machine

/-! ## One task of the table -/

/-- A task that is not as at reset reads back, whatever the table. -/
theorem State.taskOf_setTask {x : Task} (h : x ≠ {}) (i : Nat) (s : State) : (s.setTask i x).taskOf i = x := Tab.get_put_of_ne _ _ _ h

theorem State.taskOf_setTask_other {x : Task} (h : x ≠ {}) {i j : Nat} (hj : j ≠ i) (s : State) : (s.setTask i x).taskOf j = s.taskOf j :=
  Tab.get_put_other_of_ne _ _ _ _ h hj

theorem Task.ne_of_executing {x : Task} (h : x.executing = true) : x ≠ {} := by
  rintro rfl
  cases h

theorem Task.ne_of_live {x : Task} (h : x.live = true) : x ≠ {} := by
  rintro rfl
  cases h

/-! ## Release (05 R127, R132, R134) -/

theorem State.latchTakes_eq (i : Nat) (s : State) : ∃ p, s.latchTakes i = { s with pis := p } := by
  unfold State.latchTakes
  generalize (s.taskProg i).inMap = l
  induction l generalizing s with
  | nil => exact ⟨_, rfl⟩
  | cons e l ih =>
    rw [List.foldl_cons]
    split
    · obtain ⟨p, hp⟩ := ih (s.setPi (e.index - 0x0200) { s.piOf (e.index - 0x0200) with captured := false })
      exact ⟨p, hp⟩
    · exact ih s

theorem State.agreeSend_eq (i : Nat) (s : State) : ∃ m, s.agreeSend i = { s with sent := m } ∧ (s.inStep = false → m = s.sent) := by
  unfold State.agreeSend
  dsimp only
  cases h : s.inStep
  · exact ⟨s.sent, rfl, fun _ => rfl⟩
  · exact ⟨_, rfl, fun hno => by cases hno⟩

/-- The cycle that a release begins from a counted task `x`. -/
structure Task.Begins (now deadline : Nat) (x y : Task) : Prop where
  executing : y.executing = true
  release : y.release = now
  lastRelease : y.lastRelease = some now
  cycleCount : y.cycleCount = x.cycleCount
  deadline : y.deadline = deadline
  outImg : y.outImg = x.committed
  committed : y.committed = x.committed
  overran : y.overran = false
  firstScan : y.firstScan = false
  state : y.state = x.state

/-- A task whose cycle a release has counted. -/
def Task.counted (x : Task) : Task := { x with cycleCount := (x.cycleCount + 1) % 2 ^ 32 }

/-- A release of a task that answers no error: its cycle begins, and beside it the captures it latches are taken and its partner is told. -/
theorem State.taskRelease_eq {i : Nat} {s : State} (hkind : s.param .taskKind i ≠ 4) (hlive : (s.taskOf i).live = true) :
    ∃ y p m, s.taskRelease i = { (s.setTask i (s.taskOf i).counted).setTask i y with pis := p, sent := m }
      ∧ Task.Begins s.tb0 (s.tb0 + if s.param .taskKind i = 3 then (s.taskLimit i).toNat else s.param .taskCycle i) (s.taskOf i).counted y
      ∧ (s.inStep = false → m = s.sent) := by
  have herr : (s.param .taskKind i == 4) = false := by simpa using hkind
  have hread : (s.setTask i (s.taskOf i).counted).taskOf i = (s.taskOf i).counted :=
    State.taskOf_setTask (Task.ne_of_live (x := (s.taskOf i).counted) hlive) i s
  have hrun : ∃ y, s.taskRelease i = ((((s.setTask i (s.taskOf i).counted).setTask i y).latchTakes i).agreeSend i)
      ∧ Task.Begins s.tb0 (s.tb0 + if s.param .taskKind i = 3 then (s.taskLimit i).toNat else s.param .taskCycle i)
          ((s.setTask i (s.taskOf i).counted).taskOf i) y := by
    unfold State.taskRelease
    simp only [herr, Bool.false_eq_true, if_false]
    exact ⟨_, rfl, rfl, rfl, rfl, rfl, rfl, rfl, rfl, rfl, rfl, rfl⟩
  rw [hread] at hrun
  obtain ⟨y, hy, hbegins⟩ := hrun
  obtain ⟨p, hp⟩ := State.latchTakes_eq i ((s.setTask i (s.taskOf i).counted).setTask i y)
  obtain ⟨m, hm, hsent⟩ := State.agreeSend_eq i { (s.setTask i (s.taskOf i).counted).setTask i y with pis := p }
  exact ⟨y, p, m, by rw [hy, hp, hm], hbegins, hsent⟩

/-! ## The end of a cycle -/

/-- What ends a cycle counts by its result alone. -/
theorem State.cycleEnd_congr {i : Nat} {f g : State → State} {s : State} (h : f s = g s) : s.cycleEnd i f = s.cycleEnd i g := by
  unfold State.cycleEnd
  rw [h]

/-- Where the cycle goes on there is no boundary. -/
theorem State.cycleEnd_of_executing {i : Nat} {f : State → State} {s : State} (hup : s.up = true) (h : ((f s).taskOf i).executing = true) :
    s.cycleEnd i f = (f s).settle := by
  unfold State.cycleEnd
  simp [hup, h]

/-- A cause that joins the error queue, or is told where it is full, leaves tasks and settings. -/
theorem State.errorCause_keeps (cause source : Nat) (s : State) :
    (s.errorCause cause source).tasks = s.tasks ∧ (s.errorCause cause source).cfg = s.cfg := by
  unfold State.errorCause
  split
  · exact ⟨rfl, rfl⟩
  · exact ⟨State.post_tasks .., State.post_cfg ..⟩

/-- A task whose cycle has passed its deadline. -/
def Task.late1 (x : Task) : Task := { x with overran := true, consecutive := x.consecutive + 1, overruns := (x.overruns + 1) % 2 ^ 32 }

/-- The first overrun of a cycle (05 R138): below the limit the cycle goes on, at it the task is halted. -/
theorem State.taskDeadline_of_due {i left : Nat} {s : State} (hexec : (s.taskOf i).executing = true) (hover : (s.taskOf i).overran = false)
    (hdue : (s.taskOf i).deadline ≤ s.tb0) :
    s.taskDeadline i left =
      let u := (s.setTask i (s.taskOf i).late1).errorCause 0x03 i
      if s.overrunLimit i ≤ (s.taskOf i).consecutive + 1 then
        let w := if (s.taskOf i).awaiting then u else u.taskWalk i (some left)
        (w.recordOverrun i w.tb0).taskHalt i
      else u := by
  have hlimit : ((s.setTask i (s.taskOf i).late1).errorCause 0x03 i).overrunLimit i = s.overrunLimit i := by
    simp only [State.overrunLimit, State.isSafetyTask, State.param, (State.errorCause_keeps _ _ _).2, State.setTask_cfg]
    rfl
  have hgo : ¬(¬((s.taskOf i).executing && !(s.taskOf i).overran) = true ∨ s.tb0 < (s.taskOf i).deadline) := by
    simp [hexec, hover, Nat.not_lt.mpr hdue]
  refine (if_neg hgo).trans ?_
  exact if_congr (iff_of_eq (congrArg (· ≤ (s.taskOf i).consecutive + 1) hlimit)) rfl rfl

/-! ## Self-tests of core pairs (05 R147, R149) -/

/-- A slice that counts for a commanded test. -/
theorem State.cpSlice_of_commanded {n : Nat} {b0 b1 : Bool} {s : State} (hret : (s.cpOf n).retired = false)
    (hcmd : (s.cpOf n).testCmd.isSome = true) (hidle : s.cpIdle n = true) :
    s.cpSlice n b0 b1 =
      if (s.cpOf n).cmdSlices + 1 < 60 then s.setCp n { s.cpOf n with cmdSlices := (s.cpOf n).cmdSlices + 1 }
      else if b0 || b1 then (s.cpAnswer n .sOk 1).coreRetire n Code.eCoreMismatch.num (passingCore b0 b1)
      else s.cpAnswer n .sOk 0 := by
  have hgo : ¬((s.cpOf n).retired || ((s.cpOf n).due.isNone && (s.cpOf n).testCmd.isNone) || !(s.cpIdle n)) = true := by
    simp [hret, hidle, Option.isSome_iff_ne_none.mp hcmd]
  exact (if_neg hgo).trans (if_pos hcmd)

/-- A slice that counts for the periodic test. -/
theorem State.cpSlice_of_periodic {n : Nat} {b0 b1 : Bool} {s : State} (hret : (s.cpOf n).retired = false)
    (hcmd : (s.cpOf n).testCmd = none) (hdue : (s.cpOf n).due.isSome = true) (hidle : s.cpIdle n = true) :
    s.cpSlice n b0 b1 =
      if (s.cpOf n).slices + 1 < 60 then s.setCp n { s.cpOf n with slices := (s.cpOf n).slices + 1 }
      else
        let u := s.setCp n { s.cpOf n with due := none, slices := 0, lastDone := s.tb0 }
        if b0 || b1 then u.coreRetire n Code.eCoreMismatch.num (passingCore b0 b1) else u := by
  have hgo : ¬((s.cpOf n).retired || ((s.cpOf n).due.isNone && (s.cpOf n).testCmd.isNone) || !(s.cpIdle n)) = true := by
    simp [hret, hidle, Option.isSome_iff_ne_none.mp hdue]
  exact (if_neg hgo).trans (if_neg (by simp [hcmd]))

end Sys2Proof.Machine

open Sys2Proof Sys2Proof.Machine

/-- Settles O23: each row by its branch; the cycle that a release begins is not a task as at reset, so it reads back. -/
theorem taskCyclesRunAsTheRulesSay : Obligations.TaskCyclesRunAsTheRulesSay := by
  refine ⟨⟨fun t i hi => ?_, fun t i s hi hfree hrule hkind => ?_⟩, ⟨fun t i exec ranges mism steps hi => ?_, fun t i left x hi => ?_,
    fun t i left x hi => ?_, fun t i left hi => ?_, fun t g s r hg => ?_, fun t i hi => ?_⟩, fun t n b0 b1 hn a => ?_, fun t n hn => ?_,
    fun t n b0 b1 hn => ?_, fun t n b0 b1 hn => ?_, fun t n hn a => ?_⟩
  · refine occurs_on hi (fun s => if s.taskFree i && s.releaseRule i then s.taskRelease i else s) (fun _ => rfl) fun s h => if_neg ?_
    simpa using h
  · have hlive : ((s.advance t).taskOf i).live = true := by
      simp only [State.taskFree, Bool.and_eq_true] at hfree
      obtain ⟨⟨⟨⟨⟨⟨⟨-, hlive⟩, -⟩, -⟩, -⟩, -⟩, -⟩, -⟩ := hfree
      exact hlive
    obtain ⟨y, p, m, hu, hy, hsent⟩ := State.taskRelease_eq hkind hlive
    have hnew : ∀ s : State, (s.setTask i y).taskOf i = y := State.taskOf_setTask (Task.ne_of_executing hy.executing) i
    refine ⟨_, (if_pos hi).trans (congrArg Host.Outcome.next ((if_pos (by simp [hfree, hrule])).trans hu)), ?_⟩
    refine ⟨(congrArg Task.executing (hnew _)).trans hy.executing, (congrArg Task.release (hnew _)).trans hy.release,
      (congrArg Task.lastRelease (hnew _)).trans hy.lastRelease, (congrArg Task.cycleCount (hnew _)).trans hy.cycleCount, fun h3 => ?_,
      (congrArg Task.outImg (hnew _)).trans hy.outImg, (congrArg Task.committed (hnew _)).trans hy.committed,
      (congrArg Task.overran (hnew _)).trans hy.overran, (congrArg Task.firstScan (hnew _)).trans hy.firstScan,
      (congrArg Task.state (hnew _)).trans hy.state, rfl, rfl, rfl, rfl, hsent, fun j hj => ?_⟩
    · exact (congrArg Task.deadline (hnew _)).trans (hy.deadline.trans (congrArg ((s.advance t).tb0 + ·) (if_neg h3)))
    · exact (State.taskOf_setTask_other (Task.ne_of_executing hy.executing) hj _).trans
        (State.taskOf_setTask_other (Task.ne_of_live (x := ((s.advance t).taskOf i).counted) hlive) hj _)
  · refine occurs_on hi (fun s => s.cycleEnd i (State.execEnd i exec ranges mism steps)) (fun _ => rfl) fun s h => State.cycleEnd_congr ?_
    obtain ⟨hup, hstep, hpre⟩ := h
    exact if_neg (by simp [hstep, hpre])
  · refine occurs_on hi (fun s => s.cycleEnd i (State.taskDeadline i left)) (fun _ => rfl) fun s h => ?_
    obtain ⟨hup, rfl, hexec, hover, hdue, hlimit⟩ := h
    have hrun := (State.taskDeadline_of_due (left := left) hexec hover hdue).trans (if_neg (Nat.not_le.mpr hlimit))
    have hgoes : ((s.taskDeadline i left).taskOf i).executing = true := by
      rw [hrun, State.taskOf, (State.errorCause_keeps _ _ _).1]
      exact (congrArg Task.executing (State.taskOf_setTask (Task.ne_of_executing (x := (s.taskOf i).late1) hexec) i s)).trans hexec
    rw [State.cycleEnd_of_executing hup hgoes, hrun]
    rfl
  · refine occurs_on hi (fun s => s.cycleEnd i (State.taskDeadline i left)) (fun _ => rfl) fun s h => State.cycleEnd_congr ?_
    obtain ⟨hup, rfl, hexec, hover, hdue, hlimit⟩ := h
    rw [State.taskDeadline_of_due hexec hover hdue]
    dsimp only
    rw [if_pos hlimit]
    rfl
  · refine occurs_on hi (fun s => s.cycleEnd i (State.taskAbandon i left)) (fun _ => rfl) fun s h => State.cycleEnd_congr ?_
    obtain ⟨hup, hexec, hover, hdue⟩ := h
    exact if_neg (by simp [hexec, hover, hdue])
  · have hrow : exec (.eventTrigger t) s = .next (s.advance t).takeTrigger := rfl
    have hlist : (s.advance t).triggers = g :: r := hg
    rw [hrow, State.takeTrigger, hlist]
  · refine occurs_on hi (State.commitMissing i) (fun _ => rfl) fun s h => ?_
    obtain ⟨hsafe, hlive, hexec, r, hr, hdue⟩ := h
    simp [State.commitMissing, hsafe, hlive, hexec, hr, hdue]
  · refine occurs_on hn (fun s => if s.up then (s.cpTestEnd n b0 b1).settle else s) (fun _ => rfl) fun s h => ?_
    obtain ⟨hup, htest, hdue⟩ := h
    simp [hup, State.cpTestEnd, htest, Nat.not_lt.mpr hdue]
  · refine occursIf_on hn (State.cpTestDue n) (fun _ => rfl) (fun s h => ?_) fun s h => ?_
    · obtain ⟨hret, hnone, hdue⟩ := h
      exact if_neg (by simp [hret, hnone, hdue])
    · exact if_pos (by
        simp only [Bool.or_eq_true, decide_eq_true_eq]
        by_contra hno
        simp only [not_or, Bool.not_eq_true, Option.isSome_eq_false_iff, Option.isNone_iff_eq_none, not_lt] at hno
        exact h ⟨hno.1.1, hno.1.2, hno.2⟩)
  · refine occurs_on hn (fun s => if s.up then (s.cpSlice n b0 b1).settle else s) (fun _ => rfl) fun s h => ?_
    obtain ⟨hup, hret, hcmd, hidle⟩ := h
    exact (if_pos hup).trans (congrArg State.settle (State.cpSlice_of_commanded hret hcmd hidle))
  · refine occurs_on hn (fun s => if s.up then (s.cpSlice n b0 b1).settle else s) (fun _ => rfl) fun s h => ?_
    obtain ⟨hup, hret, hcmd, hdue, hidle⟩ := h
    exact (if_pos hup).trans (congrArg State.settle (State.cpSlice_of_periodic hret hcmd hdue hidle))
  · refine occurs_on hn (State.cpSkipped n) (fun _ => rfl) fun s h => ?_
    obtain ⟨hdue, hfirst, hlate⟩ := h
    simp [State.cpSkipped, hdue, hfirst, hlate]
end

section
/-! PROOFS. Program slots, the exchange and forces (07 R192 to R211, R561, R562). -/

namespace Sys2Proof.Machine

/-! ## What degraded mode and forces leave of the pair (07 R205, R562; 11 R300) -/

theorem State.each_keeps {β : Type} {π : State → β} {f : Nat → State → State} (hf : ∀ n s, π (f n s) = π s) (l : List Nat) (s : State) :
    π (s.each f l) = π s := by
  induction l generalizing s with
  | nil => rfl
  | cons n l ih => exact (ih (f n s)).trans (hf n s)

@[simp] theorem State.postIf_pair (b : Bool) (p : Plane) (c : Code) (src : Res) (n : Nat) (s : State) : (s.postIf b p c src n).pair = s.pair :=
  (outward_postIf b p c src n s).pair

@[simp] theorem State.commitSafety_pair (s : State) : s.commitSafety.pair = s.pair := rfl

@[simp] theorem State.soSwitches_pair (n : Nat) (s : State) : (s.soSwitches n).pair = s.pair := rfl

@[simp] theorem State.soTrip_pair (n cause : Nat) (s : State) : (s.soTrip n cause).pair = s.pair := by
  unfold State.soTrip
  dsimp only
  split <;> simp

@[simp] theorem State.svCondition_pair (row cause n : Nat) (s : State) : (s.svCondition row cause n).pair = s.pair := by
  unfold State.svCondition
  dsimp only
  split
  · rfl
  · split <;> simp

@[simp] theorem State.svConditionEnd_pair (row n : Nat) (s : State) : (s.svConditionEnd row n).pair = s.pair := rfl

@[simp] theorem State.soExpire_pair (n : Nat) (s : State) : (s.soExpire n).pair = s.pair := by
  unfold State.soExpire
  dsimp only
  split
  · rfl
  · split <;> simp

@[simp] theorem State.soDegrade_pair (n row : Nat) (s : State) : (s.soDegrade n row).pair = s.pair := by
  unfold State.soDegrade
  dsimp only
  split
  · rfl
  · rw [apply_ite State.pair]
    simp

@[simp] theorem State.soUndegrade_pair (n row : Nat) (s : State) : (s.soUndegrade n row).pair = s.pair := by
  unfold State.soUndegrade
  dsimp only
  split
  · rfl
  · split <;> simp

@[simp] theorem State.forceDegrade_pair (s : State) : s.forceDegrade.pair = s.pair := by
  refine State.each_keeps (π := State.pair) (fun n s => ?_) _ s
  split <;> simp

@[simp] theorem State.logAppend_pair (e : LogEntry) (s : State) : (s.logAppend e).pair = s.pair := by
  simp [State.logAppend]

@[simp] theorem State.commitLog_pair (s : State) : s.commitLog.pair = s.pair := rfl

@[simp] theorem State.logChange_pair (r : Route) (cls sub index : Nat) (old new : Bytes) (s : State) :
    (s.logChange r cls sub index old new).pair = s.pair := by
  simp [State.logChange]

@[simp] theorem State.logRelease_pair (r : Route) (cls sub index : Nat) (old new : Bytes) (s : State) :
    (s.logRelease r cls sub index old new).pair = s.pair := by
  unfold State.logRelease
  dsimp only
  split
  · simp
  · split <;> simp

@[simp] theorem State.logForce_pair (r : Route) (id : Nat) (old new : Bytes) (release : Bool) (s : State) :
    (s.logForce r id old new release).pair = s.pair := by
  unfold State.logForce
  dsimp only
  split <;> simp

@[simp] theorem State.forceDrop_pair (r : Route) (id : Nat) (expired : Bool) (s : State) : (s.forceDrop r id expired).pair = s.pair := by
  unfold State.forceDrop
  split
  · rfl
  · dsimp only
    simp only [State.post_pair, State.forceDegrade_pair, State.setForce_pair]
    rw [apply_ite State.pair, State.logForce_pair, ite_self]

@[simp] theorem State.releaseTaskForces_pair (e : Entry) (i : Nat) (s : State) : (s.releaseTaskForces e i).pair = s.pair := by
  have h : (s.each (fun id s => s.forceDrop e.cmd.route id false) (s.forcedOf i)).pair = s.pair :=
    State.each_keeps (π := State.pair) (fun id s => State.forceDrop_pair _ id false s) _ s
  unfold State.releaseTaskForces
  dsimp only
  split
  · simpa using h
  · exact h

/-! ## Slots -/

/-- A program slot that is not as at reset reads back, whatever the table. -/
theorem State.slot_setSlot {x : ProgSlot} (h : x ≠ {}) (k : Nat) (s : State) : (s.setSlot k x).slot k = x := Tab.get_put_of_ne _ _ _ h

/-- A slot whose image has been judged. -/
def ProgSlot.judged (lib : Nat) (x : ProgSlot) : ProgSlot := { x with state := if x.fault lib = 0 then .valid else .invalid }

theorem ProgSlot.judged_ne (lib : Nat) (x : ProgSlot) : x.judged lib ≠ {} := by
  intro h
  have hstate := congrArg ProgSlot.state h
  unfold ProgSlot.judged at hstate
  dsimp only at hstate
  split at hstate <;> cases hstate

theorem State.slot_congr {s u : State} (h : u.prog = s.prog) (k : Nat) : u.slot k = s.slot k := by
  unfold State.slot
  rw [h]

/-- Once its image is judged a slot says so, and the answer is that of the image (07 R196). -/
theorem State.slotReply_slotLoaded (e : Entry) (k : Nat) (s : State) :
    (s.slotLoaded k).slotReply e k =
      let bad := (s.slot k).fault s.libVersion
      let u := (s.setSlot k { s.slot k with state := if bad = 0 then .valid else .invalid }).post .control .eProgLoaded (slotRes k)
        (k * 256 + (if bad = 0 then 2 else 3))
      if bad = 0 then u.complete e .sOk 0 [] else u.complete e .sBadParam bad [] := by
  have hfault : ((s.slotLoaded k).slot k).fault (s.slotLoaded k).libVersion = (s.slot k).fault s.libVersion := by
    have hlib : (s.slotLoaded k).libVersion = s.libVersion := by
      simp only [State.libVersion, State.installed, State.slotLoaded, State.post_upd]
      rfl
    have hslot : (s.slotLoaded k).slot k = (s.slot k).judged s.libVersion := by
      have hkept : (s.slotLoaded k).slot k = (s.setSlot k ((s.slot k).judged s.libVersion)).slot k :=
        State.slot_congr (State.post_prog ..) k
      exact hkept.trans (State.slot_setSlot (ProgSlot.judged_ne _ _) k s)
    rw [hlib, hslot]
    rfl
  unfold State.slotReply
  dsimp only
  rw [hfault]
  by_cases hbad : (s.slot k).fault s.libVersion = 0
  · simp only [State.slotLoaded, hbad, if_true]
    rfl
  · simp only [State.slotLoaded, hbad, if_false]
    rfl

/-! ## Releases of every force (07 R562) -/

/-- One task's release of a `VAR.RELEASE_ALL` without a partner. -/
def State.releaseAlone (e : Entry) (i : Nat) (s : State) : State :=
  if (s.taskOf i).live ∨ s.mailWaits (taskOwner i) then s.postMail { owner := taskOwner i, body := .releaseTask e i }
  else s.releaseTaskForces e i

/-- One task's release of a `VAR.RELEASE_ALL` that the partner follows. -/
def State.releasePaired (e : Entry) (i : Nat) (s : State) : State :=
  (s.afterDraw.postMail { owner := taskOwner i, body := .releaseTask e i, due := s.pairDue (taskOwner i) 4 }).send
    (.hedgerow 9 [i, s.pairDue (taskOwner i) 4])

theorem State.postsToPartner_congr {s u : State} (h : u.pair = s.pair) : u.postsToPartner = s.postsToPartner := by
  unfold State.postsToPartner
  rw [h]

/-- Steps that leave the pair as it is go on as the first one does. -/
theorem State.each_postsToPartner {f g : Nat → State → State} {b : Bool} (hf : ∀ n s, s.postsToPartner = b → f n s = g n s)
    (hg : ∀ n s, (g n s).pair = s.pair) (l : List Nat) (s : State) (h : s.postsToPartner = b) : s.each f l = s.each g l := by
  induction l generalizing s with
  | nil => rfl
  | cons n l ih =>
    unfold State.each at ih ⊢
    rw [List.foldl_cons, List.foldl_cons, hf n s h]
    exact ih _ ((State.postsToPartner_congr (hg n s)).trans h)

theorem State.releaseAlone_pair (e : Entry) (i : Nat) (s : State) : (s.releaseAlone e i).pair = s.pair := by
  unfold State.releaseAlone
  split <;> simp

/-! ## The end of an image's transfer (07 R209) -/

/-- The state that the transfer's image has left. -/
def State.imageTaken (w : State) : State := { w with pair := { w.pair with image := none } }

/-- Nothing is left to hold an exchange back but the images' comparison. -/
theorem State.imageSent_of_judged {e : Entry} {w : State} (same : Bool) (he : w.pair.image = some e) (hop : e.op = 0x0213)
    (hlink : w.pair.link = true) (hjudge : w.imageTaken.judge (slotNo e.cmd) (bitOf (e.cmd.field 17 1) 0) e.cmd = none) :
    w.imageSent same =
      if ¬ same then w.imageTaken.refuseExchange e .sState 21 noEntry
      else match (w.slot (slotNo e.cmd)).image with
        | some p => w.imageTaken.startExchange e p
        | none => w.imageTaken := by
  have hcheck : ¬(e.op == 0x0212) = true := by simp [hop]
  unfold State.imageTaken at hjudge ⊢
  unfold State.imageSent
  rw [he]
  dsimp only at hjudge ⊢
  rw [if_neg (not_not.mpr hlink), hjudge]
  dsimp only
  rw [if_neg hcheck, if_neg hcheck] <;> rfl

/-! ## A force that runs out (07 R205) -/

theorem State.forceExpire_of_due {id a : Nat} {f : Force} {s : State} (hf : s.forceOf id = some f) (htill : f.till = some a) (hdue : a ≤ s.tb0) :
    s.forceExpire id = s.forceDrop .host id true := by
  simp [State.forceExpire, hf, htill, hdue]

end Sys2Proof.Machine

open Sys2Proof Sys2Proof.Machine

/-- Settles O24: each row by its branch; what a release of every force does leaves the pair, so the partner follows all of it or none. -/
theorem programAndForceCommandsTakeEffect : Obligations.ProgramAndForceCommandsTakeEffect := by
  refine ⟨⟨?_, ?_, ?_, ?_, ?_, ?_, fun p => ?_, ?_, fun p => ?_, fun st chk i => ?_, fun t x e => ?_, fun t e s w v hw hv he hop hlink hjudge => ?_⟩,
    fun v => ?_, fun v f => ?_, ?_, ?_, ?_, ?_, ?_, fun t id f v a => ?_⟩
  · exact does_of (fun _ _ _ => rfl) fun _ _ _ => rfl
  · exact completes_of (fun _ _ _ => rfl) fun e s h => if_neg h
  · refine does_of (fun _ _ _ => rfl) fun e s h => ?_
    simp only [specTaskProgWrite, h, if_true]
    exact State.slotReply_slotLoaded _ _ _
  · exact completes_of (fun _ _ _ => rfl) fun _ _ _ => rfl
  · exact reports_of (fun _ _ _ => rfl) fun _ _ _ => rfl
  · exact does_of (fun _ _ _ => rfl) fun _ _ _ => rfl
  · refine does_of (fun _ _ _ => rfl) fun e s h => ?_
    obtain ⟨hjudge, halone, hp⟩ := h
    simp only [specTaskProgCheck, hjudge, halone, State.answerCheck, hp]
    rfl
  · refine does_of (fun _ _ _ => rfl) fun e s h => ?_
    obtain ⟨hjudge, hpartner⟩ := h
    simp only [specTaskProgCheck, hjudge, hpartner]
    rfl
  · refine does_of (fun _ _ _ => rfl) fun e s h => ?_
    obtain ⟨hjudge, halone, hp⟩ := h
    have hposts : s.postsToPartner = false := halone
    simp only [specTaskProgExchange, hjudge, halone, hp, State.startExchange, hposts]
    rfl
  · refine does_of (fun _ _ _ => rfl) fun e s h => ?_
    simp only [specTaskProgExchange, h]
    rfl
  · refine occurs_of State.finishExchange (fun _ => rfl) fun s h => ?_
    obtain ⟨hx, hpending, he⟩ := h
    simp only [State.finishExchange, hx, hpending, he]
    rfl
  · have hrow : ∀ same, exec (.progImageTransferEnd t same) s = .next (w.imageSent same) := fun same => by rw [hw]; rfl
    have hwe : w.pair.image = some e := by rw [hw]; exact he
    have hwlink : w.pair.link = true := by rw [hw]; exact hlink
    have hsent : ∀ same, _ := fun same => (hrow same).trans
      (congrArg Host.Outcome.next (State.imageSent_of_judged same hwe hop hwlink (by rw [← hjudge, hv]; rfl)))
    refine ⟨(hsent false).trans ?_, fun p hp => (hsent true).trans ?_⟩
    · rw [hv]
      rfl
    · have hwp : (w.slot (slotNo e.cmd)).image = some p := by rw [hw]; exact hp
      rw [hv, hwp]
      rfl
  · refine completesEitherWay_of (fun _ _ _ => rfl) rfl fun e s h => (if_pos h.2).trans ?_
    simp only [h.1]
    rfl
  · refine completesEitherWay_of (fun _ _ _ => rfl) rfl fun e s h => (if_pos (by simp [h.2, whenS])).trans ?_
    simp only [State.forceDrop, h.1, h.2]
    rfl
  · exact completes_of (fun _ _ _ => rfl) fun e s h => if_pos (by simp [h])
  · refine does_of (fun _ _ _ => rfl) fun e s h => ?_
    obtain ⟨hts, halone⟩ := h
    have hsome : (s.releaseTasks e.cmd).isEmpty = false := by simpa using hts
    simp only [specVarReleaseAll, hsome]
    exact State.each_postsToPartner (g := State.releaseAlone e) (b := false) (fun i u hu => if_neg (by simp [hu]))
      (State.releaseAlone_pair e) _ _ halone
  · refine does_of (fun _ _ _ => rfl) fun e s h => ?_
    obtain ⟨hts, hpartner⟩ := h
    have hsome : (s.releaseTasks e.cmd).isEmpty = false := by simpa using hts
    simp only [specVarReleaseAll, hsome]
    exact State.each_postsToPartner (g := State.releasePaired e) (b := true) (fun i u hu => if_pos hu) (fun _ _ => rfl) _ _ hpartner
  · exact reports_of (fun _ _ _ => rfl) fun _ _ _ => rfl
  · exact completes_of (fun _ _ _ => rfl) fun _ _ _ => rfl
  · intro s h
    obtain ⟨hf, hv, hrel, htill, hdue, hst, hposts⟩ := h
    have hstandby : ((s.advance t).pair.st == .standby) = false := by simpa using hst
    have hrow : exec (.forceExpiry t id) s = execForceExpiry t id s := rfl
    rw [hrow]
    simp only [execForceExpiry, hf, hv, hrel, htill, hdue, hstandby, hposts, State.forceExpire_of_due hf htill hdue]
    rfl
    
end

section
/-! PROOFS. The commands of analogue channels (09 R232, R247 to R259). -/

namespace Sys2Proof.Machine

/-- Settings that leave the mode of a channel as it is. -/
theorem acApply_of_same {l : Cmd → List (Param × Nat)} {e : Entry} {s : State} (h : acModeChanges s e.cmd (l e.cmd) = false) :
    acApply l e s = .ok (
      let n := e.cmd.tgtIndex
      let s := (if s.acInSafety n then s.logChange e.cmd.route 0x04 0 n (acBlock s n []) (acBlock s n (l e.cmd)) else s).setCommit n (l e.cmd)
      let s := s.setAc n { s.acOf n with cfgSeq := (s.acOf n).cfgSeq + 1 }
      (if s.param .acHartEn n = 0 then (s.hartAbort n).hartFlush n else s).modemsNext) := by
  unfold acApply
  dsimp only
  rw [if_neg (by simp [h])]

/-- Settings that change the mode of a channel start its switching. -/
theorem acApply_of_change {l : Cmd → List (Param × Nat)} {e : Entry} {s : State} (h : acModeChanges s e.cmd (l e.cmd) = true) :
    acApply l e s = .ok (
      let n := e.cmd.tgtIndex
      let s := (if s.acInSafety n then s.logChange e.cmd.route 0x04 0 n (acBlock s n []) (acBlock s n (l e.cmd)) else s).setCommit n (l e.cmd)
      let s := s.setAc n { s.acOf n with cfgSeq := (s.acOf n).cfgSeq + 1 }
      let s := ((if s.param .acHartEn n = 0 then (s.hartAbort n).hartFlush n else s).acCalAbandon n).hartAbort n
      let x := s.acOf n
      (if x.st = .outOfService ∨ x.st = .powerOn then
        (s.setAc n { x with modeAt := s.tb0 + 5000000, target := none, delivered := false, changed := true, flags := 0, test := none }).post
          .data .eAcMode (acRes n) (n * 2 ^ 24 + s.acMode n)
       else s.setAc n { x with st := .switching, modeAt := s.tb0 + 5000000, target := none, delivered := false, changed := true }).modemsNext) := by
  unfold acApply
  dsimp only
  rw [if_pos h]

/-- The settings of `AC.HART_CONFIG` carry no mode. -/
theorem hartSettings_keep_mode (c : Cmd) (s : State) : acModeChanges s c (hartSettings c) = false := by
  have hnone : (hartSettings c).find? (fun x => x.1 == .acMode) = none := by
    unfold hartSettings
    cases c.expert <;> rfl
  unfold acModeChanges newValue
  rw [hnone]
  exact bne_self_eq_false _

end Sys2Proof.Machine

open Sys2Proof Sys2Proof.Machine

/-- Settles O25: each command by its action; the settings of a channel by whether they change its mode. -/
theorem analogueCommandsTakeEffect : Obligations.AnalogueCommandsTakeEffect := by
  refine ⟨?_, ?_, ?_, ?_, ?_, ?_, ?_, ?_, ?_, ?_, ?_, ?_⟩
  · exact completesEitherWay_of (fun _ _ _ => rfl) rfl fun e s h => (if_pos h.1).trans (acApply_of_same (by simp [acModeChanges, h.2]))
  · exact completesEitherWay_of (fun _ _ _ => rfl) rfl fun e s h => (if_pos h.1).trans (acApply_of_change (by simp [acModeChanges, h.2]))
  · refine completesEitherWay_of (fun _ _ _ => rfl) rfl fun e s h => if_pos ?_
    obtain ⟨hst, hsession, hlog⟩ := h
    refine firstOf_whenS_false (by simpa using hst) (firstOf_whenS_false ?_ (firstOf_whenS_false ?_ rfl))
    · by_cases h0 : e.cmd.field 16 1 = 0 ∧ s.acInSafety e.cmd.tgtIndex = true
      · simp [hsession h0.1 h0.2]
      · grind
    · grind
  · refine completesEitherWay_of (fun _ _ _ => rfl) rfl fun e s h => if_pos ?_
    simp [h.1, acIsAo, h.2, whenS]
  · refine completesEitherWay_of (fun _ _ _ => rfl) rfl fun e s h => (if_pos h.1).trans ?_
    exact if_pos (by simp [h.2])
  · refine doesEitherWay_of (fun _ _ _ => rfl) rfl fun e s h => ?_
    refine (congrArg (s.finish e) ((if_pos h.1).trans (if_neg (by simpa using h.2)))).trans rfl
  · refine does_of (fun _ _ _ => rfl) fun e s _ => ?_
    simp only [specAcSelftest]
    split <;> rfl
  · exact reports_of (fun _ _ _ => rfl) fun _ _ _ => rfl
  · exact completes_of (fun _ _ _ => rfl) fun e s _ => acApply_of_same (hartSettings_keep_mode e.cmd s)
  · exact does_of (fun _ _ _ => rfl) fun _ _ _ => rfl
  · refine does_of (fun _ _ _ => rfl) fun e s h => ?_
    exact congrArg (s.finish e) (if_pos h)
  · exact completes_of (fun _ _ _ => rfl) fun e s h => if_neg h
end

section
/-! PROOFS. The events of analogue channels and of HART (09 R232 to R234, R241 to R256). -/

namespace Sys2Proof.Machine

/-- A diagnostic that runs, whose condition holds and whose flag is clear, tells (09 R241). -/
theorem State.acDiagnosed_of_new {n : Nat} {k : AcDiag} {m : AcMeas} {s : State} (hruns : s.acDiagnoses n k = true)
    (hcond : s.acCondition n k m = true) (hflag : (s.acOf n).flag (acDiagBit k) = false) :
    s.acDiagnosed n k m =
      let c := s.acOf n
      match k with
      | .openLoop => (s.setAc n (c.setFlag 0 true)).post .data .eAcOpen (acRes n) (n * 2 ^ 24)
      | .openWire => (s.setAc n (c.setFlag 0 true)).post .data .eAcOpen (acRes n) (n * 2 ^ 24)
      | .compliance => (s.setAc n (c.setFlag 1 true)).post .data .eAcCompliance (acRes n) (q24 n (acCurrent (s.acMode n) m / 1000))
      | .short => (s.setAc n (c.setFlag 3 true)).post .data .eAcShort (acRes n) (n * 2 ^ 24)
      | .mismatch => (s.setAc n { c.setFlag 13 true with cut := s.acMode n != 0 }).post .data .eAcMismatch (acRes n) (n * 2 ^ 24)
      | .readback => (s.setAc n { c with recheck := true, recheckAt := s.tb0 }).fault .data .fAcReadback (acRes n)
          (q24 n ((m.current - m.readback).natAbs / 1000 : Nat)) (acKey n) := by
  have hgo : ¬((¬((s.acDiagnoses n k && s.acCondition n k m) = true)) || (s.acOf n).flag (acDiagBit k) : Bool) = true := by
    simp [hruns, hcond, hflag]
  refine (if_neg hgo).trans ?_
  cases k <;> rfl

/-- The transaction or listen window of a modem. -/
theorem State.hartBurst_iff (n : Nat) (s : State) :
    (List.range 8).any (fun m => (s.modemOf m).job == some (n, HartJob.dwell)) = true ↔ ∃ m, m < 8 ∧ (s.modemOf m).job = some (n, .dwell) := by
  simp

/-- The isolated side of a channel has been silent for its timeout, and its own module drives it (09 R233; 13 R346). -/
theorem State.acSilence_iff (n : Nat) (s : State) :
    ((s.acOf n).powered && (s.acOf n).silent.isNone && !(s.pair.st != .unpaired && acIsAo (s.acMode n))
      && decide ((s.acOf n).lastFrame + s.param .acSilenceTo n * 1000000 ≤ s.tb0)) = true
    ↔ (s.acOf n).powered = true ∧ (s.acOf n).silent = none ∧ (s.pair.st = .unpaired ∨ s.acMode n < 2)
      ∧ (s.acOf n).lastFrame + s.param .acSilenceTo n * 1000000 ≤ s.tb0 := by
  simp only [acIsAo, Bool.and_eq_true, Option.isNone_iff_eq_none, Bool.not_eq_true', Bool.and_eq_false_iff, bne_eq_false_iff_eq,
    decide_eq_false_iff_not, not_le, decide_eq_true_eq, and_assoc]

/-- The modem between transactions fails its loopback test (09 R256). -/
theorem State.modemLoopback_of_fail {m : Nat} {s : State} (hret : (s.modemOf m).retired = false)
    (hjob : (s.modemOf m).job = none ∨ ∃ n, (s.modemOf m).job = some (n, .dwell)) (htest : (s.modemOf m).testCmd = none) :
    s.modemLoopback m false = ((s.setModem m { s.modemOf m with failed := true, testCmd := none, job := none }).fault .data .fHartModem (modemRes m)
      (m * 2 ^ 24) (modemKey m)).modemNext m := by
  unfold State.modemLoopback
  rcases hjob with hjob | ⟨n, hjob⟩ <;> simp [hret, hjob, htest]

theorem State.modemLoopback_of_pass {m : Nat} {e : Entry} {s : State} (hret : (s.modemOf m).retired = false)
    (hjob : (s.modemOf m).job = none) (htest : (s.modemOf m).testCmd = some e) :
    s.modemLoopback m true =
      ((s.setModem m { s.modemOf m with failed := false, testCmd := none, job := none }).complete e .sOk 0 []).modemNext m := by
  unfold State.modemLoopback
  simp [hret, hjob, htest]

end Sys2Proof.Machine

open Sys2Proof Sys2Proof.Machine

/-- Settles O26: each row by its branch. -/
theorem analogueAndHartEvents : Obligations.AnalogueAndHartEvents := by
  refine ⟨⟨fun t n hn => ?_, fun t n hn => ?_, fun t n k m hn hk => ?_, fun t n m hn => ?_, fun t n temp hn => ?_, fun t n hn => ?_,
    fun t n ppm m hn => ?_, fun t n m hn => ?_, fun t n gain offset k hn => ?_, fun t n m hn => ?_, fun t mv hmv => ?_, fun t mv hmv => ?_⟩,
    fun t m r n q hm => ?_, fun t m r n hm => ?_, fun t n hn => ?_, fun t n hn => ?_, fun t n b hn => ?_, fun t m hm => ?_, fun t m e hm => ?_,
    fun t m n hm => ?_⟩
  · refine occurs_on hn (fun s => (s.acModeEnd n).modemsNext) (fun _ => rfl) fun s h => congrArg State.modemsNext (if_neg ?_)
    simp [h.1, Nat.not_lt.mpr h.2]
  · refine occursIf_on hn (State.acSilence n) (fun _ => rfl) (fun s h => ?_) fun s h => if_neg ?_
    · refine (if_pos ((State.acSilence_iff n s).mpr h)).trans ?_
      simp only [acIsAo, decide_eq_true_eq]
    · exact mt (State.acSilence_iff n s).mp h
  · refine occurs_on hn (State.acDiagnosed n k m) (fun _ => rfl) fun s h => ?_
    rw [State.acDiagnosed_of_new h.1 h.2.1 h.2.2]
    cases k with
    | readback => exact absurd rfl hk
    | _ => rfl
  · refine occurs_on hn (State.acDiagnosed n .readback m) (fun _ => rfl) fun s h => ?_
    obtain ⟨hruns, hmode, hfar, hflag⟩ := h
    exact State.acDiagnosed_of_new hruns (by simp [State.acCondition, hmode, hfar]) hflag
  · refine occurs_on hn (State.acThermal n temp) (fun _ => rfl) fun s h => if_neg ?_
    obtain ⟨hpow, hst, htemp, hflag⟩ := h
    simp [hpow, hst, hflag, not_lt.mpr htemp]
  · refine occurs_on hn (State.acCooled n) (fun _ => rfl) fun s h => ?_
    obtain ⟨a, ha, hdue⟩ := h
    simp only [State.acCooled, ha, hdue, if_true]
  · refine occurs_on hn (State.acReference n ppm m) (fun _ => rfl) fun s h => ?_
    obtain ⟨hpow, hst, htest⟩ := h
    simp only [State.acReference, hpow, htest]
    simp [hst]
  · refine occurs_on hn (State.acRecheck n m) (fun _ => rfl) fun s h => if_neg ?_
    simp [h.1, h.2]
  · refine occurs_on hn (State.acCalEnd n gain offset) (fun _ => rfl) fun s h => ?_
    simp only [State.acCalEnd, h.1, h.2]
    rfl
  · refine occurs_on hn (State.acSample n m) (fun _ => rfl) fun s h => ?_
    refine (if_neg (by simp [h])).trans ?_
    simp only [Bool.or_eq_true, beq_iff_eq]
    rfl
  · refine occurs_of (State.faFail mv) (fun _ => rfl) fun s h => (if_pos ⟨hmv, h⟩).trans rfl
  · refine occurs_of (State.faRecover mv) (fun _ => rfl) fun s h => (if_pos ⟨hmv, h.1⟩).trans ?_
    exact congrArg State.modemsNext (if_pos h.2)
  · refine occurs_on hm (State.hartEnd m r) (fun _ => rfl) fun s h => ?_
    simp only [State.hartEnd, h]
  · refine occurs_on hm (State.hartEnd m r) (fun _ => rfl) fun s h => ?_
    simp only [State.hartEnd, h]
    rfl
  · refine occursIf_on hn (fun s => if s.hartOn n && s.param .hartPollMs n != 0 then (s.setHart n { (s.acOf n).hart with pollDue := true }).modemsNext
      else s) (fun _ => rfl) (fun s h => if_pos (by simp [h.1, h.2])) fun s h => if_neg (by simpa using h)
  · exact occursIf_on hn (fun s => if (s.acOf n).hart.lastGood + 3 * s.param .hartPollMs n * 1000000 ≤ s.tb0 then
      s.setHart n { (s.acOf n).hart with varsGood := false } else s) (fun _ => rfl) (fun s h => if_pos h) fun s h => if_neg h
  · refine occursIf_on hn (State.hartBurst n b) (fun _ => rfl) (fun s h => ?_) fun s h => if_neg (mt (State.hartBurst_iff n s).mp h)
    refine (if_pos ((State.hartBurst_iff n s).mpr h)).trans ?_
    dsimp only
    congr 3
    funext x
    obtain ⟨e, k, r⟩ := x
    cases k <;> simp
  · refine occurs_on hm (State.modemLoopback m false) (fun _ => rfl) fun s h => ?_
    exact State.modemLoopback_of_fail h.1 h.2.1 h.2.2
  · refine occurs_on hm (State.modemLoopback m true) (fun _ => rfl) fun s h => ?_
    exact State.modemLoopback_of_pass h.1 h.2.1 h.2.2
  · refine occurs_on hm (State.dwellEnd m) (fun _ => rfl) fun s h => ?_
    simp only [State.dwellEnd, h]
end

section
/-! PROOFS. The commands and events of digital channels (10 R262 to R282, R564). -/

namespace Sys2Proof.Machine

theorem dcIsDo_eq_true (m : Nat) : dcIsDo m = true ↔ m = 1 ∨ m = 2 := by
  simp [dcIsDo]

theorem dcIsDo_eq_false (m : Nat) : dcIsDo m = false ↔ m ≠ 1 ∧ m ≠ 2 := by
  simp [dcIsDo]

/-- The level that a terminal voltage shows, by the type of the input (10 R261). -/
theorem dcLevelOf_eq (type : Nat) (mv : Int) (was : Bool) :
    dcLevelOf type mv was = if type = 3 then (if 8000 ≤ mv then true else if mv ≤ 6000 then false else was)
      else (if 11000 ≤ mv then true else if mv ≤ 9000 then false else was) := by
  unfold dcLevelOf
  by_cases h : type = 3 <;> simp [h]

/-- The isolated side of a channel has been silent for its timeout, and its own module drives it (10 R265; 13 R346). -/
theorem State.dcSilence_iff (n : Nat) (s : State) :
    ((s.dcOf n).st != .powerOn && (s.dcOf n).silent.isNone && !(s.pair.st != .unpaired && dcIsDo (s.dcMode n))
      && decide ((s.dcOf n).lastFrame + s.param .dcSilenceTo n * 1000000 ≤ s.tb0)) = true
    ↔ (s.dcOf n).st ≠ .powerOn ∧ (s.dcOf n).silent = none ∧ (s.pair.st = .unpaired ∨ (s.dcMode n ≠ 1 ∧ s.dcMode n ≠ 2))
      ∧ (s.dcOf n).lastFrame + s.param .dcSilenceTo n * 1000000 ≤ s.tb0 := by
  simp only [Bool.and_eq_true, Option.isNone_iff_eq_none, Bool.not_eq_true', Bool.and_eq_false_iff, bne_eq_false_iff_eq, bne_iff_ne,
    dcIsDo_eq_false, decide_eq_true_eq, and_assoc]

/-- A pair of inputs disagrees for longer than its discrepancy time (10 R275). -/
theorem State.dcDiscrepant_of_due {n a : Nat} {s : State} (ha : (s.dcOf (evenOf n)).disagree = some a) (hmode : s.dcMode (evenOf n) = 3)
    (hdisc : (s.dcOf (evenOf n)).disc = false) (hdue : a + s.param .dcDiscTime (evenOf n) * 1000000 < s.tb0) :
    s.dcDiscrepant n = ((s.setDc (evenOf n) { s.dcOf (evenOf n) with disc := true, discDemand := false, pairVal := false }).post .data
      .eDcDiscrepancy (dcRes (evenOf n)) (q24 (evenOf n) ((s.tb0 - a) / 1000000 : Nat))).dcCommonUpdate := by
  unfold State.dcDiscrepant
  simp only [ha]
  exact if_pos (by simp [State.dcPaired, hmode, hdisc, hdue])

end Sys2Proof.Machine

open Sys2Proof Sys2Proof.Machine

/-- Settles O27: each command by its action, behind the conditions at its boundary. -/
theorem digitalCommandsTakeEffect : Obligations.DigitalCommandsTakeEffect := by
  refine ⟨?_, ?_, ?_, ?_, ?_, ?_, ?_⟩
  · exact completesEitherWay_of (fun _ _ _ => rfl) rfl fun _ _ h => if_pos h
  · refine completesEitherWay_of (fun _ _ _ => rfl) rfl fun e s h => if_pos ?_
    obtain ⟨hst, hsession⟩ := h
    refine firstOf_whenS_false (by simpa using hst) (firstOf_whenS_false ?_ rfl)
    cases hsafe : s.dcInSafety e.cmd.tgtIndex
    · rfl
    · simp [hsession hsafe]
  · refine completesEitherWay_of (fun _ _ _ => rfl) rfl fun e s h => if_pos ?_
    obtain ⟨hst, hmode⟩ := h
    exact firstOf_whenS_false (by simp [hst]) (firstOf_whenS_false (by simp [hst, (dcIsDo_eq_true _).mpr hmode]) rfl)
  · refine completesEitherWay_of (fun _ _ _ => rfl) rfl fun e s _ => ?_
    simp only [specDcAck]
    split
    · rfl
    · split <;> rfl
  · exact does_of (fun _ _ _ => rfl) fun _ _ _ => rfl
  · exact reports_of (fun _ _ _ => rfl) fun _ _ _ => rfl
  · exact completes_of (fun _ _ _ => rfl) fun _ _ _ => rfl

/-- Settles O28: each row by its branch. -/
theorem digitalEvents : Obligations.DigitalEvents := by
  refine ⟨fun t n hn => ?_, fun t n mv hn => ?_, fun t n hn => ?_, fun t n peak hn => ?_, fun t n hn => ?_, fun t n temp hn => ?_,
    fun t n hn => ?_, fun t n k m hn => ?_, fun t n m normal hn => ?_, fun t n m hn => ?_, fun t n a hn => ?_, fun t n ok hn => ?_,
    fun t g mv hg hmv => ?_, fun t g mv hg hmv => ?_, fun t g mv hg hmv => ?_, fun t g mv hg hmv => ?_⟩
  · exact occurs_on hn (State.dcModeEnd n) (fun _ => rfl) fun s h => if_neg (not_not.mpr h.1)
  · refine occursIf_on hn (State.dcAccept n mv) (fun _ => rfl) (fun s h => (if_neg ?_).trans ?_) fun s h => if_pos ?_
    · simp [h.1, h.2.1, h.2.2, dcReads]
    · rw [dcLevelOf_eq]
    · simp only [dcReads]
      grind
  · exact occursIf_on hn (State.dcSilence n) (fun _ => rfl) (fun s h => if_pos ((State.dcSilence_iff n s).mpr h))
      fun s h => if_neg (mt (State.dcSilence_iff n s).mp h)
  · refine occursIf_on hn (State.dcOverload n peak) (fun _ => rfl) (fun s h => if_neg ?_) fun s h => if_pos ?_
    · simp [h.1, h.2]
    · grind
  · refine occursIf_on hn (State.dcOlRetryEnd n) (fun _ => rfl) (fun s h => if_pos ?_) fun s h => if_neg ?_
    · simp [h.1, h.2]
    · simpa using h
  · refine occurs_on hn (State.dcThermal n temp) (fun _ => rfl) fun s h => if_neg ?_
    obtain ⟨hmode, hst, hret, htemp, hflag⟩ := h
    simp [(dcIsDo_eq_true _).mpr hmode, hst, hret, hflag, not_lt.mpr htemp]
  · refine occursIf_on hn (State.dcCooled n) (fun _ => rfl) (fun s h => ?_) fun s h => ?_
    · obtain ⟨a, ha, hdue⟩ := h
      simp only [State.dcCooled, ha, hdue, if_true]
    · unfold State.dcCooled
      cases ha : (s.dcOf n).coolAt with
      | none => simp [ha]
      | some a => simp only [ha]; exact if_neg fun hdue => h ⟨a, ha, hdue⟩
  · refine occurs_on hn (State.dcDiagnosed n k m) (fun _ => rfl) fun s h => ?_
    obtain ⟨hruns, hcond, h0, h3, h9⟩ := h
    refine (if_neg (by simp [hruns, hcond])).trans ?_
    cases k <;> simp [h0, h3, h9, State.dcSwitchFault]
  · refine occurs_on hn (State.dcCheck n m normal) (fun _ => rfl) fun s _ => ?_
    unfold State.dcCheck
    simp only [Bool.and_eq_true, Option.isNone_iff_eq_none, decide_eq_true_eq, and_assoc]
  · refine occurs_on hn (State.dcRetest n m) (fun _ => rfl) fun s h => if_neg ?_
    simp [h.1, h.2.1, Nat.not_lt.mpr h.2.2]
  · refine occurs_on hn (State.dcDiscrepant n) (fun _ => rfl) fun s h => ?_
    obtain ⟨ha, hmode, hdisc, hdue⟩ := h
    exact State.dcDiscrepant_of_due ha hmode hdisc hdue
  · intro s h
    obtain ⟨hst, hret⟩ := h
    have hgo : ¬(((s.advance t).dcOf n).st == .powerOn || ((s.advance t).dcOf n).st == .retired) = true := by simp [hst, hret]
    exact (if_pos hn).trans (congrArg Host.Outcome.next (if_neg hgo))
  · refine occursIf_on hg (State.fdSag g mv) (fun _ => rfl) (fun s h => if_neg ?_) fun s h => if_pos ?_
    · simp [h, hmv]
    · exact .inr (by simpa using h)
  · refine occurs_on hg (fun s => (if mv < 14000 then s.setSupply (3 + g) mv true true else s).fdUndervoltage g mv) (fun _ => rfl) fun s h => ?_
    rw [if_pos hmv]
    exact if_neg (by simp [hmv, show ((s.setSupply (3 + g) mv true true).dcGroup g).uv = false from h])
  · refine occurs_on hg (fun s => (if 19000 < mv then s.setSupply (3 + g) mv false false else s).fdRecover g mv) (fun _ => rfl) fun s h => ?_
    rw [if_pos hmv]
    exact (if_pos h).trans (if_pos hmv)
  · refine occurs_on hg (fun s => (if 19000 < mv then s.setSupply (3 + g) mv false false else s).fdRecover g mv) (fun _ => rfl) fun s h => ?_
    rw [if_pos hmv]
    exact (if_neg (by simp [show ((s.setSupply (3 + g) mv false false).dcGroup g).uv = false from h])).trans (if_pos (by omega))
end

section
/-! PROOFS. The commands of safety outputs, the safety session, the change log and analogue pairs (11 R288 to R314, R565). -/

namespace Sys2Proof.Machine

theorem State.soOf_setSo {x : SafeOut} (h : x ≠ {}) (n : Nat) (s : State) : (s.setSo n x).soOf n = x := Tab.get_put_of_ne _ _ _ h

/-- An acknowledgement that R288 does not accept is refused, whatever its source. -/
theorem specSafeAck_refused {e : Entry} {s : State} (hn : e.cmd.tgtIndex < 8) (hok : s.soAckOk e.cmd.tgtIndex = false)
    (htest : (s.soOf e.cmd.tgtIndex).testing = false) : specSafeAck.run e s = .refuse .sState s := by
  refine (if_pos hn).trans ?_
  by_cases hsrc : s.param .soAckSource e.cmd.tgtIndex ≠ 1
  · exact if_pos hsrc
  · exact (if_neg hsrc).trans ((if_neg (by simp [htest])).trans (if_neg (by simp [hok])))

/-- The action of `SAFE.AI_PAIR` where its conditions hold. -/
def State.aiPairSet (e : Entry) (s : State) : State :=
  let n := e.cmd.tgtIndex - 0x0100
  let l := aiSettings e.cmd
  let s := (s.logChange e.cmd.route 0x06 0 e.cmd.tgtIndex (aiBlock s n []) (aiBlock s n l)).setCommit n l
  let s := if s.param .aiPairEn n = 1 then s.aiPairUpdate n else s.setAiPair n {}
  s.each (fun k s => if s.aiOneOfOne k then s.soDegrade k 6 else s.soUndegrade k 6) (List.range 8)

theorem specSafeAiPair_run {e : Entry} {s : State} (hmode : e.cmd.field 16 1 = 1 →
      s.acMode (2 * (e.cmd.tgtIndex - 0x0100)) < 2 ∧ s.acMode (2 * (e.cmd.tgtIndex - 0x0100) + 1) < 2) (hlog : s.logFull = false) :
    specSafeAiPair.run e s = .ok (s.aiPairSet e) := by
  refine if_pos (firstOf_whenS_false ?_ (firstOf_whenS_false hlog rfl))
  by_cases h1 : e.cmd.field 16 1 = 1
  · simp [acIsAo, hmode h1]
  · simp [h1]

theorem State.touchSession_eq (c : Cmd) (s : State) : ∃ x, s.touchSession c = { s with session := x } := by
  unfold State.touchSession
  split <;> exact ⟨_, rfl⟩

/-- The arrival of a command touches the time, the safety session and what goes outward. -/
theorem State.arrived_eq (op t : Nat) (c : Cmd) (s : State) : ∃ x u, Outward (s.advance t) u ∧ Outward { u with session := x } (s.arrived op t c) := by
  obtain ⟨x, hx⟩ := State.touchSession_eq c ((((s.advance t).queued op c).started (s.entryFor op c)).countDispatched c.route)
  refine ⟨x, (((s.advance t).queued op c).started (s.entryFor op c)).countDispatched c.route, ?_, ?_⟩
  · exact Outward.trans ⟨_, _, _, _, _, _, _, _, rfl⟩ (outward_countDispatched _ _)
  · exact hx ▸ outward_indirectFault c _

@[simp] theorem State.arrived_so (op t : Nat) (c : Cmd) (s : State) : (s.arrived op t c).so = s.so := by
  obtain ⟨x, u, hu, h⟩ := State.arrived_eq op t c s
  exact h.so.trans hu.so

@[simp] theorem State.arrived_cfg (op t : Nat) (c : Cmd) (s : State) : (s.arrived op t c).cfg = s.cfg := by
  obtain ⟨x, u, hu, h⟩ := State.arrived_eq op t c s
  exact h.cfg.trans hu.cfg

/-- What a right password does. -/
def State.sessionOpened (r : Route) (s : State) : State :=
  (({ s.afterDraw with
    session := { s.session with handle := s.freshHandle, route := r, lastUse := s.tb0 }
    cred := { s.cred with fails := 0 } } : State).commitCred).post .management .eSafeSessionOpened { cls := 0x06, index := 0x0200 } (routeCode r * 2 ^ 16)

theorem exec_sessionOpen {t : Nat} {c : Cmd} {s : State} (h : specSafeSessionOpen.taken t c s = true)
    (hpass : (s.arrived 0x0604 t c).passwordOk (slice c.body 0 32) = true) :
    exec (.safeSessionOpen t c) s = .next (((s.arrived 0x0604 t c).sessionOpened c.route).complete (s.entryFor 0x0604 c) .sOk
      (s.arrived 0x0604 t c).freshHandle []) := by
  rw [exec_of_taken (k := specSafeSessionOpen) (fun _ _ _ => rfl) h]
  exact congrArg (fun r => Host.Outcome.next (State.finish _ _ r)) (if_pos hpass)

theorem State.freshHandle_range (s : State) : 0 < s.freshHandle ∧ s.freshHandle < 2 ^ 32 := by
  unfold State.freshHandle
  omega

end Sys2Proof.Machine

open Sys2Proof Sys2Proof.Machine

/-- Settles O29: each command by its action; an analogue pair's settings always wait for the frame of its even channel. -/
theorem safetyCommandsTakeEffect : Obligations.SafetyCommandsTakeEffect := by
  refine ⟨⟨?_, ?_, ?_, ?_, ?_, ?_, ?_, ?_⟩, ⟨?_, ?_, ?_, ?_, ?_, ?_, ?_, ?_, ?_⟩, ?_, ?_, ?_⟩
  · refine completesEitherWay_of (fun _ _ _ => rfl) rfl fun e s h => if_pos ?_
    obtain ⟨howner, hlog⟩ := h
    refine firstOf_whenS_false ?_ (firstOf_whenS_false hlog rfl)
    by_cases hsame : e.cmd.field 16 1 = s.param .soTripMode e.cmd.tgtIndex
    · simp [hsame]
    · simp [howner hsame]
  · refine completesAtBoundary_of (fun _ _ _ => rfl) rfl fun e s h => ?_
    obtain ⟨hn, hsrc, htest, hok⟩ := h
    exact (if_pos hn).trans ((if_neg (not_not.mpr hsrc)).trans ((if_neg (by simp [htest])).trans (if_pos hok)))
  · intro t c s htaken hn hok htest
    have hrun := specSafeAck_refused (e := s.entryFor 0x0601 c) (s := s.arrived 0x0601 t c) hn hok htest
    rw [exec_of_taken (k := specSafeAck) (fun _ _ _ => rfl) htaken]
    exact congrArg Host.Outcome.next ((congrArg (State.finish _ _) hrun).trans (finish_refuse _ _ _ _ (by decide)))
  · refine appliesAs_of rfl fun e s h => ?_
    rw [specSafeAck_refused h.1 h.2.2 h.2.1, finish_refuse _ _ _ _ (by decide)]
  · refine completes_of (fun _ _ _ => rfl) fun e s h => ?_
    obtain ⟨hall, k, hk, hsrc, hok⟩ := h
    refine (if_neg (by simp [hall])).trans (if_neg ?_)
    have hmem : k ∈ (List.range 8).filter (fun k => s.param .soAckSource k == 1 && s.soAckOk k) := by simp [hk, hsrc, hok]
    simp only [List.isEmpty_iff]
    exact List.ne_nil_of_mem hmem
  · exact does_of (fun _ _ _ => rfl) fun _ _ _ => rfl
  · exact reports_of (fun _ _ _ => rfl) fun _ _ _ => rfl
  · exact completes_of (fun _ _ _ => rfl) fun _ _ _ => rfl
  · intro t c s htaken hpass
    refine ⟨_, _, (State.freshHandle_range _).1, (State.freshHandle_range _).2, exec_sessionOpen htaken hpass, ?_⟩
    simp [State.sessionOpened, State.commitCred]
  · intro t c s htaken hpass
    rw [exec_of_taken (k := specSafeSessionOpen) (fun _ _ _ => rfl) htaken]
    exact congrArg (fun r => Host.Outcome.next (State.finish _ _ r)) (if_neg (Bool.eq_false_iff.mp hpass))
  · exact completes_of (fun _ _ _ => rfl) fun _ _ _ => rfl
  · refine fun p => completes_of (fun _ _ _ => rfl) fun e s h => ?_
    simp only [specSafeSetPassword, h.1, h.2]
  · refine fun p old => completes_of (fun _ _ _ => rfl) fun e s h => ?_
    obtain ⟨hp, hold, hok⟩ := h
    simp only [specSafeSetPassword, hp, hold, hok, if_true]
  · exact reports_of (fun _ _ _ => rfl) fun _ _ _ => rfl
  · exact completes_of (fun _ _ _ => rfl) fun _ _ _ => rfl
  · refine fun t => occursIf_of (fun s => if s.session.handle != 0 && decide (s.session.lastUse + 1800000000000 ≤ s.tb0) then s.closeSafety else s)
      (fun _ => rfl) (fun s h => if_pos (by simp [h])) fun s h => if_neg (by simpa using h)
  · refine fun t => occursIf_of (fun s => if s.cred.locked && decide (s.session.lockUntil ≤ s.tb0) then
      ({ s with cred := { s.cred with locked := false, fails := 0 } } : State).commitCred else s)
      (fun _ => rfl) (fun s h => if_pos (by simp [h])) fun s h => if_neg (by simpa using h)
  · intro t c s hpass hpair hroom
    have hexec : exec (.safeAiPair t c) s = .next (specSafeAiPair.submit c (s.advance t)) := rfl
    rw [hexec, CmdSpec.submit_of_posted (k := specSafeAiPair) hpass rfl (.inl rfl) hpair]
    exact congrArg Host.Outcome.next (if_neg (not_le.mpr hroom))
  · intro own o e s hop h
    simp only [applyPosting, hop, show specOf 0x0609 = some specSafeAiPair from rfl]
    rw [specSafeAiPair_run h.1 h.2, finish_ok]
    rfl
  · refine fun t n a hn => occurs_on hn (State.aiDiscrepant n) (fun _ => rfl) fun s h => ?_
    obtain ⟨hb, hen, hdisc, hdue⟩ := h
    unfold State.aiDiscrepant
    simp only [hb]
    exact if_pos (by simp [hen, hdisc, hdue])
end

section
/-! PROOFS. The events of safety outputs and the supervisor's conditions (03 R60; 11 R287 to R311). -/

namespace Sys2Proof.Machine

@[simp] theorem SafeOut.sw_setSw (k : Nat) (w : SoSwitch) (x : SafeOut) : (x.setSw k w).sw k = w := by
  unfold SafeOut.setSw SafeOut.sw
  split <;> rfl

@[simp] theorem SafeOut.setSw_setSw (k : Nat) (v w : SoSwitch) (x : SafeOut) : (x.setSw k v).setSw k w = x.setSw k w := by
  unfold SafeOut.setSw
  split <;> rfl

/-- A switch that is not as new makes an output that is listed. -/
theorem SafeOut.ne_of_sw {x : SafeOut} {k : Nat} (h : x.sw k ≠ {}) : x ≠ {} := by
  rintro rfl
  apply h
  unfold SafeOut.sw
  split <;> rfl

theorem State.setSo_setSo {x : SafeOut} (h : x ≠ {}) (n : Nat) (y : SafeOut) (s : State) : (s.setSo n x).setSo n y = s.setSo n y :=
  congrArg (fun l => ({ s with so := l } : State)) (Tab.put_put_of_ne _ _ _ h)

/-- Switch `sw` has used the slot of test interval `k`. -/
def SafeOut.slotUsed (sw k : Nat) (x : SafeOut) : SafeOut := x.setSw sw { x.sw sw with slot := some k }

theorem SafeOut.slotUsed_ne (sw k : Nat) (x : SafeOut) : x.slotUsed sw k ≠ {} :=
  SafeOut.ne_of_sw (k := sw) (by simp [SafeOut.slotUsed])

/-- A used slot decides nothing else of its output. -/
theorem SafeOut.slotUsed_keeps (sw k : Nat) (x : SafeOut) :
    (x.slotUsed sw k).retired = x.retired ∧ (x.slotUsed sw k).testing = x.testing ∧ (x.slotUsed sw k).hsDecides = x.hsDecides
      ∧ ((x.slotUsed sw k).sw sw).stuck = (x.sw sw).stuck ∧ ((x.slotUsed sw k).sw sw).failedOpen = (x.sw sw).failedOpen := by
  unfold SafeOut.slotUsed SafeOut.setSw SafeOut.sw
  split <;> exact ⟨rfl, rfl, rfl, rfl, rfl⟩

theorem State.lsDecides_slotUsed (n sw k : Nat) (s : State) : (s.setSo n ((s.soOf n).slotUsed sw k)).lsDecides n = s.lsDecides n := by
  unfold State.lsDecides State.soWanted
  rw [State.soOf_setSo (SafeOut.slotUsed_ne _ _ _)]
  unfold SafeOut.slotUsed SafeOut.setSw SafeOut.sw
  split <;> rfl

/-- A test begins at its slot: the switch opens for it and the slot is used. -/
theorem State.soTestStart_of_slot {n sw k : Nat} {s : State} (hstuck : ((s.soOf n).sw sw).stuck = false)
    (hopen : ((s.soOf n).sw sw).failedOpen = false) (hsusp : s.soTestSuspended n = false) (htest : (s.soOf n).testing = false) :
    (s.setSo n ((s.soOf n).slotUsed sw k)).soTestStart n sw =
      let x := (s.soOf n).slotUsed sw k
      (s.setSo n (x.setSw sw { x.sw sw with testing := some (s.soEnergised n), demanded := false, retry := false, wanted := false })).soSwitches n := by
  have hne := SafeOut.slotUsed_ne sw k (s.soOf n)
  obtain ⟨hret, htesting, hhs, hstuck', hopen'⟩ := SafeOut.slotUsed_keeps sw k (s.soOf n)
  have hsusp' : (s.setSo n ((s.soOf n).slotUsed sw k)).soTestSuspended n = false := by
    rw [← hsusp]
    unfold State.soTestSuspended
    rw [State.soOf_setSo hne]
    simp only [hret]
    rfl
  unfold State.soTestStart State.soEnergised
  rw [State.lsDecides_slotUsed]
  simp only [State.soOf_setSo hne, State.setSo_setSo hne, hstuck', hopen', hstuck, hopen, hsusp', htesting, htest, hhs, Bool.or_self,
    Bool.false_eq_true, if_false]

/-- An output with its switches set closed or open. -/
def SafeOut.switched (x : SafeOut) (hs ls : Bool) : SafeOut := { x with hs := { x.hs with closed := hs }, ls := { x.ls with closed := ls } }

theorem SafeOut.switched_failedOnce (x : SafeOut) (hs ls : Bool) (sw : Nat) : ((x.switched hs ls).sw sw).failedOnce = (x.sw sw).failedOnce := by
  unfold SafeOut.switched SafeOut.sw
  split <;> rfl

theorem State.soSwitches_eq (n : Nat) (s : State) : ∃ hs ls, s.soSwitches n = s.setSo n ((s.soOf n).switched hs ls) := ⟨_, _, rfl⟩

/-- Setting the switches keeps that a test failed once. -/
theorem State.soSwitches_failedOnce {n sw : Nat} {s : State} (h : ((s.soOf n).sw sw).failedOnce = true) :
    (((s.soSwitches n).soOf n).sw sw).failedOnce = true := by
  obtain ⟨hs, ls, heq⟩ := State.soSwitches_eq n s
  have hsw : (((s.soOf n).switched hs ls).sw sw).failedOnce = true := (SafeOut.switched_failedOnce _ _ _ _).trans h
  rw [heq, State.soOf_setSo (SafeOut.ne_of_sw (k := sw) fun hfresh => by simp [hfresh] at hsw)]
  exact hsw

/-- A second failed test in a row retires the switch. -/
theorem State.soTestJudge_of_second {n sw : Nat} {r : SoTest} {s : State} (hr : r ≠ .pass) (h : ((s.soOf n).sw sw).failedOnce = true) :
    s.soTestJudge n sw r = s.soRetireSwitch n sw (r == .notOpen) := by
  unfold State.soTestJudge
  cases r with
  | pass => exact absurd rfl hr
  | _ => exact if_pos h

/-- A light pulse judges a switch in service; a pass needs the load to have drawn its current (11 R290). -/
theorem ettJudged {α : Type} (w : SoSwitch) (r : SoTest) (load : Int) (a b : α) :
    (if (w.stuck || w.failedOpen || (r == .pass && decide (load < 10))) = true then a else b) =
      if w.stuck = false ∧ w.failedOpen = false ∧ (r = .pass → 10 ≤ load) then b else a := by
  rw [← ite_not]
  congr 1
  simp only [Bool.or_eq_true, Bool.and_eq_true, beq_iff_eq, decide_eq_true_eq, not_or, not_and, Bool.not_eq_true, not_lt, and_assoc]

end Sys2Proof.Machine

open Sys2Proof Sys2Proof.Machine

/-- Settles O30: each row by its branch. -/
theorem safetyOutputEvents : Obligations.SafetyOutputEvents := by
  refine ⟨⟨fun t n peak hn => ?_, fun t n hn => ?_, fun t n hn => ?_, fun t n sw hn hsw => ?_, fun t n sw hn hsw => ?_, fun t n sw dark hn hsw => ?_,
    fun t n sw r dark hn hsw hr => ?_, fun t n sw r dark hn hsw => ?_, fun t n sw hn hsw => ?_, fun t n sw r hn hsw => ?_,
    fun t n load hs ls hn => ?_, fun t n load hn => ?_, fun t n hn => ?_, fun t => ?_⟩, fun t mv hmv => ?_, fun t mv hmv => ?_,
    fun t temp htemp => ?_, fun t test => ?_⟩
  · refine occursIf_on hn (fun s => if (s.soOf n).hs.closed && decide (2400 < peak) then (s.post .data .eSoOverload (soRes n) (q24 n peak)).soLocalOff n 3
      else s) (fun _ => rfl) (fun s h => if_pos ?_) fun s h => if_neg ?_
    · simp [h]
    · simpa using h
  · refine occurs_on hn (State.soLocalOff n 4) (fun _ => rfl) fun s h => ?_
    obtain ⟨hon, hett⟩ := h
    have hett' : (s.setSo n { s.soOf n with localOff := true }).ett n = false := hett
    simp only [State.soLocalOff, hon, hett', Bool.not_false, Bool.and_self, if_true]
  · refine occurs_on hn (State.soSilence n) (fun _ => rfl) fun s h => ?_
    obtain ⟨hsilent, hdue, hpair, hon, hett⟩ := h
    have hett' : (s.setSo n { s.soOf n with silent := true }).ett n = false := hett
    refine (if_neg (by simp [hsilent, hdue, hpair])).trans ?_
    simp only [hon, hett', Bool.not_false, Bool.and_self, if_true]
  · have hswitch : n < 8 ∧ sw < 2 := ⟨hn, hsw⟩
    intro s h
    obtain ⟨hstuck, hopen, hsusp, htest, hslot⟩ := h
    exact (if_pos hswitch).trans (congrArg Host.Outcome.next ((if_neg hslot).trans (State.soTestStart_of_slot hstuck hopen hsusp htest)))
  · have hswitch : n < 8 ∧ sw < 2 := ⟨hn, hsw⟩
    refine occursIf_of (fun s => if ((s.soOf n).sw sw).retry && decide (((s.soOf n).sw sw).retryAt + 1000000000 ≤ s.tb0) then s.soTestStart n sw else s)
      (fun _ => if_pos hswitch) (fun s h => if_pos ?_) fun s h => if_neg ?_
    · simp [h]
    · simpa using h
  · have hswitch : n < 8 ∧ sw < 2 := ⟨hn, hsw⟩
    refine occurs_of (State.soTestEnd n sw .pass) (fun _ => if_pos hswitch) fun s h => ?_
    obtain ⟨htesting, hdem⟩ := h
    simp only [State.soTestEnd, htesting, hdem, Bool.false_eq_true, if_false]
    rfl
  · have hswitch : n < 8 ∧ sw < 2 := ⟨hn, hsw⟩
    refine occurs_of (State.soTestEnd n sw r) (fun _ => if_pos hswitch) fun s h => ?_
    obtain ⟨htesting, hdem, hfailed⟩ := h
    simp only [State.soTestEnd, htesting, hdem, Bool.false_eq_true, if_false]
    rw [State.soTestJudge_of_second hr]
    refine State.soSwitches_failedOnce ?_
    rw [State.soOf_setSo (SafeOut.ne_of_sw (k := sw) (by simp [hfailed])), SafeOut.sw_setSw]
    exact hfailed
  · have hswitch : n < 8 ∧ sw < 2 := ⟨hn, hsw⟩
    refine occurs_of (State.soTestEnd n sw r) (fun _ => if_pos hswitch) fun s h => ?_
    obtain ⟨htesting, hdem⟩ := h
    simp only [State.soTestEnd, htesting, hdem, if_true]
  · have hswitch : n < 8 ∧ sw < 2 := ⟨hn, hsw⟩
    refine occurs_of (State.soOverdue n sw) (fun _ => if_pos hswitch) fun s h => if_neg ?_
    obtain ⟨hover, hstuck, hopen, hdue⟩ := h
    simp [hover, hstuck, hopen, hdue]
  · have hswitch : n < 8 ∧ sw < 2 := ⟨hn, hsw⟩
    refine occursIf_of (State.soTestRepeat n sw r) (fun _ => if_pos hswitch) (fun s h => if_neg ?_) fun s h => if_pos ?_
    · simp [h.1, h.2]
    · grind
  · refine occurs_on hn (State.ettPulse n load hs ls) (fun _ => rfl) fun s h => (if_neg ?_).trans ?_
    · simp [State.ettTests, h]
    · simp only [ettJudged, decide_eq_true_eq]
      by_cases hlow : load < 10
      · simp only [hlow, decide_true, if_true]
      · simp only [hlow, decide_false, if_false]
  · refine occursIf_on hn (State.soOpenCheck n load) (fun _ => rfl) (fun s h => if_pos ?_) fun s h => if_neg ?_
    · simp [h]
    · simpa [and_assoc] using h
  · refine occurs_on hn (fun s => if (s.soOf n).causes = 0 ∨ (s.soOf n).used s.tb0 < s.soBudget n then s
      else ((if (s.soOf n).budgetOut then s else s.soExpire n).singleEnd n).settle) (fun _ => rfl) fun s h => (if_neg ?_).trans ?_
    · simp [h.1, h.2.1]
    · rw [if_neg (by simp [h.2.2])]
  · refine occursIf_of (fun s => if (List.range 8).any (fun n => (s.soOf n).budgetAt.isSome) then s.commitSafety else s) (fun _ => rfl)
      (fun s h => if_pos ?_) fun s h => if_neg ?_
    · simpa using h
    · simpa using h
  · refine occurs_of (State.fsFail mv) (fun _ => rfl) fun s h => (if_neg ?_).trans rfl
    simp [h, hmv]
  · exact occurs_of (State.fsRecover mv) (fun _ => rfl) fun s _ => if_neg (by omega)
  · have hhot : ¬temp < 1250 := not_lt.mpr htemp
    exact ⟨fun s h => (if_neg hhot).trans (if_neg (Bool.eq_false_iff.mp h)), fun s h => (if_neg hhot).trans (if_pos (by simpa using h))⟩
  · exact ⟨fun s h => if_neg (Bool.eq_false_iff.mp h), fun s h => if_pos (by simpa using h)⟩
end

section
/-! PROOFS. The commands and the sample of loops (08 R214 to R230, R563). -/

namespace Sys2Proof.Machine

/-- A parameter that no setting names keeps its value. -/
theorem newValue_of_unnamed {s : State} {n : Nat} {l : List (Param × Nat)} {p : Param} (h : l.find? (fun x => x.1 == p) = none) :
    newValue s n l p = s.param p n := by
  unfold newValue
  rw [h]

/-- Settings that name neither the enable nor the destination of a loop are only written. -/
theorem loopApply_of_unnamed {set : Cmd → List (Param × Nat)} {e : Entry} {s : State} (hen : (set e.cmd).find? (fun x => x.1 == .loopEn) = none)
    (hdest : (set e.cmd).find? (fun x => x.1 == .loopOutDest) = none) : loopApply set e s = .ok (s.setCommit e.cmd.tgtIndex (set e.cmd)) := by
  unfold loopApply
  simp only [newValue_of_unnamed hen, newValue_of_unnamed hdest]
  rw [if_neg (fun h => by omega), if_neg (fun h => by omega)]

theorem loopGuarded_ok {chk : State → Cmd → Status} {f : Entry → State → Reply} {e : Entry} {s : State} (h : chk s e.cmd = .sOk) :
    loopGuarded chk f e s = f e s := if_pos h

theorem loopGuarded_refused {chk : State → Cmd → Status} {f : Entry → State → Reply} {e : Entry} {s : State} (h : chk s e.cmd ≠ .sOk) :
    loopGuarded chk f e s =
      .later ((s.complete e (chk s e.cmd) 0 []).post .control .eLoopRefused (loopRes e.cmd.tgtIndex) (e.cmd.tgtIndex * 65536 + (chk s e.cmd).code)) :=
  if_neg h

end Sys2Proof.Machine

open Sys2Proof Sys2Proof.Machine

/-- Settles O31: a loop command whose check holds by its action; one whose check fails by its refusal. -/
theorem loopCommandsTakeEffect : Obligations.LoopCommandsTakeEffect := by
  refine ⟨⟨?_, ?_, ?_, ?_, ?_, ?_, ?_⟩, ?_⟩
  · exact completesEitherWay_of (fun _ _ _ => rfl) rfl fun _ _ h => loopGuarded_ok h
  · refine completesEitherWay_of (fun _ _ _ => rfl) rfl fun e s h => (loopGuarded_ok h).trans (loopApply_of_unnamed ?_ ?_)
    all_goals unfold coeffSettings; cases e.cmd.expert <;> rfl
  · refine completesEitherWay_of (fun _ _ _ => rfl) rfl fun e s h => if_pos ?_
    simp [h.1, h.2, whenS]
  · refine completesEitherWay_of (fun _ _ _ => rfl) rfl fun e s h => (loopGuarded_ok h).trans (loopApply_of_unnamed ?_ ?_)
    all_goals unfold spSettings; cases e.cmd.expert <;> rfl
  · refine completesEitherWay_of (fun _ _ _ => rfl) rfl fun e s h => if_pos ?_
    simp [h, whenS]
  · refine completesEitherWay_of (fun _ _ _ => rfl) rfl fun e s h => (loopGuarded_ok h).trans (loopApply_of_unnamed ?_ ?_)
    all_goals unfold limitSettings; cases e.cmd.expert <;> rfl
  · exact reports_of (fun _ _ _ => rfl) fun _ _ _ => rfl
  · intro k mk chk hmem
    have hdoes : ∀ {k : CmdSpec} {mk : Nat → Cmd → Instr} {chk : State → Cmd → Status} {g : Entry → State → Reply}, Submits k mk →
        specOf k.op = some k → k.run = loopGuarded chk g → DoesEitherWay k mk (fun e s =>
          (s.complete e (chk s e.cmd) 0 []).post .control .eLoopRefused (loopRes e.cmd.tgtIndex) (e.cmd.tgtIndex * 65536 + (chk s e.cmd).code))
          (fun c s => chk s c ≠ .sOk) := fun hrow hspec hrun =>
      doesEitherWay_of hrow hspec fun e s h => by rw [hrun, loopGuarded_refused h, finish_later]
    simp only [List.mem_cons, List.not_mem_nil, or_false, Prod.mk.injEq] at hmem
    obtain ⟨rfl, rfl, rfl⟩ | ⟨rfl, rfl, rfl⟩ | ⟨rfl, rfl, rfl⟩ | ⟨rfl, rfl, rfl⟩ := hmem
    all_goals exact hdoes (fun _ _ _ => rfl) rfl rfl
end

section
/-! PROOFS. The sample of a loop whose measurement is bad (08 R220, R224, R227). -/

namespace Sys2Proof.Machine

/-- A running module whose loop 0 is in AUTO on the record of a task that is none; its table of loops lists the loop twice, which no canonical
table does. -/
def State.loopTwice : State :=
  ((({ power := { phase := .running, mgmtUp := true, restoreDone := true }, loops := [(0, { firstAuto := false }), (0, { memFault := true })] }
    : State).setParam .loopEn 0 1).setParam .loopMode 0 1).setParam .loopPvSrc 0 (4 * 2 ^ 28)

end Sys2Proof.Machine

open Sys2Proof Sys2Proof.Machine

/-- Refutes O32: its clause on a bad measurement quantifies over every table of loops. In a table that lists the loop twice the switch to MANUAL
writes a record that is as new, which uncovers the second entry; its memory fault then puts the sample out of service. -/
theorem not_loopSampleFollowsTheLaw : ¬ Obligations.LoopSampleFollowsTheLaw := by
  unfold Obligations.LoopSampleFollowsTheLaw
  intro h
  obtain ⟨-, -, -, hbad⟩ := h
  obtain ⟨v, w, y, hexec, hw, hy, hv⟩ := hbad 0 0 0 (by decide) State.loopTwice _ _ (by decide +kernel) rfl (by decide +kernel) rfl
    (by decide +kernel) rfl (by decide +kernel) (by decide +kernel) (by decide +kernel)
  have hrun : ∃ u, exec (.loopSample 0 0 0) State.loopTwice = .next u ∧ (u.loopOf 0).wasOos = true := ⟨_, rfl, by decide +kernel⟩
  obtain ⟨u, hu, hoos⟩ := hrun
  rw [Host.Outcome.next.inj (hu.symm.trans hexec), hv, hy, hw] at hoos
  exact absurd hoos (by decide +kernel)
end

section
/-! PROOFS. The commands of axes (12 R320 to R340). -/

namespace Sys2Proof.Machine

/-- A move request reaches the profile of an axis that stands, is parked or moves (12 R320, R322). -/
theorem State.axRequest_of_move {n : Nat} {r : AxReq} {s : State} (hst : (s.axOf n).st = .standstill ∨ (s.axOf n).st = .parked ∨ (s.axOf n).st = .moving)
    (hlo : 1 ≤ r.kind) (hhi : r.kind ≤ 3) (href : r.kind = 1 → (s.axOf n).unref = false) : s.axRequest n r = s.axMove n r := by
  have hretired : (s.axOf n).st ≠ .retired := by rintro h; simp [h] at hst
  have hdisabled : (s.axOf n).st ≠ .disabled := by rintro h; simp [h] at hst
  have hsegment : (s.axOf n).st ≠ .segment := by rintro h; simp [h] at hst
  have hstopping : (s.axOf n).st ≠ .stopping := by rintro h; simp [h] at hst
  obtain ⟨kind, tgt, vlim, abort, src⟩ := r
  dsimp only at hlo hhi href
  unfold State.axRequest
  obtain rfl | rfl | rfl : kind = 1 ∨ kind = 2 ∨ kind = 3 := by omega
  · simp [hretired, hdisabled, hsegment, hstopping, href rfl]
  · simp [hretired, hdisabled, hsegment, hstopping]
  · simp [hretired, hdisabled, hsegment, hstopping]

/-- A target inside the soft limits stays as it is (12 R323). -/
theorem State.axLimit_of_inside {n : Nat} {q : Q} {s : State}
    (h : (s.axOf n).unref = false → q.lt (s.axParam .axSoftLo n) = false ∧ (s.axParam .axSoftHi n).lt q = false) : s.axLimit n q = (q, none) := by
  unfold State.axLimit
  cases href : (s.axOf n).unref with
  | true => rfl
  | false => simp [h href]

/-- A move inside the soft limits starts. -/
theorem State.axMove_of_inside {n : Nat} {r : AxReq} {s : State} (hfin : f64.isFinite r.tgt = true) (hv : vlimOk r.vlim = true)
    (h : (s.axOf n).unref = false → r.kind ≠ 3 →
      (if r.kind = 1 then f64.toQ r.tgt else (s.axOut n (s.axOf n).pos).add (f64.toQ r.tgt)).lt (s.axParam .axSoftLo n) = false
        ∧ (s.axParam .axSoftHi n).lt (if r.kind = 1 then f64.toQ r.tgt else (s.axOut n (s.axOf n).pos).add (f64.toQ r.tgt)) = false) :
    s.axMove n r = (.sOk, s.axStart n .moving (if r.kind = 3 then .velocity (s.axIn n (f64.toQ r.tgt)) else
      .target (s.axIn n (if r.kind = 1 then f64.toQ r.tgt else (s.axOut n (s.axOf n).pos).add (f64.toQ r.tgt)))) r false) := by
  unfold State.axMove
  simp only [hfin, hv, Bool.and_self, not_true_eq_false, if_false]
  by_cases h3 : r.kind = 3
  · simp only [h3, if_true]
  · simp only [if_neg h3]
    rw [State.axLimit_of_inside fun href => h href h3]

/-- A request that starts completes the command (12 R340). -/
theorem axRun_ok {k : CmdSpec} {f : Cmd → Nat → State → Status × State} {e : Entry} {s u : State} (hrun : k.run = axRun f)
    (hown : s.axOwned e.cmd.tgtIndex = false) (h : f e.cmd e.cmd.tgtIndex s = (.sOk, u)) : k.run e s = .ok u := by
  rw [hrun]
  unfold axRun
  simp only [hown, Bool.false_eq_true, if_false, h]

theorem axHome_of_mode {n : Nat} {src : AxSource} {s : State} (hst : (s.axOf n).st = .standstill ∨ (s.axOf n).st = .parked)
    (hmode : s.param .homeMode n < 3) : s.axHome n src = (.sOk,
      if s.param .homeMode n = 0 then
        let u := s.axHomed n (s.axParam .homePos n)
        let u := u.setAx n (({ u.axOf n with running := some src } : AxisChan).done 1)
        if (u.axOf n).parked then u.commitAxes else u
      else
        let v := s.axIn n (s.axParam .homeVel n)
        let u := s.axStart n .homing (.velocity (if s.param .homeDir n = 1 then -v else v)) { kind := 5, src := src } false
        u.setAx n { u.axOf n with homeFrom := (u.axOf n).pos }) := by
  unfold State.axHome
  rw [if_neg (by simpa [or_iff_not_imp_left] using hst)]
  obtain h | h | h : s.param .homeMode n = 0 ∨ s.param .homeMode n = 1 ∨ s.param .homeMode n = 2 := by omega
  all_goals simp only [h]; rfl

end Sys2Proof.Machine

open Sys2Proof Sys2Proof.Machine

/-- Settles O33: each command by its action at the update. -/
theorem axisCommandsTakeEffectAtTheUpdate : Obligations.AxisCommandsTakeEffectAtTheUpdate := by
  refine ⟨?_, ?_, ?_, ?_, ?_, ?_, ?_, ?_, ?_, ?_, ?_, ?_⟩
  · refine completesAtBoundary_of (fun _ _ _ => rfl) rfl fun e s h => (if_pos ?_).trans ?_
    · exact firstOf_whenS_false (by simpa using h.1) (firstOf_whenS_false (by simp [h.2]) rfl)
    · unfold axConfigured
      simp only [bne_iff_ne]
      exact (apply_ite Reply.ok _ _ _).symm
  · refine completesAtBoundary_of (fun _ _ _ => rfl) rfl fun e s h => ?_
    obtain ⟨hown, hst, hlo, hhi, href, hfin, hv, hin⟩ := h
    refine axRun_ok (k := specAxisMove) (f := fun c n s => s.axRequest n (moveReq c)) rfl hown ?_
    exact ((State.axRequest_of_move hst hlo hhi href).trans (State.axMove_of_inside hfin hv hin))
  · refine completesAtBoundary_of (fun _ _ _ => rfl) rfl fun e s h => axRun_ok (f := fun c n s => (.sOk, s.axStop n (c.expert && c.field 16 1 == 1) .command)) rfl h.1 ?_
    refine congrArg (Prod.mk Status.sOk) ?_
    unfold State.axStop
    obtain hst | hst := h.2 <;> simp only [hst]
  · refine completesAtBoundary_of (fun _ _ _ => rfl) rfl fun e s h => axRun_ok (f := fun _ n s => s.axHome n .command) rfl h.1 ?_
    exact (axHome_of_mode h.2.2 h.2.1)
  · refine completesAtBoundary_of (fun _ _ _ => rfl) rfl fun e s h => ?_
    obtain ⟨hmode, hst, hpark⟩ := h
    simp only [specAxisPark, State.axPark, hmode, hst, hpark, Option.isSome_none, Bool.false_eq_true, if_false]
    rfl
  · refine completesAtBoundary_of (fun _ _ _ => rfl) rfl fun e s h => (if_pos ?_).trans ?_
    · exact firstOf_whenS_false h.1 (firstOf_whenS_false (by simpa using h.2) rfl)
    · simp only [State.axEnable, beq_iff_eq, b2n]
  · refine completesAtBoundary_of (fun _ _ _ => rfl) rfl fun e s h => ?_
    obtain ⟨hst, hlen, hseg⟩ := h
    refine (if_neg hst).trans ((if_neg (not_lt.mpr hlen)).trans ?_)
    simp only [hseg]
  · refine completesAtBoundary_of (fun _ _ _ => rfl) rfl fun e s h => axRun_ok (f := segStartCmd) rfl h.1 ?_
    obtain ⟨-, href, hst, hsegs, hbase⟩ := h
    cases hexp : e.cmd.expert with
    | false =>
      refine (if_pos (by simp [hexp])).trans ?_
      refine (if_neg (by simp [href])).trans ((if_neg ?_).trans ?_)
      · obtain hst | hst := hst <;> simp [hst, hsegs]
      · rfl
    | true =>
      obtain ⟨hsync, hnow⟩ := hbase hexp
      refine (if_neg (by simp [hexp])).trans ((if_neg (by simp [href])).trans ((if_neg ?_).trans ?_))
      · obtain hst | hst := hst <;> simp [hst, hsegs]
      · exact (if_neg (by simp [hsync])).trans (if_neg (not_lt.mpr hnow))
  · exact reports_of (fun _ _ _ => rfl) fun _ _ _ => rfl
  · exact waits_of fun _ _ _ => rfl
  · exact appliesAs_of rfl fun e s h => congrArg (s.finish e) (if_pos (by simp [h]))
  · exact completesAtBoundary_of (fun _ _ _ => rfl) rfl fun e s h => if_pos (by simp [whenS, h])
end

section
/-! PROOFS. The profile generator (12 R321). -/

namespace Sys2Proof.Machine

theorem clampInt_mem {lo hi : Int} (h : lo ≤ hi) (x : Int) : lo ≤ clampInt lo hi x ∧ clampInt lo hi x ≤ hi := by
  unfold clampInt
  omega

/-- A clamp of a value outside its interval goes to an end, so it never leaves an interval that holds both ends' nearest values. -/
theorem clampInt_mem_of_meet {lo hi c d x : Int} (hx : c ≤ x ∧ x ≤ d) (hlo : lo ≤ d) (hhi : c ≤ hi) : c ≤ clampInt lo hi x ∧ clampInt lo hi x ≤ d := by
  unfold clampInt
  omega

/-- The acceleration that an update takes before the goal is met: inside the jerk limit, and inside the limits of the move once it was. -/
theorem profileAcc_mem {up dn j acc : Int} (hup : 0 ≤ up) (hdn : 0 ≤ dn) (hj : 0 ≤ j) (x : Int) :
    let a := clampInt (acc - j) (acc + j) (clampInt (-dn) up x)
    acc - j ≤ a ∧ a ≤ acc + j ∧ (-dn ≤ acc → acc ≤ up → -dn ≤ a ∧ a ≤ up) := by
  have hin := clampInt_mem (lo := -dn) (hi := up) (by omega) x
  have hout := clampInt_mem (lo := acc - j) (hi := acc + j) (by omega) (clampInt (-dn) up x)
  exact ⟨hout.1, hout.2, fun h1 h2 => clampInt_mem_of_meet hin (by omega) (by omega)⟩

end Sys2Proof.Machine

open Sys2Proof Sys2Proof.Machine

/-- Settles O34: the clamps of the acceleration and of the speed, then the goal that each kind of move brings. -/
theorem profileStaysInsideTheLimits : Obligations.ProfileStaysInsideTheLimits := by
  intro b goal pos vel acc hamax hdmax hjerk hvmax
  unfold profileStep
  dsimp only
  generalize Config.profile ([b.amax, b.dmax, b.jerk, b.vmax, pos, vel, acc] ++ goal.nums) = ask
  have hup : 0 ≤ (if vel < 0 then b.dmax else b.amax) := by split <;> assumption
  have hdn : 0 ≤ (if vel > 0 then b.dmax else b.amax) := by split <;> assumption
  have hj : 0 ≤ b.jerk / 20000 := by omega
  obtain ⟨hlo, hhi, hacc⟩ := profileAcc_mem (acc := acc) hup hdn hj (ask 0)
  generalize (if vel < 0 then b.dmax else b.amax) = up at *
  generalize (if vel > 0 then b.dmax else b.amax) = dn at *
  generalize clampInt (acc - b.jerk / 20000) (acc + b.jerk / 20000) (clampInt (-dn) up (ask 0)) = a at *
  have hvel := clampInt_mem (lo := -max b.vmax vel.natAbs) (hi := max b.vmax vel.natAbs) (by omega)
    (clampInt (vel + min acc a / 20000) (vel + (max acc a + 19999) / 20000) (ask 1))
  generalize clampInt (-max b.vmax vel.natAbs) (max b.vmax vel.natAbs)
    (clampInt (vel + min acc a / 20000) (vel + (max acc a + 19999) / 20000) (ask 1)) = v at *
  generalize b.jerk / 20000 = j at *
  cases goal with
  | none => exact ⟨fun _ => by dsimp only; omega, hacc, by dsimp only; omega, fun _ h => nomatch h⟩
  | target p => exact ⟨fun _ => by dsimp only; omega, hacc, by dsimp only; omega, fun _ h => nomatch h⟩
  | velocity w =>
    refine ⟨fun h => absurd rfl h.2, fun hmin hmax => ?_, ?_, fun _ h => nomatch h⟩
    · dsimp only
      split
      · omega
      · exact hacc hmin hmax
    · dsimp only
      split <;> omega
  | stop fast =>
    refine ⟨fun h => absurd rfl h.1, fun hmin hmax => ?_, ?_, fun _ _ => ⟨fun h => ?_, fun h => ?_, fun h => if_pos h⟩⟩
    · have hin := hacc hmin hmax
      dsimp only
      grind
    all_goals dsimp only; grind
end

section
/-! PROOFS. The profile update of an axis and the events of axes and their supply (12 R317 to R339). -/

namespace Sys2Proof.Machine

section
variable {n : Nat} {s : State}

/-- A segment table starts on a referenced axis at rest (12 R325). -/
theorem State.segStart_of_ready {src : AxSource} (href : (s.axOf n).unref = false) (hst : (s.axOf n).st = .standstill ∨ (s.axOf n).st = .parked)
    (hsegs : (s.axOf n).segs ≠ []) : s.segStart n src = (.sOk,
      let u := s.axStart n .segment .none { kind := 9, src := src } false
      u.setAx n { u.axOf n with segIdx := 0, segT0 := u.tb0, segP0 := (u.axOut n (u.axOf n).pos).toLreal, segAt := none }) := by
  refine (if_neg (by simp [href])).trans (if_neg ?_)
  obtain hst | hst := hst <;> simp [hst, hsegs]

theorem AxisChan.retryDue_iff : (s.axOf n).retryDue s.tb0 = true ↔ AxisRetryDue s n := by
  unfold AxisChan.retryDue AxisRetryDue
  rcases (s.axOf n).faultWait with - | - | - | k <;> rcases (s.axOf n).coolAt with - | a <;> simp

/-- Whether an axis has a feedback is a matter of its parameter. -/
theorem State.axFeedback_isNone (u : State) (hcfg : u.cfg = s.cfg) (h : s.axFeedback n = none) : u.axFeedback n = none := by
  have hparam : u.param .axFbSrc n = s.param .axFbSrc n := by unfold State.param; rw [hcfg]
  unfold State.axFeedback at h ⊢
  rw [hparam]
  dsimp only at h ⊢
  split at h
  · cases h
  · cases h
  · rfl

/-- The current of the bridges shows a stall (12 R329): the axis stands still and has no reference any more. -/
theorem State.axStall_of_ratios {rs : List Nat} (hst : (s.axOf n).st = .moving ∨ (s.axOf n).st = .segment ∨ (s.axOf n).st = .stopping)
    (hbridges : (s.axOf n).bridges = true) (hparked : (s.axOf n).parked = false) (hthr : s.param .axStallThr n ≠ 0) (hlen : 4 ≤ rs.length)
    (hall : ∀ r ∈ rs.take 4, r < s.param .axStallThr n) (hhyst : (s.axOf n).hyst = false)
    (hfast : fullSteps 50 ≤ ((s.axOf n).vel.natAbs : Int)) (hfeed : s.axFeedback n = none) :
    s.axStall n false rs =
      let x := s.axOf n
      let y : AxisChan := { x.stand s.tb0 with hyst := true, hystTill := s.tb0 + 200000000, hold := false, parking := none, deviates := none }
      ((s.setAx n { (y.done 4).drop with stalled := true }).post .data .eAxisStall (axRes n)
        (q24 n ((x.pos - x.reqPos).natAbs / (256 * 4294967296) : Nat))).axUnref n 1 := by
  have hstalls : s.axStalls n false rs = true := by
    unfold State.axStalls
    have hthese : (rs.take 4).all (fun r => decide (r < s.param .axStallThr n)) = true := by simpa using hall
    obtain hst | hst | hst := hst <;> simp only [hst, hthese, hhyst, hlen, hfast, decide_true, Bool.and_true, Bool.not_false] <;> simpa using hthr
  have hhoming : ¬((s.axOf n).st = .homing ∧ s.param .homeMode n = 2) := by
    rintro ⟨h, -⟩
    simp [h] at hst
  have hunpark : ∀ c p k, (s.postIf false p c (axRes n) k).axUnpark n = s := fun c p k => if_neg (by simpa [State.postIf] using hparked)
  unfold State.axStall
  dsimp only
  rw [if_neg (by simp [hstalls, hbridges]), hunpark, if_neg hhoming]
  split
  next f hf => exact absurd (hf.symm.trans (State.axFeedback_isNone _ (by simp) hfeed)) (by simp)
  next => rfl

/-- A fault of a bridge in use disables the axis and waits for its retry (12 R332). -/
theorem State.axFault_of_new {kind : Nat} {q : Int} (hst : (s.axOf n).st ≠ .retired) (hbridges : (s.axOf n).bridges = true) :
    s.axFault n kind q =
      let u := s.axDisable n
      (u.setAx n { u.axOf n with faultWait := some kind, faultAt := u.tb0, coolAt := none }).fault .data
        (if kind = 0 then .fAxisBridge else .fAxisThermal) (axRes n) (q24 n q) (axKey n) :=
  if_neg (by simp [hst, hbridges])

theorem State.axFault_idle {kind : Nat} {q : Int} (h : ¬((s.axOf n).st ≠ .retired ∧ (s.axOf n).bridges = true)) : s.axFault n kind q = s :=
  if_pos (by simpa [or_iff_not_imp_left] using h)

end

end Sys2Proof.Machine

open Sys2Proof Sys2Proof.Machine

/-- Settles O35: each row by its branch. -/
theorem axisEvents : Obligations.AxisEvents := by
  refine ⟨fun t n m bad hn => ?_, ⟨fun t n rs hn => ?_, fun t n hn => ?_, fun t n hn => ?_, fun t n hn => ?_, fun t n phase ma hn => ?_,
    fun t n temp hn => ?_, fun t n hn => ?_, fun t n ph hn => ?_, fun t n phase hn => ?_, fun t n hn => ?_, fun t n b at0 hn => ?_,
    fun t mv hmv => ?_, fun t mv hlo hhi => ?_⟩⟩
  · refine occurs_on hn (fun s => if s.up && s.power.restoreDone && s.sv.heartbeat && s.tb0 % 50000 == 0
        && ((s.axOf n).stat.isEmpty || decide ((s.axOf n).updT < s.tb0)) then ((s.atBoundary (axOwner n)).axUpdate n m bad).settle else s)
      (fun _ => rfl) fun s h => (if_pos ?_).trans rfl
    simpa [and_assoc] using h
  · refine occurs_on hn (State.axStall n false rs) (fun _ => rfl) fun s h => ?_
    obtain ⟨hst, hen, hmon, hparked, hthr, hlen, hall, hhyst, hfast, hfeed⟩ := h
    exact State.axStall_of_ratios hst (by simp [AxisChan.bridges, hen, hmon]) hparked hthr hlen hall hhyst hfast hfeed
  · exact occursIf_on hn _ (fun _ => rfl) (fun s h => if_pos h) fun s h => if_neg h
  · refine occursIf_on hn (fun s => if (s.axOf n).st = .standstill ∧ (s.axOf n).energised ∧ s.param .axStandstill n = 0 ∧ s.param .parkDelay n ≠ 0
        ∧ (s.axOf n).parking.isNone ∧ ¬ s.axWaiting n ∧ (s.axOf n).standAt + s.param .parkDelay n * 1000000000 ≤ s.tb0 then
        s.setAx n { s.axOf n with parking := some (s.tb0, (s.axOf n).pos, nearestFull (s.axOf n).pos, false) } else s)
      (fun _ => rfl) (fun s h => if_pos ?_) fun s h => if_neg ?_
    · simpa using h
    · simpa using h
  · refine occursIf_on hn (State.axSilence n) (fun _ => rfl) (fun s h => (if_neg ?_).trans ?_) fun s h => if_pos ?_
    · obtain ⟨hsilent, hpair, hdue, hst⟩ := h
      simp [hsilent, hpair, hst, hdue]
    · simp only [AxisChan.fast, decide_eq_true_eq]
      rfl
    · rw [← Option.not_isSome_iff_eq_none] at h
      by_contra hcon
      simp only [not_or, not_lt, not_not] at hcon
      exact h hcon
  · refine occursIf_on hn (fun s => if 4500 < ma then s.axFault n 0 phase else s) (fun _ => rfl) (fun s h => (if_pos h.1).trans (State.axFault_of_new h.2.1 h.2.2))
      fun s h => ?_
    split
    next hma => exact State.axFault_idle fun hnew => h ⟨hma, hnew⟩
    next => rfl
  · refine occursIf_on hn (fun s => if 1500 ≤ temp then s.axFault n 1 temp else s) (fun _ => rfl) (fun s h => (if_pos h.1).trans (State.axFault_of_new h.2.1 h.2.2))
      fun s h => ?_
    split
    next hhot => exact State.axFault_idle fun hnew => h ⟨hhot, hnew⟩
    next => rfl
  · refine occurs_on hn (State.axRetry n none) (fun _ => rfl) fun s h => (if_neg ?_).trans ?_
    · simpa using AxisChan.retryDue_iff.mpr h.1
    · simp only [h.2, if_true]
  · refine occurs_on hn (State.axRetry n (some ph)) (fun _ => rfl) fun s h => if_neg ?_
    simpa using AxisChan.retryDue_iff.mpr h
  · exact occursIf_on hn (State.axOpenPhase n phase) (fun _ => rfl) (fun s h => if_pos h) fun s h => if_neg h
  · refine occursIf_on hn (fun s => if (s.axOf n).hyst ∧ (s.axOf n).hystTill ≤ s.tb0 ∧ (s.axOf n).testAt.isNone then
        s.setAx n { s.axOf n with hyst := false } else s) (fun _ => rfl) (fun s h => if_pos ?_) fun s h => if_neg ?_
    · simpa using h
    · simpa using h
  · refine occurs_on hn (fun s => match (s.axOf n).segAt with
      | none => s
      | some (b, at0) =>
        if s.baseNow b < (at0 : Int) then s
        else match s.segStart n .command with
          | (.sOk, s') => s'
          | _ => s.setAx n { s.axOf n with segAt := none }) (fun _ => rfl) fun s h => ?_
    obtain ⟨hat, hnow, href, hst, hsegs⟩ := h
    simp only [hat, not_lt.mpr hnow, if_false, State.segStart_of_ready href hst hsegs]
  · refine occursIf_of (State.fmFail mv) (fun _ => rfl) (fun s h => if_neg ?_) fun s h => if_pos (.inl (by simpa using h))
    simp only [h, Bool.true_eq_false, false_or]
    omega
  · refine occursIf_of (State.fmRecover mv) (fun _ => rfl) (fun s h => (if_neg ?_).trans ?_) fun s h => if_pos (.inl (by simpa using h))
    · simp only [h, Bool.false_eq_true, false_or]
      omega
    · refine congrArg (fun f => State.each f [0, 1, 2, 3] _) (funext fun n => funext fun s => ?_)
      congr 1
      cases s.axOwnerStopped n <;> simp
end

section
/-! PROOFS. The commands of a hedgerow pair (13 R343 to R373). -/

open Sys2Proof Sys2Proof.Machine

/-- Settles O36: each command by its action. -/
theorem pairCommandsTakeEffect : Obligations.PairCommandsTakeEffect := by
  refine ⟨?_, ?_, ?_, ?_, ?_, ?_, ?_, ?_, ?_⟩
  · refine completes_of (fun _ _ _ => rfl) fun e s h => (if_pos ?_).trans ?_
    · obtain ⟨hstopped, hlog⟩ := h
      refine firstOf_whenS_false ?_ (firstOf_whenS_false (by simp [hlog]) rfl)
      cases hmoves : pairMoves s e.cmd with
      | false => rfl
      | true => simpa using hstopped hmoves
    · simp only [Bool.and_eq_true, pairMoves, Bool.or_eq_true, bne_iff_ne]
  · refine completes_of (fun _ _ _ => rfl) fun e s h => if_pos ?_
    cases hpaired : s.paired with
    | false => simp [whenS, hpaired]
    | true => simpa [whenS, hpaired] using h hpaired
  · refine does_of (fun _ _ _ => rfl) fun e s h => if_neg (not_le.mpr h)
  · intro e s hst hstandby hswitch
    have hfault : s.handOverFault = .sOk := by
      unfold State.handOverFault
      exact firstOf_whenS_false (by simp [hst]) (firstOf_whenS_false (by simp [hstandby]) (firstOf_whenS_false (by simp [hswitch]) rfl))
    simp only [ownPosting, State.pairSwitchNow, hfault]
    rfl
  · exact completes_of (fun _ _ _ => rfl) fun _ _ _ => rfl
  · exact completes_of (fun _ _ _ => rfl) fun _ _ h => if_neg h
  · refine does_of (fun _ _ _ => rfl) fun e s h => (congrArg (s.finish e) (if_pos h.1)).trans (if_neg (not_le.mpr h.2))
  · exact reports_of (fun _ _ _ => rfl) fun _ _ _ => rfl
  · exact does_of (fun _ _ _ => rfl) fun _ _ _ => rfl
end

section
/-! PROOFS. Heartbeats and link frames of a hedgerow pair (13 R342 to R369). -/

namespace Sys2Proof.Machine

/-! ## What a link frame and a heard partner leave unchanged -/

@[simp] theorem State.linkFrame_pair (s : State) :
    s.linkFrame.pair = { s.pair with link := true, linkAt := s.tb0, heardAt := s.tb0, lost := false } := (outward_postIf ..).pair

@[simp] theorem State.linkFrame_tb0 (s : State) : s.linkFrame.tb0 = s.tb0 := (outward_postIf ..).tb0

theorem State.linkFrame_axes (s : State) : s.linkFrame.axes = s.axes := (outward_postIf ..).axes

@[simp] theorem State.linkFrame_axOf (s : State) (n : Nat) : s.linkFrame.axOf n = s.axOf n := congrArg (Tab.get _ · n) s.linkFrame_axes

/-- Hearing a partner keeps the state of this one. -/
@[simp] theorem State.hear_st (p : PeerInfo) (s : State) : (s.hear p).pair.st = s.pair.st := by
  unfold State.hear
  dsimp only
  rw [apply_ite State.pair]
  simp [State.sigFresh]

end Sys2Proof.Machine

open Sys2Proof Sys2Proof.Machine

/-- Settles O37: each row by the state of the pair member, which a link frame and a heard partner leave as it is. -/
theorem pairLinkTraffic : Obligations.PairLinkTraffic := by
  refine ⟨⟨fun s => rfl, fun t p => ?_, fun t p => ?_, fun t p n => ?_, fun t p => ?_, fun t p => ?_, fun t p => ?_, fun t p => ?_⟩,
    fun t v => ?_, fun t i pv sp hi => ?_, fun t n pos vel acc hn => ?_, fun t op c due k o hk => ?_, fun t => ?_, fun t due cause => ?_,
    fun t e due cause => ?_, fun t n hn => ?_, fun t m => ?_⟩
  · exact occurs_of (fun s => (s.heartbeat p).settle) (fun _ => rfl) fun s h => congrArg State.settle (if_pos (by simp [State.paired, h]))
  · refine occurs_of (fun s => (s.heartbeat p).settle) (fun _ => rfl) fun s h => congrArg State.settle ?_
    obtain h | h | h | h := h <;> simp [State.heartbeat, State.paired, h]
  · refine occurs_of (fun s => (s.heartbeat p).settle) (fun _ => rfl) fun s h => congrArg State.settle ?_
    simp [State.heartbeat, State.paired, h, State.incompatible]
  · refine occurs_of (fun s => (s.heartbeat p).settle) (fun _ => rfl) fun s h => ?_
    obtain ⟨hst, hcompat, hp⟩ := h
    have hpaired : s.paired = true := by simp [State.paired, hst]
    simp only [State.heartbeat, hpaired, hst, hcompat, State.hear_st, State.linkFrame_pair, State.searchFinds, hp, not_true_eq_false, if_false]
    by_cases hjoin : (s.linkFrame.hear p).enterSync.param .autoJoin 0 = 1
    · simp only [if_pos hjoin]
    · simp only [if_neg hjoin]
  · refine occurs_of (fun s => (s.heartbeat p).settle) (fun _ => rfl) fun s h => congrArg State.settle ?_
    obtain ⟨hst, hcompat, hp, hprimary⟩ := h
    simp [State.heartbeat, State.paired, hst, hcompat, State.searchFinds, hp, hprimary]
  · refine occurs_of (fun s => (s.heartbeat p).settle) (fun _ => rfl) fun s h => congrArg State.settle ?_
    obtain ⟨hst | hst, hp, hjoin⟩ := h <;> simp [State.heartbeat, State.paired, hst, hp, hjoin]
  · refine occurs_of (fun s => (s.heartbeat p).settle) (fun _ => rfl) fun s h => congrArg State.settle ?_
    obtain ⟨hst, hp, hprimary, hdual⟩ := h
    simp [State.heartbeat, State.paired, hst, hp, State.dualLink, hprimary, hdual]
  · refine occurs_of (State.timeFrame v) (fun _ => rfl) fun s h => ?_
    have hpaired : s.paired = true := by obtain h | h | h := h <;> simp [State.paired, h]
    refine (if_neg (by simp [hpaired])).trans ((if_pos (by simpa using h)).trans ?_)
    simp only [State.linkFrame_tb0]
    rfl
  · refine occurs_of (State.stateFrame (.loop i pv sp)) (fun _ => rfl) fun s h => ?_
    exact (if_neg (by simp [State.paired, h])).trans ((if_neg (by simp [h])).trans (if_pos hi))
  · refine occurs_of (State.stateFrame (.axis n pos vel acc)) (fun _ => rfl) fun s h => ?_
    exact (if_neg (by simp [State.paired, h])).trans ((if_neg (by simp [h])).trans (if_pos hn))
  · refine occurs_of (State.controlFrame specOf (.posting op c due)) (fun _ => rfl) fun s h => ?_
    obtain ⟨hst, howner⟩ := h
    refine (if_neg ?_).trans ((if_neg ?_).trans ?_)
    · obtain h | h := hst <;> simp [State.paired, h]
    · obtain h | h := hst <;> simp [h]
    · simp only [hk, howner]
  · refine occurs_of (State.controlFrame specOf .departure) (fun _ => rfl) fun s h => (if_neg ?_).trans (if_pos (by simpa using h))
    obtain h | h := h <;> simp [State.paired, h]
  · refine occurs_of (State.controlFrame specOf (.switchover due cause)) (fun _ => rfl) fun s h => (if_neg ?_).trans (if_pos ?_)
    · simp [State.paired, h]
    · exact .inl (by simpa using h)
  · refine occurs_of (State.controlFrame specOf .confirm) (fun _ => rfl) fun s h => (if_neg ?_).trans (congrArg State.coreLate ?_)
    · simp [State.paired, h.1]
    · obtain ⟨hst, hswitch, hnext⟩ := h
      refine (if_neg (by simp [hst])).trans ?_
      simp only [State.linkFrame_pair, hswitch, hnext]
      simp
  · refine occurs_of (State.controlFrame specOf (.axisOff n)) (fun _ => rfl) fun s h => (if_neg ?_).trans (if_pos ?_)
    · simp [State.paired, h.1]
    · simp [hn, h.1, h.2]
  · refine occurs_of (State.bulkFrame m) (fun _ => rfl) fun s h => (if_neg ?_).trans (if_pos ?_)
    · simp [State.paired, h.1]
    · exact .inl (by simpa using h)
end

section
/-! PROOFS. Takeover, the compare windows and the loss of the link (13 R345 to R372). -/

namespace Sys2Proof.Machine

/-- What every step of a run over a list does, the run does. -/
theorem State.each_rel {R : State → State → Prop} {f : Nat → State → State} (hrefl : ∀ s, R s s) (htrans : ∀ s u v, R s u → R u v → R s v)
    (hstep : ∀ n s, R s (f n s)) (l : List Nat) (s : State) : R s (s.each f l) := by
  induction l generalizing s with
  | nil => exact hrefl s
  | cons n l ih => exact htrans _ _ _ (hstep n s) (ih (f n s))

theorem State.axesFree_eq (s : State) : ∃ a, s.axesFree = { s with axes := a } :=
  State.each_rel (R := fun s u => ∃ a, u = { s with axes := a }) (fun _ => ⟨_, rfl⟩)
    (fun _ _ _ ⟨_, h⟩ ⟨b, h'⟩ => ⟨b, by rw [h', h]⟩) (fun _ _ => ⟨_, rfl⟩) _ s

theorem State.dropCycles_eq (s : State) : ∃ x, s.dropCycles = { s with tasks := x } := by
  refine State.each_rel (R := fun s u => ∃ x, u = { s with tasks := x }) (fun _ => ⟨_, rfl⟩)
    (fun _ _ _ ⟨_, h⟩ ⟨b, h'⟩ => ⟨b, by rw [h', h]⟩) (fun i s => ?_) _ s
  split <;> exact ⟨_, rfl⟩

/-- A change of the pair's state touches the axes and the tasks' cycles besides. -/
theorem State.pairState_eq (st : PairState) (s : State) :
    ∃ a x, s.pairState st = { s with axes := a, tasks := x, pair := { s.pair with st := st } } := by
  obtain ⟨a, ha⟩ := State.axesFree_eq s
  obtain ⟨x, hx⟩ := State.dropCycles_eq { s with axes := a, pair := { s.pair with st := st } }
  unfold State.pairState
  rw [ha]
  cases st with
  | active | standby | unlinked | isolated | unpaired => exact ⟨a, s.tasks, rfl⟩
  | _ => exact ⟨a, x, hx⟩

@[simp] theorem State.pairState_tb0 (st : PairState) (s : State) : (s.pairState st).tb0 = s.tb0 := by
  obtain ⟨a, x, h⟩ := State.pairState_eq st s
  rw [h]

@[simp] theorem State.pairState_cfg (st : PairState) (s : State) : (s.pairState st).cfg = s.cfg := by
  obtain ⟨a, x, h⟩ := State.pairState_eq st s
  rw [h]

@[simp] theorem State.pairState_upd (st : PairState) (s : State) : (s.pairState st).upd = s.upd := by
  obtain ⟨a, x, h⟩ := State.pairState_eq st s
  rw [h]

@[simp] theorem State.pairState_pair (st : PairState) (s : State) : (s.pairState st).pair = { s.pair with st := st } := by
  obtain ⟨a, x, h⟩ := State.pairState_eq st s
  rw [h]

end Sys2Proof.Machine

open Sys2Proof Sys2Proof.Machine

/-- Settles O38: each row by its branch; the uncoordinated takeover by its causes. -/
theorem takeoverContinuesTheOutputs : Obligations.TakeoverContinuesTheOutputs := by
  refine ⟨fun t => ?_, fun t => ?_, fun t => ?_, fun t => ?_, fun t k ts f r b p s u w hin hb hst6 hst hp hw hu => ?_⟩
  · refine occursIf_of State.partnerSilent (fun _ => rfl) (fun s h => (if_pos h).trans ?_) fun s h => if_neg h
    unfold State.takeOver
    simp only [show s.coordinated 2 = false from rfl, Bool.false_eq_true, if_false]
    refine congrArg (fun f => State.forwardAll (State.each f [0, 1, 2, 3] _)) (funext fun n => funext fun s => ?_)
    simp [State.axTakeover]
  · refine occursIf_of State.switchoverInstant (fun _ => rfl) (fun s h => ?_) fun s h => ?_
    · obtain ⟨e, due, cause, hswitch, hst, hdue⟩ := h
      simp only [State.switchoverInstant, hswitch]
      exact if_pos ⟨hst, hdue⟩
    · unfold State.switchoverInstant
      split
      next e due cause hswitch => exact if_neg fun hdue => h ⟨e, due, cause, hswitch, hdue⟩
      next => rfl
  · refine occursIf_of State.searchTimeout (fun _ => rfl) (fun s h => (if_pos h).trans ?_) fun s h => if_neg h
    unfold State.activeAfresh
    simp only [State.pairState_tb0]
  · refine occursIf_of State.stationIsolated (fun _ => rfl) (fun s h => if_pos ?_) fun s h => if_neg ?_
    · simpa using h
    · simpa using h
  · subst hb
    have hexec : exec (.pairPresenceFrame t) s = .next (({ w with net := { w.net with presIn := r } } : State).presenceFrame k p) := by
      have hrow : exec (.pairPresenceFrame t) s = execPairPresenceFrame t s := rfl
      rw [hrow, hw, hp]
      unfold execPairPresenceFrame
      simp only [hin, hst6]
      rfl
    rw [hexec]
    have hpair : (u.pair).st = .standby := by rw [hu, State.hear_st, hw]; exact hst
    have hpaired : w.pair.st ≠ .unpaired := by rw [hw, hst]; decide
    refine congrArg Host.Outcome.next ((if_neg ?_).trans ?_)
    · simp [State.paired, hpaired]
    · rw [← hu]
      simp [hpair, hp]
end

section
/-! PROOFS. Agreement and compare windows, and the self-tests after a mismatch (13 R352 to R366). -/

namespace Sys2Proof.Machine

section
variable {i : Nat} {s : State}

/-- A window of agreement that ends in step takes the partner's entries, or counts their absence (13 R352, R354). -/
theorem State.agreeEnd_of_due {peer : Option (List AgreeVal)} (hpaired : s.paired = true) (hexec : (s.taskOf i).executing = true)
    (hagreed : (s.taskOf i).agreed = false) (hawait : (s.taskOf i).awaiting = false) (hdue : (s.taskOf i).release + s.taskL i + 12000 ≤ s.tb0)
    (hstep : s.inStep = true) : s.agreeEnd i peer = match peer with
      | none => (s.setTask i { s.taskOf i with agreed := true, sigLate := (s.taskOf i).sigLate + 1 }).post .data .ePairSigLate pairRes i
      | some l => s.afterDraw.setTask i { s.taskOf i with
          agreed := true, inImg := s.agreeAll (s.taskProg i).inMap (s.taskOf i).quals l (s.taskOf i).inImg } := by
  refine (if_neg ?_).trans (if_neg (by simp [hstep]))
  simp [hpaired, hexec, hagreed, hawait, hdue]

/-- Where both partners' results are in, what follows is by the parts that failed (13 R366). -/
theorem State.mismatchEnd_of_due {part a : Nat} {bad0 bad1 peerOk : Bool} {w v : State} (hm : s.pair.mismatch = some (i, a)) (hdue : a + 100000 ≤ s.tb0)
    (hw : w = { s with pair := { s.pair with mismatch := none } })
    (hv : v = (w.setCp (s.param .taskPair i) { w.cpOf (s.param .taskPair i) with testing := none }).send (.hedgerow 5 [i, part]))
    (hpart : part ≠ 1) : s.mismatchEnd part bad0 bad1 peerOk =
      if part = 0 ∧ peerOk = true then
        let u : State := { v with pair := { v.pair with mismatches := v.mismatchTimes } }
        if u.isPrimary = true then u.continues
        else if u.param .fltN 4 ≤ v.mismatchTimes.length then (u.yield 2).post .data .fPairMismatchRepeated pairRes v.mismatchTimes.length
        else u.yield 1
      else if part = 0 then v.continues
      else if peerOk = false ∧ v.isPrimary = true then (v.post .data .fPairSelftest pairRes part).continues
      else (v.post .data .fPairSelftest pairRes part).yield 2 := by
  unfold State.mismatchEnd
  simp only [hm]
  rw [if_neg (not_lt.mpr hdue), ← hw, ← hv]
  simp only [if_neg hpart, if_pos (Or.inl (b := _) hpart), ite_self, Bool.not_eq_true]

theorem exec_mismatchSelftestEnd {t part : Nat} {bad0 bad1 peerOk : Bool} {u : State} (hu : u = s.advance t) (hup : u.up = true) :
    exec (.mismatchSelftestEnd t part bad0 bad1 peerOk) s = .next (u.mismatchEnd part bad0 bad1 peerOk).settle := by
  rw [hu] at hup ⊢
  exact congrArg Host.Outcome.next (if_pos hup)

end

end Sys2Proof.Machine

open Sys2Proof Sys2Proof.Machine

/-- Settles O39: each window by its end, each outcome of the self-tests by its branch. -/
theorem pairComparisons : Obligations.PairComparisons := by
  refine ⟨⟨fun t i l hi => ?_, fun t i hi => ?_, fun t i hi s u hu hup hpaired hexec hawait hstep => ⟨?_, fun sig hsig => ?_, fun hst => ?_⟩⟩,
    fun t part bad0 bad1 peerOk i a s u w v hu hup hm hdue hw hv => ⟨fun hpart hok hst => ?_, fun hpart hok hst => ?_, fun hpart hok hprim hst => ?_,
      fun hpart hok hdrive => ?_, fun hpart hok hst hlink => ?_⟩⟩
  · refine occurs_on hi (State.agreeEnd i (some l)) (fun _ => rfl) fun s h => ?_
    obtain ⟨hpaired, hexec, hagreed, hawait, hdue, hstep⟩ := h
    exact State.agreeEnd_of_due hpaired hexec hagreed hawait hdue hstep
  · refine occurs_on hi (State.agreeEnd i none) (fun _ => rfl) fun s h => ?_
    obtain ⟨hpaired, hexec, hagreed, hawait, hdue, hstep⟩ := h
    exact State.agreeEnd_of_due hpaired hexec hagreed hawait hdue hstep
  · have hexec' : exec (.compareWindowEnd t i (some (u.taskSig i))) s = .next (u.cycleEnd i (State.compareEnd i (some (u.taskSig i)))) := by
      rw [hu]; exact if_pos hi
    rw [hexec']
    refine congrArg Host.Outcome.next (State.cycleEnd_congr ((if_neg ?_).trans ((if_neg ?_).trans (if_pos rfl))))
    · simp [hpaired, hexec, hawait]
    · simp [hstep]
  · have hexec' : exec (.compareWindowEnd t i (some sig)) s = .next (u.cycleEnd i (State.compareEnd i (some sig))) := by
      rw [hu]; exact if_pos hi
    rw [hexec']
    refine congrArg Host.Outcome.next (State.cycleEnd_congr ((if_neg ?_).trans ((if_neg ?_).trans (if_neg hsig))))
    · simp [hpaired, hexec, hawait]
    · simp [hstep]
  · have hexec' : exec (.compareWindowEnd t i none) s = .next (u.cycleEnd i (State.compareEnd i none)) := by
      rw [hu]; exact if_pos hi
    rw [hexec']
    refine congrArg Host.Outcome.next (State.cycleEnd_congr ((if_neg ?_).trans ((if_neg ?_).trans (if_pos ?_))))
    · simp [hpaired, hexec, hawait]
    · simp [hstep]
    · simpa using hst
  · rw [exec_mismatchSelftestEnd hu hup, State.mismatchEnd_of_due hm hdue hw hv (by omega)]
    simp [hpart, hok, State.continues, hst]
  · rw [exec_mismatchSelftestEnd hu hup, State.mismatchEnd_of_due hm hdue hw hv (by omega)]
    simp [hpart, hok, State.continues, hst]
  · rw [exec_mismatchSelftestEnd hu hup, State.mismatchEnd_of_due hm hdue hw hv (by omega)]
    rw [if_pos ⟨hpart, hok⟩, if_pos (show ({ v with pair := { v.pair with mismatches := v.mismatchTimes } } : State).isPrimary = true from hprim)]
    exact congrArg (fun u => Host.Outcome.next (State.settle u)) (if_pos hst)
  · rw [exec_mismatchSelftestEnd hu hup, State.mismatchEnd_of_due hm hdue hw hv (by omega)]
    have hpost : ¬((v.post .data .fPairSelftest pairRes part).pair.st = .active ∧ (v.post .data .fPairSelftest pairRes part).pair.link = true) := by
      simpa using hdrive
    rw [if_neg (by omega), if_neg (by omega), if_neg (by simp [hok])]
    exact congrArg (fun u => Host.Outcome.next (State.settle u)) ((if_neg hpost).trans (if_neg (by decide)))
  · rw [exec_mismatchSelftestEnd hu hup, State.mismatchEnd_of_due hm hdue hw hv (by omega)]
    have hpost : (v.post .data .fPairSelftest pairRes part).pair.st = .active ∧ (v.post .data .fPairSelftest pairRes part).pair.link = true := by
      simp [hst, hlink]
    rw [if_neg (by omega), if_neg (by omega), if_neg (by simp [hok])]
    exact congrArg (fun u => Host.Outcome.next (State.settle u)) (if_pos hpost)
end

section
/-! PROOFS. Lanes, the loss of the link, the silence of outputs and resynchronisation (13 R348 to R372). -/

namespace Sys2Proof.Machine

/-- With no switchover named there is none to give up. -/
theorem State.switchOff_of_none {s : State} (hswitch : s.pair.switch = none) (hnext : s.pair.next = 0) : s.switchOff = s := by
  unfold State.switchOff
  simp only [hswitch]
  rw [← hswitch, ← hnext]

/-- With no switchover named and no core pair that waits for one, nothing follows. -/
theorem State.coreLate_of_none {s : State} (hswitch : s.pair.switch = none) (hlate : s.pair.late = []) : s.coreLate = s := by
  have hsame : ({ s with pair := { s.pair with late := [] } } : State) = s := by rw [← hlate]
  unfold State.coreLate
  rw [if_neg (by simp [hswitch]), hlate]
  exact hsame

/-- What the loss of the link does to a STANDBY member before its state changes (13 R350). -/
def State.linkDown (s : State) : State :=
  ({ s with pair := { s.pair with link := false, lost := true, hears := false } } : State).post .data .ePairLinkLost pairRes PairState.standby.role

theorem State.linkDown_pair (s : State) : s.linkDown.pair = { s.pair with link := false, lost := true, hears := false } := by
  simp [State.linkDown]

theorem State.linkLost_of_standby {s : State} (hlink : s.pair.link = true) (hdue : s.pair.linkAt + 50000 ≤ s.tb0) (hst : s.pair.st = .standby)
    (hswitch : s.pair.switch = none) (hnext : s.pair.next = 0) : s.linkLost = s.linkDown.pairState .unlinked := by
  have hfield : ∀ u : State, u.pair.st = .standby → u.fieldActive = false := fun u h => by simp [State.fieldActive, h]
  have hkeep : ∀ (l : List Nat) (u : State), u.pair.st = .standby →
      u.each (fun n s => if (s.axOf n).handover && s.fieldActive then s.axDrives n else s) l = u := by
    intro l u hu
    induction l with
    | nil => rfl
    | cons n l ih => 
      simp only [State.each, List.foldl_cons, hfield u hu, Bool.and_false, Bool.false_eq_true, if_false]
      exact ih
  have hdown : s.linkDown.pair.st = .standby := by rw [State.linkDown_pair]; exact hst
  unfold State.linkLost
  rw [if_neg (by simp [hlink, hdue]), State.switchOff_of_none hswitch hnext, hst]
  dsimp only
  rw [if_pos hnext]
  rw [show ({ s with pair := { s.pair with link := false, lost := true, hears := false } } : State).post .data .ePairLinkLost pairRes
    PairState.standby.role = s.linkDown from rfl, hkeep _ _ hdown, hdown]

end Sys2Proof.Machine

open Sys2Proof Sys2Proof.Machine

/-- Settles O40: each row by its branch. -/
theorem linkLossAndResynchronisation : Obligations.LinkLossAndResynchronisation := by
  refine ⟨⟨fun t k hk => ?_, fun t k ok a hk => ?_, fun t level => ?_, fun t => ?_, fun t n hn => ?_, fun t n hn => ?_, fun t n hn => ?_,
    fun t n hn => ?_⟩, fun t dirty => ?_, fun t dirty => ?_, fun t => ?_, fun t => ?_, fun t l => ?_, fun t x hx => ?_⟩
  · exact occursIf_on hk (State.laneFailure k) (fun _ => rfl) (fun s h => if_neg (by simp [h])) fun s h => if_pos (by simpa using h)
  · refine occurs_on hk (State.laneRetry k ok) (fun _ => rfl) fun s h => ?_
    obtain ⟨hfind, hdue⟩ := h
    simp only [State.laneRetry, hfind]
    exact if_neg (not_lt.mpr hdue)
  · exact occursIf_of (State.hdetChange level) (fun _ => rfl) (fun s h => if_neg h) fun s h => if_pos (not_not.mp h)
  · refine occurs_of (fun s => if s.linkLost.coreLate.pair.link then s.linkLost.coreLate else s.linkLost.coreLate.imageSent false) (fun _ => rfl)
      fun s h => ?_
    obtain ⟨hlink, hdue, hst, hswitch, hnext, hlate⟩ := h
    rw [State.linkLost_of_standby hlink hdue hst hswitch hnext, State.coreLate_of_none (by simp [State.linkDown_pair, hswitch])
      (by simp [State.linkDown_pair, hlate])]
    exact if_neg (by simp [State.linkDown_pair])
  · refine occurs_of (State.outputSilent 0x04 n) (fun _ => if_pos hn) fun s h => ?_
    obtain ⟨hpaired, hmode, hmon, hdue⟩ := h
    exact (if_neg (by simp [hpaired])).trans ((if_pos rfl).trans (if_pos (by simp [hmode, hmon, hdue, State.pairSilence, State.tNet, ← add_assoc])))
  · refine occurs_of (State.outputSilent 0x05 n) (fun _ => if_pos hn) fun s h => ?_
    obtain ⟨hpaired, hmode, hmon, hdue⟩ := h
    exact (if_neg (by simp [hpaired])).trans ((if_neg (by decide)).trans ((if_pos rfl).trans (if_pos (by simp [hmode, hmon, hdue, State.pairSilence, State.tNet, ← add_assoc]))))
  · refine occurs_of (State.outputSilent 0x08 n) (fun _ => if_pos hn) fun s h => ?_
    obtain ⟨hpaired, hmon, hdue⟩ := h
    exact (if_neg (by simp [hpaired])).trans ((if_neg (by decide)).trans ((if_neg (by decide)).trans ((if_neg (by decide)).trans
      ((if_pos rfl).trans (if_pos (by simp [hmon, hdue]))))))
  · refine occurs_of (State.outputSilent 0x06 n) (fun _ => if_pos hn) fun s h => ?_
    obtain ⟨hpaired, hmon, hdue⟩ := h
    exact (if_neg (by simp [hpaired])).trans ((if_neg (by decide)).trans ((if_neg (by decide)).trans ((if_pos rfl).trans
      (if_pos (by simp [hmon, hdue, State.pairSilence, State.tNet, ← add_assoc])))))
  · refine occurs_of (State.passEnd dirty) (fun _ => rfl) fun s h => (if_neg (by simp [h.1])).trans ?_
    simp only [h.2]
  · refine occurs_of (State.passEnd dirty) (fun _ => rfl) fun s h => (if_neg (by simp [h.1])).trans ?_
    simp only [h.2]
    by_cases hd : dirty ≤ 65536
    · simp only [if_pos hd]
    · simp only [if_neg hd]
  · refine occurs_of State.resyncJoin (fun _ => rfl) fun s h => ?_
    obtain ⟨hst, hstage, htakes⟩ := h
    refine (if_pos ⟨hst, hstage⟩).trans (if_neg ?_)
    simpa [State.bootRec] using htakes
  · refine occursIf_of State.resyncSlow (fun _ => rfl) (fun s h => if_pos ?_) fun s h => if_neg ?_
    · simpa using h
    · simpa using h
  · exact occurs_of (State.loopCheckPair l) (fun _ => rfl) fun s h => if_pos h
  · exact occurs_of (State.loopCheckPair [x]) (fun _ => rfl) fun s h => (if_neg (not_not.mpr h.1)).trans (if_pos ⟨hx, h.2⟩)
end

section
/-! PROOFS. The commands of the network (11 R312; 14 R378 to R418). -/

open Sys2Proof Sys2Proof.Machine

/-- Settles O41: each command by its action, behind the conditions at its boundary. -/
theorem networkCommandsTakeEffect : Obligations.NetworkCommandsTakeEffect := by
  refine ⟨?_, ?_, ?_, ?_, ?_, ?_, ?_, ?_⟩
  · refine completesAtBoundary_of (fun _ _ _ => rfl) rfl fun e s h => (if_pos ?_).trans ?_
    · obtain ⟨hmove, hburst, hbudget⟩ := h
      refine firstOf_whenS_false ?_ (firstOf_whenS_false (by simp [hburst]) (firstOf_whenS_false (by simp [hbudget]) rfl))
      obtain ⟨hmode, hvlan⟩ | hstop := hmove
      · simp [hmode, hvlan]
      · simp [hstop]
    · simp only [Bool.or_eq_true, bne_iff_ne]
  · exact completes_of (fun _ _ _ => rfl) fun _ _ _ => rfl
  · refine completesEitherWay_of (fun _ _ _ => rfl) rfl fun e s h => if_pos ?_
    exact firstOf_whenS_false (by simpa using h.1) (firstOf_whenS_false (by simp [h.2]) rfl)
  · refine completesEitherWay_of (fun _ _ _ => rfl) rfl fun e s _ => ?_
    simp only [specNetConsume, List.all_eq_true, beq_iff_eq]
    rfl
  · exact completesEitherWay_of (fun _ _ _ => rfl) rfl fun e s h => if_pos (by simp [whenS, h])
  · exact reports_of (fun _ _ _ => rfl) fun _ _ _ => rfl
  · exact reports_of (fun _ _ _ => rfl) fun _ _ _ => rfl
  · refine completesEitherWay_of (fun _ _ _ => rfl) rfl fun e s h => if_pos ?_
    exact firstOf_whenS_false (by simp [h.1]) (firstOf_whenS_false h.2 rfl)
end

section
/-! PROOFS. Frames received and the consumed connections they reach (14 R389 to R398). -/

namespace Sys2Proof.Machine

/-- A frame that arrives whole and parses at a port in PRP goes through the filter, the policing and the delivery. -/
theorem State.netReceive_of_prp {s : State} {f : NetFrame} (hup : s.up = true) (hport : s.portUp f.port = true) (hfcs : f.fcs = true)
    (hlong : f.long = false) (hparses : s.netParses f = true) (hprp : s.param .netMode 0 ≠ 1) :
    s.netReceive f = ((s.setPort f.port { s.port f.port with heard := s.tb0 }).portSeen f.port).netDeliver f.port f := by
  simp [State.netReceive, hup, hport, hfcs, hlong, hparses, hprp]

section
variable {s v : State} {k : Nat} {f : NetFrame}

theorem State.netDeliver_filtered (h : s.netFilter f = false) : s.netDeliver k f = s.netDrop k 4 (netClass f.body) := by
  simp [State.netDeliver, h]

theorem State.netDeliver_policed (h : s.netFilter f = true) (hpolice : (s.policeLocal k f.body).1 = false) :
    s.netDeliver k f = (s.policeLocal k f.body).2.netDrop k 5 (netClass f.body) := by
  simp [State.netDeliver, h, hpolice]

theorem State.netDeliver_process {o : OmnarFrame} {id : Nat} (hbody : f.body = .omnar o) (h : s.netFilter f = true)
    (hpolice : s.policeLocal k f.body = (true, v)) (hclass : netClass f.body = 2) (hcons : v.consFor o.src (o.conn % 1024) = some id)
    (hlen : o.payload.length = v.consLen id) (haccepts : (v.consOf id).accepts o = true) (hrole : v.param .scRole id ≠ 2) :
    s.netDeliver k f = v.connAccept id k o := by
  rw [hbody] at hpolice hclass
  simp [State.netDeliver, State.connDecide, hbody, h, hpolice, hclass, hcons, hlen, haccepts, hrole]

theorem State.netDeliver_management {o : OmnarFrame} (hbody : f.body = .omnar o) (h : s.netFilter f = true)
    (hpolice : s.policeLocal k f.body = (true, v)) (hclass : netClass f.body = 1) :
    s.netDeliver k f = { v with net := { v.net with mgmtIn := v.net.mgmtIn ++ [(o.src, f.srcMac, o.payload)] } } := by
  rw [hbody] at hpolice hclass
  simp [State.netDeliver, hbody, h, hpolice, hclass]

theorem State.netDeliver_ptp {m : PtpMsg} (hbody : f.body = .ptp m) (hpolice : s.policeLocal k f.body = (true, v)) :
    s.netDeliver k f = { v with net := { v.net with ptpIn := v.net.ptpIn ++ [{ m with port := k }] } } := by
  rw [hbody] at hpolice
  simp [State.netDeliver, State.netFilter, hbody, hpolice]

end

/-- An ordinary payload makes its connection valid, through a restore where it had expired (05 R145). -/
theorem State.plainMessage_eq (s : State) (id : Nat) (m : Bytes) :
    s.plainMessage id m = (if (s.consOf id).st = .expired then (s.setCons id { s.consOf id with data := m, st := .expired }).connRestore id
      else s.setCons id { s.consOf id with data := m, st := .valid }) := by
  unfold State.plainMessage
  by_cases h : (s.consOf id).st = .expired <;> simp only [h, if_true, if_false]

@[simp] theorem State.param_setCons (s : State) (id : Nat) (x : ConsRun) (p : Param) (n : Nat) : (s.setCons id x).param p n = s.param p n := rfl

theorem State.param_postIf (b : Bool) (pl : Plane) (c : Code) (src : Res) (m : Nat) (s : State) (p : Param) (n : Nat) :
    (s.postIf b pl c src m).param p n = s.param p n := by
  simp only [State.param, (outward_postIf b pl c src m s).cfg]

/-- The snapshot write of an accepted frame of an ordinary connection. -/
theorem State.connAccept_of_plain {s v : State} {id k : Nat} {f : OmnarFrame} (hrole : s.param .scRole id ≠ 2)
    (hv : v = s.countCopy id k f true) :
    s.connAccept id k f =
      (((v.setCons id { v.consOf id with
          known := true, epoch := f.epoch, seq := f.seq, lastAt := some v.tb0, wdAt := v.tb0,
          srcTime := (if bitOf f.oflags 4 then (f.txTime : Int) + f.corr / 65536 else 0),
          late := (if v.net.cycleAt + v.param .rxClose 0 * 1000 < v.tb0 then (v.consOf id).late + 1 else (v.consOf id).late) }).postIf
        (decide (v.net.cycleAt + v.param .rxClose 0 * 1000 < v.tb0)) .data .eNetFrameLate (connRes id) (k * 2 ^ 24 + id)).plainMessage
          id f.payload) := by
  have hparam : v.param .scRole id ≠ 2 := by rw [hv]; exact hrole
  simp only [State.connAccept, ← hv, decide_eq_true_eq]
  exact if_neg (by rw [State.param_postIf]; exact hparam)

end Sys2Proof.Machine

open Sys2Proof Sys2Proof.Machine

/-- Settles O42: the stages in their order, each with the hypotheses that let the frame past the ones before. -/
theorem networkFramesAreJudgedInOrder : Obligations.NetworkFramesAreJudgedInOrder := by
  refine ⟨⟨fun t f hf => ?_, fun t f hf hbad => ?_, fun t f hf hfcs hlong => ?_, fun t f hf hfcs hlong s u hup hport hparses hprp hu => ?_⟩,
    fun s v id k f hrole hv => ?_⟩
  · exact occurs_on hf (fun s => (s.netReceive f).txRun) (fun _ => rfl) fun s h => congrArg State.txRun (if_pos (by simpa using h))
  · exact occurs_on hf (fun s => (s.netReceive f).txRun) (fun _ => rfl) fun s h =>
      congrArg State.txRun ((if_neg (by simp [h])).trans (if_pos (by simpa using hbad)))
  · exact occurs_on hf (fun s => (s.netReceive f).txRun) (fun _ => rfl) fun s h =>
      congrArg State.txRun ((if_neg (by simp [h])).trans ((if_neg (by simp [hfcs, hlong])).trans (if_pos (by simp [h]))))
  · have hexec : exec (.networkFrameReceived t f) s = .next (u.netDeliver f.port f).txRun := by
      rw [hu, ← State.netReceive_of_prp hup hport hfcs hlong hparses hprp]
      exact if_pos hf
    refine ⟨fun h => ?_, fun h hpolice => ?_, fun o v hbody h hpolice => ⟨fun id hclass hcons hlen haccepts hrole => ?_, fun hclass => ?_⟩,
      fun m v hbody hpolice => ?_⟩
    · rw [hexec, State.netDeliver_filtered h]
    · rw [hexec, State.netDeliver_policed h hpolice]
    · rw [hexec, State.netDeliver_process hbody h hpolice hclass hcons hlen haccepts hrole]
    · rw [hexec, State.netDeliver_management hbody h hpolice hclass]
    · rw [hexec, State.netDeliver_ptp hbody hpolice]
  · rw [State.connAccept_of_plain hrole hv, State.plainMessage_eq]
    by_cases h : v.net.cycleAt + v.param .rxClose 0 * 1000 < v.tb0 <;> simp only [h, if_true, if_false, decide_true, decide_false] <;> rfl
end

section
/-! PROOFS. Safety messages, ports, and the network cycle (05 R143; 11 R308, R309; 14 R376 to R401). -/

namespace Sys2Proof.Machine

section
variable {s : State} {id : Nat} {m : Bytes} {b : Nat}

/-- A rejected message ends a connection that has not expired. -/
theorem State.safeReject_of_unexpired {reason : Nat} (h : (s.consOf id).st ≠ .expired) :
    s.safeReject id reason = (s.post .data .eSafeMsgReject (connRes id) (id * 256 + reason)).connExpire id := if_neg h

/-- A message that fails one of the five checks is rejected with that check's number. -/
theorem State.safeMessage_of_failed (h : s.safeCheck id m ≠ 0) : s.safeMessage id m = s.safeReject id (s.safeCheck id m) := if_pos h

/-- What the alive counter decides of a message that passed the five checks. -/
theorem State.safeMessage_of_alive (h : s.safeCheck id m = 0) (halive : (s.consOf id).alive = some b) :
    s.safeMessage id m =
      (let x := s.consOf id
       let a := beNat (slice m 8 2)
       let data := slice m 12 (s.param .scPlen id)
       let d := (a + 65536 - b) % 65536
       if d = 0 ∨ s.param .aliveGap id < d then s.safeReject id 6
       else if x.st ≠ .expired then s.setCons id { x with alive := some a, data := data, st := .valid }
       else
         let n := if d = 1 then x.restore + 1 else 0
         let s := s.setCons id { x with alive := some a, restore := n, data := data }
         if n = 3 then (s.post .data .eSafeConnRestored (connRes id) id).connRestore id else s) := by
  rw [State.safeMessage, if_neg (not_not.mpr h)]
  simp only [halive]

end

/-! ## What the rows of the ports and of the policing run -/

/-- A port's link comes up or goes down (14 R401). -/
def State.linkChange (k : Nat) (linkUp : Bool) (s : State) : State :=
  let p := s.port k
  if p.link = linkUp ∨ (linkUp ∧ (p.retired ∨ s.param .portEn k = 0)) then s
  else ((if linkUp then s else s.txClear k).setPort k { p with link := linkUp, linkAt := if linkUp then s.tb0 else p.linkAt }).post .data
    .eNetLink (netPortRes k) (k * 2 ^ 24 + b2n linkUp)

/-- The self-test of a port ends (14 R401). -/
def State.portTested (k : Nat) (ok : Bool) (s : State) : State :=
  if ok ∨ ¬ s.up ∨ (s.port k).retired ∨ (s.port k).fault ∨ s.param .portEn k = 0 then s else s.portFault k 1

/-- A consumed connection is heard through one port only (14 R397). -/
def State.pathSingle (id : Nat) (s : State) : State :=
  let x := s.consOf id
  let viaA := decide (x.heardB + 1000000000 ≤ s.tb0 ∧ s.tb0 < x.heardA + 1000000000)
  let viaB := decide (x.heardA + 1000000000 ≤ s.tb0 ∧ s.tb0 < x.heardB + 1000000000)
  let both := [0, 1].all (fun k => (s.port k).link && decide ((s.port k).linkAt + 1000000000 ≤ s.tb0))
  if s.param .ccEn id == 1 && both && !x.single && (viaA || viaB) then
    (s.setCons id { x with single := true }).post .data .eNetPathSingle (connRes id) ((if viaA then 0 else 2 ^ 24) + id)
  else s

theorem exec_netLinkChange (t k : Nat) (linkUp : Bool) (s : State) : exec (.netLinkChange t k linkUp) s =
    if k < 2 then .next ((s.advance t).linkChange k linkUp) else .fault .noSuchResource := rfl

theorem exec_portSelftest (t k : Nat) (ok : Bool) (s : State) : exec (.portSelftest t k ok) s =
    if k < 2 then .next ((s.advance t).portTested k ok) else .fault .noSuchResource := rfl

theorem exec_netPathSingle {t id : Nat} (hlo : 0x1000 ≤ id) (hhi : id < 0x2000) (s : State) :
    exec (.netPathSingle t id) s = .next ((s.advance t).pathSingle id) := if_neg (by omega)

end Sys2Proof.Machine

open Sys2Proof Sys2Proof.Machine

/-- Settles O43: the checks of a safety message by the value of its alive counter; the rows by their guards. -/
theorem networkEvents : Obligations.NetworkEvents := by
  refine ⟨⟨fun s id m hcheck hst => ?_, fun s id m a b hcheck ha halive hd hst => ?_, fun s id m a b hcheck ha halive hnew hgap hst => ?_,
    fun s id m a b hcheck ha halive hnext hgap hst => ?_⟩, fun t id hlo hhi => ?_, fun t k hk => ?_, fun t k hk => ?_, fun t s u hdue hu hst => ?_,
    fun t => ?_, fun t => ?_, fun t => ?_, fun t k cls src b a => ?_, fun t id hlo hhi => ?_, fun t k hk => ?_, fun t k hk => ?_, fun t k hk => ?_⟩
  · rw [State.safeMessage_of_failed hcheck, State.safeReject_of_unexpired hst]
  · rw [State.safeMessage_of_alive hcheck halive, ← ha]
    exact (if_pos hd).trans (State.safeReject_of_unexpired hst)
  · rw [State.safeMessage_of_alive hcheck halive, ← ha]
    exact (if_neg (by omega)).trans (if_pos hst)
  · rw [State.safeMessage_of_alive hcheck halive, ← ha]
    refine (if_neg (by omega)).trans ((if_neg (not_not.mpr hst)).trans ?_)
    simp only [hnext, if_true, Nat.reduceEqDiff]
  · exact occursIf_of (fun s => if s.param .ccEn id = 1 ∧ (s.consOf id).st = .valid ∧ (s.consOf id).wdAt + s.wdNs id ≤ s.tb0 then
      s.connExpire id else s) (fun _ => if_neg (by omega)) (fun _ h => if_pos h) fun _ h => if_neg h
  · refine occursIf_on hk _ (fun _ => exec_netLinkChange ..) (fun s h => ?_) fun s h => if_pos ?_
    · obtain ⟨hlink, hretired, hen⟩ := h
      exact (if_neg (by simp [hlink, hretired, hen])).trans rfl
    · by_cases hlink : (s.port k).link = true
      · exact Or.inl hlink
      · refine Or.inr ⟨rfl, ?_⟩
        by_contra hnot
        exact h ⟨by simpa using hlink, by simpa using (not_or.mp hnot).1, (not_or.mp hnot).2⟩
  · refine occursIf_on hk _ (fun _ => exec_netLinkChange ..) (fun s h => ?_) fun s h => if_pos (Or.inl (Bool.eq_false_iff.mpr h))
    unfold State.linkChange
    rw [if_neg (by simp [h])]
    simp only [Bool.false_eq_true, if_false, b2n, Nat.add_zero]
  · refine congrArg Host.Outcome.next ((if_neg (not_not.mpr hdue)).trans ?_)
    rw [← hu]
    exact congrArg (fun v : State => v.txRun.settle) (if_neg (not_not.mpr hst))
  · refine occurs_of (fun s => s.sendSlot.txRun) (fun _ => rfl) fun s h => congrArg State.txRun ?_
    obtain ⟨hup, hsent, hdue⟩ := h
    refine (if_neg (by simp [hup, hsent]; omega)).trans ?_
    simp only [Bool.and_eq_true, Bool.not_eq_true']
  · exact occursIf_of _ (fun _ => rfl) (fun _ h => if_pos h) fun _ h => if_neg h
  · exact occursIf_of _ (fun _ => rfl) (fun _ h => if_pos h) fun _ h => if_neg h
  · intro s h
    obtain ⟨hfind, hsince, hdue, hlast⟩ := h
    simp only [exec, execNetStorm, hfind, hsince, hlast, hdue, decide_true, if_true]
  · refine occurs_of _ (exec_netPathSingle hlo hhi) fun s h => ?_
    obtain ⟨hen, hlinkA, hlinkB, hsinceA, hsinceB, hsingle, hsilentB, hheardA⟩ := h
    simp [State.pathSingle, hen, hlinkA, hlinkB, hsinceA, hsinceB, hsingle, hsilentB, hheardA]
  · refine occursIf_on hk _ (fun _ => exec_portSelftest ..) (fun s h => ?_) fun s h => if_pos ?_
    · obtain ⟨hup, hretired, hfault, hen⟩ := h
      exact if_neg (by simp [hup, hretired, hfault, hen])
    · by_contra hnot
      simp only [not_or, Bool.not_eq_true, Bool.not_eq_false] at hnot
      exact h hnot.2
  · exact occurs_on hk _ (fun _ => exec_portSelftest ..) fun s _ => if_pos (Or.inl rfl)
  · exact occursIf_on hk (fun s => if s.tb0 < (s.port k).faultAt + 1000000000 then s else s.setPort k { s.port k with fault := false })
      (fun _ => rfl) (fun _ h => if_neg (not_lt.mpr h)) fun _ h => if_pos (not_le.mp h)
end

section
/-! PROOFS. The commands of the time bases, pulse generators and pulse inputs (14 R405 to R415). -/

open Sys2Proof Sys2Proof.Machine

/-- Settles O44: each command by its action. -/
theorem timeCommandsTakeEffect : Obligations.TimeCommandsTakeEffect := by
  refine ⟨?_, ?_, ?_, ?_, ?_, ?_, ?_, ?_⟩
  · refine reports_of (fun _ _ _ => rfl) fun e s _ => ?_
    simp only [specTimeRead, State.timeValues, b2n, Bool.and_eq_true, Nat.cast_ite, Nat.cast_one, Nat.cast_zero]
  · refine completes_of (fun _ _ _ => rfl) fun e s _ => ?_
    simp only [specTimeConfigure, State.masterEnds, State.baseUnlocked, Bool.or_eq_true, Bool.and_eq_true, beq_iff_eq, bne_iff_ne]
  · exact does_of (fun _ _ _ => rfl) fun e s h => by simp [specTimeRestep, h, State.finish]
  · exact completes_of (fun _ _ _ => rfl) fun e s h => by simp [specTimeRestep, h]
  · exact reports_of (fun _ _ _ => rfl) fun e s _ => by simp only [specTimeStatus, b2n]
  · exact completesEitherWay_of (fun _ _ _ => rfl) rfl fun e s h => if_pos h
  · exact completes_of (fun _ _ _ => rfl) fun _ _ _ => rfl
  · exact completes_of (fun _ _ _ => rfl) fun e s h => if_pos (by simp [whenS, h])
end

section
/-! PROOFS. Pulse generators and pulse inputs (14 R410 to R415). -/

namespace Sys2Proof.Machine

/-- Arming a periodic generator (R411). -/
theorem State.pgArm_of_periodic {s : State} {k : Nat} (h : s.param .pgMode k = 2) :
    s.pgArm k = s.setPg k { s.pgOf k with
      armed := true, waiting := false, last := none,
      next := (if s.pgNow k ≤ s.param .pgStart k then (s.param .pgStart k : Int)
        else gridUp (s.pgNow k + 10000) (s.param .pgStart k) (s.param .pgPeriod k * 1000)) } := by
  simp only [State.pgArm, h, State.pgPeriodNs]

section
variable {period : Nat} (v : Int) (phase : Nat)

theorem gridUp_of_pos (h : 0 < period) : gridUp v phase period = v + ((phase : Int) - v) % period := if_neg (by omega)

theorem le_gridUp (h : 0 < period) : v ≤ gridUp v phase period := by
  rw [gridUp_of_pos v phase h]
  have := Int.emod_nonneg ((phase : Int) - v) (b := period) (by omega)
  omega

theorem gridUp_lt (h : 0 < period) : gridUp v phase period < v + period := by
  rw [gridUp_of_pos v phase h]
  have := Int.emod_lt_of_pos ((phase : Int) - v) (b := period) (by omega)
  omega

/-- The instant of `gridUp` lies on the grid: it differs from the phase by whole periods. -/
theorem gridUp_on_grid (h : 0 < period) : (gridUp v phase period - phase) % period = 0 := by
  rw [gridUp_of_pos v phase h]
  have hdiv := Int.mul_ediv_add_emod ((phase : Int) - v) period
  exact Int.emod_eq_zero_of_dvd ⟨-(((phase : Int) - v) / period), by rw [mul_neg]; omega⟩

end

/-- An edge too close to the last one of its terminal is not accepted (R414). -/
theorem State.piEdge_of_near {s : State} {n c : Nat} (hmode : s.param .piMode n ≠ 0) (hlevel : (s.piOf n).levelA = false)
    (hchange : (s.piOf n).changeA = some c) (hnear : s.tb0 < c + s.param .piFilter n * 100) :
    s.piEdge n false true = (s.setPi n { s.piOf n with overrange := true }).postIf (!(s.piOf n).overrange) .data .ePiOverrange (piRes n)
      (n * 2 ^ 24 + 1000000 / max 1 (s.param .piFilter n)) := by
  simp [State.piEdge, hmode, hlevel, hchange, hnear]

/-- The first rising edge of terminal A in a mode without direction counts up and triggers (R414, R415). -/
theorem State.piEdge_of_first {s : State} {n : Nat} (hmode : s.param .piMode n = 1 ∨ s.param .piMode n = 2) (hlevel : (s.piOf n).levelA = false)
    (hedges : (s.piOf n).edges = []) (hchange : (s.piOf n).changeA = none) :
    s.piEdge n false true =
      { s.setPi n { s.piOf n with
          levelA := true, changeA := some s.tb0, count := signed 64 (wrapInt 64 ((s.piOf n).count + 1)), edges := [(s.tb0, true)],
          overrange := false } with
        triggers := s.triggers ++ [{ src := 3, index := n, rising := true }] } := by
  have hmode0 : s.param .piMode n ≠ 0 := by omega
  have hmode3 : s.param .piMode n ≠ 3 := by omega
  simp [State.piEdge, State.postIf, hmode0, hmode3, hlevel, hedges, hchange]

/-- A firing of a periodic generator that is due (R410, R412). -/
theorem State.pgFire_of_periodic {s : State} {k : Nat} (harmed : (s.pgOf k).armed = true) (hdue : (s.pgOf k).next ≤ s.pgNow k + 50)
    (hmode : s.param .pgMode k ≠ 1) :
    s.pgFire k =
      (let x := s.pgOf k
       let dest := s.param .pgDest k
       let pin := bitOf dest 0 && s.fieldActive
       let u := s.setPg k { x with
         armed := true, last := some x.next, next := x.next + s.pgPeriodNs k, pulse := x.pulse || pin, pulseAt := if pin then s.tb0 else x.pulseAt }
       let u := if pin then u.send (.pin k true) else u
       let u := if bitOf dest 1 then { u with triggers := u.triggers ++ [{ src := 1, index := k, rising := true }] } else u
       if bitOf dest 2 then u.each (State.piCapture k x.next) (List.range 4) else u) := by
  have honce : (s.param .pgMode k == 1) = false := beq_false_of_ne hmode
  refine (if_neg (by simp [harmed, hdue])).trans ?_
  simp only [honce, Bool.not_false, Bool.false_eq_true, if_false, false_and]

end Sys2Proof.Machine

open Sys2Proof Sys2Proof.Machine

/-- Settles O45. -/
theorem pulsesKeepTheirGrid : Obligations.PulsesKeepTheirGrid := by
  refine ⟨⟨fun s k h => State.pgArm_of_periodic h, fun v phase period h => ⟨le_gridUp v phase h, gridUp_lt v phase h, gridUp_on_grid v phase h⟩,
    fun t k hk => ?_, fun t k hk => ?_, fun t k hk => ?_⟩, fun t n hn => ?_, fun t n c hn => ?_⟩
  · exact occurs_on hk (fun s => s.pgFire k) (fun _ => rfl) fun s h => if_pos (h.imp (by simp) id)
  · refine occurs_on hk (fun s => s.pgFire k) (fun _ => rfl) fun s h => ?_
    obtain ⟨harmed, hdue, hmode⟩ := h
    simp only [State.pgFire_of_periodic harmed hdue hmode, Bool.and_eq_true]
    rfl
  · exact occurs_on hk (fun s => (s.pgPulseEnd k).settle) (fun _ => rfl) fun s h => congrArg State.settle (if_pos h)
  · refine occurs_on hn (fun s => s.piEdge n false true) (fun _ => rfl) fun s h => ?_
    obtain ⟨hmode, hlevel, hedges, -, hchange⟩ := h
    exact State.piEdge_of_first hmode hlevel hedges hchange
  · refine occurs_on hn (fun s => s.piEdge n false true) (fun _ => rfl) fun s h => ?_
    obtain ⟨hmode, hlevel, hchange, hnear, hover⟩ := h
    rw [State.piEdge_of_near hmode hlevel hchange hnear, hover]
    rfl
end

section
/-! PROOFS. PTP messages, the servo, and the events of the time bases (14 R402 to R407). -/

namespace Sys2Proof.Machine

/-! ## PTP messages -/

section
variable {s : State} {m : PtpMsg} {b : Nat}

/-- A message on a base that it does not serve leaves the state as it is: TB2 is served by PTP only as its source says (R406). -/
theorem State.ptpTake_of_unsourced (h : s.param .tbSrc 2 ≠ 1) : s.ptpTake m 2 = s := by
  simp [State.ptpTake, State.ptpServes, h]

theorem State.ptpTake_announce {a : Announce} (hserves : s.ptpServes m b = true) (hbody : m.body = .announce a) :
    s.ptpTake m b = s.ptpAnnounce b a m.port := by
  simp only [State.ptpTake, hserves, hbody, not_true_eq_false, if_false]

theorem State.ptpTake_delay {d : Int} (hserves : s.ptpServes m b = true) (hbody : m.body = .delay d) :
    s.ptpTake m b = s.setBase b { s.base b with delay := some d } := by
  simp only [State.ptpTake, hserves, hbody, not_true_eq_false, if_false]

/-- A Sync of the selected master of TB1 reaches the servo, and TB3 follows. -/
theorem State.ptpTake_sync {off : Int} {a : Announce} (hserves : s.ptpServes m 1 = true) (hbody : m.body = .sync off)
    (hmaster : (s.base 1).master = some a) (hgm : a.gm = m.clock) (hservo : (s.base 1).servo ≠ .master) :
    s.ptpTake m 1 = (s.servoSync 1 off).tb3Follow := by
  simp only [State.ptpTake, hserves, hbody, hmaster, not_true_eq_false, if_false]
  exact if_pos ⟨hgm, hservo⟩

variable {a o : Announce} {port : Nat}

/-- The selected master announces itself again. -/
theorem State.ptpAnnounce_of_same (hmaster : (s.base b).master = some o) (hgm : o.gm = a.gm) (hrole : s.param .ptpRole b ≠ 1) :
    s.ptpAnnounce b a port = s.setBase b { s.base b with master := some a, port := port, lastAnnounce := s.tb0 } := by
  simp [State.ptpAnnounce, hmaster, hgm, hrole]

/-- A clock that is worse than the selected master, heard from the master's own port, is passed over. -/
theorem State.ptpAnnounce_of_worse (hmaster : (s.base b).master = some o) (hgm : o.gm ≠ a.gm) (hworse : announceBetter a o = false)
    (hport : (s.base b).port = port) : s.ptpAnnounce b a port = s := by
  refine if_pos ?_
  have hhome : ((s.base b).port == 1 && port == 0 && b == 1 && s.param .netMode 0 == 0) = false := by
    rw [hport]
    simp
    omega
  simp only [hmaster, hhome, hworse, beq_false_of_ne hgm, Bool.or_false, Bool.false_eq_true, not_false_eq_true]

/-- A master-capable module that is better than the first clock announced elects itself. -/
theorem State.ptpAnnounce_of_elected (hmaster : (s.base b).master = none) (hservo : (s.base b).servo ≠ .master)
    (hrole : s.param .ptpRole b = 1) (hbetter : announceBetter (s.ownAnnounce b) a = true) : s.ptpAnnounce b a port = s.electSelf b := by
  simp [State.ptpAnnounce, hmaster, hservo, hrole, hbetter]

end

/-- A message of TB1, where TB2 has another source when it has been taken. -/
theorem exec_ptpMessageReceived {t : Nat} {s u v : State} {m : PtpMsg} {r : List PtpMsg} (hin : (s.advance t).net.ptpIn = m :: r)
    (hu : u = ({ s.advance t with net := { (s.advance t).net with ptpIn := r } } : State).txRun) (hv : u.ptpTake m 1 = v)
    (htb2 : v.param .tbSrc 2 ≠ 1) : exec (.ptpMessageReceived t) s = .next v := by
  have hexec : exec (.ptpMessageReceived t) s = .next ((u.ptpTake m 1).ptpTake m 2) := by
    simp only [exec, execPtpMessageReceived, hin, hu]
  rw [hexec, hv, State.ptpTake_of_unsourced htb2]

/-! ## The servo -/

/-- The fourth measurement of a base that has not been stepped steps it (R405). -/
theorem State.servoSync_of_fourth {s : State} {b : Nat} {off : Int} (hstepped : (s.base b).stepped = false) (hdelay : (s.base b).delay ≠ none)
    (hvalid : (s.base b).valid = 3) :
    s.servoSync b off =
      (let x := { s.base b with offset := some off, offsets := ((s.base b).offsets ++ [off]).drop ((s.base b).offsets.length - 15) }
       ((s.setBase b x).setBase b { x with valid := 4, stepped := true, servo := .slewing, at0 := s.tb0, v0 := (s.base b).valueAt s.tb0 }).baseStep
         b (-off)) := by
  refine (if_neg (by simp [hstepped])).trans ((if_neg (by simpa using hdelay)).trans ((if_neg (by simp [hvalid])).trans rfl))

/-- A base that needs a jump slews at the largest rate while its offset is above 1 ms (R405). -/
theorem State.servoRun_of_far {s : State} {b : Nat} {off : Int} (hservo : (s.base b).servo = .jumpNeeded) (hsynced : (s.base b).synced = false)
    (hfar : 1000000 < off.natAbs) (hthr : s.param .syncThr b ≤ 100000) :
    s.servoRun b off = (s.setBase b { s.base b with inside := 0, above := min 8 ((s.base b).above + 1), servo := .jumpNeeded }).baseRate b
      (if off < 0 then 500000 else -500000) := by
  have hwithin : ¬ off.natAbs ≤ s.param .syncThr b := by omega
  refine (if_pos hfar).trans ?_
  simp only [hservo, hsynced, hwithin, decide_false, Bool.false_eq_true, if_false]
  rfl

/-- The rate that a base is given stays inside ±500 ppm (R405). -/
theorem State.baseRate_natAbs_le {s : State} (h : Tab.wf (fun _ => ({} : TimeBase)) s.bases = true) (b : Nat) (ppb : Int) :
    ((s.baseRate b ppb).base b).rate.natAbs ≤ 500000 := by
  have hbases : s.txRun.bases = s.bases := (outward_txRun s).bases
  have hget : (s.baseRate b ppb).base b =
      { s.txRun.base b with v0 := (s.txRun.base b).valueAt s.txRun.tb0, at0 := s.txRun.tb0, rate := clampInt (-500000) 500000 ppb } :=
    Tab.get_put (lo := 0) b _ (by rw [hbases]; exact h)
  rw [hget]
  obtain ⟨hlo, hhi⟩ := clampInt_mem (lo := -500000) (hi := 500000) (by decide) ppb
  simp only
  omega

/-! ## Requests for the delay -/

/-- The row of a delay request (R402): peer-to-peer where the base is set so and always in HSR. -/
def State.sendDelayReq (b : Nat) (s : State) : State :=
  let p2p := s.param .ptpDelay b == 1 || s.param .netMode 0 == 1
  if s.up && s.ptpDriven b && (p2p || (s.base b).master.isSome) then s.ptpSend b (if p2p then 3 else 2) 0 else s

theorem exec_ptpDelayReqSend {t b : Nat} (hb : b = 1 ∨ b = 2) (s : State) :
    exec (.ptpDelayReqSend t b) s = .next ((s.advance t).sendDelayReq b) := if_pos hb

end Sys2Proof.Machine

open Sys2Proof Sys2Proof.Machine

/-- Settles O46. -/
theorem timeBaseEvents : Obligations.TimeBaseEvents := by
  refine ⟨⟨fun t m r s w u hw hin hu hserves htb2 => ?_, fun s b off hstepped hdelay hvalid x hx => ?_,
    fun s b off x hx hservo hsynced hfar hthr => ?_, fun s b ppb h => State.baseRate_natAbs_le h b ppb⟩,
    fun t b hb => ?_, fun t b hb => ?_, fun t b hb => ?_, fun t b hb => ?_, fun t b hb => ?_, fun t b hb => ?_, fun t b hb => ?_,
    fun t inserted => ?_, fun t => ?_⟩
  · rw [hw] at hin hu
    refine ⟨fun a o hbody hmaster hgm hrole => ?_, fun a o hbody hmaster hgm hworse hport => ?_,
      fun a hbody hmaster hservo hrole hbetter v hv hvtb2 => ?_, fun d hbody => ?_, fun off a hbody hmaster hgm hservo v hv hvtb2 => ?_⟩
    · exact exec_ptpMessageReceived hin hu ((State.ptpTake_announce hserves hbody).trans (State.ptpAnnounce_of_same hmaster hgm hrole)) htb2
    · exact exec_ptpMessageReceived hin hu ((State.ptpTake_announce hserves hbody).trans (State.ptpAnnounce_of_worse hmaster hgm hworse hport)) htb2
    · refine exec_ptpMessageReceived hin hu ?_ hvtb2
      rw [State.ptpTake_announce hserves hbody, State.ptpAnnounce_of_elected hmaster hservo hrole hbetter, hv]
      rfl
    · exact exec_ptpMessageReceived hin hu (State.ptpTake_delay hserves hbody) htb2
    · exact exec_ptpMessageReceived hin hu ((State.ptpTake_sync hserves hbody hmaster hgm hservo).trans hv.symm) hvtb2
  · rw [hx, State.servoSync_of_fourth hstepped hdelay hvalid]
  · rw [hx] at hservo hsynced ⊢
    exact State.servoRun_of_far hservo hsynced hfar hthr
  · refine occurs_of (fun s => s.announceLost b) (fun _ => if_pos hb) fun s h => ?_
    obtain ⟨hdriven, hservo, hdue, hrole⟩ := h
    exact (if_neg (by simp [hdriven, hservo, hdue])).trans ((if_pos hrole).trans rfl)
  · refine occurs_of (fun s => s.announceLost b) (fun _ => if_pos hb) fun s h => ?_
    obtain ⟨hdriven, hdue, hservo, hfree, hhold, hrole⟩ := h
    exact (if_neg (by simp [hdriven, hservo, hdue])).trans ((if_neg hrole).trans ((if_neg hhold).trans (if_neg hfree)))
  · refine occursIf_of (fun s => s.holdoverOut b) (fun _ => if_pos hb) (fun s h => if_pos ?_) fun s h => if_neg ?_
    · simpa using h
    · simpa using h
  · exact occursIf_of (fun s => if s.ptpDriven b = true ∧ (s.base b).servo = .master ∧ (s.base b).syncAt ≤ s.tb0 then
      (s.setBase b { s.base b with syncAt := s.tb0 + logInterval (s.param .logSync b) }).ptpSend b 0 0 else s)
      (fun _ => if_pos hb) (fun s h => if_pos h) fun s h => if_neg h
  · exact occursIf_of (fun s => if s.ptpDriven b = true ∧ (s.base b).servo = .master ∧ (s.base b).announceAt ≤ s.tb0 then
      (s.setBase b { s.base b with announceAt := s.tb0 + logInterval (s.param .logAnnounce b) }).ptpSend b 1 (s.ownAnnounce b).gm else s)
      (fun _ => if_pos hb) (fun s h => if_pos h) fun s h => if_neg h
  · refine occurs_of (State.sendDelayReq b) (exec_ptpDelayReqSend hb) fun s h => ?_
    obtain ⟨hup, hdriven, hpeer⟩ := h
    have hp2p : (s.param .ptpDelay b == 1 || s.param .netMode 0 == 1) = true := by simpa using hpeer
    simp only [State.sendDelayReq, hup, hdriven, hp2p, Bool.true_or, Bool.and_true, if_true]
  · refine occurs_of (State.sendDelayReq b) (exec_ptpDelayReqSend hb) fun s h => ?_
    obtain ⟨hup, hdriven, hdelay, hmode, hmaster⟩ := h
    have hp2p : (s.param .ptpDelay b == 1 || s.param .netMode 0 == 1) = false := by simp [hdelay, hmode]
    simp only [State.sendDelayReq, hup, hdriven, hp2p, Option.isSome_iff_ne_none.mpr hmaster, Bool.or_true, Bool.and_true, if_true,
      Bool.false_eq_true, if_false]
  · exact occursIf_of _ (fun _ => rfl) (fun s h => if_pos h) fun s h => if_neg h
  · refine occursIf_of (fun s => if (s.base 3).rtcAt ≤ s.tb0 ∨ s.rtc.lost = true then s.rtcFrom3 else s) (fun _ => rfl) (fun s h => ?_) fun s h => ?_
    · obtain ⟨hdue, htb1, hhalt⟩ := h
      exact (if_pos hdue).trans (if_neg (by simp [htb1, hhalt]))
    · by_cases hdue : (s.base 3).rtcAt ≤ s.tb0 ∨ s.rtc.lost = true
      · refine (if_pos hdue).trans (if_pos ?_)
        by_contra hnot
        obtain ⟨htb1, hhalt⟩ := not_or.mp hnot
        exact h ⟨hdue, not_not.mp htb1, by simpa using hhalt⟩
      · exact if_neg hdue
end

section
/-! PROOFS. The commands of the CAN channels (15 R424 to R445). -/

namespace Sys2Proof.Machine

section
variable {s : State} {n b : Nat}

theorem State.canSof_of_sent (h : (s.canBuf n b).sof = true) : s.canSof n b = (true, s) := if_pos h

theorem State.canSof_of_idle (hsof : (s.canBuf n b).sof = false) (hbus : s.canOnBus n b = false) : s.canSof n b = (false, s) :=
  (if_neg (by simp [hsof])).trans (if_neg (by simp [hbus]))

end

end Sys2Proof.Machine

open Sys2Proof Sys2Proof.Machine

/-- Settles O47: each command by its action, behind the conditions at its boundary. -/
theorem canCommandsTakeEffect : Obligations.CanCommandsTakeEffect := by
  refine ⟨?_, ?_, ?_, ?_, ?_, ?_, ?_, ?_, ?_⟩
  · refine completesEitherWay_of (fun _ _ _ => rfl) rfl fun e s h => (if_pos ?_).trans ?_
    · obtain ⟨hretired, hnew, -⟩ := h
      exact firstOf_whenS_false (by simpa using hretired) (firstOf_whenS_false (by simp [hnew]) (firstOf_whenS_false (by simp [hnew]) rfl))
    · obtain ⟨-, hnew, hold⟩ := h
      simp only [hnew, hold, Nat.reduceBEq, Bool.false_and, Bool.false_eq_true, zero_ne_one, false_and, if_false, List.any_eq_true, bne_iff_ne, ite_not]
  · exact completesEitherWay_of (fun _ _ _ => rfl) rfl fun _ _ _ => rfl
  · refine completes_of (fun _ _ _ => rfl) fun e s h => (if_pos ?_).trans ?_
    · obtain ⟨hretired, howned, hmode, -⟩ := h
      exact firstOf_whenS_false (by simpa using hretired) (firstOf_whenS_false howned (firstOf_whenS_false (by simpa using hmode) rfl))
    · simp only [h.2.2.2]
  · refine completes_of (fun _ _ _ => rfl) fun e s h => (if_pos ?_).trans ?_
    · obtain ⟨howned, hframe, -⟩ := h
      exact firstOf_whenS_false howned (firstOf_whenS_false (by rw [Option.isNone_eq_false_iff, Option.isSome_iff_ne_none]; exact hframe) rfl)
    · obtain ⟨-, -, hsof, hbus⟩ := h
      simp only [State.canSof_of_idle hsof hbus, Bool.false_eq_true, if_false]
  · refine does_of (fun _ _ _ => rfl) fun e s h => ?_
    have hrun : specCanCancel.run e s = .later (s.setCanBuf e.cmd.tgtIndex (e.cmd.field 16 1) { s.canBuf e.cmd.tgtIndex (e.cmd.field 16 1) with
        withdraw := true, cmds := (s.canBuf e.cmd.tgtIndex (e.cmd.field 16 1)).cmds ++ [e] }) := by
      obtain ⟨howned, hframe, hsof⟩ := h
      refine (if_pos (firstOf_whenS_false howned (firstOf_whenS_false (by rw [Option.isNone_eq_false_iff, Option.isSome_iff_ne_none]; exact hframe) rfl))).trans ?_
      simp only [State.canSof_of_sent hsof, if_true]
    rw [hrun]
    rfl
  · exact completes_of (fun _ _ _ => rfl) fun e s h => (if_pos (by simp [whenS, h])).trans (congrArg Reply.ok (if_pos h))
  · exact reports_of (fun _ _ _ => rfl) fun _ _ _ => rfl
  · exact reports_of (fun _ _ _ => rfl) fun e s _ => by simp only [specCanStatus, b2n]
  · refine completes_of (fun _ _ _ => rfl) fun e s _ => congrArg Reply.ok ?_
    split <;> simp only [beq_iff_eq]
end

section
/-! PROOFS. The check units: their commands, self-tests and streams (16 R447 to R458). -/

namespace Sys2Proof.Machine

/-! ## A list of resources of which one acts -/

/-- A pass over resources that leave the state as it is. -/
theorem State.each_of_idle {f : Nat → State → State} {l : List Nat} {s : State} (h : ∀ v ∈ l, f v s = s) : s.each f l = s := by
  induction l with
  | nil => rfl
  | cons a l ih =>
    have hstep : s.each f (a :: l) = (f a s).each f l := rfl
    rw [hstep, h a (by simp), ih fun v hv => h v (by simp [hv])]

/-- A pass in which one resource acts, and the others leave both its state and the state it leaves. -/
theorem State.each_of_one {f : Nat → State → State} {l : List Nat} {s : State} {u : Nat} (hu : u ∈ l) (hnodup : l.Nodup)
    (hbefore : ∀ v ∈ l, v ≠ u → f v s = s) (hafter : ∀ v ∈ l, v ≠ u → f v (f u s) = f u s) : s.each f l = f u s := by
  induction l with
  | nil => exact absurd hu (by simp)
  | cons a l ih =>
    obtain ⟨ha, hl⟩ := List.nodup_cons.mp hnodup
    have hstep : s.each f (a :: l) = (f a s).each f l := rfl
    rw [hstep]
    by_cases hau : a = u
    · rw [hau] at ha ⊢
      exact State.each_of_idle fun v hv => hafter v (by simp [hv]) fun h => ha (h ▸ hv)
    · rw [hbefore a (by simp) hau]
      have hul : u ∈ l := (List.mem_cons.mp hu).resolve_left (Ne.symm hau)
      exact ih hul hl (fun v hv => hbefore v (by simp [hv])) fun v hv => hafter v (by simp [hv])

/-! ## What a stream at one unit leaves of the others -/

/-- From `s` to `u`, only unit `n` changed of the units, and no setting did. -/
def State.cuOnly (n : Nat) (s u : State) : Prop :=
  Tab.wf (fun _ => ({} : CuRun)) s.cus = true →
    Tab.wf (fun _ => ({} : CuRun)) u.cus = true ∧ u.cfg = s.cfg ∧ ∀ v, v ≠ n → u.cuOf v = s.cuOf v

section
variable {n : Nat} {s u v : State}

theorem State.cuOnly.refl : State.cuOnly n s s := fun h => ⟨h, rfl, fun _ _ => rfl⟩

theorem State.cuOnly.trans (hsu : State.cuOnly n s u) (huv : State.cuOnly n u v) : State.cuOnly n s v := by
  intro h
  obtain ⟨hwf, hcfg, hother⟩ := hsu h
  obtain ⟨hwf', hcfg', hother'⟩ := huv hwf
  exact ⟨hwf', hcfg'.trans hcfg, fun w hw => (hother' w hw).trans (hother w hw)⟩

theorem State.cuOnly.ite {p : Prop} [Decidable p] (hu : State.cuOnly n s u) (hv : State.cuOnly n s v) : State.cuOnly n s (if p then u else v) := by
  split
  · exact hu
  · exact hv

theorem State.cuOnly_setCu (x : CuRun) : State.cuOnly n s (s.setCu n x) := fun h =>
  ⟨Tab.wf_put n x h, rfl, fun _ hv => Tab.get_put_other (lo := 0) n _ x h hv⟩

theorem State.cuOnly_of_outward (h : Outward s u) : State.cuOnly n s u := fun hwf =>
  ⟨by rw [h.cus]; exact hwf, h.cfg, fun v _ => by simp only [State.cuOf, h.cus]⟩

theorem State.cuOnly_cuAliveFail (reason : Nat) : State.cuOnly n s (s.cuAliveFail n reason) := by
  unfold State.cuAliveFail
  exact (State.cuOnly_setCu _).trans (State.cuOnly_of_outward (outward_post ..))

theorem State.cuOnly_cuAlive (k : Nat) (bs : Bytes) : State.cuOnly n s (s.cuAlive n k bs) := by
  unfold State.cuAlive
  dsimp only
  split
  · exact .refl
  split
  · exact State.cuOnly_cuAliveFail _
  split
  · exact State.cuOnly_setCu _
  split
  · exact State.cuOnly_cuAliveFail _
  split
  · exact State.cuOnly_cuAliveFail _
  · exact State.cuOnly_setCu _

theorem State.cuOnly_cuMismatch (result : Nat) : State.cuOnly n s (s.cuMismatch n result) :=
  (State.cuOnly_setCu _).trans (State.cuOnly_of_outward (outward_postIf ..))

theorem State.cuOnly_cuEnd (k : Nat) (bs : Bytes) : State.cuOnly n s (s.cuEnd n k bs) := by
  unfold State.cuEnd
  dsimp only
  refine State.cuOnly.trans ?_ (State.cuOnly_cuAlive k bs)
  exact State.cuOnly.ite ((State.cuOnly_setCu _).trans (State.cuOnly_cuMismatch _)) (State.cuOnly_setCu _)

/-- A unit other than the one that took the stream snoops and serves as before. -/
theorem State.cuOnly.idle {w k sel : Nat} {sent : Bool} (h : State.cuOnly n s u) (hwf : Tab.wf (fun _ => ({} : CuRun)) s.cus = true)
    (hw : w ≠ n) (hidle : s.cuSnoops w k sel sent = false ∧ s.cuServes w k = false) :
    u.cuSnoops w k sel sent = false ∧ u.cuServes w k = false := by
  obtain ⟨-, hcfg, hother⟩ := h hwf
  obtain ⟨hsnoops, hserves⟩ := hidle
  refine ⟨?_, ?_⟩
  · rw [← hsnoops]
    simp only [State.cuSnoops, State.param, hcfg, hother w hw]
  · rw [← hserves]
    simp only [State.cuServes, State.cuRole, hother w hw]

end

/-- What the end of a stream does at unit `n`. -/
def State.cuStreamAt (k sel : Nat) (sent : Bool) (bs : Bytes) (busy : List Nat) (n : Nat) (s : State) : State :=
  if ¬ (s.cuSnoops n k sel sent || s.cuServes n k) then s
  else if busy.contains n then s.setCu n { s.cuOf n with missed := (s.cuOf n).missed + 1 }
  else if s.cuServes n k then s.cuServe n k sel bs
  else s.cuEnd n k bs

theorem exec_cuStreamEnd (t k sel : Nat) (sent : Bool) (bs : Bytes) (busy : List Nat) (s : State) :
    exec (.cuStreamEnd t k sel sent bs busy) s = .next ((s.advance t).each (State.cuStreamAt k sel sent bs busy) (List.range 8)) := rfl

section
variable {k sel n : Nat} {sent : Bool} {bs : Bytes} {busy : List Nat} {s : State}

theorem State.cuStreamAt_of_idle (h : s.cuSnoops n k sel sent = false ∧ s.cuServes n k = false) : s.cuStreamAt k sel sent bs busy n = s :=
  if_pos (by simp [h.1, h.2])

theorem State.cuStreamAt_of_snoops (hsnoops : s.cuSnoops n k sel sent = true) (hserves : s.cuServes n k = false) (hbusy : busy.contains n = false) :
    s.cuStreamAt k sel sent bs busy n = s.cuEnd n k bs :=
  (if_neg (by simp [hsnoops])).trans ((if_neg (Bool.eq_false_iff.mp hbusy)).trans (if_neg (Bool.eq_false_iff.mp hserves)))

end

/-- A stream at a unit that neither compares nor checks a counter: its CRC is taken, from the setting's start (16 R449). -/
theorem State.cuEnd_of_plain {s : State} {u k : Nat} {bs : Bytes} (hcmp : s.param .cuCmpMode u = 0) (hac : s.param .cuAcEn u = 0)
    (hloaded : (s.cuOf u).loaded = false) :
    s.cuEnd u k bs = s.setCu u { s.cuOf u with
      result := (s.cuSet u).finish ((s.cuSet u).run (s.cuSet u).init bs), streams := ((s.cuOf u).streams + 1) % 2 ^ 32,
      running := (s.cuSet u).run (s.cuSet u).init bs, loaded := false } := by
  simp only [State.cuEnd, hcmp, hloaded, zero_ne_one, OfNat.zero_ne_ofNat, Bool.false_eq_true, if_false, List.take_length]
  exact if_pos hac

end Sys2Proof.Machine

open Sys2Proof Sys2Proof.Machine

/-- Settles O49. -/
theorem crcUnitsTakeEffect : Obligations.CrcUnitsTakeEffect := by
  refine ⟨?_, ?_, ?_, ?_, ?_, fun t u hu => ?_, fun t u p hu => ?_, fun t u hu => ?_, fun t k sel sent bs busy s h => ?_,
    fun t k sel sent bs busy u hu hbusy s h => ?_, fun s u k bs hcmp hac hloaded => State.cuEnd_of_plain hcmp hac hloaded⟩
  · refine completes_of (fun _ _ _ => rfl) fun e s h => if_pos ?_
    exact firstOf_whenS_false (by simp [h.1]) (firstOf_whenS_false h.2 rfl)
  · refine does_of (fun _ _ _ => rfl) fun e s _ => ?_
    simp only [specCuReadValue, b2n, Nat.cast_ite, Nat.cast_one, Nat.cast_zero]
    rfl
  · refine completes_of (fun _ _ _ => rfl) fun e s h => if_pos ?_
    exact firstOf_whenS_false (by simp [h.1]) (firstOf_whenS_false h.2 rfl)
  · exact reports_of (fun _ _ _ => rfl) fun _ _ _ => rfl
  · exact completes_of (fun _ _ _ => rfl) fun _ _ _ => rfl
  · exact occursIf_on hu (fun s => s.cuTested u none) (fun _ => rfl) (fun _ h => if_neg (Bool.eq_false_iff.mp h)) fun s h => if_pos (by simpa using h)
  · exact occursIf_on hu (fun s => s.cuTested u (some p)) (fun _ => rfl) (fun _ h => if_neg (Bool.eq_false_iff.mp h)) fun s h =>
      if_pos (by simpa using h)
  · refine occursIf_on hu (fun s => if (s.cuOf u).retest = true ∧ (s.cuOf u).retestAt ≤ s.tb0 then s.cuTested u none else s) (fun _ => rfl)
      (fun s h => ?_) fun s h => ?_
    · obtain ⟨hretest, hdue, hretired⟩ := h
      exact (if_pos ⟨hretest, hdue⟩).trans (if_neg (Bool.eq_false_iff.mp hretired))
    · by_cases hdue : (s.cuOf u).retest = true ∧ (s.cuOf u).retestAt ≤ s.tb0
      · refine (if_pos hdue).trans (if_pos ?_)
        by_contra hnot
        exact h ⟨hdue.1, hdue.2, by simpa using hnot⟩
      · exact if_neg hdue
  · rw [exec_cuStreamEnd, State.each_of_idle fun v hv => State.cuStreamAt_of_idle (h v (List.mem_range.mp hv))]
  · obtain ⟨hwf, hsnoops, hserves, hothers⟩ := h
    have hact := State.cuStreamAt_of_snoops (bs := bs) hsnoops hserves hbusy
    rw [exec_cuStreamEnd, State.each_of_one (List.mem_range.mpr hu) List.nodup_range, hact]
    · exact fun v hv hvu => State.cuStreamAt_of_idle (hothers v (List.mem_range.mp hv) hvu)
    · intro v hv hvu
      rw [hact]
      exact State.cuStreamAt_of_idle ((State.cuOnly_cuEnd k bs).idle hwf hvu (hothers v (List.mem_range.mp hv) hvu))
end

section
/-! PROOFS. The clock: its commands and the accesses of the calendar window (17 R463 to R474). -/

namespace Sys2Proof.Machine

theorem mul_b2n (n : Nat) (b : Bool) : n * b2n b = if b then n else 0 := by
  cases b
  · rfl
  · exact Nat.mul_one n

/-- The fields of `VBK_STATUS` (R460). -/
theorem Rtc.vbkStatus_eq (r : Rtc) : r.vbkStatus =
    max r.capMv r.cellMv % 4096 + (if r.capMv < r.cellMv then 4096 else 0) + (if r.capMv < 3000 then 8192 else 0) := by
  simp only [Rtc.vbkStatus, Rtc.vbk, mul_b2n, decide_eq_true_eq]

/-- A release of the halt takes the registers as written, where they spell a date (R465). -/
theorem State.rtcRelease_of_ok {s : State} {a : Int} {r : CalRegs} (hhalt : s.rtc.halt = some (a, r)) (hok : r.ok = true) :
    s.rtcRelease = s.rtcAccept 0 r.ticks := by
  simp only [State.rtcRelease, hhalt, hok, if_true]

theorem State.rtcRelease_of_bad {s : State} {a : Int} {r : CalRegs} (hhalt : s.rtc.halt = some (a, r)) (hbad : r.ok = false) :
    s.rtcRelease = ({ s with rtc := { s.rtc with halt := none, badDate := true } } : State).post .management .eRtcBadDate rtcRes 0 := by
  simp only [State.rtcRelease, hhalt, hbad, Bool.false_eq_true, if_false]

/-- The row of a release, where `TRIM_EN` is written as it was. -/
theorem exec_rtcHaltRelease {t value : Nat} {s : State} (hvalue : bitOf value 0 = false) (hup : (s.advance t).windowUp = true)
    (htrim : bitOf value 3 = (s.advance t).rtc.trimEn) : exec (.rtcHaltRelease t value) s = .next (s.advance t).rtcRelease := by
  refine congrArg Host.Outcome.next ((if_neg (by simp [hvalue, hup])).trans ?_)
  rw [if_pos htrim]

end Sys2Proof.Machine

open Sys2Proof Sys2Proof.Machine

/-- Settles O50. -/
theorem clockCommandsTakeEffect : Obligations.ClockCommandsTakeEffect := by
  refine ⟨⟨?_, ?_, ?_, ?_, ?_, ?_, ?_⟩, fun t value hvalue s h => ?_, fun t value a r hvalue s h => ?_, fun t value a r hvalue s h => ?_,
    fun t s h => ?_, fun t a r s h => ?_, fun t s h => ?_, fun t n value hn hclear hedge hfilter => ?_, fun t n hn => ?_, fun t n hn => ?_⟩
  · refine reports_of (fun _ _ _ => rfl) fun e s _ => ?_
    cases hlost : s.rtc.lost <;> simp only [specRtcRead, hlost, b2n, Rtc.vbk] <;> rfl
  · exact completes_of (fun _ _ _ => rfl) fun _ _ _ => rfl
  · exact completes_of (fun _ _ _ => rfl) fun _ _ _ => rfl
  · exact completes_of (fun _ _ _ => rfl) fun _ _ _ => rfl
  · exact reports_of (fun _ _ _ => rfl) fun _ _ _ => rfl
  · exact completes_of (fun _ _ _ => rfl) fun _ _ _ => rfl
  · refine reports_of (fun _ _ _ => rfl) fun e s _ => ?_
    simp only [specRtcStatus, Rtc.vbkStatus_eq, b2n]
  · obtain ⟨hup, htrim, hhalt⟩ := h
    refine congrArg Host.Outcome.next ((if_neg (by simp [hvalue, hup])).trans ?_)
    rw [if_pos htrim]
    exact if_neg (by rw [hhalt]; simp)
  · obtain ⟨hup, htrim, hhalt, hok⟩ := h
    rw [exec_rtcHaltRelease hvalue hup htrim, State.rtcRelease_of_ok hhalt hok]
  · obtain ⟨hup, htrim, hhalt, hbad⟩ := h
    rw [exec_rtcHaltRelease hvalue hup htrim, State.rtcRelease_of_bad hhalt hbad]
  · obtain ⟨hup, hfrozen⟩ := h
    refine congrArg Host.Outcome.next ((if_neg (by simp [hup])).trans ?_)
    simp only [hfrozen, Option.isSome_none, Bool.false_eq_true, if_false]
  · obtain ⟨hup, hfrozen⟩ := h
    refine congrArg Host.Outcome.next ((if_neg (by simp [hup])).trans ?_)
    simp only [hfrozen]
  · obtain ⟨hup, hfrozen⟩ := h
    refine congrArg Host.Outcome.next ((if_neg (by simp [hup])).trans ?_)
    simp only [hfrozen]
  · intro s h
    refine (if_pos hn).trans (congrArg Host.Outcome.next ((if_neg (by simp [h, hclear])).trans ?_))
    simp only [if_neg hedge, if_neg hfilter]
  · intro s h
    refine (if_pos hn).trans (congrArg Host.Outcome.next ((if_neg (by simp [h])).trans ?_))
    simp only [Bool.false_eq_true, if_false]
  · intro s h
    refine (if_pos hn).trans (congrArg Host.Outcome.next ((if_neg (by simp [h])).trans ?_))
    simp only [if_true]
end

section
/-! PROOFS. The events of the backup domain (17 R462 to R471). -/

namespace Sys2Proof.Machine

/-- A counted edge of an event input while the management plane is up (R469). -/
theorem State.beEdge_of_hit {s : State} {n : Nat} {closed : Bool} (hlevel : (s.beOf n).level ≠ closed)
    (hhit : (if closed then bitOf (s.beOf n).edge 1 else bitOf (s.beOf n).edge 0) = true) (hup : s.power.mgmtUp = true) :
    s.beEdge n closed =
      (let b := s.beOf n
       let stamp := s.rtcTicks - (b.filter - 1)
       let c := min 65535 (b.count + 1)
       (s.setBe n { b with
         level := closed, count := c, last := stamp, first := (if b.count = 0 then stamp else b.first), invalid := b.invalid || s.rtc.lost,
         seen := c }).post .management .eRtcBeEdge (beRes n) (n * 2 ^ 24 + c)) := by
  refine (if_neg hlevel).trans ((if_neg (by simpa using hhit)).trans ?_)
  simp only [hup, if_true]
  rfl

/-- A loss of the calendar, the first since it was set, while the management plane is up (R471). -/
theorem State.rtcLose_of_set {s : State} {osc range : Bool} (hlost : s.rtc.lost = false) (hup : s.power.mgmtUp = true) :
    s.rtcLose osc range = rtcLostOf osc range s := by
  simp only [State.rtcLose, rtcLostOf, hlost, hup, Bool.not_false, Bool.true_and, if_true]
  rfl

theorem rtcCorrection_mem (temp offset : Int) : -20000 ≤ rtcCorrection temp offset ∧ rtcCorrection temp offset ≤ 20000 :=
  clampInt_mem (by decide) _

end Sys2Proof.Machine

open Sys2Proof Sys2Proof.Machine

/-- Settles O52. -/
theorem backupDomainEvents : Obligations.BackupDomainEvents := by
  refine ⟨fun t n closed hn => ?_, fun t n closed hn => ?_, fun t a r s h => ?_, fun t a r s h => ?_, fun t temp => ?_, rtcCorrection_mem,
    fun t dev => ?_, fun t dev => ?_, fun t => ?_, fun t => ?_, fun t => ?_⟩
  · refine occurs_on hn (fun s => s.beEdge n closed) (fun _ => rfl) fun s h => ?_
    obtain ⟨hlevel, hhit, hup⟩ := h
    exact State.beEdge_of_hit hlevel hhit hup
  · exact occurs_on hn (fun s => s.beEdge n closed) (fun _ => rfl) fun s h => if_pos h
  · obtain ⟨hhalt, hdue⟩ := h
    simp only [exec, execRtcHaltTimeout, hhalt, if_neg (not_lt.mpr hdue)]
  · obtain ⟨hfrozen, hdue⟩ := h
    simp only [exec, execFreezeTimeout, hfrozen, if_neg (not_lt.mpr hdue)]
  · exact occursIf_of (fun s => if s.rtc.trimEn = true then { s with rtc := { s.rtc with temp := temp, corr := rtcCorrection temp s.rtc.offset } } else s)
      (fun _ => rfl) (fun _ h => if_pos h) fun _ h => if_neg h
  · refine occurs_of (fun s => if ¬ s.power.mgmtUp then s else if dev.natAbs ≤ 200 then s.rtcOsc false
      else ((s.rtcOsc true).rtcLose true s.rtc.rangeEnd).post .management .fRtcOsc rtcRes (q24 0 (sat24 dev))) (fun _ => rfl) fun s h => ?_
    obtain ⟨hup, hdev, hlost⟩ := h
    refine (if_neg (not_not.mpr hup)).trans ((if_neg (by omega)).trans ?_)
    rw [State.rtcLose_of_set (s := s.rtcOsc true) hlost hup]
    rfl
  · refine occurs_of (fun s => if ¬ s.power.mgmtUp then s else if dev.natAbs ≤ 200 then s.rtcOsc false
      else ((s.rtcOsc true).rtcLose true s.rtc.rangeEnd).post .management .fRtcOsc rtcRes (q24 0 (sat24 dev))) (fun _ => rfl) fun s h => ?_
    exact (if_neg (not_not.mpr h.1)).trans (if_pos h.2)
  · refine occurs_of (fun s => (s.rtcOsc true).rtcLose true s.rtc.rangeEnd) (fun _ => rfl) fun s h => ?_
    exact State.rtcLose_of_set (s := s.rtcOsc true) h.1 h.2
  · refine occurs_of (fun s => if s.rtcTicks + 1 < rangeEndTicks then s else s.rtcLose s.rtc.oscFail true) (fun _ => rfl) fun s h => ?_
    exact (if_neg (not_lt.mpr h.2.2)).trans (State.rtcLose_of_set h.1 h.2.1)
  · exact occurs_of (fun s => s.rtcLose false false) (fun _ => rfl) fun s h => State.rtcLose_of_set h.1 h.2
end

section
/-! PROOFS. The commands of the recorder (18 R482 to R568). -/

open Sys2Proof Sys2Proof.Machine

/-- Settles O53: each command by its action; a clear that removes a record commits and is an event of its own. -/
theorem recorderCommandsTakeEffect : Obligations.RecorderCommandsTakeEffect := by
  refine ⟨?_, ?_, ?_, ?_, ?_, ?_, ?_, ?_, ?_⟩
  · exact does_of (fun _ _ _ => rfl) fun _ _ _ => rfl
  · exact does_of (fun _ _ _ => rfl) fun _ _ _ => rfl
  · exact does_of (fun _ _ _ => rfl) fun _ _ _ => rfl
  · exact completes_of (fun _ _ _ => rfl) fun _ _ _ => rfl
  · refine completes_of (fun _ _ _ => rfl) fun e s h => ?_
    obtain ⟨r, hr, hseq⟩ := h
    have hn : (s.recorder.store.history.filter (fun h => decide (h.recSeq ≤ e.cmd.field 16 6))).length ≠ 0 := by
      rw [ne_eq, List.length_eq_zero_iff]
      exact List.ne_nil_of_mem (List.mem_filter.mpr ⟨hr, by simpa using hseq⟩)
    simp only [specRecClear, ne_eq, hn, not_false_eq_true, true_or, if_true, if_false, Bool.and_eq_true]
  · exact completes_of (fun _ _ _ => rfl) fun _ _ _ => rfl
  · exact completes_of (fun _ _ _ => rfl) fun _ _ _ => rfl
  · exact reports_of (fun _ _ _ => rfl) fun _ _ _ => rfl
  · exact reports_of (fun _ _ _ => rfl) fun _ _ _ => rfl
end

section
/-! PROOFS. The commands of the update unit (19 R489 to R502). -/

open Sys2Proof Sys2Proof.Machine

/-- Settles O55: each command by its action, of an unpaired module without safety components where the statement says so. -/
theorem updateCommandsTakeEffect : Obligations.UpdateCommandsTakeEffect := by
  refine ⟨?_, ?_, ?_, ?_, ?_, ?_, ?_⟩
  · refine does_of (fun _ _ _ => rfl) fun e s h => ?_
    exact congrArg (fun u => s.finish e (.later u)) (if_neg h)
  · exact reports_of (fun _ _ _ => rfl) fun _ _ _ => rfl
  · exact completes_of (fun _ _ _ => rfl) fun _ _ _ => rfl
  · refine completes_of (fun _ _ _ => rfl) fun e s h => ?_
    obtain ⟨hsafety, hpair⟩ := h
    have hactive : s.pair.st ≠ .active := by simp [hpair]
    simp only [specUpdActivate, hsafety, List.foldl_nil]
    refine congrArg Reply.ok ((if_neg ?_).trans rfl)
    rw [(outward_post ..).pair]
    exact hactive
  · refine completes_of (fun _ _ _ => rfl) fun e s h => congrArg Reply.ok (if_neg ?_)
    have hactive : s.pair.st ≠ .active := by simp [h]
    rw [State.updCancel, (outward_post ..).pair]
    exact hactive
  · exact reports_of (fun _ _ _ => rfl) fun _ _ _ => rfl
  · exact completes_of (fun _ _ _ => rfl) fun _ _ _ => rfl
end

section
/-! PROOFS. The sessions of the service port and of the network (04 R111 to R117; 19 R489 to R492). -/

namespace Sys2Proof.Machine

@[simp] theorem State.post_disp (p : Plane) (c : Code) (src : Res) (n : Nat) (s : State) (d : Nat) : (s.post p c src n d).disp = s.disp := by
  cases p <;> rfl

@[simp] theorem State.txPut_disp (k : Nat) (i : TxItem) (s : State) : (s.txPut k i).disp = s.disp := by
  unfold State.txPut
  split <;> rfl

@[simp] theorem State.sendMgmt_disp (station mac : Nat) (m : Bytes) (s : State) : (s.sendMgmt station mac m).disp = s.disp :=
  (State.txPut_disp ..).trans (State.txPut_disp ..)

/-! ## Records of the service port -/

section
variable {s : State} {b body : Bytes}

/-- A record before the HELLO: a HELLO, or the end of the connection (19 R490). -/
theorem State.ivRecord_of_unknown (hup : s.power.mgmtUp = true) (hconnected : s.disp.ivpasto.connected = true)
    (hhello : s.disp.ivpasto.helloDone = false) : s.ivRecord b = if leNat (slice b 2 1) = 1 then s.hello b else s.closeIvpasto := by
  simp only [State.ivRecord, hup, hconnected, hhello, and_self, not_true_eq_false, if_false, Bool.false_eq_true, not_false_eq_true, if_true]

/-- A record after the HELLO that does not authenticate ends the connection. -/
theorem State.ivRecord_of_unauthentic {o : Bool} (h : ivReady s o) (hopen : s.ivOpen b = none) : s.ivRecord b = s.closeIvpasto := by
  obtain ⟨hup, hconnected, hhello, -⟩ := h
  simp only [State.ivRecord, hup, hconnected, hhello, hopen, and_self, not_true_eq_false, if_false]

/-- An authentic record before the session is open: a FINISH, or the end of the connection. -/
theorem State.ivRecord_of_closed (h : ivReady s false) (hopen : s.ivOpen b = some body) :
    s.ivRecord b = if leNat (slice b 2 1) = 3 ∧ body = [] then s.ivFinish else s.closeIvpasto := by
  obtain ⟨hup, hconnected, hhello, hisOpen⟩ := h
  simp only [State.ivRecord, hup, hconnected, hhello, hopen, hisOpen, and_self, not_true_eq_false, if_false, Bool.false_eq_true,
    not_false_eq_true, if_true]

/-- An authentic record of an open session is counted, and taken by its type. -/
theorem State.ivRecord_of_open (h : ivReady s true) (hopen : s.ivOpen b = some body) :
    s.ivRecord b = (if leNat (slice b 2 1) = 0x10 then (ivTook s).ivCommands body
      else if leNat (slice b 2 1) = 0x20 then (ivTook s).containerBytes body else (ivTook s).closeIvpasto) := by
  obtain ⟨hup, hconnected, hhello, hisOpen⟩ := h
  refine (if_neg (by simp [hup, hconnected])).trans ((if_neg (by simp [hhello])).trans ?_)
  simp only [hopen]
  exact (if_neg (by simp [hisOpen])).trans rfl

variable {x : Transfer}

theorem State.containerBytes_of_idle (h : s.upd.transfer = none) : s.containerBytes b = s := by
  simp only [State.containerBytes, h]

/-- Bytes short of the named length are kept. -/
theorem State.containerBytes_of_short (h : s.upd.transfer = some x) (hshort : x.got.length + b.length < x.length) :
    s.containerBytes b = { s with upd := { s.upd with transfer := some { x with got := x.got ++ b } } } := by
  have htake : b.take (x.length - x.got.length) = b := List.take_of_length_le (by omega)
  simp only [State.containerBytes, h, htake, List.length_append]
  exact if_neg (by omega)

/-- The last byte of the named length stages the container. -/
theorem State.containerBytes_of_last (h : s.upd.transfer = some x) (hopen : x.got.length < x.length) (hlast : x.length ≤ x.got.length + b.length) :
    s.containerBytes b = s.staged { x with got := x.got ++ b.take (x.length - x.got.length) } := by
  simp only [State.containerBytes, h, List.length_append, List.length_take]
  exact if_pos (by omega)

/-- The first HELLO that fails is answered (19 R491). -/
theorem State.hello_of_failed (hfail : s.helloOk b = false) (hreply : s.upd.helloReplyAt = 0) :
    s.hello b =
      (let u := s.post .management .eAuthFailed modRes 0xFFFFFFFF
       (({ u with upd := { u.upd with helloReplyAt := u.tb0 + 1 } } : State).send
        (.ivpasto (ivHeader 2 2 ++ beBytes 2 Status.sAuthFailed.code))).closeIvpasto) := by
  refine (if_neg (by simp [hfail])).trans (congrArg State.closeIvpasto (if_pos (Or.inl ?_)))
  rw [(outward_post ..).upd]
  exact hreply

/-- The session that a HELLO prepares. -/
theorem State.hello_of_ok (hok : s.helloOk b = true) : ∃ key keyOut, (s.hello b).disp.ivpasto = { s.disp.ivpasto with
    helloDone := true, roles := leNat (slice b 97 1) % 8, serial := leNat (slice b 93 4), key := key, keyOut := keyOut, inCounter := 0, outCounter := 0 } := by
  rw [State.hello, if_pos hok]
  exact ⟨_, _, rfl⟩

end

/-! ## Messages of the network -/

section
variable {s : State} {st mac : Nat} {b : Bytes} {r : List (Nat × Nat × Bytes)} {p : Nat → Bool} {f : Nat → Nat → Bytes → State → State}

/-- The oldest message is taken where its type is the row's. -/
theorem State.mgmtTake_of_first (hin : s.net.mgmtIn = (st, mac, b) :: r) (hup : s.power.mgmtUp = true) (htype : p (mgmtType b) = true) :
    s.mgmtTake p f = f st mac b (mgmtRest r s) := by
  simp only [State.mgmtTake, hin, hup, htype, Bool.and_self, if_true]
  rfl

theorem mgmtAccept_mgmtRest : (mgmtRest r s).mgmtAccept b = s.mgmtAccept b := rfl

variable {m : MgmtMsg} {x : OmnarSession} {key : Bytes}

/-- What an accepted message has passed (04 R113). -/
theorem State.mgmtAccept_some (h : s.mgmtAccept b = some (m, x)) : ∃ y, s.omnarOf m.session = some y ∧ parseMgmt b = some m
    ∧ y.fresh m.counter = true ∧ m.tag = gmacTag y.key (beBytes 4 m.session ++ beBytes 8 m.counter) m.head
    ∧ x.highest = max y.highest m.counter ∧ x.lastAt = s.tb0 := by
  unfold State.mgmtAccept at h
  split at h
  · simp at h
  next m' hparse =>
    split at h
    · simp at h
    next y hsession =>
      split at h
      next hok =>
        obtain ⟨rfl, rfl⟩ := Prod.mk.inj (Option.some.inj h)
        exact ⟨y, hsession, hparse, hok.2, hok.1, rfl, rfl⟩
      · simp at h

theorem mgmtType_eq (h : parseMgmt b = some m) : mgmtType b = m.type := by
  simp only [mgmtType, h]

/-- An open request with a valid tag opens a session where fewer than 8 are open (04 R113). -/
theorem State.mgmtOpen_of_valid (hkey : s.cred.stationKey = some key) (hparse : parseMgmt b = some m) (hsession : m.session = 0)
    (hlen : m.body.length = 16) (htag : m.tag = gmacTag key (m.body.take 12) m.head) :
    s.mgmtOpen st mac b = if 8 ≤ s.disp.omnar.length then s.openRefused st mac .sSessionLimit else s.openOmnar st mac key m.body := by
  simp only [State.mgmtOpen, hkey, hparse]
  exact if_pos ⟨hsession, hlen, htag⟩

theorem State.mgmtOpen_of_unkeyed (hkey : s.cred.stationKey = none) : s.mgmtOpen st mac b = s.refuseOpen st mac .sNoCredentials := by
  simp only [State.mgmtOpen, hkey]

theorem State.mgmtCommands_of_refused (h : s.mgmtAccept b = none) : s.mgmtCommands st mac b = s.authFailed st := by
  simp only [State.mgmtCommands, h]

theorem State.mgmtCommands_of_accepted (h : s.mgmtAccept b = some (m, x)) (htype : m.type = 1) : s.mgmtCommands st mac b =
    (parseEntries (.omnar x.id) (min 16 m.count) m.body).foldl (fun s e => s.mgmtEntry x e) (s.setOmnar x) := by
  simp only [State.mgmtCommands, h, htype, if_true]

theorem State.mgmtClose_of_refused (h : s.mgmtAccept b = none) : s.mgmtClose st mac b = s.authFailed st := by
  simp only [State.mgmtClose, h]

theorem State.mgmtClose_of_accepted (h : s.mgmtAccept b = some (m, x)) : s.mgmtClose st mac b = (s.setOmnar x).closeOmnar m.session := by
  simp only [State.mgmtClose, h]

/-- The first refusal of an open request of a station is answered (04 R114). -/
theorem State.refuseOpen_of_first {status : Status} (h : Tab.get (fun _ => 0) s.disp.authReplyAt st = 0) :
    s.refuseOpen st mac status =
      (let u := s.authFailed st
       ({ u with disp := { u.disp with authReplyAt := Tab.put (fun _ => 0) u.disp.authReplyAt st (u.tb0 + 1) } } : State).openRefused st mac
         status) := by
  refine if_pos (Or.inl ?_)
  rw [State.authFailed, State.post_disp]
  exact h

/-- A refusal within a second of the last answer is counted alone. -/
theorem State.refuseOpen_of_recent {status : Status} (h : Tab.get (fun _ => 0) s.disp.authReplyAt st ≠ 0)
    (hrecent : s.tb0 + 1 < Tab.get (fun _ => 0) s.disp.authReplyAt st + 1000000000) : s.refuseOpen st mac status = s.authFailed st := by
  refine if_neg ?_
  rw [State.authFailed, State.post_disp, (outward_post ..).tb0]
  omega

/-- The session that an open request adds (04 R113). -/
theorem State.openOmnar_omnar (nc : Bytes) : (s.openOmnar st mac key nc).disp.omnar = s.disp.omnar ++ [{
    id := s.disp.nextSession, station := st, mac := mac, lastAt := s.tb0,
    key := (Config.ctrKeystream key (nc.take 8 ++ leBytes 8 s.drawn.toNat)).take 32 }] := by
  have htake : (leBytes 8 s.drawn.toNat ++ leBytes 8 s.afterDraw.drawn.toNat).take 8 = leBytes 8 s.drawn.toNat := by
    rw [List.take_append_of_le_length (by simp), List.take_of_length_le (by simp)]
  simp only [State.openOmnar, State.openReply, State.sendMgmt_disp, State.post_disp, htake]
  rfl

end

/-- What a fresh counter is (04 R113). -/
theorem OmnarSession.fresh_iff (x : OmnarSession) (n : Nat) :
    x.fresh n = true ↔ n < 2 ^ 63 ∧ (x.highest < n ∨ (x.highest < n + 65 ∧ n ∉ x.seen) ∧ n ≠ x.highest) := by
  simp [OmnarSession.fresh]

end Sys2Proof.Machine

open Sys2Proof Sys2Proof.Machine

/-- Settles O57: the records by what the session has reached, the messages by the row that takes them. -/
theorem sessionsAreAuthenticated : Obligations.SessionsAreAuthenticated := by
  refine ⟨⟨fun t ip => ?_, fun t b hty => ?_, fun t b hty => ?_, fun s b => State.hello_of_failed, fun s b v hok hv => ?_, fun t b hty => ?_, fun t b => ?_,
    fun t b body hty => ?_, fun t b => ?_, fun t b body hty => ⟨?_, fun x => ?_, fun x => ?_⟩, fun t b body hcmd hcont => ?_, fun t => ?_,
    fun t => ?_, fun t => ?_⟩,
    fun t st mac b r hty => ⟨?_, ?_⟩, fun t st mac b r key m hty hparse hsession hlen htag => ⟨?_, ?_⟩, fun s st mac key nc => State.openOmnar_omnar nc,
    fun t st mac b r hopen hclose => ?_, fun t st mac b r m x hty => ?_, fun t st mac b r m x hty => ?_, fun t st mac b r hty => ?_,
    fun t id x s h => ?_, fun t id x s h => ?_, fun s b m x => State.mgmtAccept_some, fun x n h => ?_⟩
  · refine occursIf_of (fun s => if s.power.mgmtUp = true ∧ ip = s.upd.ip ∧ ¬ s.disp.ivpasto.connected = true then
      s.setIv { s.disp.ivpasto with connected := true } else s) (fun _ => rfl) (fun s h => if_pos (by simpa using h)) fun s h => if_neg (by simpa using h)
  · exact occurs_of (fun s => s.ivRecord b) (fun _ => rfl) fun s h => (State.ivRecord_of_unknown h.1 h.2.1 h.2.2).trans (if_pos hty)
  · exact occurs_of (fun s => s.ivRecord b) (fun _ => rfl) fun s h => (State.ivRecord_of_unknown h.1 h.2.1 h.2.2).trans (if_neg hty)
  · obtain ⟨key, keyOut, hsession⟩ := State.hello_of_ok hok
    rw [hv, hsession]
    exact ⟨rfl, rfl, rfl, rfl, rfl, rfl⟩
  · refine occurs_of (fun s => s.ivRecord b) (fun _ => rfl) fun s h => ?_
    obtain ⟨hup, hconnected, hhello, hisOpen, hopen⟩ := h
    exact (State.ivRecord_of_closed ⟨hup, hconnected, hhello, hisOpen⟩ hopen).trans (if_pos ⟨hty, rfl⟩)
  · exact occurs_of (fun s => s.ivRecord b) (fun _ => rfl) fun s h => State.ivRecord_of_unauthentic h.1 h.2
  · exact occurs_of (fun s => s.ivRecord b) (fun _ => rfl) fun s h => (State.ivRecord_of_open h.1 h.2).trans (if_pos hty)
  · exact occurs_of (fun s => s.ivRecord b) (fun _ => rfl) fun s h => State.ivRecord_of_unauthentic h.1 h.2
  · refine occurs_of (fun s => s.ivRecord b) (fun _ => rfl) fun s h => ?_
    obtain ⟨hready, hopen, htransfer⟩ := h
    rw [State.ivRecord_of_open hready hopen, if_neg (by omega), if_pos hty]
    exact State.containerBytes_of_idle htransfer
  · refine occurs_of (fun s => s.ivRecord b) (fun _ => rfl) fun s h => ?_
    obtain ⟨hready, hopen, htransfer, hshort⟩ := h
    rw [State.ivRecord_of_open hready hopen, if_neg (by omega), if_pos hty]
    exact State.containerBytes_of_short (s := ivTook s) htransfer hshort
  · refine occurs_of (fun s => s.ivRecord b) (fun _ => rfl) fun s h => ?_
    obtain ⟨hready, hopen, htransfer, hpart, hlast⟩ := h
    rw [State.ivRecord_of_open hready hopen, if_neg (by omega), if_pos hty]
    exact State.containerBytes_of_last htransfer hpart hlast
  · refine occurs_of (fun s => s.ivRecord b) (fun _ => rfl) fun s h => ?_
    rw [State.ivRecord_of_open h.1 h.2, if_neg hcmd, if_neg hcont]
  · exact occursIf_of (fun s => if s.disp.ivpasto.isOpen = true ∧ s.disp.ivpasto.lastAt + s.param .svcIdle 0 * 1000000000 ≤ s.tb0 then
      s.closeIvpasto else s) (fun _ => rfl) (fun _ h => if_pos h) fun _ h => if_neg h
  · exact occurs_of State.closeIvpasto (fun _ => rfl) fun s h => if_neg (Bool.eq_false_iff.mp h)
  · exact occurs_of State.closeIvpasto (fun _ => rfl) fun s h => if_pos h
  · refine occurs_of (fun s => s.mgmtTake (· == 4) State.mgmtOpen) (fun _ => rfl) fun s h => ?_
    obtain ⟨hin, hup, hkey, hreply⟩ := h
    rw [State.mgmtTake_of_first hin hup (by simp [hty]), State.mgmtOpen_of_unkeyed (s := mgmtRest r s) hkey]
    exact State.refuseOpen_of_first hreply
  · refine occurs_of (fun s => s.mgmtTake (· == 4) State.mgmtOpen) (fun _ => rfl) fun s h => ?_
    obtain ⟨hin, hup, hkey, hreply, hrecent⟩ := h
    rw [State.mgmtTake_of_first hin hup (by simp [hty]), State.mgmtOpen_of_unkeyed (s := mgmtRest r s) hkey]
    exact State.refuseOpen_of_recent hreply hrecent
  · refine occurs_of (fun s => s.mgmtTake (· == 4) State.mgmtOpen) (fun _ => rfl) fun s h => ?_
    obtain ⟨hin, hup, hkey, hroom⟩ := h
    rw [State.mgmtTake_of_first hin hup (by simp [hty]), State.mgmtOpen_of_valid (s := mgmtRest r s) hkey hparse hsession hlen htag]
    exact if_neg (not_le.mpr hroom)
  · refine occurs_of (fun s => s.mgmtTake (· == 4) State.mgmtOpen) (fun _ => rfl) fun s h => ?_
    obtain ⟨hin, hup, hkey, hfull⟩ := h
    rw [State.mgmtTake_of_first hin hup (by simp [hty]), State.mgmtOpen_of_valid (s := mgmtRest r s) hkey hparse hsession hlen htag]
    exact if_pos hfull
  · refine occurs_of (fun s => s.mgmtTake (fun k => k != 4 && k != 6) State.mgmtCommands) (fun _ => rfl) fun s h => ?_
    obtain ⟨hin, hup, haccept⟩ := h
    rw [State.mgmtTake_of_first hin hup (by simp [hopen, hclose])]
    exact State.mgmtCommands_of_refused haccept
  · refine occurs_of (fun s => s.mgmtTake (fun k => k != 4 && k != 6) State.mgmtCommands) (fun _ => rfl) fun s h => ?_
    obtain ⟨hin, hup, haccept⟩ := h
    obtain ⟨-, -, hparse, -⟩ := State.mgmtAccept_some haccept
    rw [State.mgmtTake_of_first hin hup (by simp [hty])]
    exact State.mgmtCommands_of_accepted haccept ((mgmtType_eq hparse).symm.trans hty)
  · refine occurs_of (fun s => s.mgmtTake (· == 6) State.mgmtClose) (fun _ => rfl) fun s h => ?_
    obtain ⟨hin, hup, haccept⟩ := h
    rw [State.mgmtTake_of_first hin hup (by simp [hty])]
    exact State.mgmtClose_of_accepted haccept
  · refine occurs_of (fun s => s.mgmtTake (· == 6) State.mgmtClose) (fun _ => rfl) fun s h => ?_
    obtain ⟨hin, hup, haccept⟩ := h
    rw [State.mgmtTake_of_first hin hup (by simp [hty])]
    exact State.mgmtClose_of_refused haccept
  · simp only [exec, execMgmtSessionIdle, h.1, if_pos h.2]
  · simp only [exec, execMgmtSessionIdle, h.1, if_neg (not_le.mpr h.2)]
  · obtain ⟨hclient, hnew⟩ := (x.fresh_iff n).mp h
    exact ⟨hclient, hnew.imp_right fun ⟨⟨hnear, hseen⟩, hne⟩ => ⟨hnear, hne, hseen⟩⟩
end

section
/-! PROOFS. The local panel: its commands and its rows (20 R504 to R518). -/

namespace Sys2Proof.Machine

/-- The first frame of an LCD, where no full clear was asked for (R505). -/
theorem State.panelFirst_of_lcd {s : State} (hup : s.power.mgmtUp = true) (hpen : s.panel.pen = true) (hon : s.panel.on = false)
    (hdue : s.panel.penAt + 50000000 ≤ s.tb0) (hkind : s.param .pnlKind 0 = 1) (hclear : s.panel.clearing = none) :
    s.panelFirst =
      ({ s with panel := { s.panel with on := true, strip := some s.stripNow, lastUpdate := s.tb0, waiting := [] } } : State).lcdFrame := by
  refine (if_neg (by simp [hup, hpen, hon, hdue])).trans ((if_pos hkind).trans ?_)
  have hdone : ({ s with panel := { s.panel with on := true, strip := some s.stripNow, lastUpdate := s.tb0 } } : State).clearDone
      = { s with panel := { s.panel with on := true, strip := some s.stripNow, lastUpdate := s.tb0 } } := by
    simp only [State.clearDone, hclear]
  rw [hdone]

/-- The strip stays as it was drawn while what it shows is the same (R514). -/
theorem State.stripRedraw_of_same {s : State} (h : s.panel.strip = some s.stripNow) : s.stripRedraw = s := if_pos h

/-- A frame of a running panel whose strip is drawn (R509, R511). -/
theorem State.panelFrame_of_drawn {s : State} {temp : Int} (hup : s.power.mgmtUp = true) (hon : s.panel.on = true) (hpen : s.panel.pen = true)
    (hphase : s.power.phase = .running) (hstrip : s.panel.strip = some s.stripNow) :
    s.panelFrame temp = if s.pnlKind = 1 then s.lcdFrame else s.paperFrame temp := by
  refine (if_neg (by simp [hup, hon, hpen, hphase])).trans ?_
  rw [State.stripRedraw_of_same hstrip]

/-- Low-power mode begins; nothing is redrawn for it (R515). -/
theorem State.panelLow_of_high {s : State} (h : s.panel.low = false) :
    s.panelLow true = (({ s with panel := { s.panel with low := true } } : State).post .management .ePanelLowPower panelRes 1).panelTouch :=
  (if_neg (by simp [h])).trans rfl

end Sys2Proof.Machine

open Sys2Proof Sys2Proof.Machine

/-- Settles O58: the commands by their actions, the rows by what the panel is doing. -/
theorem panelTakesEffect : Obligations.PanelTakesEffect := by
  refine ⟨⟨?_, ?_, ?_, fun r => ?_, ?_, ?_, ?_, ?_, ?_, ?_⟩, fun t => ?_, fun t => ?_, fun t temp => ?_, fun t temp => ?_, fun t i w hi => ?_,
    fun t w => ?_, fun t i => ?_, fun t => ?_, fun t => ?_⟩
  · exact completes_of (fun _ _ _ => rfl) fun _ _ _ => rfl
  · exact completes_of (fun _ _ _ => rfl) fun _ _ _ => rfl
  · exact does_of (fun _ _ _ => rfl) fun _ _ _ => rfl
  · refine completes_of (fun _ _ _ => rfl) fun e s h => ?_
    simp only [specPanelPatch, h]
    rfl
  · exact completes_of (fun _ _ _ => rfl) fun e s h => if_neg h
  · exact does_of (fun _ _ _ => rfl) fun e s h => congrArg (s.finish e) (if_pos h)
  · exact completes_of (fun _ _ _ => rfl) fun _ _ _ => rfl
  · refine completes_of (fun _ _ _ => rfl) fun e s h => if_neg ?_
    rintro ⟨hkind, hon⟩
    obtain hother | hoff := h
    · exact hother hkind
    · exact Bool.eq_false_iff.mp hoff hon
  · exact does_of (fun _ _ _ => rfl) fun e s h => congrArg (s.finish e) (if_pos h)
  · exact reports_of (fun _ _ _ => rfl) fun _ _ _ => rfl
  · refine occurs_of State.panelFirst (fun _ => rfl) fun s h => ?_
    obtain ⟨hup, hpen, hon, hdue, hkind, hclear⟩ := h
    exact State.panelFirst_of_lcd hup hpen hon hdue hkind hclear
  · exact occurs_of State.panelFirst (fun _ => rfl) fun s h => if_pos (Or.inr (Or.inr h))
  · refine occurs_of (State.panelFrame temp) (fun _ => rfl) fun s h => ?_
    obtain ⟨hup, hon, hpen, hphase, hstrip, hkind⟩ := h
    exact (State.panelFrame_of_drawn hup hon hpen hphase hstrip).trans (if_pos hkind)
  · refine occurs_of (State.panelFrame temp) (fun _ => rfl) fun s h => ?_
    obtain ⟨hup, hon, hpen, hphase, hstrip, hkind⟩ := h
    exact (State.panelFrame_of_drawn hup hon hpen hphase hstrip).trans (if_neg (by rw [State.pnlKind, hkind]; decide))
  · refine occurs_of (State.waveEnd i) (fun _ => rfl) fun s h => ?_
    simp only [State.waveEnd, h]
    exact if_neg hi
  · refine occurs_of (State.waveEnd 33) (fun _ => rfl) fun s h => ?_
    simp only [State.waveEnd, h]
    rfl
  · refine occurs_of (State.waveEnd i) (fun _ => rfl) fun s h => ?_
    simp only [State.waveEnd, h]
  · refine occurs_of State.panelIdle (fun _ => rfl) fun s h => ?_
    obtain ⟨hon, hidle, hdue, hlow⟩ := h
    exact (if_pos ⟨hon, hidle, hdue⟩).trans (State.panelLow_of_high hlow)
  · refine occurs_of State.panelIdle (fun _ => rfl) fun s h => if_neg ?_
    rintro ⟨hon, hidle, hdue⟩
    obtain hoff | hnever | hearly := h
    · exact Bool.eq_false_iff.mp hoff hon
    · exact hidle hnever
    · exact absurd hdue (not_le.mpr hearly)
end

section
/-! PROOFS. Reinstatement and the commands of the fault manager (21 R527 to R533). -/

namespace Sys2Proof.Machine

/-- A reinstatement of a RETIRED resource that is not under test begins its self-test (21 R527). -/
theorem fltReinstate_run {e : Entry} {s : State} {k : FaultKey} (hkey : reinstKey e.cmd = some k) (hidle : s.reinstating k = false)
    (hretired : s.isRetired k = true) (hlog : s.reinstSafety k = true → s.logFull = false) :
    specFltReinstate.run e s = .later { s with faults := { s.faults with testing := s.faults.testing ++ [{ key := k, entry := e }] } } := by
  refine (if_pos (firstOf_whenS_false ?_ (firstOf_whenS_false ?_ (firstOf_whenS_false ?_ rfl)))).trans ?_
  · simpa only [withKey, hkey] using hidle
  · simp only [withKey, hkey, hretired, Bool.not_true]
  · simp only [withKey, hkey]
    cases hsafety : s.reinstSafety k
    · rfl
    · exact hlog hsafety
  · simp only [hkey]

section
variable {u v : State} {k : FaultKey} {x : Reinstating}

/-- The end of a self-test of a resource outside the safety functions, with and without success (21 R527). -/
theorem State.reinstateEnd_of_tested (hfind : u.faults.testing.find? (fun y => y.key == k) = some x) (hfailed : x.failed = false)
    (hsafety : u.reinstSafety k = false)
    (hv : v = { u with faults := { u.faults with testing := u.faults.testing.filter (fun y => y.key != k) } }) (ok : Bool) :
    u.reinstateEnd k ok =
      (let src : Res := { cls := x.entry.cmd.tgtClass, index := x.entry.cmd.tgtIndex, sub := x.entry.cmd.tgtSub }
       if ok then
        (((({ v with faults := { v.faults with store := {
            retired := v.faults.store.retired.filter (fun r => r.key != k), hist := v.faults.store.hist.filter (fun h => h.key != k) } } } :
              State).commitRetire).reinstated k).post .management .eFltReinstated src (fltQ k)).complete x.entry .sOk 0 []
       else (v.post .management .fReinstateFailed src (fltQ k)).complete x.entry .sState 0 []) := by
  have hsafety' : v.reinstSafety k = false := by
    rw [← hsafety, hv]
    rfl
  simp only [State.reinstateEnd, hfind, ← hv, hfailed, hsafety', Bool.not_false, Bool.false_and, Bool.and_true, Bool.false_eq_true, if_false]
  cases ok <;> simp only [Bool.false_eq_true, if_true, if_false]

end

end Sys2Proof.Machine

open Sys2Proof Sys2Proof.Machine

/-- Settles O59. -/
theorem faultCommandsTakeEffect : Obligations.FaultCommandsTakeEffect := by
  refine ⟨⟨fun k => ?_, fun k => ?_, ?_, ?_⟩, fun t cls index sub ok => ?_, fun t k x s u v w hu hfind hfailed hsafety hv hw => ⟨?_, ?_⟩⟩
  · refine does_of (fun _ _ _ => rfl) fun e s h => ?_
    obtain ⟨hkey, -, hidle, hretired, hlog⟩ := h
    rw [fltReinstate_run hkey hidle hretired hlog]
    rfl
  · refine appliesAs_of rfl fun e s h => ?_
    obtain ⟨hkey, hidle, hretired, hlog⟩ := h
    rw [fltReinstate_run hkey hidle hretired hlog]
    rfl
  · exact completes_of (fun _ _ _ => rfl) fun _ _ _ => rfl
  · exact reports_of (fun _ _ _ => rfl) fun _ _ _ => rfl
  · refine occurs_of (fun s => s.reinstateEnd { cls := cls, index := index, sub := sub } ok) (fun _ => rfl) fun s h => ?_
    simp only [State.reinstateEnd, h]
  · rw [hw]
    have hexec : exec (.reinstateSelftestEnd t k.cls k.index k.sub true) s = .next (u.reinstateEnd k true) := by rw [hu]; rfl
    rw [hexec, State.reinstateEnd_of_tested hfind hfailed hsafety hv true]
    rfl
  · have hexec : exec (.reinstateSelftestEnd t k.cls k.index k.sub false) s = .next (u.reinstateEnd k false) := by rw [hu]; rfl
    rw [hexec, State.reinstateEnd_of_tested hfind hfailed hsafety hv false]
    rfl
end

section
/-! PROOFS. The fault manager's decisions and the errors of the memories (21 R520 to R525). -/

namespace Sys2Proof.Machine

/-! ## Histories -/

/-- The last 15 of a list that gained `n` instants end with the last of them (R521). -/
theorem getLast?_drop_replicate {n t : Nat} (hn : n ≠ 0) (old : List Nat) :
    ((old ++ List.replicate n t).drop ((old ++ List.replicate n t).length - 15)).getLast? = some t := by
  have hlen : (old ++ List.replicate n t).length = old.length + n := by simp
  rw [List.getLast?_drop, if_neg (by omega), List.getLast?_append, List.getLast?_replicate, if_neg hn]
  rfl

/-- A resource's entry, put behind those of the others, is found. -/
theorem find?_filter_append {k : FaultKey} (l : List History) {h : History} (hk : h.key = k) :
    (l.filter (fun h => h.key != k) ++ [h]).find? (fun h => h.key == k) = some h := by
  have hnone : (l.filter (fun h => h.key != k)).find? (fun h => h.key == k) = none := by
    refine List.find?_eq_none.mpr fun x hx => ?_
    simpa using (List.mem_filter.mp hx).2
  rw [List.find?_append, hnone, Option.none_or, List.find?_cons_of_pos (by simp [hk])]

theorem historyWith_find? (k : FaultKey) {n : Nat} (t : Nat) (l : List History) (hn : n ≠ 0) :
    ∃ h, (historyWith k n t l).find? (fun h => h.key == k) = some h ∧ h.times.length ≤ 15 ∧ h.times.getLast? = some t := by
  refine ⟨_, find?_filter_append l rfl, ?_, getLast?_drop_replicate hn _⟩
  rw [List.length_drop]
  omega

/-! ## Decisions -/

section
variable {s : State} {k : FaultKey} {e : Event}

/-- The manager takes the oldest event that does not wait (R522). -/
theorem State.faultManager_of_event (hup : s.power.mgmtUp = true) (hfind : s.faults.inbox.find? (fun e => !(s.faultWaits e)) = some e)
    (hkey : faultKeyOf e = some k) :
    s.faultManager = ({ s with faults := { s.faults with inbox := s.faults.inbox.erase e } } : State).faultDecide k e := by
  simp only [State.faultManager, hup, hfind, hkey, not_true_eq_false, if_false]

/-- An event that tells of no new fault (R522). -/
theorem State.faultDecide_of_none (h : s.newFaults k e = 0) :
    s.faultDecide k e = { s with faults := { s.faults with seen := assocSet k (e.detail % 256) s.faults.seen } } := if_pos h

/-- The fault instants that are kept of a resource. -/
def State.timesOf (k : FaultKey) (s : State) : List Nat :=
  match s.faults.store.hist.find? (fun h => h.key == k) with | some h => h.times | none => []

/-- What the manager does with a resource in the state that has counted its new faults. -/
def State.judgeFaults (k : FaultKey) (code : Nat) (s : State) : State :=
  if k.cls = 3 ∨ s.isRetired k ∨ s.retirePosted k ∨ nWithin (s.param .fltN k.cls) (s.param .fltW k.cls * 1000000000) (s.timesOf k) = false then s
  else match s.retireOwner k with
    | some o => s.postMail { owner := o, body := .retire { cls := k.cls, index := k.index, sub := k.sub } code }
    | none => s.retire k code

/-- New faults are counted and committed before the decision (R520 to R522). -/
theorem State.faultDecide_of_some (hn : s.newFaults k e ≠ 0) :
    s.faultDecide k e = ({ s with faults := { s.faults with
      seen := assocSet k (e.detail % 256) s.faults.seen,
      store := { s.faults.store with hist := historyWith k (s.newFaults k e) (s.faults.base + e.time) s.faults.store.hist } } } :
        State).commitRetire.judgeFaults k e.code.num := if_neg hn

variable {h : History} {code : Nat}

theorem State.timesOf_of_find (hfind : s.faults.store.hist.find? (fun h => h.key == k) = some h) : s.timesOf k = h.times := by
  simp only [State.timesOf, hfind]

/-- Fewer faults than the policy's number within its time change nothing. -/
theorem State.judgeFaults_of_few (hfew : nWithin (s.param .fltN k.cls) (s.param .fltW k.cls * 1000000000) (s.timesOf k) = false) :
    s.judgeFaults k code = s := if_pos (Or.inr (Or.inr (Or.inr hfew)))

/-- The policy's number of faults within its time retires the resource, at its owner's boundary where it has one. -/
theorem State.judgeFaults_of_many (hcls : k.cls ≠ 3) (hretired : s.isRetired k = false) (hposted : s.retirePosted k = false)
    (hmany : nWithin (s.param .fltN k.cls) (s.param .fltW k.cls * 1000000000) (s.timesOf k) = true) :
    s.judgeFaults k code = (match s.retireOwner k with
      | some o => s.postMail { owner := o, body := .retire { cls := k.cls, index := k.index, sub := k.sub } code }
      | none => s.retire k code) := if_neg (by simp [hcls, hretired, hposted, hmany])

theorem State.judgeFaults_of_owner {o : Owner} (hcls : k.cls ≠ 3) (hretired : s.isRetired k = false) (hposted : s.retirePosted k = false)
    (hmany : nWithin (s.param .fltN k.cls) (s.param .fltW k.cls * 1000000000) (s.timesOf k) = true) (howner : s.retireOwner k = some o) :
    s.judgeFaults k code = s.postMail { owner := o, body := .retire { cls := k.cls, index := k.index, sub := k.sub } code } := by
  rw [State.judgeFaults_of_many hcls hretired hposted hmany, howner]

theorem State.judgeFaults_of_unowned (hcls : k.cls ≠ 3) (hretired : s.isRetired k = false) (hposted : s.retirePosted k = false)
    (hmany : nWithin (s.param .fltN k.cls) (s.param .fltW k.cls * 1000000000) (s.timesOf k) = true) (howner : s.retireOwner k = none) :
    s.judgeFaults k code = s.retire k code := by
  rw [State.judgeFaults_of_many hcls hretired hposted hmany, howner]

end

/-! ## Memory errors -/

section
variable {s : State} {b : Nat}

theorem State.marchEnd_of_idle {ok : Bool} (h : ∀ x ∈ s.faults.march, x.1 ≠ b) : s.marchEnd b ok = s := by
  refine if_pos ?_
  rw [List.isEmpty_iff, List.filter_eq_nil_iff]
  simpa using h

/-- A march test that fails is a further fault of its bank. -/
theorem State.marchEnd_of_failed {x : Nat × Nat × MemUser} (hx : x ∈ s.faults.march) (hb : x.1 = b) :
    s.marchEnd b false = s.fault (memPlane b) .fMemEcc (memRes b) (fltQ (memKey b)) (memKey b) := by
  refine (if_neg ?_).trans (if_pos (by simp))
  rw [List.isEmpty_iff, List.filter_eq_nil_iff]
  exact fun h => h x hx (by simpa using hb)

/-- The march test of a bank of the tasks' store, passed, rewrites the line (R525). -/
theorem State.marchEnd_of_store {line : Nat} {user : MemUser} (hb : b < 8) (h : s.faults.march = [(b, line, user)]) :
    s.marchEnd b true = ({ s with faults := { s.faults with march := [] } } : State).rewriteStore (b * 0x80000 + 64 * line) 64 := by
  simp [State.marchEnd, h, hb]

end

end Sys2Proof.Machine

open Sys2Proof Sys2Proof.Machine

/-- Settles O60. -/
theorem theFaultManagerDecides : Obligations.TheFaultManagerDecides := by
  refine ⟨⟨fun t => ?_, fun t e k n s u v w hu hup hfind hkey hv hn => ?_, fun k n t l => historyWith_find? k t l⟩,
    fun t b hb => ?_, fun t b line user hb => ?_, fun t b k line hlo hhi => ?_, fun t b ok hb => ?_, fun t b line user hb => ?_, fun t b x hb => ?_⟩
  · exact occurs_of (fun s => s.faultManager.settle) (fun _ => rfl) fun s h => congrArg State.settle (if_pos (by simp [h]))
  · have hexec : exec (.faultManagerDecision t) s = .next (v.faultDecide k e).settle := by
      rw [hv, ← State.faultManager_of_event hup hfind hkey, hu]
      rfl
    rw [hn]
    refine ⟨fun hnone => by rw [hexec, State.faultDecide_of_none hnone], fun hsome hw hcls hretired hposted h hhist => ?_⟩
    have htimes := State.timesOf_of_find hhist
    rw [hexec, State.faultDecide_of_some hsome, ← hw, ← htimes]
    exact ⟨fun hfew => by rw [State.judgeFaults_of_few hfew],
      fun hmany => ⟨fun o howner => by rw [State.judgeFaults_of_owner hcls hretired hposted hmany howner],
        fun howner => by rw [State.judgeFaults_of_unowned hcls hretired hposted hmany howner]⟩⟩
  · exact occurs_on hb (fun s => s.post (memPlane b) .eMemCorrected (memRes b) (fltQ (memKey b))) (fun _ => rfl) fun _ _ => rfl
  · refine occurs_on (show b < 18 by omega) (fun s => (s.memError b line user).settle) (fun _ => rfl) fun s _ => congrArg State.settle ?_
    simp only [State.memError, hb, true_or, if_true, memPlane, if_pos (show b < 14 by omega), Bool.and_eq_true]
    rfl
  · refine occurs_on hhi (fun s => (s.memError b line (.commit k)).settle) (fun _ => rfl) fun s _ => congrArg State.settle ?_
    simp only [State.memError, if_neg (show ¬ b < 8 by omega), if_pos hlo, memPlane, if_neg (show ¬ b < 14 by omega)]
    exact if_neg (by omega)
  · exact occurs_on hb (fun s => s.marchEnd b ok) (fun _ => rfl) fun _ h => State.marchEnd_of_idle h
  · exact occurs_on (show b < 18 by omega) (fun s => s.marchEnd b true) (fun _ => rfl) fun _ h => State.marchEnd_of_store hb h
  · exact occurs_on hb (fun s => s.marchEnd b false) (fun _ => rfl) fun _ h => State.marchEnd_of_failed h.1 h.2
end

section
/-! PROOFS. The queue of commands belongs to the simulator's front alone: no operation of the state reads or writes it.
One equation per operation, in the order of the definitions, each a `simp` rule for the operations that call it. -/

namespace Sys2Proof.Machine

@[simp] theorem State.pending_ite (p : Prop) [Decidable p] (a b : State) :
    (if p then a else b).pending = if p then a.pending else b.pending :=
  apply_ite State.pending p a b

@[simp] theorem State.foldl_pending {α : Type} (f : State → α → State) (l : List α) (s : State) (h : ∀ s x, (f s x).pending = s.pending) :
    (l.foldl f s).pending = s.pending := by
  induction l generalizing s with
  | nil => rfl
  | cons x l ih => rw [List.foldl_cons, ih, h]

@[simp] theorem State.each_pending (f : Nat → State → State) (l : List Nat) (s : State) (h : ∀ n s, (f n s).pending = s.pending) :
    (s.each f l).pending = s.pending := State.foldl_pending _ l s fun s n => h n s

/-- The state that a reply leaves. -/
def Reply.after : Reply → State
  | .done _ _ _ s => s
  | .later s => s

@[simp] theorem Reply.after_done (st : Status) (r : Nat) (b : Bytes) (s : State) : (Reply.done st r b s).after = s := rfl
@[simp] theorem Reply.after_later (s : State) : (Reply.later s).after = s := rfl
@[simp] theorem Reply.after_ok (s : State) : (Reply.ok s).after = s := rfl
@[simp] theorem Reply.after_long (b : Bytes) (s : State) : (Reply.long b s).after = s := rfl
@[simp] theorem Reply.after_refuse (st : Status) (s : State) : (Reply.refuse st s).after = s := rfl
@[simp] theorem Reply.after_ite (p : Prop) [Decidable p] (a b : Reply) : (if p then a else b).after = if p then a.after else b.after :=
  apply_ite Reply.after p a b

@[simp] theorem State.setParams_pending (i : Nat) (l : List (Param × Nat)) (s : State) : (State.setParams i l s).pending = s.pending := by
  induction l generalizing s with
  | nil => rfl
  | cons x l ih => exact ih (s.setParam x.1 i x.2)

@[simp] theorem State.setIntake_pending (p : Plane) (q : Intake) (s : State) : (State.setIntake p q s).pending = s.pending := by
  unfold State.setIntake
  split <;> simp

@[simp] theorem State.postIf_pending (b : Bool) (p : Plane) (c : Code) (src : Res) (quantity : Nat) (s : State) :
    (State.postIf b p c src quantity s).pending = s.pending := by
  simp [State.postIf]

@[simp] theorem State.raiseVector_pending (k : Nat) (s : State) : (State.raiseVector k s).pending = s.pending := by
  simp [State.raiseVector]

@[simp] theorem State.ringFault_pending (k : Nat) (cause : Nat) (s : State) : (State.ringFault k cause s).pending = s.pending := by
  simp [State.ringFault]

@[simp] theorem State.setTxPort_pending (k : Nat) (x : TxPort) (s : State) : (State.setTxPort k x s).pending = s.pending := by rfl

@[simp] theorem State.portSeen_pending (k : Nat) (s : State) : (State.portSeen k s).pending = s.pending := by rfl

@[simp] theorem State.txPut_pending (k : Nat) (i : TxItem) (s : State) : (State.txPut k i s).pending = s.pending := by
  simp [State.txPut]

@[simp] theorem State.sendBoth_pending (dst : Nat) (body : NetBody) (s : State) : (State.sendBoth dst body s).pending = s.pending := by
  simp [State.sendBoth]

@[simp] theorem State.sendMgmt_pending (station : Nat) (mac : Nat) (m : Bytes) (s : State) :
    (State.sendMgmt station mac m s).pending = s.pending := by
  simp [State.sendMgmt]

@[simp] theorem State.discardCompletion_pending (e : Entry) (st : Status) (s : State) :
    (State.discardCompletion e st s).pending = s.pending := by rfl

@[simp] theorem State.completeHost_pending (e : Entry) (st : Status) (result : Nat) (block : Bytes) (s : State) :
    (State.completeHost e st result block s).pending = s.pending := by
  simp [State.completeHost]

@[simp] theorem State.sendOmnar_pending (x : OmnarSession) (type : Nat) (count : Nat) (body : Bytes) (s : State) :
    (State.sendOmnar x type count body s).pending = s.pending := by
  simp [State.sendOmnar]

@[simp] theorem State.sendIvpasto_pending (type : Nat) (body : Bytes) (s : State) :
    (State.sendIvpasto type body s).pending = s.pending := by rfl

@[simp] theorem State.countRefused_pending (r : Route) (st : Status) (s : State) : (State.countRefused r st s).pending = s.pending := by
  unfold State.countRefused
  dsimp only
  repeat' split
  all_goals simp

@[simp] theorem State.countDispatched_pending (r : Route) (s : State) : (State.countDispatched r s).pending = s.pending := by
  unfold State.countDispatched
  dsimp only
  repeat' split
  all_goals simp

@[simp] theorem State.finish_pending (e : Entry) (before : State) (r : Reply) (h : r.after.pending = before.pending) :
    (State.finish e before r).pending = before.pending := by
  rcases r with ⟨st, result, block, s⟩ | s
  · cases st <;> simp_all [State.finish, Reply.after]
  · exact h

@[simp] theorem CmdSpec.act_pending (k : CmdSpec) (e : Entry) (s : State) (hk : ∀ e s, (k.run e s).after.pending = s.pending) :
    (k.act e s).pending = s.pending := by
  unfold CmdSpec.act
  split <;> simp [State.finish_pending e s _ (hk e s)]

@[simp] theorem State.touchSession_pending (c : Cmd) (s : State) : (State.touchSession c s).pending = s.pending := by
  simp [State.touchSession]

@[simp] theorem State.indirectFault_pending (c : Cmd) (s : State) : (State.indirectFault c s).pending = s.pending := by
  simp [State.indirectFault]

@[simp] theorem CmdSpec.dispatch_pending (k : CmdSpec) (e : Entry) (s : State) (hk : ∀ e s, (k.run e s).after.pending = s.pending) :
    (k.dispatch e s).pending = s.pending := by
  unfold CmdSpec.dispatch
  dsimp only
  split <;> simp [CmdSpec.act_pending k _ _ hk]

@[simp] theorem State.fetched_pending (e : Entry) (s : State) : (State.fetched e s).pending = s.pending := by rfl

@[simp] theorem State.answerFull_pending (r : Route) (tag : Nat) (s : State) : (State.answerFull r tag s).pending = s.pending := by
  unfold State.answerFull
  dsimp only
  repeat' split
  all_goals simp

@[simp] theorem State.queued_pending (op : Nat) (c : Cmd) (s : State) : (State.queued op c s).pending = s.pending := by rfl

@[simp] theorem CmdSpec.submit_pending (k : CmdSpec) (c : Cmd) (s : State) (hk : ∀ e s, (k.run e s).after.pending = s.pending) :
    (k.submit c s).pending = s.pending := by
  simp [CmdSpec.submit, CmdSpec.dispatch_pending k _ _ hk]

@[simp] theorem applyPosting_pending (specOf : Nat → Option CmdSpec) (own : PostBody → State → State)
    (hspec : ∀ op k, specOf op = some k → ∀ e s, (k.run e s).after.pending = s.pending) (hown : ∀ b s, (own b s).pending = s.pending) (p : Posting) (s : State) : (applyPosting specOf own p s).pending = s.pending := by
  unfold applyPosting
  split
  · split
    next k hk => exact State.finish_pending _ _ _ (hspec _ k hk _ s)
    · rfl
  · split
    next k hk => exact hspec _ k hk _ s
    · rfl
  · exact hown _ s

@[simp] theorem State.boundary_pending (specOf : Nat → Option CmdSpec) (own : PostBody → State → State)
    (hspec : ∀ op k, specOf op = some k → ∀ e s, (k.run e s).after.pending = s.pending) (hown : ∀ b s, (own b s).pending = s.pending) (o : Owner) (s : State) : (State.boundary specOf own o s).pending = s.pending :=
  State.foldl_pending _ _ _ fun s p => applyPosting_pending specOf own hspec hown p s

@[simp] theorem State.commitConfig_pending (s : State) : (State.commitConfig s).pending = s.pending := by rfl

@[simp] theorem State.setCommit_pending (i : Nat) (l : List (Param × Nat)) (s : State) : (State.setCommit i l s).pending = s.pending := by
  simp [State.setCommit]

@[simp] theorem State.commitLog_pending (s : State) : (State.commitLog s).pending = s.pending := by rfl

@[simp] theorem State.commitCred_pending (s : State) : (State.commitCred s).pending = s.pending := by rfl

@[simp] theorem State.commitRetire_pending (s : State) : (State.commitRetire s).pending = s.pending := by rfl

@[simp] theorem State.commitSafety_pending (s : State) : (State.commitSafety s).pending = s.pending := by rfl

@[simp] theorem State.errorCause_pending (cause : Nat) (source : Nat) (s : State) : (State.errorCause cause source s).pending = s.pending := by
  simp [State.errorCause]

@[simp] theorem State.fault_pending (p : Plane) (c : Code) (src : Res) (quantity : Nat) (k : FaultKey) (s : State) :
    (State.fault p c src quantity k s).pending = s.pending := by
  simp [State.fault]

@[simp] theorem State.faultUncounted_pending (p : Plane) (c : Code) (src : Res) (quantity : Nat) (k : FaultKey) (s : State) :
    (State.faultUncounted p c src quantity k s).pending = s.pending := by
  simp [State.faultUncounted]

@[simp] theorem State.markRetired_pending (k : FaultKey) (code : Nat) (last : Nat) (s : State) :
    (State.markRetired k code last s).pending = s.pending := by
  simp [State.markRetired]

@[simp] theorem State.causeRetired_pending (cls : Nat) (index : Nat) (s : State) : (State.causeRetired cls index s).pending = s.pending := by
  simp [State.causeRetired]

@[simp] theorem State.logAppend_pending (e : LogEntry) (s : State) : (State.logAppend e s).pending = s.pending := by
  simp [State.logAppend]

@[simp] theorem State.logChange_pending (r : Route) (cls : Nat) (sub : Nat) (index : Nat) (old : Bytes) (new : Bytes) (s : State) :
    (State.logChange r cls sub index old new s).pending = s.pending := by
  simp [State.logChange]

@[simp] theorem State.logRelease_pending (r : Route) (cls : Nat) (sub : Nat) (index : Nat) (old : Bytes) (new : Bytes) (s : State) :
    (State.logRelease r cls sub index old new s).pending = s.pending := by
  simp [State.logRelease]

@[simp] theorem State.tellSupply_pending (e : Option (Code × Res × Nat)) (s : State) : (State.tellSupply e s).pending = s.pending := by
  unfold State.tellSupply
  split <;> simp

@[simp] theorem guarded_pending (chk : State → Cmd → Status) (f : Entry → State → Reply)
    (hf : ∀ e s, (f e s).after.pending = s.pending) (e : Entry) (s : State) : (guarded chk f e s).after.pending = s.pending := by
  simp [guarded, hf]

@[simp] theorem State.setHart_pending (n : Nat) (h : HartChan) (s : State) : (State.setHart n h s).pending = s.pending := by rfl

@[simp] theorem State.modemNext_pending (m : Nat) (s : State) : (State.modemNext m s).pending = s.pending := by
  unfold State.modemNext
  dsimp only
  repeat' split
  all_goals simp

@[simp] theorem State.modemsNext_pending (s : State) : (State.modemsNext s).pending = s.pending := by
  simp [State.modemsNext]

@[simp] theorem State.setPass_pending (id : Nat) (f : HartPass → HartPass) (s : State) : (State.setPass id f s).pending = s.pending := by rfl

@[simp] theorem State.hartAnswer_pending (q : HartReq) (hres : Nat) (resp : Nat) (dev : Nat) (data : Bytes) (s : State) :
    (State.hartAnswer q hres resp dev data s).pending = s.pending := by rfl

@[simp] theorem State.hartFlush_pending (n : Nat) (s : State) : (State.hartFlush n s).pending = s.pending := by
  simp [State.hartFlush]

@[simp] theorem State.calProceed_pending (n : Nat) (s : State) : (State.calProceed n s).pending = s.pending := by
  unfold State.calProceed
  dsimp only
  split <;> simp

@[simp] theorem State.hartAbort_pending (n : Nat) (s : State) : (State.hartAbort n s).pending = s.pending :=
  State.foldl_pending _ _ s fun s m => by
    dsimp only
    split
    · split
      · split <;> simp
      · rfl
    · rfl

@[simp] theorem State.hartRequest_pending (id : Nat) (rec : Bytes) (s : State) : (State.hartRequest id rec s).pending = s.pending := by
  simp [State.hartRequest]

@[simp] theorem State.pollEnd_pending (n : Nat) (r : HartReply) (s : State) : (State.pollEnd n r s).pending = s.pending := by
  simp [State.pollEnd]

@[simp] theorem State.hartEnd_pending (m : Nat) (r : HartReply) (s : State) : (State.hartEnd m r s).pending = s.pending := by
  unfold State.hartEnd
  dsimp only
  split <;> simp

@[simp] theorem State.dwellEnd_pending (m : Nat) (s : State) : (State.dwellEnd m s).pending = s.pending := by
  unfold State.dwellEnd
  dsimp only
  split <;> simp

@[simp] theorem State.hartBurst_pending (n : Nat) (b : HartBurst) (s : State) : (State.hartBurst n b s).pending = s.pending := by
  simp [State.hartBurst]

@[simp] theorem State.modemLoopback_pending (m : Nat) (ok : Bool) (s : State) : (State.modemLoopback m ok s).pending = s.pending := by
  unfold State.modemLoopback
  dsimp only
  repeat' split
  all_goals simp

@[simp] theorem State.modemRetire_pending (m : Nat) (code : Nat) (s : State) : (State.modemRetire m code s).pending = s.pending := by
  unfold State.modemRetire
  dsimp only
  repeat' split
  all_goals simp

@[simp] theorem State.acToSafe_pending (n : Nat) (s : State) : (State.acToSafe n s).pending = s.pending := by rfl

@[simp] theorem State.acDrive_pending (n : Nat) (s : State) : (State.acDrive n s).pending = s.pending := by
  unfold State.acDrive
  dsimp only
  repeat' split
  all_goals simp

@[simp] theorem State.acHeard_pending (n : Nat) (s : State) : (State.acHeard n s).pending = s.pending := by
  unfold State.acHeard
  dsimp only
  split <;> simp

@[simp] theorem State.acStage_pending (n : Nat) (s : State) : (State.acStage n s).pending = s.pending := by
  simp [State.acStage]

@[simp] theorem State.acBadFrame_pending (n : Nat) (outward : Bool) (s : State) : (State.acBadFrame n outward s).pending = s.pending := by
  simp [State.acBadFrame]

@[simp] theorem State.acFrame_pending (n : Nat) (bad : Bool) (s : State) : (State.acFrame n bad s).pending = s.pending := by
  simp [State.acFrame]

@[simp] theorem State.acClassify_pending (n : Nat) (i : Int) (s : State) : (State.acClassify n i s).pending = s.pending := by
  simp [State.acClassify]

@[simp] theorem State.acGoodFrame_pending (n : Nat) (m : AcMeas) (s : State) : (State.acGoodFrame n m s).pending = s.pending := by
  simp [State.acGoodFrame]

@[simp] theorem State.acFrameIn_pending (n : Nat) (bad : Bool) (m : AcMeas) (s : State) :
    (State.acFrameIn n bad m s).pending = s.pending := by
  simp [State.acFrameIn]

@[simp] theorem State.acDiagnosed_pending (n : Nat) (k : AcDiag) (m : AcMeas) (s : State) :
    (State.acDiagnosed n k m s).pending = s.pending := by
  unfold State.acDiagnosed
  split <;> simp

@[simp] theorem State.acClearing_pending (n : Nat) (m : AcMeas) (s : State) : (State.acClearing n m s).pending = s.pending := by rfl

@[simp] theorem State.acCooling_pending (n : Nat) (temp : Int) (s : State) : (State.acCooling n temp s).pending = s.pending := by
  simp [State.acCooling]

@[simp] theorem State.acCalWait_pending (n : Nat) (s : State) : (State.acCalWait n s).pending = s.pending := by
  unfold State.acCalWait
  split
  · split <;> simp
  · rfl

@[simp] theorem State.acSample_pending (n : Nat) (m : AcMeas) (s : State) : (State.acSample n m s).pending = s.pending := by
  simp [State.acSample]

@[simp] theorem State.acSilence_pending (n : Nat) (s : State) : (State.acSilence n s).pending = s.pending := by
  simp [State.acSilence]

@[simp] theorem State.acThermal_pending (n : Nat) (temp : Int) (s : State) : (State.acThermal n temp s).pending = s.pending := by
  simp [State.acThermal]

@[simp] theorem State.acReference_pending (n : Nat) (ppm : Int) (m : AcMeas) (s : State) :
    (State.acReference n ppm m s).pending = s.pending := by
  unfold State.acReference
  dsimp only
  repeat' split
  all_goals simp

@[simp] theorem State.acRecheck_pending (n : Nat) (m : AcMeas) (s : State) : (State.acRecheck n m s).pending = s.pending := by
  simp [State.acRecheck]

@[simp] theorem State.acModeEnd_pending (n : Nat) (s : State) : (State.acModeEnd n s).pending = s.pending := by
  simp [State.acModeEnd]

@[simp] theorem State.acStart_pending (n : Nat) (s : State) : (State.acStart n s).pending = s.pending := by
  simp [State.acStart]

@[simp] theorem State.acCooled_pending (n : Nat) (s : State) : (State.acCooled n s).pending = s.pending := by
  unfold State.acCooled
  dsimp only
  split <;> simp

@[simp] theorem State.acCalAbandon_pending (n : Nat) (s : State) : (State.acCalAbandon n s).pending = s.pending := by
  unfold State.acCalAbandon
  split <;> simp

@[simp] theorem State.acPowerLoss_pending (n : Nat) (s : State) : (State.acPowerLoss n s).pending = s.pending := by
  simp [State.acPowerLoss]

@[simp] theorem State.acRetire_pending (n : Nat) (code : Nat) (s : State) : (State.acRetire n code s).pending = s.pending := by
  unfold State.acRetire
  dsimp only
  repeat' split
  all_goals simp

@[simp] theorem State.acCalEnd_pending (n : Nat) (gain : Int) (offset : Int) (s : State) :
    (State.acCalEnd n gain offset s).pending = s.pending := by
  unfold State.acCalEnd
  dsimp only
  split <;> simp

@[simp] theorem acApply_pending (l : Cmd → List (Param × Nat)) (e : Entry) (s : State) : (acApply l e s).after.pending = s.pending := by
  simp [acApply]

@[simp] theorem State.faFail_pending (mv : Nat) (s : State) : (State.faFail mv s).pending = s.pending := by
  simp [State.faFail]

@[simp] theorem State.faRecover_pending (mv : Nat) (s : State) : (State.faRecover mv s).pending = s.pending := by
  simp [State.faRecover]

@[simp] theorem State.dcFollow_pending (n : Nat) (s : State) : (State.dcFollow n s).pending = s.pending := by rfl

@[simp] theorem State.dcCommand_pending (n : Nat) (b : Bool) (s : State) : (State.dcCommand n b s).pending = s.pending := by rfl

@[simp] theorem State.dcToSafe_pending (n : Nat) (s : State) : (State.dcToSafe n s).pending = s.pending := by
  simp [State.dcToSafe]

@[simp] theorem State.dcTakeAck_pending (n : Nat) (s : State) : (State.dcTakeAck n s).pending = s.pending := by
  simp [State.dcTakeAck]

@[simp] theorem State.dcDrive_pending (n : Nat) (s : State) : (State.dcDrive n s).pending = s.pending := by
  unfold State.dcDrive
  dsimp only
  repeat' split
  all_goals simp

@[simp] theorem State.dcHeard_pending (n : Nat) (s : State) : (State.dcHeard n s).pending = s.pending := by
  unfold State.dcHeard
  dsimp only
  split <;> simp

@[simp] theorem State.dcBadFrame_pending (n : Nat) (outward : Bool) (s : State) : (State.dcBadFrame n outward s).pending = s.pending := by
  simp [State.dcBadFrame]

@[simp] theorem State.dcFrame_pending (n : Nat) (bad : Bool) (s : State) : (State.dcFrame n bad s).pending = s.pending := by
  simp [State.dcFrame]

@[simp] theorem State.dcCommonUpdate_pending (s : State) : (State.dcCommonUpdate s).pending = s.pending := by
  simp [State.dcCommonUpdate]

@[simp] theorem State.dcCommonAcknowledge_pending (s : State) : (State.dcCommonAcknowledge s).pending = s.pending := by
  simp [State.dcCommonAcknowledge]

@[simp] theorem State.dcPairUpdate_pending (n : Nat) (s : State) : (State.dcPairUpdate n s).pending = s.pending := by
  simp [State.dcPairUpdate]

@[simp] theorem State.dcGoodFrame_pending (n : Nat) (m : DcMeas) (s : State) : (State.dcGoodFrame n m s).pending = s.pending := by
  simp [State.dcGoodFrame]

@[simp] theorem State.dcFrameIn_pending (n : Nat) (bad : Bool) (m : DcMeas) (s : State) :
    (State.dcFrameIn n bad m s).pending = s.pending := by
  simp [State.dcFrameIn]

@[simp] theorem State.dcAccept_pending (n : Nat) (mv : Int) (s : State) : (State.dcAccept n mv s).pending = s.pending := by
  simp [State.dcAccept]

@[simp] theorem State.dcSilence_pending (n : Nat) (s : State) : (State.dcSilence n s).pending = s.pending := by
  simp [State.dcSilence]

@[simp] theorem State.dcOverload_pending (n : Nat) (peak : Nat) (s : State) : (State.dcOverload n peak s).pending = s.pending := by
  simp [State.dcOverload]

@[simp] theorem State.dcOlRetryEnd_pending (n : Nat) (s : State) : (State.dcOlRetryEnd n s).pending = s.pending := by
  simp [State.dcOlRetryEnd]

@[simp] theorem State.dcThermal_pending (n : Nat) (temp : Int) (s : State) : (State.dcThermal n temp s).pending = s.pending := by
  simp [State.dcThermal]

@[simp] theorem State.dcCooled_pending (n : Nat) (s : State) : (State.dcCooled n s).pending = s.pending := by
  unfold State.dcCooled
  dsimp only
  split <;> simp

@[simp] theorem State.dcSwitchFault_pending (n : Nat) (what : Nat) (s : State) : (State.dcSwitchFault n what s).pending = s.pending := by rfl

@[simp] theorem State.dcDiagnosed_pending (n : Nat) (k : DcDiag) (m : DcMeas) (s : State) :
    (State.dcDiagnosed n k m s).pending = s.pending := by
  unfold State.dcDiagnosed
  split <;> simp

@[simp] theorem State.dcCheck_pending (n : Nat) (m : DcMeas) (normal : Bool) (s : State) :
    (State.dcCheck n m normal s).pending = s.pending := by rfl

@[simp] theorem State.dcRetest_pending (n : Nat) (m : DcMeas) (s : State) : (State.dcRetest n m s).pending = s.pending := by
  simp [State.dcRetest]

@[simp] theorem State.fdTold_pending (g : Nat) (mv : Nat) (s : State) : (State.fdTold g mv s).pending = s.pending := by
  simp [State.fdTold]

@[simp] theorem State.fdUndervoltage_pending (g : Nat) (mv : Nat) (s : State) : (State.fdUndervoltage g mv s).pending = s.pending := by
  simp [State.fdUndervoltage]

@[simp] theorem State.fdChannelBack_pending (n : Nat) (s : State) : (State.fdChannelBack n s).pending = s.pending := by rfl

@[simp] theorem State.fdRecover_pending (g : Nat) (mv : Nat) (s : State) : (State.fdRecover g mv s).pending = s.pending := by
  simp [State.fdRecover]

@[simp] theorem State.dcDiscrepant_pending (n : Nat) (s : State) : (State.dcDiscrepant n s).pending = s.pending := by
  unfold State.dcDiscrepant
  dsimp only
  split <;> simp

@[simp] theorem State.dcModeEnd_pending (n : Nat) (s : State) : (State.dcModeEnd n s).pending = s.pending := by
  simp [State.dcModeEnd]

@[simp] theorem State.dcStart_pending (n : Nat) (s : State) : (State.dcStart n s).pending = s.pending := by
  simp [State.dcStart]

@[simp] theorem State.dcRetire_pending (n : Nat) (code : Nat) (s : State) : (State.dcRetire n code s).pending = s.pending := by
  unfold State.dcRetire
  dsimp only
  repeat' split
  all_goals simp

@[simp] theorem State.txOne_pending (k : Nat) (s : State) : (State.txOne k s).pending = s.pending := by
  unfold State.txOne
  dsimp only
  split <;> simp

@[simp] theorem State.txLoop_pending (k n : Nat) (s : State) : (State.txLoop k n s).pending = s.pending := by
  induction n generalizing s with
  | zero => rfl
  | succ n ih => exact (ih _).trans (State.txOne_pending k s)

@[simp] theorem State.txRun_pending (s : State) : (State.txRun s).pending = s.pending := by
  simp [State.txRun]

@[simp] theorem State.txClear_pending (k : Nat) (s : State) : (State.txClear k s).pending = s.pending := by
  simp [State.txClear]

@[simp] theorem State.taskRealign_pending (i : Nat) (s : State) : (State.taskRealign i s).pending = s.pending := by
  unfold State.taskRealign
  dsimp only
  split <;> simp

@[simp] theorem State.loopRealign_pending (i : Nat) (s : State) : (State.loopRealign i s).pending = s.pending := by
  unfold State.loopRealign
  dsimp only
  repeat' split
  all_goals simp

@[simp] theorem State.pgStepped_pending (b : Nat) (d : Int) (k : Nat) (s : State) : (State.pgStepped b d k s).pending = s.pending := by
  unfold State.pgStepped
  dsimp only
  repeat' split
  all_goals simp

@[simp] theorem State.baseStep_pending (b : Nat) (d : Int) (s : State) : (State.baseStep b d s).pending = s.pending := by
  simp [State.baseStep]

@[simp] theorem State.baseRate_pending (b : Nat) (ppb : Int) (s : State) : (State.baseRate b ppb s).pending = s.pending := by
  simp [State.baseRate]

@[simp] theorem State.baseRateFree_pending (b : Nat) (s : State) : (State.baseRateFree b s).pending = s.pending := by
  simp [State.baseRateFree]

@[simp] theorem State.baseLocked_pending (b : Nat) (s : State) : (State.baseLocked b s).pending = s.pending := by
  simp [State.baseLocked]

@[simp] theorem State.axUnref_pending (n : Nat) (row : Nat) (s : State) : (State.axUnref n row s).pending = s.pending := by
  simp [State.axUnref]

@[simp] theorem State.commitAxes_pending (s : State) : (State.commitAxes s).pending = s.pending := by rfl

@[simp] theorem State.axUnpark_pending (n : Nat) (s : State) : (State.axUnpark n s).pending = s.pending := by
  simp [State.axUnpark]

@[simp] theorem State.axTestCut_pending (n : Nat) (st : Status) (s : State) : (State.axTestCut n st s).pending = s.pending := by
  unfold State.axTestCut
  dsimp only
  split <;> simp

@[simp] theorem State.axDisable_pending (n : Nat) (s : State) : (State.axDisable n s).pending = s.pending := by
  simp [State.axDisable]

@[simp] theorem State.axEnergise_pending (n : Nat) (hold : Bool) (ms : Nat) (s : State) :
    (State.axEnergise n hold ms s).pending = s.pending := by
  simp [State.axEnergise]

@[simp] theorem State.axHomed_pending (n : Nat) (p : Q) (s : State) : (State.axHomed n p s).pending = s.pending := by rfl

@[simp] theorem State.axStart_pending (n : Nat) (st : AxState) (goal : AxGoal) (r : AxReq) (lim : Bool) (s : State) :
    (State.axStart n st goal r lim s).pending = s.pending := by
  simp [State.axStart]

@[simp] theorem State.axMove_pending (n : Nat) (r : AxReq) (s : State) : (State.axMove n r s).2.pending = s.pending := by
  unfold State.axMove
  dsimp only
  repeat' split
  all_goals simp

@[simp] theorem State.axStop_pending (n : Nat) (fast : Bool) (src : AxSource) (s : State) :
    (State.axStop n fast src s).pending = s.pending := by
  unfold State.axStop
  dsimp only
  split <;> simp

@[simp] theorem State.axHome_pending (n : Nat) (src : AxSource) (s : State) : (State.axHome n src s).2.pending = s.pending := by
  unfold State.axHome
  dsimp only
  repeat' split
  all_goals simp

@[simp] theorem State.axPark_pending (n : Nat) (off : Bool) (src : AxSource) (s : State) :
    (State.axPark n off src s).2.pending = s.pending := by
  unfold State.axPark
  dsimp only
  repeat' split
  all_goals simp

@[simp] theorem State.axEnable_pending (n : Nat) (on : Bool) (s : State) : (State.axEnable n on s).pending = s.pending := by
  simp [State.axEnable]

@[simp] theorem State.segStart_pending (n : Nat) (src : AxSource) (s : State) : (State.segStart n src s).2.pending = s.pending := by
  unfold State.segStart
  dsimp only
  repeat' split
  all_goals simp

@[simp] theorem State.segRun_pending (n : Nat) (s : State) : (State.segRun n s).pending = s.pending := by
  unfold State.segRun
  dsimp only
  split <;> simp

@[simp] theorem State.axRequest_pending (n : Nat) (r : AxReq) (s : State) : (State.axRequest n r s).2.pending = s.pending := by
  unfold State.axRequest
  dsimp only
  by_cases h : (s.axOf n).st = .retired
  · rw [if_pos h]
  · rw [if_neg h]
    by_cases h7 : r.kind = 7
    · rw [if_pos h7]; simp
    · rw [if_neg h7]
      by_cases h8 : r.kind = 8
      · rw [if_pos h8]; simp
      · rw [if_neg h8]
        by_cases hd : (s.axOf n).st = .disabled
        · rw [if_pos hd]
        · rw [if_neg hd]
          split
          · simp
          · simp
          · simp
          · simp
          · simp only [apply_ite Prod.snd, State.pending_ite, State.setAx_pending, State.axMove_pending, ite_self]

@[simp] theorem State.axTakeRecord_pending (n : Nat) (s : State) : (State.axTakeRecord n s).pending = s.pending := by
  unfold State.axTakeRecord
  dsimp only
  split
  · rfl
  next b hb =>
    split
    · rfl
    · split
      · split <;> simp
      · split
        next s' heq => simpa only [heq, State.setAx_pending] using State.axRequest_pending n (axRecord b).2 (s.setAx n { s.axOf n with lastSeq := (axRecord b).1 })
        · simp

@[simp] theorem State.axTakeLoop_pending (n : Nat) (s : State) : (State.axTakeLoop n s).pending = s.pending := by
  unfold State.axTakeLoop
  dsimp only
  split
  · rfl
  next v hv =>
    split
    · simp
    · split
      · rfl
      · split
        next s' heq => simpa [heq] using State.axRequest_pending n { kind := 1, tgt := toF64 v, src := .loop } s
        · rfl

@[simp] theorem State.axTakeQueued_pending (n : Nat) (s : State) : (State.axTakeQueued n s).pending = s.pending := by
  unfold State.axTakeQueued
  dsimp only
  split
  · rfl
  next r hr =>
    split
    · split
      next s' heq => simpa [heq] using State.axMove_pending n r (s.setAx n { s.axOf n with queued := none })
      · split <;> simp
    · rfl

@[simp] theorem State.axOwnerLost_pending (n : Nat) (s : State) : (State.axOwnerLost n s).pending = s.pending := by
  simp [State.axOwnerLost]

@[simp] theorem State.axStopped_pending (n : Nat) (s : State) : (State.axStopped n s).pending = s.pending := by
  simp [State.axStopped]

@[simp] theorem State.axHoming_pending (n : Nat) (s : State) : (State.axHoming n s).pending = s.pending := by
  simp [State.axHoming]

@[simp] theorem State.axVelocity_pending (n : Nat) (want : Int) (s : State) : (State.axVelocity n want s).pending = s.pending := by rfl

@[simp] theorem State.axLimitStop_pending (n : Nat) (was : Int) (s : State) : (State.axLimitStop n was s).pending = s.pending := by
  simp [State.axLimitStop]

@[simp] theorem State.axMotion_pending (n : Nat) (s : State) : (State.axMotion n s).pending = s.pending := by
  unfold State.axMotion
  dsimp only
  repeat' split
  all_goals simp

@[simp] theorem State.axFirst_pending (n : Nat) (s : State) : (State.axFirst n s).pending = s.pending := by
  simp [State.axFirst]

@[simp] theorem State.axBridgeTest_pending (n : Nat) (bad : Option Nat) (s : State) : (State.axBridgeTest n bad s).pending = s.pending := by
  unfold State.axBridgeTest
  dsimp only
  repeat' split
  all_goals simp

@[simp] theorem State.axMeasured_pending (n : Nat) (m : AxMeasure) (s : State) : (State.axMeasured n m s).pending = s.pending := by rfl

@[simp] theorem State.axExchange_pending (n : Nat) (s : State) : (State.axExchange n s).pending = s.pending := by
  simp [State.axExchange]

@[simp] theorem State.axHandover_pending (n : Nat) (s : State) : (State.axHandover n s).pending = s.pending := by
  unfold State.axHandover
  split <;> simp

@[simp] theorem State.axUpdate_pending (n : Nat) (m : AxMeasure) (bad : Option Nat) (s : State) :
    (State.axUpdate n m bad s).pending = s.pending := by
  simp [State.axUpdate]

@[simp] theorem State.axHeard_pending (n : Nat) (s : State) : (State.axHeard n s).pending = s.pending := by
  simp [State.axHeard]

@[simp] theorem State.axFrame_pending (n : Nat) (s : State) : (State.axFrame n s).pending = s.pending := by
  simp [State.axFrame]

@[simp] theorem State.axSilence_pending (n : Nat) (s : State) : (State.axSilence n s).pending = s.pending := by
  simp [State.axSilence]

@[simp] theorem State.axBadFrame_pending (n : Nat) (outward : Bool) (s : State) : (State.axBadFrame n outward s).pending = s.pending := by
  simp [State.axBadFrame]

@[simp] theorem State.axFrameIn_pending (n : Nat) (bad : Bool) (m : AxMeasure) (s : State) :
    (State.axFrameIn n bad m s).pending = s.pending := by
  simp [State.axFrameIn]

@[simp] theorem State.axStall_pending (n : Nat) (follow : Bool) (ratios : List Nat) (s : State) :
    (State.axStall n follow ratios s).pending = s.pending := by
  unfold State.axStall
  dsimp only
  repeat' split
  all_goals simp

@[simp] theorem State.axFault_pending (n : Nat) (kind : Nat) (quantity : Int) (s : State) :
    (State.axFault n kind quantity s).pending = s.pending := by
  simp [State.axFault]

@[simp] theorem State.axRetry_pending (n : Nat) (bad : Option Nat) (s : State) : (State.axRetry n bad s).pending = s.pending := by
  unfold State.axRetry
  split <;> simp

@[simp] theorem State.axOpenPhase_pending (n : Nat) (ph : Nat) (s : State) : (State.axOpenPhase n ph s).pending = s.pending := by
  simp [State.axOpenPhase]

@[simp] theorem State.axRetire_pending (n : Nat) (code : Nat) (s : State) : (State.axRetire n code s).pending = s.pending := by
  simp [State.axRetire]

@[simp] theorem State.fmFail_pending (mv : Nat) (s : State) : (State.fmFail mv s).pending = s.pending := by
  simp [State.fmFail]

@[simp] theorem State.fmRecover_pending (mv : Nat) (s : State) : (State.fmRecover mv s).pending = s.pending := by
  simp [State.fmRecover]

@[simp] theorem State.axBegin_pending (store : Option AxStore) (n : Nat) (s : State) : (State.axBegin store n s).pending = s.pending := by
  simp [State.axBegin]

@[simp] theorem axConfigured_pending (e : Entry) (s : State) : (axConfigured e s).after.pending = s.pending := by
  simp [axConfigured]

@[simp] theorem axRun_pending (f : Cmd → Nat → State → Status × State) (hf : ∀ c n s, (f c n s).2.pending = s.pending)
    (e : Entry) (s : State) : (axRun f e s).after.pending = s.pending := by
  have h := hf e.cmd e.cmd.tgtIndex s
  unfold axRun
  dsimp only
  split
  · rfl
  · split
    next s' heq => simpa [heq] using h
    · rfl

@[simp] theorem segLoad_pending (e : Entry) (s : State) : (segLoad e s).after.pending = s.pending := by
  unfold segLoad
  dsimp only
  repeat' split
  all_goals simp

@[simp] theorem segStartCmd_pending (c : Cmd) (n : Nat) (s : State) : (segStartCmd c n s).2.pending = s.pending := by
  unfold segStartCmd
  dsimp only
  repeat' split
  all_goals simp

@[simp] theorem State.pgArm_pending (k : Nat) (s : State) : (State.pgArm k s).pending = s.pending := by
  unfold State.pgArm
  split <;> simp

@[simp] theorem State.pgResume_pending (k : Nat) (s : State) : (State.pgResume k s).pending = s.pending := by
  simp [State.pgResume]

@[simp] theorem State.pgWake_pending (b : Nat) (s : State) : (State.pgWake b s).pending = s.pending := by
  simp [State.pgWake]

@[simp] theorem State.pgStart_pending (k : Nat) (s : State) : (State.pgStart k s).pending = s.pending := by
  simp [State.pgStart]

@[simp] theorem State.piCapture_pending (k : Nat) (at0 : Int) (n : Nat) (s : State) : (State.piCapture k at0 n s).pending = s.pending := by
  simp [State.piCapture]

@[simp] theorem State.pgFire_pending (k : Nat) (s : State) : (State.pgFire k s).pending = s.pending := by
  simp [State.pgFire]

@[simp] theorem State.pgPulseEnd_pending (k : Nat) (s : State) : (State.pgPulseEnd k s).pending = s.pending := by
  simp [State.pgPulseEnd]

@[simp] theorem State.piEdge_pending (n : Nat) (onB : Bool) (level : Bool) (s : State) :
    (State.piEdge n onB level s).pending = s.pending := by
  simp [State.piEdge]

@[simp] theorem State.rtcLose_pending (osc : Bool) (range : Bool) (s : State) : (State.rtcLose osc range s).pending = s.pending := by
  simp [State.rtcLose]

@[simp] theorem State.rtcAccept_pending (src : Nat) (ticks : Nat) (s : State) : (State.rtcAccept src ticks s).pending = s.pending := by
  simp [State.rtcAccept]

@[simp] theorem State.rtcRelease_pending (s : State) : (State.rtcRelease s).pending = s.pending := by
  unfold State.rtcRelease
  split <;> simp

@[simp] theorem State.rtcTrim_pending (offset : Int) (en : Bool) (s : State) : (State.rtcTrim offset en s).pending = s.pending := by rfl

@[simp] theorem State.beEdge_pending (n : Nat) (closed : Bool) (s : State) : (State.beEdge n closed s).pending = s.pending := by
  simp [State.beEdge]

@[simp] theorem State.rtcOsc_pending (bad : Bool) (s : State) : (State.rtcOsc bad s).pending = s.pending := by rfl

@[simp] theorem State.baseUnlocked_pending (b : Nat) (s : State) : (State.baseUnlocked b s).pending = s.pending := by rfl

@[simp] theorem State.servoRun_pending (b : Nat) (off : Int) (s : State) : (State.servoRun b off s).pending = s.pending := by
  simp [State.servoRun]

@[simp] theorem State.rtcFrom3_pending (s : State) : (State.rtcFrom3 s).pending = s.pending := by
  simp [State.rtcFrom3]

@[simp] theorem State.tb3Follow_pending (s : State) : (State.tb3Follow s).pending = s.pending := by
  unfold State.tb3Follow
  split <;> simp

@[simp] theorem State.servoSync_pending (b : Nat) (off : Int) (s : State) : (State.servoSync b off s).pending = s.pending := by
  simp [State.servoSync]

@[simp] theorem State.takeMaster_pending (b : Nat) (a : Announce) (port : Nat) (s : State) :
    (State.takeMaster b a port s).pending = s.pending := by
  simp [State.takeMaster]

@[simp] theorem State.becomeMaster_pending (b : Nat) (s : State) : (State.becomeMaster b s).pending = s.pending := by
  simp [State.becomeMaster]

@[simp] theorem State.electSelf_pending (b : Nat) (s : State) : (State.electSelf b s).pending = s.pending := by
  simp [State.electSelf]

@[simp] theorem State.ptpAnnounce_pending (b : Nat) (a : Announce) (port : Nat) (s : State) :
    (State.ptpAnnounce b a port s).pending = s.pending := by
  simp [State.ptpAnnounce]

@[simp] theorem State.ptpTake_pending (m : PtpMsg) (b : Nat) (s : State) : (State.ptpTake m b s).pending = s.pending := by
  unfold State.ptpTake
  dsimp only
  repeat' split
  all_goals simp

@[simp] theorem State.announceLost_pending (b : Nat) (s : State) : (State.announceLost b s).pending = s.pending := by
  simp [State.announceLost]

@[simp] theorem State.holdoverOut_pending (b : Nat) (s : State) : (State.holdoverOut b s).pending = s.pending := by
  simp [State.holdoverOut]

@[simp] theorem State.leap_pending (inserted : Bool) (s : State) : (State.leap inserted s).pending = s.pending := by
  simp [State.leap]

@[simp] theorem State.masterEnds_pending (b : Nat) (moved : Bool) (s : State) : (State.masterEnds b moved s).pending = s.pending := by
  simp [State.masterEnds]

@[simp] theorem State.ptpSend_pending (b : Nat) (kind : Nat) (v : Int) (s : State) : (State.ptpSend b kind v s).pending = s.pending := by
  simp [State.ptpSend]

@[simp] theorem State.setCanBuf_pending (n : Nat) (b : Nat) (y : CanBuf) (s : State) : (State.setCanBuf n b y s).pending = s.pending := by rfl

@[simp] theorem State.canSof_pending (n : Nat) (b : Nat) (s : State) : (State.canSof n b s).2.pending = s.pending := by
  unfold State.canSof
  dsimp only
  repeat' split
  all_goals simp

@[simp] theorem State.canArm_pending (n : Nat) (b : Nat) (r : CanReq) (s : State) : (State.canArm n b r s).pending = s.pending := by rfl

@[simp] theorem State.canDone_pending (n : Nat) (b : Nat) (res : Nat) (s : State) : (State.canDone n b res s).pending = s.pending := by
  unfold State.canDone
  dsimp only
  split <;> simp

@[simp] theorem State.canCancelDone_pending (st : Status) (cmds : List Entry) (s : State) :
    (State.canCancelDone st cmds s).pending = s.pending := by
  simp [State.canCancelDone]

@[simp] theorem State.canWithdraw_pending (n : Nat) (b : Nat) (s : State) : (State.canWithdraw n b s).pending = s.pending := by
  simp [State.canWithdraw]

@[simp] theorem State.canCancelReq_pending (n : Nat) (b : Nat) (seq : Nat) (s : State) : (State.canCancelReq n b seq s).pending = s.pending := by
  unfold State.canCancelReq
  dsimp only
  split <;> simp

@[simp] theorem State.canRequest_pending (n : Nat) (b : Nat) (r : CanReq) (s : State) : (State.canRequest n b r s).pending = s.pending := by
  unfold State.canRequest
  dsimp only
  repeat' split
  all_goals simp

@[simp] theorem State.canBusOff_pending (n : Nat) (s : State) : (State.canBusOff n s).pending = s.pending := by
  simp [State.canBusOff]

@[simp] theorem State.canJudge_pending (n : Nat) (s : State) : (State.canJudge n s).pending = s.pending := by
  simp [State.canJudge]

@[simp] theorem State.canDestroyed_pending (n : Nat) (b : Nat) (s : State) : (State.canDestroyed n b s).pending = s.pending := by
  simp [State.canDestroyed]

@[simp] theorem State.canIntegrate_pending (n : Nat) (s : State) : (State.canIntegrate n s).pending = s.pending := by
  simp [State.canIntegrate]

@[simp] theorem State.canCountErr_pending (n : Nat) (dt : Nat) (dr : Nat) (s : State) : (State.canCountErr n dt dr s).pending = s.pending := by
  simp [State.canCountErr]

@[simp] theorem State.canException_pending (n : Nat) (s : State) : (State.canException n s).pending = s.pending := by
  simp [State.canException]

@[simp] theorem State.canError_pending (n : Nat) (e : CanErr) (s : State) : (State.canError n e s).pending = s.pending := by
  unfold State.canError
  split
  · rfl
  · cases e <;> simp

@[simp] theorem State.canIntegrated_pending (n : Nat) (s : State) : (State.canIntegrated n s).pending = s.pending := by
  simp [State.canIntegrated]

@[simp] theorem State.canRecover_pending (n : Nat) (s : State) : (State.canRecover n s).pending = s.pending := by
  simp [State.canRecover]

@[simp] theorem State.canRecReq_pending (n : Nat) (req : Nat) (s : State) : (State.canRecReq n req s).pending = s.pending := by
  simp [State.canRecReq]

@[simp] theorem State.canRecovered_pending (n : Nat) (s : State) : (State.canRecovered n s).pending = s.pending := by
  simp [State.canRecovered]

@[simp] theorem State.skipperLeads_pending (n : Nat) (s : State) : (State.skipperLeads n s).pending = s.pending := by
  simp [State.skipperLeads]

@[simp] theorem State.canFollow_pending (n : Nat) (f : CanFrame) (sof : Nat) (s : State) : (State.canFollow n f sof s).pending = s.pending := by
  simp [State.canFollow]

@[simp] theorem State.canReference_pending (n : Nat) (f : CanFrame) (sof : Nat) (s : State) :
    (State.canReference n f sof s).pending = s.pending := by
  simp [State.canReference]

@[simp] theorem State.canRefDue_pending (n : Nat) (s : State) : (State.canRefDue n s).pending = s.pending := by
  simp [State.canRefDue]

@[simp] theorem State.canRefLost_pending (n : Nat) (s : State) : (State.canRefLost n s).pending = s.pending := by
  unfold State.canRefLost
  dsimp only
  split <;> simp

@[simp] theorem State.canResume_pending (n : Nat) (s : State) : (State.canResume n s).pending = s.pending := by
  simp [State.canResume]

@[simp] theorem State.canFifo_pending (n : Nat) (r : CanRec) (s : State) : (State.canFifo n r s).pending = s.pending := by
  simp [State.canFifo]

@[simp] theorem State.canFiltered_pending (n : Nat) (f : CanFrame) (sof : Nat) (s : State) :
    (State.canFiltered n f sof s).pending = s.pending := by
  unfold State.canFiltered
  split <;> simp

@[simp] theorem State.canRxGood_pending (n : Nat) (s : State) : (State.canRxGood n s).pending = s.pending := by
  simp [State.canRxGood]

@[simp] theorem State.canMirror_pending (n : Nat) (f : CanFrame) (s : State) : (State.canMirror n f s).pending = s.pending := by
  simp [State.canMirror]

@[simp] theorem State.canReceive_pending (n : Nat) (f : CanFrame) (sof : Nat) (s : State) :
    (State.canReceive n f sof s).pending = s.pending := by
  simp [State.canReceive]

@[simp] theorem State.canSent_pending (n : Nat) (b : Nat) (sof : Nat) (s : State) : (State.canSent n b sof s).pending = s.pending := by
  unfold State.canSent
  dsimp only
  repeat' split
  all_goals simp

@[simp] theorem State.canLost_pending (n : Nat) (b : Nat) (s : State) : (State.canLost n b s).pending = s.pending := by
  unfold State.canLost
  dsimp only
  repeat' split
  all_goals simp

@[simp] theorem State.canOff_pending (n : Nat) (s : State) : (State.canOff n s).pending = s.pending := by
  simp [State.canOff]

@[simp] theorem State.canFault_pending (n : Nat) (kind : Nat) (s : State) : (State.canFault n kind s).pending = s.pending := by
  simp [State.canFault]

@[simp] theorem State.canMemFault_pending (n : Nat) (s : State) : (State.canMemFault n s).pending = s.pending := by
  simp [State.canMemFault]

@[simp] theorem State.canRetire_pending (n : Nat) (code : Nat) (last : Nat) (s : State) :
    (State.canRetire n code last s).pending = s.pending := by
  simp [State.canRetire]

@[simp] theorem State.skipperEnds_pending (skipper : Nat) (s : State) : (State.skipperEnds skipper s).pending = s.pending := by
  simp [State.skipperEnds]

@[simp] theorem State.cuAliveFail_pending (u : Nat) (reason : Nat) (s : State) : (State.cuAliveFail u reason s).pending = s.pending := by rfl

@[simp] theorem State.cuAlive_pending (u : Nat) (k : Nat) (bs : Bytes) (s : State) : (State.cuAlive u k bs s).pending = s.pending := by
  unfold State.cuAlive
  dsimp only
  repeat' split
  all_goals simp

@[simp] theorem State.cuMismatch_pending (u : Nat) (result : Nat) (s : State) : (State.cuMismatch u result s).pending = s.pending := by
  simp [State.cuMismatch]

@[simp] theorem State.cuEnd_pending (u : Nat) (k : Nat) (bs : Bytes) (s : State) : (State.cuEnd u k bs s).pending = s.pending := by
  simp [State.cuEnd]

@[simp] theorem State.cuServe_pending (u : Nat) (k : Nat) (sel : Nat) (bs : Bytes) (s : State) :
    (State.cuServe u k sel bs s).pending = s.pending := by rfl

@[simp] theorem State.cuStream_pending (k : Nat) (sel : Nat) (sent : Bool) (bs : Bytes) (busy : List Nat) (s : State) :
    (State.cuStream k sel sent bs busy s).pending = s.pending := by
  simp [State.cuStream]

@[simp] theorem State.cuReassign_pending (r : Nat) (s : State) : (State.cuReassign r s).pending = s.pending := by
  unfold State.cuReassign
  split <;> simp

@[simp] theorem State.cuRetire_pending (u : Nat) (code : Nat) (last : Nat) (s : State) : (State.cuRetire u code last s).pending = s.pending := by
  unfold State.cuRetire
  dsimp only
  split <;> simp

@[simp] theorem State.cuTested_pending (u : Nat) (bad : Option Nat) (s : State) : (State.cuTested u bad s).pending = s.pending := by
  unfold State.cuTested
  dsimp only
  repeat' split
  all_goals simp

@[simp] theorem dcSetChannel_pending (l : List (Param × Nat)) (n : Nat) (s : State) : (dcSetChannel l n s).pending = s.pending := by
  simp [dcSetChannel]

@[simp] theorem State.dcAskAck_pending (n : Nat) (s : State) : (State.dcAskAck n s).pending = s.pending := by rfl

@[simp] theorem State.fdSag_pending (g : Nat) (mv : Nat) (s : State) : (State.fdSag g mv s).pending = s.pending := by
  simp [State.fdSag]

@[simp] theorem State.soSwitches_pending (n : Nat) (s : State) : (State.soSwitches n s).pending = s.pending := by rfl

@[simp] theorem State.soTrip_pending (n : Nat) (cause : Nat) (s : State) : (State.soTrip n cause s).pending = s.pending := by
  simp [State.soTrip]

@[simp] theorem State.svCondition_pending (row : Nat) (cause : Nat) (n : Nat) (s : State) :
    (State.svCondition row cause n s).pending = s.pending := by
  simp [State.svCondition]

@[simp] theorem State.svConditionEnd_pending (row : Nat) (n : Nat) (s : State) : (State.svConditionEnd row n s).pending = s.pending := by rfl

@[simp] theorem State.soCommit_pending (n : Nat) (v : Bool) (s : State) : (State.soCommit n v s).pending = s.pending := by
  simp [State.soCommit]

@[simp] theorem State.soForwardSafe_pending (n : Nat) (s : State) : (State.soForwardSafe n s).pending = s.pending := by
  unfold State.soForwardSafe
  dsimp only
  split <;> simp

@[simp] theorem State.soAckOutput_pending (n : Nat) (v : Bool) (s : State) : (State.soAckOutput n v s).pending = s.pending := by rfl

@[simp] theorem State.soAcknowledge_pending (n : Nat) (src : Nat) (s : State) : (State.soAcknowledge n src s).pending = s.pending := by rfl

@[simp] theorem State.soTakeAck_pending (n : Nat) (s : State) : (State.soTakeAck n s).pending = s.pending := by
  unfold State.soTakeAck
  dsimp only
  repeat' split
  all_goals simp

@[simp] theorem State.soFrame_pending (n : Nat) (s : State) : (State.soFrame n s).pending = s.pending := by
  simp [State.soFrame]

@[simp] theorem State.soSilence_pending (n : Nat) (s : State) : (State.soSilence n s).pending = s.pending := by
  simp [State.soSilence]

@[simp] theorem State.soLocalOff_pending (n : Nat) (cause : Nat) (s : State) : (State.soLocalOff n cause s).pending = s.pending := by
  simp [State.soLocalOff]

@[simp] theorem State.soExpire_pending (n : Nat) (s : State) : (State.soExpire n s).pending = s.pending := by
  simp [State.soExpire]

@[simp] theorem State.soDegrade_pending (n : Nat) (row : Nat) (s : State) : (State.soDegrade n row s).pending = s.pending := by
  simp [State.soDegrade]

@[simp] theorem State.soUndegrade_pending (n : Nat) (row : Nat) (s : State) : (State.soUndegrade n row s).pending = s.pending := by
  simp [State.soUndegrade]

@[simp] theorem State.soTestStart_pending (n : Nat) (sw : Nat) (s : State) : (State.soTestStart n sw s).pending = s.pending := by
  simp [State.soTestStart]

@[simp] theorem State.soTestPass_pending (n : Nat) (sw : Nat) (s : State) : (State.soTestPass n sw s).pending = s.pending := by
  simp [State.soTestPass]

@[simp] theorem State.soRetireOutput_pending (n : Nat) (code : Code) (s : State) : (State.soRetireOutput n code s).pending = s.pending := by
  simp [State.soRetireOutput]

@[simp] theorem State.soRetireSwitch_pending (n : Nat) (sw : Nat) (stuck : Bool) (s : State) :
    (State.soRetireSwitch n sw stuck s).pending = s.pending := by
  simp [State.soRetireSwitch]

@[simp] theorem State.soTestDone_pending (n : Nat) (s : State) : (State.soTestDone n s).pending = s.pending := by
  unfold State.soTestDone
  dsimp only
  split <;> simp

@[simp] theorem State.soTestJudge_pending (n : Nat) (sw : Nat) (r : SoTest) (s : State) : (State.soTestJudge n sw r s).pending = s.pending := by
  unfold State.soTestJudge
  split <;> simp

@[simp] theorem State.soTestEnd_pending (n : Nat) (sw : Nat) (r : SoTest) (s : State) : (State.soTestEnd n sw r s).pending = s.pending := by
  unfold State.soTestEnd
  dsimp only
  split <;> simp

@[simp] theorem State.soTestRepeat_pending (n : Nat) (sw : Nat) (r : SoTest) (s : State) :
    (State.soTestRepeat n sw r s).pending = s.pending := by
  simp [State.soTestRepeat]

@[simp] theorem State.soOverdue_pending (n : Nat) (sw : Nat) (s : State) : (State.soOverdue n sw s).pending = s.pending := by
  simp [State.soOverdue]

@[simp] theorem State.ettPulse_pending (n : Nat) (load : Int) (hs : SoTest) (ls : SoTest) (s : State) :
    (State.ettPulse n load hs ls s).pending = s.pending := by
  simp [State.ettPulse]

@[simp] theorem State.soFrameIn_pending (n : Nat) (bad : Bool) (m : SoMeas) (s : State) :
    (State.soFrameIn n bad m s).pending = s.pending := by
  simp [State.soFrameIn]

@[simp] theorem State.soOpenCheck_pending (n : Nat) (load : Int) (s : State) : (State.soOpenCheck n load s).pending = s.pending := by
  simp [State.soOpenCheck]

@[simp] theorem State.svAll_pending (row : Nat) (cause : Nat) (s : State) : (State.svAll row cause s).pending = s.pending := by
  simp [State.svAll]

@[simp] theorem State.fsFail_pending (mv : Nat) (s : State) : (State.fsFail mv s).pending = s.pending := by
  simp [State.fsFail]

@[simp] theorem State.fsRecover_pending (mv : Nat) (s : State) : (State.fsRecover mv s).pending = s.pending := by
  simp [State.fsRecover]

@[simp] theorem State.aiPairUpdate_pending (n : Nat) (s : State) : (State.aiPairUpdate n s).pending = s.pending := by
  simp [State.aiPairUpdate]

@[simp] theorem State.aiDiscrepant_pending (n : Nat) (s : State) : (State.aiDiscrepant n s).pending = s.pending := by
  unfold State.aiDiscrepant
  dsimp only
  split <;> simp

@[simp] theorem State.soStart_pending (store : Option SafeStore) (n : Nat) (s : State) : (State.soStart store n s).pending = s.pending := by
  simp [State.soStart]

@[simp] theorem State.passwordFailed_pending (r : Route) (s : State) : (State.passwordFailed r s).pending = s.pending := by
  simp [State.passwordFailed]

@[simp] theorem State.closeSafety_pending (s : State) : (State.closeSafety s).pending = s.pending := by rfl

@[simp] theorem State.closeSafetyOf_pending (r : Route) (s : State) : (State.closeSafetyOf r s).pending = s.pending := by
  simp [State.closeSafetyOf]

@[simp] theorem State.logRelease1_pending (k : Nat) (s : State) : (State.logRelease1 k s).pending = s.pending := by
  induction k generalizing s with
  | zero => rfl
  | succ k ih =>
    unfold State.logRelease1
    split <;> simp [ih]

@[simp] theorem State.logOverflow_pending (s : State) : (State.logOverflow s).pending = s.pending := by
  simp [State.logOverflow]

@[simp] theorem State.withdraw_pending (f : Flight) (s : State) : (State.withdraw f s).pending = s.pending := by rfl

@[simp] theorem State.closeRoute_pending (r : Route) (s : State) : (State.closeRoute r s).pending = s.pending := by
  simp [State.closeRoute]

@[simp] theorem State.closeOmnar_pending (id : Nat) (s : State) : (State.closeOmnar id s).pending = s.pending := by
  unfold State.closeOmnar
  split <;> simp

@[simp] theorem State.closeAllOmnar_pending (s : State) : (State.closeAllOmnar s).pending = s.pending := by
  simp [State.closeAllOmnar]

@[simp] theorem State.dropTransfer_pending (s : State) : (State.dropTransfer s).pending = s.pending := by
  unfold State.dropTransfer
  split <;> simp

@[simp] theorem State.closeIvpasto_pending (s : State) : (State.closeIvpasto s).pending = s.pending := by
  simp [State.closeIvpasto]

@[simp] theorem State.takeEntry_pending (x : Nat × Cmd) (s : State) : (State.takeEntry x s).pending = s.pending := by rfl

@[simp] theorem State.authFailed_pending (station : Nat) (s : State) : (State.authFailed station s).pending = s.pending := by rfl

@[simp] theorem State.openReply_pending (station : Nat) (mac : Nat) (key : Bytes) (id : Nat) (nonce : Bytes) (s : State) :
    (State.openReply station mac key id nonce s).pending = s.pending := by
  simp [State.openReply]

@[simp] theorem State.openRefused_pending (station : Nat) (mac : Nat) (st : Status) (s : State) :
    (State.openRefused station mac st s).pending = s.pending := by
  simp [State.openRefused]

@[simp] theorem State.refuseOpen_pending (station : Nat) (mac : Nat) (st : Status) (s : State) :
    (State.refuseOpen station mac st s).pending = s.pending := by
  simp [State.refuseOpen]

@[simp] theorem State.openOmnar_pending (station : Nat) (mac : Nat) (key : Bytes) (nc : Bytes) (s : State) :
    (State.openOmnar station mac key nc s).pending = s.pending := by
  simp [State.openOmnar]

@[simp] theorem State.mgmtOpen_pending (station mac : Nat) (b : Bytes) (s : State) :
    (State.mgmtOpen station mac b s).pending = s.pending := by
  unfold State.mgmtOpen
  split
  · simp
  · split <;> simp

@[simp] theorem State.mgmtEntry_pending (x : OmnarSession) (e : Nat × Cmd) (s : State) : (State.mgmtEntry x e s).pending = s.pending := by
  simp [State.mgmtEntry]

@[simp] theorem State.mgmtCommands_pending (station : Nat) (mac : Nat) (b : Bytes) (s : State) :
    (State.mgmtCommands station mac b s).pending = s.pending := by
  unfold State.mgmtCommands
  split <;> simp

@[simp] theorem State.mgmtClose_pending (station : Nat) (mac : Nat) (b : Bytes) (s : State) :
    (State.mgmtClose station mac b s).pending = s.pending := by
  unfold State.mgmtClose
  split <;> simp

@[simp] theorem State.mgmtTake_pending (p : Nat → Bool) (f : Nat → Nat → Bytes → State → State)
    (hf : ∀ st mac b s, (f st mac b s).pending = s.pending) (s : State) : (State.mgmtTake p f s).pending = s.pending := by
  unfold State.mgmtTake
  split <;> simp [hf]

@[simp] theorem State.produce_pending (c : Nat) (s : State) : (State.produce c s).pending = s.pending := by
  simp [State.produce]

@[simp] theorem State.sendSlot_pending (s : State) : (State.sendSlot s).pending = s.pending := by
  simp [State.sendSlot]

@[simp] theorem State.netRealign_pending (s : State) : (State.netRealign s).pending = s.pending := by rfl

@[simp] theorem State.netStation_pending (s : State) : (State.netStation s).pending = s.pending := by
  simp [State.netStation]

@[simp] theorem State.netCycleStart_pending (s : State) : (State.netCycleStart s).pending = s.pending := by
  simp [State.netCycleStart]

@[simp] theorem State.police_pending (k : NetBucketKey) (rate : Nat) (burst : Nat) (cost : Nat) (src : Nat) (s : State) :
    (State.police k rate burst cost src s).2.pending = s.pending := by rfl

@[simp] theorem State.policeLocal_pending (k : Nat) (f : NetBody) (s : State) : (State.policeLocal k f s).2.pending = s.pending := by
  unfold State.policeLocal
  dsimp only
  repeat' split
  all_goals simp

@[simp] theorem State.connExpire_pending (id : Nat) (s : State) : (State.connExpire id s).pending = s.pending := by
  simp [State.connExpire]

@[simp] theorem State.connRestore_pending (id : Nat) (s : State) : (State.connRestore id s).pending = s.pending := by
  simp [State.connRestore]

@[simp] theorem State.safeReject_pending (id : Nat) (reason : Nat) (s : State) : (State.safeReject id reason s).pending = s.pending := by
  simp [State.safeReject]

@[simp] theorem State.safeMessage_pending (id : Nat) (m : Bytes) (s : State) : (State.safeMessage id m s).pending = s.pending := by
  unfold State.safeMessage
  dsimp only
  repeat' split
  all_goals simp

@[simp] theorem State.plainMessage_pending (id : Nat) (m : Bytes) (s : State) : (State.plainMessage id m s).pending = s.pending := by
  simp [State.plainMessage]

@[simp] theorem State.countCopy_pending (id : Nat) (k : Nat) (f : OmnarFrame) (accept : Bool) (s : State) :
    (State.countCopy id k f accept s).pending = s.pending := by rfl

@[simp] theorem State.connAccept_pending (id : Nat) (k : Nat) (f : OmnarFrame) (s : State) :
    (State.connAccept id k f s).pending = s.pending := by
  simp [State.connAccept]

@[simp] theorem State.connDecide_pending (id : Nat) (k : Nat) (f : OmnarFrame) (s : State) :
    (State.connDecide id k f s).pending = s.pending := by
  simp [State.connDecide]

@[simp] theorem State.netDrop_pending (k : Nat) (stage : Nat) (cls : Nat) (s : State) :
    (State.netDrop k stage cls s).pending = s.pending := by rfl

@[simp] theorem State.dupStation_pending (k : Nat) (f : OmnarFrame) (s : State) : (State.dupStation k f s).pending = s.pending := by
  simp [State.dupStation]

@[simp] theorem State.presenceIn_pending (k : Nat) (mac : Nat) (f : OmnarFrame) (s : State) :
    (State.presenceIn k mac f s).pending = s.pending := by
  simp [State.presenceIn]

@[simp] theorem State.netDeliver_pending (k : Nat) (f : NetFrame) (s : State) : (State.netDeliver k f s).pending = s.pending := by
  unfold State.netDeliver
  dsimp only
  repeat' split
  all_goals simp

@[simp] theorem State.policeForward_pending (k : Nat) (f : NetBody) (s : State) : (State.policeForward k f s).2.pending = s.pending := by
  unfold State.policeForward
  split <;> simp

@[simp] theorem State.netForward_pending (k : Nat) (f : NetFrame) (s : State) : (State.netForward k f s).pending = s.pending := by
  simp [State.netForward]

@[simp] theorem State.netReceive_pending (f : NetFrame) (s : State) : (State.netReceive f s).pending = s.pending := by
  simp [State.netReceive]

@[simp] theorem State.portFault_pending (k : Nat) (kind : Nat) (s : State) : (State.portFault k kind s).pending = s.pending := by
  simp [State.portFault]

@[simp] theorem State.portRetire_pending (k : Nat) (code : Nat) (last : Nat) (s : State) :
    (State.portRetire k code last s).pending = s.pending := by
  simp [State.portRetire]

@[simp] theorem State.linksRestart_pending (s : State) : (State.linksRestart s).pending = s.pending := by
  simp [State.linksRestart]

@[simp] theorem State.latchTakes_pending (i : Nat) (s : State) : (State.latchTakes i s).pending = s.pending := by
  simp [State.latchTakes]

@[simp] theorem State.forward_pending (bank : Tab Byte) (e : MapEntry) (s : State) : (State.forward bank e s).pending = s.pending := by
  unfold State.forward
  split <;> simp

@[simp] theorem State.commitConn_pending (m : List MapEntry) (bank : Tab Byte) (first : Bool) (c : Nat) (s : State) :
    (State.commitConn m bank first c s).pending = s.pending := by rfl

@[simp] theorem State.distribute_pending (i : Nat) (s : State) : (State.distribute i s).pending = s.pending := by
  simp [State.distribute]

@[simp] theorem State.forwardSafe_pending (e : MapEntry) (s : State) : (State.forwardSafe e s).pending = s.pending := by
  unfold State.forwardSafe
  split <;> simp

@[simp] theorem State.outputsSafe_pending (i : Nat) (s : State) : (State.outputsSafe i s).pending = s.pending := by
  simp [State.outputsSafe]

@[simp] theorem State.axesLost_pending (i : Nat) (s : State) : (State.axesLost i s).pending = s.pending := by
  simp [State.axesLost]

@[simp] theorem State.goneSafe_pending (e : MapEntry) (s : State) : (State.goneSafe e s).pending = s.pending := by
  simp [State.goneSafe]

@[simp] theorem State.rebank_pending (old : List MapEntry) (i : Nat) (s : State) : (State.rebank old i s).pending = s.pending := by rfl

@[simp] theorem State.remap_pending (old : List MapEntry) (i : Nat) (s : State) : (State.remap old i s).pending = s.pending := by
  simp [State.remap]

@[simp] theorem State.loopSetMode_pending (i : Nat) (mode : Nat) (s : State) : (State.loopSetMode i mode s).pending = s.pending := by
  simp [State.loopSetMode]

@[simp] theorem State.loopRequest_pending (i : Nat) (s : State) : (State.loopRequest i s).pending = s.pending := by
  simp [State.loopRequest]

@[simp] theorem State.loopPvBad_pending (i : Nat) (s : State) : (State.loopPvBad i s).pending = s.pending := by
  simp [State.loopPvBad]

@[simp] theorem State.loopCommit_pending (i : Nat) (s : State) : (State.loopCommit i s).pending = s.pending := by
  unfold State.loopCommit
  dsimp only
  repeat' split
  all_goals simp

@[simp] theorem State.loopSampleAt_pending (i lat : Nat) (s : State) : (State.loopSampleAt i lat s).pending = s.pending := by
  unfold State.loopSampleAt
  extract_lets r
  split
  split
  split
  extract_lets failed a y
  have ha : a.pending = s.pending := by simp [a, r]
  split
  next held b heq =>
    have hb : b.pending = a.pending := by
      split at heq
      · cases heq; rfl
      · split at heq <;> cases heq <;> simp
    extract_lets man latch mode c
    have hc : c.pending = b.pending := by simp [c]
    simp [hc, hb, ha]

@[simp] theorem State.loopMemory_pending (i : Nat) (s : State) : (State.loopMemory i s).pending = s.pending := by
  simp [State.loopMemory]

@[simp] theorem State.loopReleases_pending (i : Nat) (dest : Nat) (s : State) : (State.loopReleases i dest s).pending = s.pending := by
  unfold State.loopReleases
  split <;> simp

@[simp] theorem loopApply_pending (set : Cmd → List (Param × Nat)) (e : Entry) (s : State) :
    (loopApply set e s).after.pending = s.pending := by
  simp [loopApply]

@[simp] theorem loopGuarded_pending (chk : State → Cmd → Status) (f : Entry → State → Reply)
    (hf : ∀ e s, (f e s).after.pending = s.pending) (e : Entry) (s : State) : (loopGuarded chk f e s).after.pending = s.pending := by
  simp [loopGuarded, hf]

@[simp] theorem State.dropCycles_pending (s : State) : (State.dropCycles s).pending = s.pending := by
  simp [State.dropCycles]

@[simp] theorem State.axesFree_pending (s : State) : (State.axesFree s).pending = s.pending :=
  State.each_pending _ _ s fun _ _ => rfl

@[simp] theorem State.pairState_pending (st : PairState) (s : State) : (State.pairState st s).pending = s.pending := by
  unfold State.pairState
  split <;> simp

@[simp] theorem State.sigFresh_pending (s : State) : (State.sigFresh s).pending = s.pending := by rfl

@[simp] theorem State.switchOff_pending (s : State) : (State.switchOff s).pending = s.pending := by
  unfold State.switchOff
  dsimp only
  split <;> simp

@[simp] theorem State.enterSync_pending (s : State) : (State.enterSync s).pending = s.pending := by
  simp [State.enterSync]

@[simp] theorem State.activeAfresh_pending (s : State) : (State.activeAfresh s).pending = s.pending := by
  simp [State.activeAfresh]

@[simp] theorem State.forwardAll_pending (s : State) : (State.forwardAll s).pending = s.pending := by
  simp [State.forwardAll]

@[simp] theorem State.axDrives_pending (n : Nat) (s : State) : (State.axDrives n s).pending = s.pending := by rfl

@[simp] theorem State.axisOff_pending (n : Nat) (s : State) : (State.axisOff n s).pending = s.pending := by
  simp [State.axisOff]

@[simp] theorem State.axTakeover_pending (coordinated : Bool) (n : Nat) (s : State) :
    (State.axTakeover coordinated n s).pending = s.pending := by
  simp [State.axTakeover]

@[simp] theorem State.takeOver_pending (cause : Nat) (s : State) : (State.takeOver cause s).pending = s.pending := by
  simp [State.takeOver]

@[simp] theorem State.handOver_pending (e : Option Entry) (due : Nat) (cause : Nat) (s : State) :
    (State.handOver e due cause s).pending = s.pending := by rfl

@[simp] theorem State.yield_pending (next : Nat) (s : State) : (State.yield next s).pending = s.pending := by
  simp [State.yield]

@[simp] theorem State.confirmed_pending (s : State) : (State.confirmed s).pending = s.pending := by
  unfold State.confirmed
  dsimp only
  repeat' split
  all_goals simp

@[simp] theorem State.coreHandOver_pending (n : Nat) (passing : Option Nat) (s : State) :
    (State.coreHandOver n passing s).pending = s.pending := by
  simp [State.coreHandOver]

@[simp] theorem State.incompatible_pending (n : Nat) (s : State) : (State.incompatible n s).pending = s.pending := by
  simp [State.incompatible]

@[simp] theorem State.searchFinds_pending (p : PeerInfo) (s : State) : (State.searchFinds p s).pending = s.pending := by
  unfold State.searchFinds
  split <;> simp

@[simp] theorem State.searchTimeout_pending (s : State) : (State.searchTimeout s).pending = s.pending := by
  simp [State.searchTimeout]

@[simp] theorem State.hear_pending (p : PeerInfo) (s : State) : (State.hear p s).pending = s.pending := by
  simp [State.hear]

@[simp] theorem State.dualLink_pending (s : State) : (State.dualLink s).pending = s.pending := by
  simp [State.dualLink]

@[simp] theorem State.linkFrame_pending (s : State) : (State.linkFrame s).pending = s.pending := by
  simp [State.linkFrame]

@[simp] theorem State.heartbeat_pending (p : PeerInfo) (s : State) : (State.heartbeat p s).pending = s.pending := by
  unfold State.heartbeat
  dsimp only
  repeat' split
  all_goals simp

@[simp] theorem State.linkLost_pending (s : State) : (State.linkLost s).pending = s.pending := by
  unfold State.linkLost
  dsimp only
  repeat' split
  all_goals simp

@[simp] theorem State.presenceFrame_pending (port : Nat) (p : PeerInfo) (s : State) : (State.presenceFrame port p s).pending = s.pending := by
  unfold State.presenceFrame
  dsimp only
  repeat' split
  all_goals simp

@[simp] theorem State.partnerSilent_pending (s : State) : (State.partnerSilent s).pending = s.pending := by
  simp [State.partnerSilent]

@[simp] theorem State.stationIsolated_pending (s : State) : (State.stationIsolated s).pending = s.pending := by
  simp [State.stationIsolated]

@[simp] theorem State.outputSilent_pending (cls : Nat) (n : Nat) (s : State) : (State.outputSilent cls n s).pending = s.pending := by
  simp [State.outputSilent]

@[simp] theorem State.agreeSend_pending (i : Nat) (s : State) : (State.agreeSend i s).pending = s.pending := by
  simp [State.agreeSend]

@[simp] theorem State.taskRelease_pending (i : Nat) (s : State) : (State.taskRelease i s).pending = s.pending := by
  simp [State.taskRelease]

@[simp] theorem State.taskWalk_pending (i : Nat) (left : Option Nat) (s : State) : (State.taskWalk i left s).pending = s.pending := by
  simp [State.taskWalk]

@[simp] theorem State.recordOverrun_pending (i : Nat) (at0 : Nat) (s : State) : (State.recordOverrun i at0 s).pending = s.pending := by
  simp [State.recordOverrun]

@[simp] theorem State.taskStart_pending (i : Nat) (s : State) : (State.taskStart i s).pending = s.pending := by rfl

@[simp] theorem State.taskHalt_pending (i : Nat) (s : State) : (State.taskHalt i s).pending = s.pending := by
  simp [State.taskHalt]

@[simp] theorem State.taskStop_pending (i : Nat) (hold : Bool) (s : State) : (State.taskStop i hold s).pending = s.pending := by
  simp [State.taskStop]

@[simp] theorem State.retainTake_pending (p : VarDef → Bool) (s : State) : (State.retainTake p s).pending = s.pending := by rfl

@[simp] theorem State.taskCommit_pending (i : Nat) (exec : Nat) (ranges : List Nat) (s : State) :
    (State.taskCommit i exec ranges s).pending = s.pending := by
  simp [State.taskCommit]

@[simp] theorem State.taskHold_pending (i : Nat) (s : State) : (State.taskHold i s).pending = s.pending := by
  simp [State.taskHold]

@[simp] theorem State.coreMismatch_pending (i : Nat) (s : State) : (State.coreMismatch i s).pending = s.pending := by
  simp [State.coreMismatch]

@[simp] theorem State.taskStep_pending (j : Nat) (n : Nat) (s : State) : (State.taskStep j n s).pending = s.pending := by
  simp [State.taskStep]

@[simp] theorem State.execEnd_pending (i : Nat) (exec : Nat) (ranges : List Nat) (mism : Bool) (steps : List (Nat × Nat)) (s : State) :
    (State.execEnd i exec ranges mism steps s).pending = s.pending := by
  simp [State.execEnd]

@[simp] theorem State.taskDeadline_pending (i : Nat) (left : Nat) (s : State) : (State.taskDeadline i left s).pending = s.pending := by
  simp [State.taskDeadline]

@[simp] theorem State.taskAbandon_pending (i : Nat) (left : Nat) (s : State) : (State.taskAbandon i left s).pending = s.pending := by
  simp [State.taskAbandon]

@[simp] theorem State.triggerTask_pending (i : Nat) (s : State) : (State.triggerTask i s).pending = s.pending := by
  simp [State.triggerTask]

@[simp] theorem State.takeTrigger_pending (s : State) : (State.takeTrigger s).pending = s.pending := by
  unfold State.takeTrigger
  split <;> simp

@[simp] theorem State.migrate_pending (n : Nat) (m : Nat) (s : State) : (State.migrate n m s).pending = s.pending := by
  simp [State.migrate]

@[simp] theorem State.singleCore_pending (n : Nat) (core : Nat) (s : State) : (State.singleCore n core s).pending = s.pending := by
  simp [State.singleCore]

@[simp] theorem State.cpAnswer_pending (n : Nat) (st : Status) (result : Nat) (s : State) :
    (State.cpAnswer n st result s).pending = s.pending := by
  unfold State.cpAnswer
  split <;> simp

@[simp] theorem State.coreAfter_pending (n : Nat) (passing : Option Nat) (s : State) :
    (State.coreAfter n passing s).pending = s.pending := by
  unfold State.coreAfter
  split
  · simp
  · split <;> simp

@[simp] theorem State.coreMark_pending (n : Nat) (last : Nat) (s : State) : (State.coreMark n last s).pending = s.pending := by
  simp [State.coreMark]

@[simp] theorem State.coreRetire_pending (n : Nat) (last : Nat) (passing : Option Nat) (s : State) :
    (State.coreRetire n last passing s).pending = s.pending := by
  simp [State.coreRetire]

@[simp] theorem State.coreRetireAlone_pending (n : Nat) (last : Nat) (passing : Option Nat) (s : State) :
    (State.coreRetireAlone n last passing s).pending = s.pending := by
  simp [State.coreRetireAlone]

@[simp] theorem State.coreLate_pending (s : State) : (State.coreLate s).pending = s.pending := by
  simp [State.coreLate]

@[simp] theorem State.singleEnd_pending (n : Nat) (s : State) : (State.singleEnd n s).pending = s.pending := by
  simp [State.singleEnd]

@[simp] theorem State.cpTestEnd_pending (n : Nat) (bad0 : Bool) (bad1 : Bool) (s : State) :
    (State.cpTestEnd n bad0 bad1 s).pending = s.pending := by
  unfold State.cpTestEnd
  split <;> simp

@[simp] theorem State.cpTestDue_pending (n : Nat) (s : State) : (State.cpTestDue n s).pending = s.pending := by
  simp [State.cpTestDue]

@[simp] theorem State.cpSlice_pending (n : Nat) (bad0 : Bool) (bad1 : Bool) (s : State) :
    (State.cpSlice n bad0 bad1 s).pending = s.pending := by
  simp [State.cpSlice]

@[simp] theorem State.cpSkipped_pending (n : Nat) (s : State) : (State.cpSkipped n s).pending = s.pending := by
  unfold State.cpSkipped
  dsimp only
  split <;> simp

@[simp] theorem State.commitMissing_pending (i : Nat) (s : State) : (State.commitMissing i s).pending = s.pending := by
  simp [State.commitMissing]

@[simp] theorem State.withTask_pending (s : State) (c : Cmd) : (State.withTask s c).pending = s.pending := by
  simp [State.withTask]

@[simp] theorem State.logTask_pending (i : Nat) (r : Route) (new : State) (s : State) : (State.logTask i r new s).pending = s.pending := by
  simp [State.logTask]

@[simp] theorem taskConfigApply_pending (e : Entry) (s : State) : (taskConfigApply e s).after.pending = s.pending := by
  unfold taskConfigApply
  dsimp only
  split <;> simp

@[simp] theorem State.withImage_pending (s : State) (c : Cmd) : (State.withImage s c).pending = s.pending := by rfl

@[simp] theorem State.withSubst_pending (s : State) (c : Cmd) : (State.withSubst s c).pending = s.pending := by
  simp [State.withSubst]

@[simp] theorem State.forceDegrade_pending (s : State) : (State.forceDegrade s).pending = s.pending := by
  simp [State.forceDegrade]

@[simp] theorem State.forceStore_pending (v : VarDef) (x : Nat) (s : State) : (State.forceStore v x s).pending = s.pending := by
  simp [State.forceStore]

@[simp] theorem State.logForce_pending (r : Route) (id : Nat) (old : Bytes) (new : Bytes) (release : Bool) (s : State) :
    (State.logForce r id old new release s).pending = s.pending := by
  simp [State.logForce]

@[simp] theorem State.forceSet_pending (r : Route) (v : VarDef) (f : Force) (s : State) : (State.forceSet r v f s).pending = s.pending := by
  simp [State.forceSet]

@[simp] theorem State.forceDrop_pending (r : Route) (id : Nat) (expired : Bool) (s : State) :
    (State.forceDrop r id expired s).pending = s.pending := by
  unfold State.forceDrop
  split <;> simp

@[simp] theorem State.forceExpire_pending (id : Nat) (s : State) : (State.forceExpire id s).pending = s.pending := by
  unfold State.forceExpire
  split <;> simp

@[simp] theorem State.expireForces_pending (i : Nat) (s : State) : (State.expireForces i s).pending = s.pending := by
  simp [State.expireForces]

@[simp] theorem State.releaseTaskForces_pending (e : Entry) (i : Nat) (s : State) : (State.releaseTaskForces e i s).pending = s.pending := by
  simp [State.releaseTaskForces]

@[simp] theorem State.slotWrite_pending (k : Nat) (plen : Nat) (a : Nat) (b : Bytes) (s : State) :
    (State.slotWrite k plen a b s).pending = s.pending := by rfl

@[simp] theorem State.slotLoaded_pending (k : Nat) (s : State) : (State.slotLoaded k s).pending = s.pending := by rfl

@[simp] theorem State.slotReply_pending (e : Entry) (k : Nat) (s : State) : (State.slotReply e k s).pending = s.pending := by
  simp [State.slotReply]

@[simp] theorem State.progStream_pending (e : Entry) (a : Nat) (b : Bytes) (last : Bool) (s : State) :
    (State.progStream e a b last s).pending = s.pending := by
  simp [State.progStream]

@[simp] theorem State.withTables_pending (s : State) (p : ProgImage) : (State.withTables s p).pending = s.pending := by
  simp [State.withTables]

@[simp] theorem State.withProgram_pending (s : State) (p : ProgImage) : (State.withProgram s p).pending = s.pending := by
  simp [State.withProgram]

@[simp] theorem State.sendImage_pending (e : Entry) (s : State) : (State.sendImage e s).pending = s.pending := by rfl

@[simp] theorem State.answerCheck_pending (e : Entry) (s : State) : (State.answerCheck e s).pending = s.pending := by
  unfold State.answerCheck
  split <;> simp

@[simp] theorem State.stage_pending (p : ProgImage) (s : State) : (State.stage p s).pending = s.pending := by rfl

@[simp] theorem State.switchTask_pending (i : Nat) (s : State) : (State.switchTask i s).pending = s.pending := by
  unfold State.switchTask
  split <;> simp

@[simp] theorem State.beginExchange_pending (entry : Option Entry) (c : Cmd) (p : ProgImage) (dues : List (Nat × Nat)) (s : State) :
    (State.beginExchange entry c p dues s).pending = s.pending := by
  unfold State.beginExchange
  dsimp only
  rw [State.foldl_pending]
  · refine (State.stage_pending p _).trans ?_
    exact List.foldlRecOn (motive := fun t : State => t.pending = s.pending) _ _ rfl fun t ht i _ => by simp
  · intro s i
    split <;> simp

@[simp] theorem State.startExchange_pending (e : Entry) (p : ProgImage) (s : State) : (State.startExchange e p s).pending = s.pending := by
  unfold State.startExchange
  split
  · simp
  · simp only [State.beginExchange_pending]
    exact List.foldlRecOn (motive := fun x : State × List (Nat × Nat) => x.1.pending = s.pending) _ _ rfl
      fun x hx i _ => by simpa using hx

@[simp] theorem State.peerExchange_pending (c : Cmd) (dues : List (Nat × Nat)) (s : State) :
    (State.peerExchange c dues s).pending = s.pending := by
  unfold State.peerExchange
  split <;> simp

@[simp] theorem State.refuseExchange_pending (e : Entry) (st : Status) (chk : Nat) (i : Nat) (s : State) :
    (State.refuseExchange e st chk i s).pending = s.pending := by
  simp [State.refuseExchange]

@[simp] theorem State.imageSent_pending (same : Bool) (s : State) : (State.imageSent same s).pending = s.pending := by
  unfold State.imageSent
  dsimp only
  repeat' split
  all_goals simp

@[simp] theorem State.finishExchange_pending (s : State) : (State.finishExchange s).pending = s.pending := by
  unfold State.finishExchange
  dsimp only
  repeat' split
  all_goals simp

@[simp] theorem State.agreeEnd_pending (i : Nat) (peer : Option (List AgreeVal)) (s : State) :
    (State.agreeEnd i peer s).pending = s.pending := by
  unfold State.agreeEnd
  dsimp only
  repeat' split
  all_goals simp

@[simp] theorem State.signatureMismatch_pending (i : Nat) (s : State) : (State.signatureMismatch i s).pending = s.pending := by
  simp [State.signatureMismatch]

@[simp] theorem State.compareEnd_pending (i : Nat) (sig : Option Nat) (s : State) : (State.compareEnd i sig s).pending = s.pending := by
  unfold State.compareEnd
  dsimp only
  repeat' split
  all_goals simp

@[simp] theorem State.continues_pending (s : State) : (State.continues s).pending = s.pending := by
  simp [State.continues]

@[simp] theorem State.mismatchEnd_pending (part : Nat) (bad0 : Bool) (bad1 : Bool) (peerOk : Bool) (s : State) :
    (State.mismatchEnd part bad0 bad1 peerOk s).pending = s.pending := by
  unfold State.mismatchEnd
  dsimp only
  repeat' split
  all_goals simp

@[simp] theorem State.timeFrame_pending (v : Int) (s : State) : (State.timeFrame v s).pending = s.pending := by
  simp [State.timeFrame]

@[simp] theorem State.stateFrame_pending (m : StateMsg) (s : State) : (State.stateFrame m s).pending = s.pending := by
  unfold State.stateFrame
  dsimp only
  repeat' split
  all_goals simp

@[simp] theorem State.controlFrame_pending (specOf : Nat → Option CmdSpec)
    (hspec : ∀ op k, specOf op = some k → ∀ e s, (k.run e s).after.pending = s.pending) (m : CtlMsg) (s : State) : (State.controlFrame specOf m s).pending = s.pending := by
  unfold State.controlFrame
  dsimp only
  split
  · rfl
  · split
    next op c due =>
      split
      · simp
      · split
        next k hk =>
          split
          · simp
          next o ho =>
            have h := hspec _ k hk ⟨0, op, c⟩ s.linkFrame
            split
            next heq => simpa [heq] using h
            next heq => simpa [heq] using h
        · simp
    · split <;> simp
    · split <;> simp
    · simp
    · simp
    · split <;> simp
    · split
      · simp
      · rw [State.foldl_pending]
        · simp
        · simp
    · split
      · simp
      · split <;> simp

@[simp] theorem State.switchoverInstant_pending (s : State) : (State.switchoverInstant s).pending = s.pending := by
  unfold State.switchoverInstant
  split <;> simp

@[simp] theorem State.laneFailure_pending (k : Nat) (s : State) : (State.laneFailure k s).pending = s.pending := by
  simp [State.laneFailure]

@[simp] theorem State.laneRetry_pending (k : Nat) (ok : Bool) (s : State) : (State.laneRetry k ok s).pending = s.pending := by
  unfold State.laneRetry
  split <;> simp

@[simp] theorem State.hdetChange_pending (level : Bool) (s : State) : (State.hdetChange level s).pending = s.pending := by
  simp [State.hdetChange]

@[simp] theorem State.loopCopy_pending (l : LoopCopy) (s : State) : (State.loopCopy l s).pending = s.pending := by rfl

@[simp] theorem State.bulkItem_pending (m : BulkMsg) (s : State) : (State.bulkItem m s).pending = s.pending := by
  unfold State.bulkItem
  dsimp only
  repeat' split
  all_goals simp

@[simp] theorem State.bulkFrame_pending (m : BulkMsg) (s : State) : (State.bulkFrame m s).pending = s.pending := by
  unfold State.bulkFrame
  split <;> simp

@[simp] theorem State.passEnd_pending (dirty : Nat) (s : State) : (State.passEnd dirty s).pending = s.pending := by
  unfold State.passEnd
  dsimp only
  repeat' split
  all_goals simp

@[simp] theorem State.resyncJoin_pending (s : State) : (State.resyncJoin s).pending = s.pending := by
  simp [State.resyncJoin]

@[simp] theorem State.resyncSlow_pending (s : State) : (State.resyncSlow s).pending = s.pending := by
  simp [State.resyncSlow]

@[simp] theorem State.loopCheckPair_pending (l : List LoopCopy) (s : State) : (State.loopCheckPair l s).pending = s.pending := by
  simp [State.loopCheckPair]

@[simp] theorem State.postSwitch_pending (e : Entry) (s : State) : (State.postSwitch e s).pending = s.pending := by
  simp [State.postSwitch]

@[simp] theorem State.pairSwitchNow_pending (e : Entry) (s : State) : (State.pairSwitchNow e s).pending = s.pending := by
  unfold State.pairSwitchNow
  split <;> simp

@[simp] theorem State.commitRec_pending (s : State) : (State.commitRec s).pending = s.pending := by rfl

@[simp] theorem State.recClose_pending (codes : List Nat) (reason : Nat) (s : State) : (State.recClose codes reason s).pending = s.pending := by
  simp [State.recClose]

@[simp] theorem State.recPay_pending (code : Nat) (s : State) : (State.recPay code s).pending = s.pending := by
  simp [State.recPay]

@[simp] theorem State.eventLost1_pending (s : State) : (State.eventLost1 s).pending = s.pending := by rfl

@[simp] theorem State.offerHost_pending (e : Event) (n : Nat) (wf : Bool) (s : State) : (State.offerHost e n wf s).pending = s.pending := by
  simp [State.offerHost]

@[simp] theorem State.offerSessions_pending (e : Event) (n : Nat) (s : State) : (State.offerSessions e n s).pending = s.pending := by
  have h : ∀ (l : List OmnarSession) (b : Bytes), (l.foldl (fun s x => match State.omnarOf s x.id with
      | some y => s.sendOmnar y 0x03 1 b
      | none => s) s).pending = s.pending := fun l b => State.foldl_pending _ _ s fun s x => by split <;> simp
  unfold State.offerSessions
  dsimp only
  split
  · exact (State.sendIvpasto_pending _ _ _).trans (h _ _)
  · exact h _ _

@[simp] theorem State.recBind_pending (code : Nat) (s : State) : (State.recBind code s).1.pending = s.pending := by
  unfold State.recBind
  dsimp only
  repeat' split
  all_goals simp

@[simp] theorem State.recEnter_pending (e : Event) (wf : Bool) (mark : Bool) (s : State) :
    (State.recEnter e wf mark s).pending = s.pending := by
  simp [State.recEnter]

@[simp] theorem State.recTake_pending (f : Nat) (e : Event) (wf mark : Bool) (s : State) :
    (State.recTake f e wf mark s).pending = s.pending := by
  induction f generalizing e mark s with
  | zero => rfl
  | succ f ih =>
    have h := State.recBind_pending e.code.num s
    unfold State.recTake
    split
    next s' heq => simpa [heq] using h
    next s' v heq => simpa [heq, ih] using h

@[simp] theorem State.recMark_pending (wf : Bool) (s : State) : (State.recMark wf s).pending = s.pending := by
  simp [State.recMark]

@[simp] theorem State.recTakes_pending (e : Event) (wf : Bool) (s : State) : (State.recTakes e wf s).pending = s.pending := by
  simp [State.recTakes]

@[simp] theorem State.recDrain_pending (wf : Bool) (s : State) : (State.recDrain wf s).pending = s.pending := by
  unfold State.recDrain
  dsimp only
  repeat' split
  all_goals simp

@[simp] theorem State.recPeriodic_pending (s : State) : (State.recPeriodic s).pending = s.pending := by
  simp [State.recPeriodic]

@[simp] theorem State.rewriteStore_pending (a : Nat) (n : Nat) (s : State) : (State.rewriteStore a n s).pending = s.pending := by rfl

@[simp] theorem State.cycleLost_pending (i : Nat) (s : State) : (State.cycleLost i s).pending = s.pending := by
  simp [State.cycleLost]

@[simp] theorem State.clearImage_pending (i : Nat) (part : Nat) (off : Nat) (s : State) :
    (State.clearImage i part off s).pending = s.pending := by rfl

@[simp] theorem State.recommit_pending (k : Nat) (s : State) : (State.recommit k s).pending = s.pending := by rfl

@[simp] theorem State.memError_pending (b : Nat) (line : Nat) (user : MemUser) (s : State) :
    (State.memError b line user s).pending = s.pending := by
  unfold State.memError
  dsimp only
  repeat' split
  all_goals simp

@[simp] theorem State.marchEnd_pending (b : Nat) (ok : Bool) (s : State) : (State.marchEnd b ok s).pending = s.pending := by
  unfold State.marchEnd
  dsimp only
  split
  · rfl
  · split
    · simp
    · rw [State.foldl_pending]
      intro s x
      split
      · simp
      · split <;> simp

@[simp] theorem State.avoidBanks_pending (s : State) : (State.avoidBanks s).pending = s.pending := by rfl

@[simp] theorem State.memRetire_pending (b : Nat) (code : Nat) (s : State) : (State.memRetire b code s).pending = s.pending := by
  simp [State.memRetire]

@[simp] theorem State.cuRetired_pending (u : Nat) (code : Nat) (s : State) : (State.cuRetired u code s).pending = s.pending := by
  simp [State.cuRetired]

@[simp] theorem State.retire_pending (k : FaultKey) (code : Nat) (s : State) : (State.retire k code s).pending = s.pending := by
  unfold State.retire
  split
  · rfl
  · split <;> simp

@[simp] theorem State.faultDecide_pending (k : FaultKey) (e : Event) (s : State) : (State.faultDecide k e s).pending = s.pending := by
  unfold State.faultDecide
  dsimp only
  repeat' split
  all_goals simp

@[simp] theorem State.faultManager_pending (s : State) : (State.faultManager s).pending = s.pending := by
  unfold State.faultManager
  dsimp only
  repeat' split
  all_goals simp

@[simp] theorem State.reinstated_pending (k : FaultKey) (s : State) : (State.reinstated k s).pending = s.pending := by
  unfold State.reinstated
  split <;> simp

@[simp] theorem State.reinstateEnd_pending (k : FaultKey) (ok : Bool) (s : State) : (State.reinstateEnd k ok s).pending = s.pending := by
  unfold State.reinstateEnd
  split <;> simp

@[simp] theorem State.putPixels_pending (r : Region) (b : Bytes) (s : State) : (State.putPixels r b s).pending = s.pending := by rfl

@[simp] theorem State.panelTouch_pending (s : State) : (State.panelTouch s).pending = s.pending := by
  simp [State.panelTouch]

@[simp] theorem State.panelLow_pending (low : Bool) (s : State) : (State.panelLow low s).pending = s.pending := by
  simp [State.panelLow]

@[simp] theorem State.panelUpdated_pending (i : Nat) (s : State) : (State.panelUpdated i s).pending = s.pending := by
  simp [State.panelUpdated]

@[simp] theorem State.lcdFrame_pending (s : State) : (State.lcdFrame s).pending = s.pending := by rfl

@[simp] theorem State.waveStart_pending (temp : Int) (i : Nat) (s : State) : (State.waveStart temp i s).pending = s.pending := by
  unfold State.waveStart
  split <;> simp

@[simp] theorem State.paperFrame_pending (temp : Int) (s : State) : (State.paperFrame temp s).pending = s.pending := by
  simp [State.paperFrame]

@[simp] theorem State.stripRedraw_pending (s : State) : (State.stripRedraw s).pending = s.pending := by
  simp [State.stripRedraw]

@[simp] theorem State.panelFrame_pending (temp : Int) (s : State) : (State.panelFrame temp s).pending = s.pending := by
  simp [State.panelFrame]

@[simp] theorem State.panelClear_pending (cause : Nat) (l : List Entry) (s : State) : (State.panelClear cause l s).pending = s.pending := by
  simp [State.panelClear]

@[simp] theorem State.clearDone_pending (s : State) : (State.clearDone s).pending = s.pending := by
  unfold State.clearDone
  split <;> simp

@[simp] theorem State.waveEnd_pending (i : Nat) (s : State) : (State.waveEnd i s).pending = s.pending := by
  unfold State.waveEnd
  split <;> simp

@[simp] theorem State.panelCheck_pending (s : State) : (State.panelCheck s).pending = s.pending := by
  simp [State.panelCheck]

@[simp] theorem State.panelFirst_pending (s : State) : (State.panelFirst s).pending = s.pending := by
  simp [State.panelFirst]

@[simp] theorem State.panelReset_pending (s : State) : (State.panelReset s).pending = s.pending := by rfl

@[simp] theorem State.panelIdle_pending (s : State) : (State.panelIdle s).pending = s.pending := by
  simp [State.panelIdle]

@[simp] theorem State.panelStream_pending (e : Entry) (b : Bytes) (s : State) : (State.panelStream e b s).pending = s.pending := by
  unfold State.panelStream
  split <;> simp

@[simp] theorem State.putTable_pending (k : Nat) (b : Bytes) (s : State) : (State.putTable k b s).pending = s.pending := by rfl

@[simp] theorem State.wavesStream_pending (e : Entry) (b : Bytes) (s : State) : (State.wavesStream e b s).pending = s.pending := by
  simp [State.wavesStream]

@[simp] theorem State.staged_pending (t : Transfer) (s : State) : (State.staged t s).pending = s.pending := by
  simp [State.staged]

@[simp] theorem State.containerBytes_pending (b : Bytes) (s : State) : (State.containerBytes b s).pending = s.pending := by
  unfold State.containerBytes
  split <;> simp

@[simp] theorem State.hello_pending (b : Bytes) (s : State) : (State.hello b s).pending = s.pending := by
  simp [State.hello]

@[simp] theorem State.ivFinish_pending (s : State) : (State.ivFinish s).pending = s.pending := by rfl

@[simp] theorem State.ivCommands_pending (body : Bytes) (s : State) : (State.ivCommands body s).pending = s.pending := by
  simp [State.ivCommands]

@[simp] theorem State.ivRecord_pending (b : Bytes) (s : State) : (State.ivRecord b s).pending = s.pending := by
  unfold State.ivRecord
  split <;> simp

@[simp] theorem State.updCancel_pending (reason : Nat) (s : State) : (State.updCancel reason s).pending = s.pending := by rfl

@[simp] theorem State.setStream_pending (x : Stream) (s : State) : (State.setStream x s).pending = s.pending := by rfl

@[simp] theorem State.closeStreams_pending (id : Nat) (s : State) : (State.closeStreams id s).pending = s.pending := by rfl

@[simp] theorem State.abortStream_pending (x : Stream) (s : State) : (State.abortStream x s).pending = s.pending := by
  simp [State.abortStream]

@[simp] theorem State.abortRing_pending (k : Nat) (s : State) : (State.abortRing k s).pending = s.pending := by
  simp [State.abortRing]

@[simp] theorem State.ringEnable_pending (k : Nat) (on : Bool) (s : State) : (State.ringEnable k on s).pending = s.pending := by
  simp [State.ringEnable]

@[simp] theorem State.doorbell_pending (k : Nat) (v : Nat) (s : State) : (State.doorbell k v s).pending = s.pending := by
  simp [State.doorbell]

@[simp] theorem State.faultClear_pending (v : Nat) (s : State) : (State.faultClear v s).pending = s.pending := by
  simp [State.faultClear]

@[simp] theorem State.ringSetup_pending (k : Nat) (f : Nat) (v : Nat) (s : State) : (State.ringSetup k f v s).pending = s.pending := by
  simp [State.ringSetup]

@[simp] theorem State.coalesceCheck_pending (s : State) : (State.coalesceCheck s).pending = s.pending := by
  simp [State.coalesceCheck]

@[simp] theorem State.hostReg_pending (o : Nat) (v : Nat) (s : State) : (State.hostReg o v s).pending = s.pending := by
  unfold State.hostReg
  dsimp only
  repeat' split
  all_goals simp

@[simp] theorem State.windowWrite_pending (o : Nat) (v : Nat) (s : State) : (State.windowWrite o v s).pending = s.pending := by
  unfold State.windowWrite
  dsimp only
  repeat' split
  all_goals simp

@[simp] theorem State.sqFetch_pending (rd : Option Bytes) (block : Option Bytes) (wf : Bool) (s : State) :
    (State.sqFetch rd block wf s).pending = s.pending := by
  unfold State.sqFetch
  split <;> simp

@[simp] theorem State.coalesceTimeout_pending (s : State) : (State.coalesceTimeout s).pending = s.pending := by
  simp [State.coalesceTimeout]

@[simp] theorem State.bulkMark_pending (k : Nat) (used : Nat) (stream : Nat) (fin : Bool) (err : Bool) (wf : Bool) (s : State) :
    (State.bulkMark k used stream fin err wf s).pending = s.pending := by
  simp [State.bulkMark]

@[simp] theorem State.streamIn_pending (x : Stream) (b : Bytes) (fin : Bool) (s : State) :
    (State.streamIn x b fin s).pending = s.pending := by
  unfold State.streamIn
  split <;> simp

@[simp] theorem State.setReady_pending (s : State) : (State.setReady s).pending = s.pending := by
  simp [State.setReady]

@[simp] theorem State.clearReady_pending (s : State) : (State.clearReady s).pending = s.pending := by
  simp [State.clearReady]

@[simp] theorem State.perst_pending (s : State) : (State.perst s).pending = s.pending := by
  simp [State.perst]

@[simp] theorem State.retainLoad_pending (p : Tab Nat) (s : State) : (State.retainLoad p s).pending = s.pending :=
  State.foldl_pending _ _ s fun s id => by dsimp only; split <;> rfl

@[simp] theorem State.failBegin_pending (s : State) : (State.failBegin s).pending = s.pending := by rfl

@[simp] theorem State.failEnd_pending (s : State) : (State.failEnd s).pending = s.pending := by rfl

@[simp] theorem State.commitAnswer_pending (st : Status) (s : State) : (State.commitAnswer st s).pending = s.pending := by
  unfold State.commitAnswer
  split <;> simp

@[simp] theorem State.commitEnd_pending (k : Nat) (mism : Bool) (s : State) : (State.commitEnd k mism s).pending = s.pending := by
  unfold State.commitEnd
  dsimp only
  repeat' split
  all_goals simp

@[simp] theorem State.retainPeriodic_pending (s : State) : (State.retainPeriodic s).pending = s.pending := by
  simp [State.retainPeriodic]

@[simp] theorem State.heldReset_pending (cause : Nat) (s : State) : (State.heldReset cause s).pending = s.pending := by
  simp [State.heldReset]

@[simp] theorem State.departs_pending (s : State) : (State.departs s).pending = s.pending := by
  simp [State.departs]

@[simp] theorem State.axesOff_pending (s : State) : (State.axesOff s).pending = s.pending := by
  unfold State.axesOff
  split
  · exact State.each_pending _ _ s fun _ _ => rfl
  · rfl

@[simp] theorem State.moduleReset_pending (cause : Nat) (commit : Bool) (s : State) :
    (State.moduleReset cause commit s).pending = s.pending := by
  simp [State.moduleReset]

@[simp] theorem State.hardReset_pending (cause : Nat) (s : State) : (State.hardReset cause s).pending = s.pending := by
  simp [State.hardReset]

@[simp] theorem State.resetRegister_pending (v : Nat) (s : State) : (State.resetRegister v s).pending = s.pending := by
  simp [State.resetRegister]

@[simp] theorem State.registerWrite_pending (o : Nat) (v : Nat) (be : Nat) (s : State) : (State.registerWrite o v be s).pending = s.pending := by
  simp [State.registerWrite]

@[simp] theorem State.powerFail_pending (cycles : List (Nat × Nat)) (s : State) : (State.powerFail cycles s).pending = s.pending := by
  simp [State.powerFail]

@[simp] theorem State.mgmtReset_pending (cause : Nat) (s : State) : (State.mgmtReset cause s).pending = s.pending := by
  simp [State.mgmtReset]

@[simp] theorem State.beMissed_pending (s : State) : (State.beMissed s).pending = s.pending := by
  simp [State.beMissed]

@[simp] theorem State.lostMissed_pending (s : State) : (State.lostMissed s).pending = s.pending := by
  simp [State.lostMissed]

@[simp] theorem State.tellReset_pending (s : State) : (State.tellReset s).pending = s.pending := by rfl

@[simp] theorem State.vcoreUp_pending (s : State) : (State.vcoreUp s).pending = s.pending := by
  simp [State.vcoreUp]

@[simp] theorem State.vcoreDown_pending (s : State) : (State.vcoreDown s).pending = s.pending := by
  simp [State.vcoreDown]

@[simp] theorem State.supplyWarn_pending (k : Nat) (mv : Nat) (cell : Nat) (s : State) : (State.supplyWarn k mv cell s).pending = s.pending := by
  simp [State.supplyWarn]

@[simp] theorem State.buttonRelease_pending (ms : Nat) (s : State) : (State.buttonRelease ms s).pending = s.pending := by
  simp [State.buttonRelease]

@[simp] theorem State.tellSaved_pending (seq : Nat) (s : State) : (State.tellSaved seq s).pending = s.pending := by rfl

@[simp] theorem State.cfgInstall_pending (e : Entry) (f : Bytes) (s : State) : (State.cfgInstall e f s).pending = s.pending := by
  unfold State.cfgInstall
  split <;> simp

@[simp] theorem State.cfgStreamEnd_pending (e : Entry) (f : Bytes) (s : State) : (State.cfgStreamEnd e f s).pending = s.pending := by
  simp [State.cfgStreamEnd]

@[simp] theorem State.factorySections_pending (cred : Bool) (s : State) : (State.factorySections cred s).pending = s.pending := by rfl

@[simp] theorem State.bulkIn_pending (k : Nat) (rd : BulkRead) (wf : Bool) (s : State) : (State.bulkIn k rd wf s).pending = s.pending := by
  unfold State.bulkIn
  dsimp only
  repeat' split
  all_goals simp

theorem State.streamOut_pending (x : Stream) (len : Nat) (s : State) {y : Bytes × Bool × State} (h : State.streamOut x len s = some y) :
    y.2.2.pending = s.pending := by
  unfold State.streamOut at h
  dsimp only at h
  split at h
  · cases h; simp
  · split at h
    · cases h
    · split at h
      · cases h; simp
      · split at h <;> cases h; rfl
  · split at h
    · cases h; simp
    · split at h <;> cases h; rfl
  · cases h; simp

theorem State.outNext_pending (len : Nat) (l : List Stream) (s : State) {y : Stream × Bytes × Bool × State} (h : s.outNext len l = some y) :
    y.2.2.2.pending = s.pending := by
  induction l with
  | nil => cases h
  | cons x l ih =>
    unfold State.outNext at h
    split at h
    next b fin s' heq => cases h; exact State.streamOut_pending x len s heq
    · exact ih h

@[simp] theorem State.bulkOut_pending (k : Nat) (rd : BulkRead) (wf : Bool) (s : State) :
    (State.bulkOut k rd wf s).pending = s.pending := by
  unfold State.bulkOut
  dsimp only
  split
  · simp
  · split
    · simp
    · split
      · rfl
      next x b fin s' heq =>
        have h := State.outNext_pending _ _ s heq
        dsimp only at h
        simp [h]

@[simp] theorem State.bulkEntry_pending (k : Nat) (rd : Option BulkRead) (wf : Bool) (s : State) :
    (State.bulkEntry k rd wf s).pending = s.pending := by
  unfold State.bulkEntry
  split <;> simp

@[simp] theorem ownPosting_pending (o : Owner) (b : PostBody) (s : State) : (ownPosting o b s).pending = s.pending := by
  unfold ownPosting
  split <;> simp

end Sys2Proof.Machine
end

section
/-! PROOFS. No command of the dispatch table touches the queue: one lemma per row of the table, then one for the table. -/
namespace Sys2Proof.Machine

@[simp] theorem specAcConfigure_pending (e : Entry) (s : State) :
    (specAcConfigure.run e s).after.pending = s.pending := by simp [specAcConfigure]

@[simp] theorem specAcSetService_pending (e : Entry) (s : State) :
    (specAcSetService.run e s).after.pending = s.pending := by simp [specAcSetService]

@[simp] theorem specAcTestOutput_pending (e : Entry) (s : State) : (specAcTestOutput.run e s).after.pending = s.pending := by
  simp only [specAcTestOutput]
  refine guarded_pending _ _ (fun e s => ?_) e s
  rfl

@[simp] theorem specAcCalibrate_pending (e : Entry) (s : State) :
    (specAcCalibrate.run e s).after.pending = s.pending := by simp [specAcCalibrate]

@[simp] theorem specAcSelftest_pending (e : Entry) (s : State) :
    (specAcSelftest.run e s).after.pending = s.pending := by simp [specAcSelftest]

@[simp] theorem specAcStatus_pending (e : Entry) (s : State) : (specAcStatus.run e s).after.pending = s.pending := by simp [specAcStatus]

@[simp] theorem specAcHartConfig_pending (e : Entry) (s : State) :
    (specAcHartConfig.run e s).after.pending = s.pending := by simp [specAcHartConfig]

@[simp] theorem specAcHartPass_pending (e : Entry) (s : State) :
    (specAcHartPass.run e s).after.pending = s.pending := by simp [specAcHartPass]

@[simp] theorem specAcHartBurst_pending (e : Entry) (s : State) :
    (specAcHartBurst.run e s).after.pending = s.pending := by simp [specAcHartBurst]

@[simp] theorem specAxisConfigure_pending (e : Entry) (s : State) :
    (specAxisConfigure.run e s).after.pending = s.pending := by simp [specAxisConfigure]

@[simp] theorem specAxisMove_pending (e : Entry) (s : State) : (specAxisMove.run e s).after.pending = s.pending := by simp [specAxisMove]

@[simp] theorem specAxisStop_pending (e : Entry) (s : State) : (specAxisStop.run e s).after.pending = s.pending := by simp [specAxisStop]

@[simp] theorem specAxisHome_pending (e : Entry) (s : State) : (specAxisHome.run e s).after.pending = s.pending := by simp [specAxisHome]

@[simp] theorem specAxisPark_pending (e : Entry) (s : State) : (specAxisPark.run e s).after.pending = s.pending := by
  have h := State.axPark_pending e.cmd.tgtIndex (e.cmd.expert && e.cmd.field 16 1 == 1) .command s
  simp only [specAxisPark]
  split
  next s' heq => simpa [heq] using h
  · rfl

@[simp] theorem specAxisEnable_pending (e : Entry) (s : State) :
    (specAxisEnable.run e s).after.pending = s.pending := by simp [specAxisEnable]

@[simp] theorem specAxisSegLoad_pending (e : Entry) (s : State) :
    (specAxisSegLoad.run e s).after.pending = s.pending := by simp [specAxisSegLoad]

@[simp] theorem specAxisSegStart_pending (e : Entry) (s : State) :
    (specAxisSegStart.run e s).after.pending = s.pending := by simp [specAxisSegStart]

@[simp] theorem specAxisStatus_pending (e : Entry) (s : State) :
    (specAxisStatus.run e s).after.pending = s.pending := by simp [specAxisStatus]

@[simp] theorem specAxisTest_pending (e : Entry) (s : State) : (specAxisTest.run e s).after.pending = s.pending := by simp [specAxisTest]

@[simp] theorem specAxisSetHome_pending (e : Entry) (s : State) :
    (specAxisSetHome.run e s).after.pending = s.pending := by simp [specAxisSetHome]

@[simp] theorem specRtcRead_pending (e : Entry) (s : State) : (specRtcRead.run e s).after.pending = s.pending := by simp [specRtcRead]

@[simp] theorem specRtcSet_pending (e : Entry) (s : State) : (specRtcSet.run e s).after.pending = s.pending := by simp [specRtcSet]

@[simp] theorem specRtcTrim_pending (e : Entry) (s : State) : (specRtcTrim.run e s).after.pending = s.pending := by simp [specRtcTrim]

@[simp] theorem specRtcBeConfigure_pending (e : Entry) (s : State) :
    (specRtcBeConfigure.run e s).after.pending = s.pending := by simp [specRtcBeConfigure]

@[simp] theorem specRtcBeRead_pending (e : Entry) (s : State) : (specRtcBeRead.run e s).after.pending = s.pending := by simp [specRtcBeRead]

@[simp] theorem specRtcBeClear_pending (e : Entry) (s : State) :
    (specRtcBeClear.run e s).after.pending = s.pending := by simp [specRtcBeClear]

@[simp] theorem specRtcStatus_pending (e : Entry) (s : State) : (specRtcStatus.run e s).after.pending = s.pending := by simp [specRtcStatus]

@[simp] theorem specTimeRead_pending (e : Entry) (s : State) : (specTimeRead.run e s).after.pending = s.pending := by simp [specTimeRead]

@[simp] theorem specTimeConfigure_pending (e : Entry) (s : State) :
    (specTimeConfigure.run e s).after.pending = s.pending := by simp [specTimeConfigure]

@[simp] theorem specTimeRestep_pending (e : Entry) (s : State) :
    (specTimeRestep.run e s).after.pending = s.pending := by simp [specTimeRestep]

@[simp] theorem specTimeStatus_pending (e : Entry) (s : State) :
    (specTimeStatus.run e s).after.pending = s.pending := by simp [specTimeStatus]

@[simp] theorem specTimePgConfigure_pending (e : Entry) (s : State) :
    (specTimePgConfigure.run e s).after.pending = s.pending := by simp [specTimePgConfigure]

@[simp] theorem specTimePiConfigure_pending (e : Entry) (s : State) :
    (specTimePiConfigure.run e s).after.pending = s.pending := by simp [specTimePiConfigure]

@[simp] theorem specTimePiSetCount_pending (e : Entry) (s : State) : (specTimePiSetCount.run e s).after.pending = s.pending := by
  simp only [specTimePiSetCount]
  refine guarded_pending _ _ (fun e s => ?_) e s
  rfl

@[simp] theorem specCanConfigure_pending (e : Entry) (s : State) :
    (specCanConfigure.run e s).after.pending = s.pending := by simp [specCanConfigure]

@[simp] theorem specCanFilter_pending (e : Entry) (s : State) : (specCanFilter.run e s).after.pending = s.pending := by simp [specCanFilter]

@[simp] theorem specCanSend_pending (e : Entry) (s : State) : (specCanSend.run e s).after.pending = s.pending := by
  simp only [specCanSend]
  refine guarded_pending _ _ (fun e s => ?_) e s
  split <;> simp

@[simp] theorem specCanCancel_pending (e : Entry) (s : State) : (specCanCancel.run e s).after.pending = s.pending := by simp [specCanCancel]

@[simp] theorem specCanRecover_pending (e : Entry) (s : State) :
    (specCanRecover.run e s).after.pending = s.pending := by simp [specCanRecover]

@[simp] theorem specCanRead_pending (e : Entry) (s : State) : (specCanRead.run e s).after.pending = s.pending := by simp [specCanRead]

@[simp] theorem specCanStatus_pending (e : Entry) (s : State) : (specCanStatus.run e s).after.pending = s.pending := by simp [specCanStatus]

@[simp] theorem specCanSelftest_pending (e : Entry) (s : State) :
    (specCanSelftest.run e s).after.pending = s.pending := by simp [specCanSelftest]

@[simp] theorem specCuConfigure_pending (e : Entry) (s : State) :
    (specCuConfigure.run e s).after.pending = s.pending := by simp [specCuConfigure]

@[simp] theorem specCuReadValue_pending (e : Entry) (s : State) :
    (specCuReadValue.run e s).after.pending = s.pending := by simp [specCuReadValue]

@[simp] theorem specCuWriteValue_pending (e : Entry) (s : State) : (specCuWriteValue.run e s).after.pending = s.pending := by
  simp only [specCuWriteValue]
  refine guarded_pending _ _ (fun e s => ?_) e s
  rfl

@[simp] theorem specCuStatus_pending (e : Entry) (s : State) : (specCuStatus.run e s).after.pending = s.pending := by simp [specCuStatus]

@[simp] theorem specCuSelftest_pending (e : Entry) (s : State) :
    (specCuSelftest.run e s).after.pending = s.pending := by simp [specCuSelftest]

@[simp] theorem specDcConfigure_pending (e : Entry) (s : State) :
    (specDcConfigure.run e s).after.pending = s.pending := by simp [specDcConfigure]

@[simp] theorem specDcSetService_pending (e : Entry) (s : State) :
    (specDcSetService.run e s).after.pending = s.pending := by simp [specDcSetService]

@[simp] theorem specDcTestOutput_pending (e : Entry) (s : State) : (specDcTestOutput.run e s).after.pending = s.pending := by
  simp only [specDcTestOutput]
  refine guarded_pending _ _ (fun e s => ?_) e s
  rfl

@[simp] theorem specDcAck_pending (e : Entry) (s : State) : (specDcAck.run e s).after.pending = s.pending := by simp [specDcAck]

@[simp] theorem specDcSelftest_pending (e : Entry) (s : State) :
    (specDcSelftest.run e s).after.pending = s.pending := by simp [specDcSelftest]

@[simp] theorem specDcStatus_pending (e : Entry) (s : State) : (specDcStatus.run e s).after.pending = s.pending := by simp [specDcStatus]

@[simp] theorem specDcSetLegacy_pending (e : Entry) (s : State) :
    (specDcSetLegacy.run e s).after.pending = s.pending := by simp [specDcSetLegacy]

@[simp] theorem specSafeSessionOpen_pending (e : Entry) (s : State) :
    (specSafeSessionOpen.run e s).after.pending = s.pending := by simp [specSafeSessionOpen]

@[simp] theorem specSafeSessionClose_pending (e : Entry) (s : State) :
    (specSafeSessionClose.run e s).after.pending = s.pending := by simp [specSafeSessionClose]

@[simp] theorem specSafeSetPassword_pending (e : Entry) (s : State) : (specSafeSetPassword.run e s).after.pending = s.pending := by
  simp only [specSafeSetPassword]
  repeat' split
  all_goals simp

@[simp] theorem specSafeLogRead_pending (e : Entry) (s : State) :
    (specSafeLogRead.run e s).after.pending = s.pending := by simp [specSafeLogRead]

@[simp] theorem specSafeLogAck_pending (e : Entry) (s : State) :
    (specSafeLogAck.run e s).after.pending = s.pending := by simp [specSafeLogAck]

@[simp] theorem specSafeSoConfigure_pending (e : Entry) (s : State) :
    (specSafeSoConfigure.run e s).after.pending = s.pending := by simp [specSafeSoConfigure]

@[simp] theorem specSafeAck_pending (e : Entry) (s : State) : (specSafeAck.run e s).after.pending = s.pending := by
  simp only [specSafeAck]
  split
  · split
    · rfl
    · split
      · simp
      · split <;> simp
  · split
    · rfl
    · exact State.each_pending _ _ s fun _ _ => rfl

@[simp] theorem specSafeSoTest_pending (e : Entry) (s : State) :
    (specSafeSoTest.run e s).after.pending = s.pending := by simp [specSafeSoTest]

@[simp] theorem specSafeStatus_pending (e : Entry) (s : State) :
    (specSafeStatus.run e s).after.pending = s.pending := by simp [specSafeStatus]

@[simp] theorem specSafeBudgetReset_pending (e : Entry) (s : State) :
    (specSafeBudgetReset.run e s).after.pending = s.pending := by simp [specSafeBudgetReset]

@[simp] theorem specSafeAiPair_pending (e : Entry) (s : State) :
    (specSafeAiPair.run e s).after.pending = s.pending := by simp [specSafeAiPair]

@[simp] theorem specNetConfigure_pending (e : Entry) (s : State) :
    (specNetConfigure.run e s).after.pending = s.pending := by simp [specNetConfigure]

@[simp] theorem specNetSetStation_pending (e : Entry) (s : State) :
    (specNetSetStation.run e s).after.pending = s.pending := by simp [specNetSetStation]

@[simp] theorem specNetProduce_pending (e : Entry) (s : State) :
    (specNetProduce.run e s).after.pending = s.pending := by simp [specNetProduce]

@[simp] theorem specNetConsume_pending (e : Entry) (s : State) :
    (specNetConsume.run e s).after.pending = s.pending := by simp [specNetConsume]

@[simp] theorem specNetPort_pending (e : Entry) (s : State) : (specNetPort.run e s).after.pending = s.pending := by simp [specNetPort]

@[simp] theorem specNetStatus_pending (e : Entry) (s : State) : (specNetStatus.run e s).after.pending = s.pending := by simp [specNetStatus]

@[simp] theorem specNetConnStatus_pending (e : Entry) (s : State) :
    (specNetConnStatus.run e s).after.pending = s.pending := by simp [specNetConnStatus]

@[simp] theorem specSafeConn_pending (e : Entry) (s : State) : (specSafeConn.run e s).after.pending = s.pending := by simp [specSafeConn]

@[simp] theorem specLoopConfigure_pending (e : Entry) (s : State) :
    (specLoopConfigure.run e s).after.pending = s.pending := by simp [specLoopConfigure]

@[simp] theorem specLoopSetCoeff_pending (e : Entry) (s : State) :
    (specLoopSetCoeff.run e s).after.pending = s.pending := by simp [specLoopSetCoeff]

@[simp] theorem specLoopSetMode_pending (e : Entry) (s : State) :
    (specLoopSetMode.run e s).after.pending = s.pending := by simp [specLoopSetMode]

@[simp] theorem specLoopSetSp_pending (e : Entry) (s : State) : (specLoopSetSp.run e s).after.pending = s.pending := by simp [specLoopSetSp]

@[simp] theorem specLoopSetManual_pending (e : Entry) (s : State) :
    (specLoopSetManual.run e s).after.pending = s.pending := by simp [specLoopSetManual]

@[simp] theorem specLoopSetLimits_pending (e : Entry) (s : State) :
    (specLoopSetLimits.run e s).after.pending = s.pending := by simp [specLoopSetLimits]

@[simp] theorem specLoopStatus_pending (e : Entry) (s : State) :
    (specLoopStatus.run e s).after.pending = s.pending := by simp [specLoopStatus]

@[simp] theorem specTaskConfigure_pending (e : Entry) (s : State) :
    (specTaskConfigure.run e s).after.pending = s.pending := by simp [specTaskConfigure]

@[simp] theorem specTaskStart_pending (e : Entry) (s : State) : (specTaskStart.run e s).after.pending = s.pending := by simp [specTaskStart]

@[simp] theorem specTaskStop_pending (e : Entry) (s : State) : (specTaskStop.run e s).after.pending = s.pending := by simp [specTaskStop]

@[simp] theorem specTaskStatus_pending (e : Entry) (s : State) :
    (specTaskStatus.run e s).after.pending = s.pending := by simp [specTaskStatus]

@[simp] theorem specTaskSetImage_pending (e : Entry) (s : State) :
    (specTaskSetImage.run e s).after.pending = s.pending := by simp [specTaskSetImage]

@[simp] theorem specTaskSetSubstitute_pending (e : Entry) (s : State) : (specTaskSetSubstitute.run e s).after.pending = s.pending := by
  simp only [specTaskSetSubstitute]
  refine guarded_pending _ _ (fun e s => ?_) e s
  simp only [Reply.after_ok, State.commitConfig_pending, State.withSubst_pending]
  exact List.foldlRecOn (motive := fun t : State => t.pending = s.pending) _ _ rfl fun t ht i _ => by simp

@[simp] theorem specTaskSetPair_pending (e : Entry) (s : State) :
    (specTaskSetPair.run e s).after.pending = s.pending := by simp [specTaskSetPair]

@[simp] theorem specTaskSelftest_pending (e : Entry) (s : State) :
    (specTaskSelftest.run e s).after.pending = s.pending := by simp [specTaskSelftest]

@[simp] theorem specTaskBudget_pending (e : Entry) (s : State) :
    (specTaskBudget.run e s).after.pending = s.pending := by simp [specTaskBudget]

@[simp] theorem specVarForce_pending (e : Entry) (s : State) : (specVarForce.run e s).after.pending = s.pending := by
  simp only [specVarForce]
  refine guarded_pending _ _ (fun e s => ?_) e s
  split <;> simp

@[simp] theorem specVarRelease_pending (e : Entry) (s : State) :
    (specVarRelease.run e s).after.pending = s.pending := by simp [specVarRelease]

@[simp] theorem specVarReleaseAll_pending (e : Entry) (s : State) :
    (specVarReleaseAll.run e s).after.pending = s.pending := by simp [specVarReleaseAll]

@[simp] theorem specVarList_pending (e : Entry) (s : State) : (specVarList.run e s).after.pending = s.pending := by simp [specVarList]

@[simp] theorem specVarSetLimit_pending (e : Entry) (s : State) :
    (specVarSetLimit.run e s).after.pending = s.pending := by simp [specVarSetLimit]

@[simp] theorem specTaskProgLoad_pending (e : Entry) (s : State) :
    (specTaskProgLoad.run e s).after.pending = s.pending := by simp [specTaskProgLoad]

@[simp] theorem specTaskProgWrite_pending (e : Entry) (s : State) :
    (specTaskProgWrite.run e s).after.pending = s.pending := by simp [specTaskProgWrite]

@[simp] theorem specTaskProgErase_pending (e : Entry) (s : State) :
    (specTaskProgErase.run e s).after.pending = s.pending := by simp [specTaskProgErase]

@[simp] theorem specTaskProgStatus_pending (e : Entry) (s : State) :
    (specTaskProgStatus.run e s).after.pending = s.pending := by simp [specTaskProgStatus]

@[simp] theorem specTaskProgRead_pending (e : Entry) (s : State) :
    (specTaskProgRead.run e s).after.pending = s.pending := by simp [specTaskProgRead]

@[simp] theorem specTaskProgCheck_pending (e : Entry) (s : State) : (specTaskProgCheck.run e s).after.pending = s.pending := by
  simp only [specTaskProgCheck]
  split <;> simp

@[simp] theorem specTaskProgExchange_pending (e : Entry) (s : State) : (specTaskProgExchange.run e s).after.pending = s.pending := by
  simp only [specTaskProgExchange]
  repeat' split
  all_goals simp

@[simp] theorem specPairConfigure_pending (e : Entry) (s : State) :
    (specPairConfigure.run e s).after.pending = s.pending := by simp [specPairConfigure]

@[simp] theorem specPairSetAgree_pending (e : Entry) (s : State) :
    (specPairSetAgree.run e s).after.pending = s.pending := by simp [specPairSetAgree]

@[simp] theorem specPairSwitchover_pending (e : Entry) (s : State) :
    (specPairSwitchover.run e s).after.pending = s.pending := by simp [specPairSwitchover]

@[simp] theorem specPairJoin_pending (e : Entry) (s : State) : (specPairJoin.run e s).after.pending = s.pending := by simp [specPairJoin]

@[simp] theorem specPairLeave_pending (e : Entry) (s : State) : (specPairLeave.run e s).after.pending = s.pending := by simp [specPairLeave]

@[simp] theorem specPairStatus_pending (e : Entry) (s : State) :
    (specPairStatus.run e s).after.pending = s.pending := by simp [specPairStatus]

@[simp] theorem specPairLinkTest_pending (e : Entry) (s : State) :
    (specPairLinkTest.run e s).after.pending = s.pending := by simp [specPairLinkTest]

@[simp] theorem specRecRead_pending (e : Entry) (s : State) : (specRecRead.run e s).after.pending = s.pending := by simp [specRecRead]

@[simp] theorem specRecDump_pending (e : Entry) (s : State) : (specRecDump.run e s).after.pending = s.pending := by simp [specRecDump]

@[simp] theorem specRecSlots_pending (e : Entry) (s : State) : (specRecSlots.run e s).after.pending = s.pending := by simp [specRecSlots]

@[simp] theorem specRecClose_pending (e : Entry) (s : State) : (specRecClose.run e s).after.pending = s.pending := by simp [specRecClose]

@[simp] theorem specRecClear_pending (e : Entry) (s : State) : (specRecClear.run e s).after.pending = s.pending := by simp [specRecClear]

@[simp] theorem specRecSetCode_pending (e : Entry) (s : State) :
    (specRecSetCode.run e s).after.pending = s.pending := by simp [specRecSetCode]

@[simp] theorem specRecSetClose_pending (e : Entry) (s : State) :
    (specRecSetClose.run e s).after.pending = s.pending := by simp [specRecSetClose]

@[simp] theorem specRecStatus_pending (e : Entry) (s : State) : (specRecStatus.run e s).after.pending = s.pending := by simp [specRecStatus]

@[simp] theorem specRecCodes_pending (e : Entry) (s : State) : (specRecCodes.run e s).after.pending = s.pending := by simp [specRecCodes]

@[simp] theorem specFltReinstate_pending (e : Entry) (s : State) : (specFltReinstate.run e s).after.pending = s.pending := by
  simp only [specFltReinstate]
  refine guarded_pending _ _ (fun e s => ?_) e s
  split <;> simp

@[simp] theorem specFltSetPolicy_pending (e : Entry) (s : State) :
    (specFltSetPolicy.run e s).after.pending = s.pending := by simp [specFltSetPolicy]

@[simp] theorem specFltStatus_pending (e : Entry) (s : State) : (specFltStatus.run e s).after.pending = s.pending := by simp [specFltStatus]

@[simp] theorem specPanelConfigure_pending (e : Entry) (s : State) :
    (specPanelConfigure.run e s).after.pending = s.pending := by simp [specPanelConfigure]

@[simp] theorem specPanelRegion_pending (e : Entry) (s : State) :
    (specPanelRegion.run e s).after.pending = s.pending := by simp [specPanelRegion]

@[simp] theorem specPanelFrame_pending (e : Entry) (s : State) :
    (specPanelFrame.run e s).after.pending = s.pending := by simp [specPanelFrame]

@[simp] theorem specPanelPatch_pending (e : Entry) (s : State) : (specPanelPatch.run e s).after.pending = s.pending := by
  simp only [specPanelPatch]
  split <;> simp

@[simp] theorem specPanelLoadTable_pending (e : Entry) (s : State) :
    (specPanelLoadTable.run e s).after.pending = s.pending := by simp [specPanelLoadTable]

@[simp] theorem specPanelSetPower_pending (e : Entry) (s : State) :
    (specPanelSetPower.run e s).after.pending = s.pending := by simp [specPanelSetPower]

@[simp] theorem specPanelClear_pending (e : Entry) (s : State) :
    (specPanelClear.run e s).after.pending = s.pending := by simp [specPanelClear]

@[simp] theorem specPanelStatus_pending (e : Entry) (s : State) :
    (specPanelStatus.run e s).after.pending = s.pending := by simp [specPanelStatus]

@[simp] theorem specUpdStage_pending (e : Entry) (s : State) : (specUpdStage.run e s).after.pending = s.pending := by simp [specUpdStage]

@[simp] theorem specUpdList_pending (e : Entry) (s : State) : (specUpdList.run e s).after.pending = s.pending := by simp [specUpdList]

@[simp] theorem specUpdDiscard_pending (e : Entry) (s : State) :
    (specUpdDiscard.run e s).after.pending = s.pending := by simp [specUpdDiscard]

@[simp] theorem specUpdActivate_pending (e : Entry) (s : State) :
    (specUpdActivate.run e s).after.pending = s.pending := by simp [specUpdActivate]

@[simp] theorem specUpdCancel_pending (e : Entry) (s : State) : (specUpdCancel.run e s).after.pending = s.pending := by simp [specUpdCancel]

@[simp] theorem specUpdStatus_pending (e : Entry) (s : State) : (specUpdStatus.run e s).after.pending = s.pending := by simp [specUpdStatus]

@[simp] theorem specUpdSetService_pending (e : Entry) (s : State) :
    (specUpdSetService.run e s).after.pending = s.pending := by simp [specUpdSetService]

@[simp] theorem specModConfigSave_pending (e : Entry) (s : State) : (specModConfigSave.run e s).after.pending = s.pending := by
  simp only [specModConfigSave]
  repeat' split
  all_goals simp

@[simp] theorem specModConfigLoad_pending (e : Entry) (s : State) :
    (specModConfigLoad.run e s).after.pending = s.pending := by simp [specModConfigLoad]

@[simp] theorem specModReset_pending (e : Entry) (s : State) : (specModReset.run e s).after.pending = s.pending := by simp [specModReset]

@[simp] theorem specModCommit_pending (e : Entry) (s : State) : (specModCommit.run e s).after.pending = s.pending := by simp [specModCommit]

@[simp] theorem specModFactory_pending (e : Entry) (s : State) :
    (specModFactory.run e s).after.pending = s.pending := by simp [specModFactory]

@[simp] theorem specModPowerStatus_pending (e : Entry) (s : State) :
    (specModPowerStatus.run e s).after.pending = s.pending := by simp [specModPowerStatus]

@[simp] theorem specModSetPower_pending (e : Entry) (s : State) :
    (specModSetPower.run e s).after.pending = s.pending := by simp [specModSetPower]

@[simp] theorem specModIdentify_pending (e : Entry) (s : State) :
    (specModIdentify.run e s).after.pending = s.pending := by simp [specModIdentify]

@[simp] theorem specModNop_pending (e : Entry) (s : State) : (specModNop.run e s).after.pending = s.pending := by simp [specModNop]

@[simp] theorem specModAbort_pending (e : Entry) (s : State) : (specModAbort.run e s).after.pending = s.pending := by
  simp only [specModAbort]
  split <;> simp

@[simp] theorem specModSetEventFilter_pending (e : Entry) (s : State) : (specModSetEventFilter.run e s).after.pending = s.pending := by
  simp only [specModSetEventFilter]
  repeat' split
  all_goals simp

@[simp] theorem specModSessionClose_pending (e : Entry) (s : State) : (specModSessionClose.run e s).after.pending = s.pending := by
  simp only [specModSessionClose]
  split <;> simp

@[simp] theorem specModProvisionKey_pending (e : Entry) (s : State) :
    (specModProvisionKey.run e s).after.pending = s.pending := by simp [specModProvisionKey]
/-- A row of the dispatch table that leaves the queue of commands as it was. -/
def CmdSpec.KeepsQueue (k : CmdSpec) : Prop := ∀ e s, (k.run e s).after.pending = s.pending

theorem specMod_keepsQueue : ∀ k ∈ specMod, k.KeepsQueue := by
  simp [specMod, CmdSpec.KeepsQueue]

theorem specTask_keepsQueue : ∀ k ∈ specTask, k.KeepsQueue := by
  simp [specTask, CmdSpec.KeepsQueue]

theorem specProg_keepsQueue : ∀ k ∈ specProg, k.KeepsQueue := by
  simp [specProg, CmdSpec.KeepsQueue]

theorem specVar_keepsQueue : ∀ k ∈ specVar, k.KeepsQueue := by
  simp [specVar, CmdSpec.KeepsQueue]

theorem specAc_keepsQueue : ∀ k ∈ specAc, k.KeepsQueue := by
  simp [specAc, CmdSpec.KeepsQueue]

theorem specDc_keepsQueue : ∀ k ∈ specDc, k.KeepsQueue := by
  simp [specDc, CmdSpec.KeepsQueue]

theorem specSafe_keepsQueue : ∀ k ∈ specSafe, k.KeepsQueue := by
  simp [specSafe, CmdSpec.KeepsQueue]

theorem specLoop_keepsQueue : ∀ k ∈ specLoop, k.KeepsQueue := by
  simp [specLoop, CmdSpec.KeepsQueue]

theorem specAxis_keepsQueue : ∀ k ∈ specAxis, k.KeepsQueue := by
  simp [specAxis, CmdSpec.KeepsQueue]

theorem specPair_keepsQueue : ∀ k ∈ specPair, k.KeepsQueue := by
  simp [specPair, CmdSpec.KeepsQueue]

theorem specNet_keepsQueue : ∀ k ∈ specNet, k.KeepsQueue := by
  simp [specNet, CmdSpec.KeepsQueue]

theorem specTime_keepsQueue : ∀ k ∈ specTime, k.KeepsQueue := by
  simp [specTime, CmdSpec.KeepsQueue]

theorem specCan_keepsQueue : ∀ k ∈ specCan, k.KeepsQueue := by
  simp [specCan, CmdSpec.KeepsQueue]

theorem specCu_keepsQueue : ∀ k ∈ specCu, k.KeepsQueue := by
  simp [specCu, CmdSpec.KeepsQueue]

theorem specRtc_keepsQueue : ∀ k ∈ specRtc, k.KeepsQueue := by
  simp [specRtc, CmdSpec.KeepsQueue]

theorem specRec_keepsQueue : ∀ k ∈ specRec, k.KeepsQueue := by
  simp [specRec, CmdSpec.KeepsQueue]

theorem specUpd_keepsQueue : ∀ k ∈ specUpd, k.KeepsQueue := by
  simp [specUpd, CmdSpec.KeepsQueue]

theorem specPanel_keepsQueue : ∀ k ∈ specPanel, k.KeepsQueue := by
  simp [specPanel, CmdSpec.KeepsQueue]

theorem specFlt_keepsQueue : ∀ k ∈ specFlt, k.KeepsQueue := by
  simp [specFlt, CmdSpec.KeepsQueue]

theorem allSpecs_keepsQueue : ∀ k ∈ allSpecs, k.KeepsQueue := by
  simp only [allSpecs, List.forall_mem_append]
  exact ⟨⟨⟨⟨⟨⟨⟨⟨⟨⟨⟨⟨⟨⟨⟨⟨⟨⟨specMod_keepsQueue, specTask_keepsQueue⟩, specProg_keepsQueue⟩, specVar_keepsQueue⟩, specAc_keepsQueue⟩, specDc_keepsQueue⟩, specSafe_keepsQueue⟩, specLoop_keepsQueue⟩, specAxis_keepsQueue⟩, specPair_keepsQueue⟩, specNet_keepsQueue⟩, specTime_keepsQueue⟩, specCan_keepsQueue⟩, specCu_keepsQueue⟩, specRtc_keepsQueue⟩, specRec_keepsQueue⟩, specUpd_keepsQueue⟩, specPanel_keepsQueue⟩, specFlt_keepsQueue⟩

theorem specOf_keepsQueue (op : Nat) (k : CmdSpec) (h : specOf op = some k) (e : Entry) (s : State) :
    (k.run e s).after.pending = s.pending :=
  allSpecs_keepsQueue k (List.mem_of_find?_eq_some h) e s

end Sys2Proof.Machine
end

section
/-! PROOFS. The operations that use the dispatch table, and those of the module's start, leave the queue as it was. -/

namespace Sys2Proof.Machine

@[simp] theorem State.atBoundary_pending (o : Owner) (s : State) : (State.atBoundary o s).pending = s.pending :=
  State.boundary_pending specOf (ownPosting o) specOf_keepsQueue (ownPosting_pending o) o s

@[simp] theorem State.settle_pending (s : State) : (State.settle s).pending = s.pending := by
  simp [State.settle]

@[simp] theorem State.cycleEnd_pending (i : Nat) (f : State → State) (hf : ∀ s, (f s).pending = s.pending) (s : State) :
    (State.cycleEnd i f s).pending = s.pending := by
  simp [State.cycleEnd, hf]

@[simp] theorem State.frameBoundary_pending (o : Owner) (s : State) : (State.frameBoundary o s).pending = s.pending := by
  simp [State.frameBoundary]

@[simp] theorem State.dispatchEntry_pending (e : Entry) (s : State) : (State.dispatchEntry e s).pending = s.pending := by
  unfold State.dispatchEntry
  dsimp only
  split
  next k hk => simp [CmdSpec.dispatch_pending k e _ (specOf_keepsQueue _ k hk)]
  · simp

@[simp] theorem State.install_pending (b : BootRecord) (s : State) : (State.install b s).pending = s.pending := by rfl

@[simp] theorem State.trial_pending (b : BootRecord) (s : State) : (State.trial b s).1.pending = s.pending := by
  unfold State.trial
  split <;> simp

@[simp] theorem State.activation_pending (cut : Nat) (s : State) : (State.activation cut s).1.pending = s.pending := by
  unfold State.activation
  dsimp only
  repeat' split
  all_goals simp

@[simp] theorem State.bootSlot_pending (bad : List Nat) (x : State × BootFound) : (State.bootSlot bad x).1.pending = x.1.pending := by
  simp only [State.bootSlot, apply_ite Prod.fst, State.pending_ite, ite_self]

@[simp] theorem State.spoil_pending (bad : List (Nat × Bool)) (s : State) : (State.spoil bad s).pending = s.pending := by rfl

@[simp] theorem State.restore_pending (bad : Option Nat) (had : Option HeaderData) (s : State) :
    (State.restore bad had s).pending = s.pending := by rfl

@[simp] theorem State.cuReplay_pending (k : FaultKey) (s : State) : (State.cuReplay k s).pending = s.pending := by
  unfold State.cuReplay
  dsimp only
  repeat' split
  all_goals simp

@[simp] theorem State.retiredStart_pending (s : State) : (State.retiredStart s).pending = s.pending :=
  State.foldl_pending _ _ s fun s r => by split <;> simp

@[simp] theorem State.canStart_pending (n : Nat) (s : State) : (State.canStart n s).pending = s.pending := by
  simp [State.canStart]

@[simp] theorem State.loopStart_pending (i : Nat) (s : State) : (State.loopStart i s).pending = s.pending := by
  simp [State.loopStart]

@[simp] theorem State.taskResume_pending (i : Nat) (s : State) : (State.taskResume i s).pending = s.pending := by
  simp [State.taskResume]

@[simp] theorem State.fieldStart_pending (s : State) : (State.fieldStart s).pending = s.pending := by
  simp [State.fieldStart]

@[simp] theorem State.pairStart_pending (s : State) : (State.pairStart s).pending = s.pending := by
  simp [State.pairStart]

@[simp] theorem State.netStart_pending (s : State) : (State.netStart s).pending = s.pending := by
  simp [State.netStart]

@[simp] theorem State.storeStart_pending (s : State) : (State.storeStart s).pending = s.pending := by
  unfold State.storeStart
  dsimp only
  split <;> simp

@[simp] theorem State.rtcRebase_pending (gap : Nat) (s : State) : (State.rtcRebase gap s).pending = s.pending := by rfl

@[simp] theorem State.suppliesTold_pending (s : State) : (State.suppliesTold s).pending = s.pending := by
  simp [State.suppliesTold]

@[simp] theorem State.startEvents_pending (f : BootFound) (invalid : Option Nat) (lost : Bool) (s : State) :
    (State.startEvents f invalid lost s).pending = s.pending := by
  unfold State.startEvents
  dsimp only
  repeat' split
  all_goals simp

@[simp] theorem State.startRun_pending (t : Nat) (f : BootFound) (idMem : Option Bytes) (invalid : Option Nat) (had : Option HeaderData) (s : State) : (State.startRun t f idMem invalid had s).pending = s.pending := by
  simp [State.startRun]

@[simp] theorem State.stepSix_pending (s : State) : (State.stepSix s).pending = s.pending := by rfl

@[simp] theorem State.startCut_pending (t : Nat) (cause : Option Nat) (s : State) : (State.startCut t cause s).pending = s.pending := by rfl

@[simp] theorem State.headerBegun_pending (h : HeaderData) (s : State) : (State.headerBegun h s).pending = s.pending := by rfl

@[simp] theorem State.moduleStart_pending (t gap : Nat) (bad : List Nat) (crc : List (Nat × Bool)) (idMem : Option Bytes)
    (cut : Option (Nat × Option Nat)) (s : State) : (State.moduleStart t gap bad crc idMem cut s).pending = s.pending := by
  unfold State.moduleStart
  split
  · rfl
  · cases cut <;> simp

@[simp] theorem State.activationInstant_pending (s : State) : (State.activationInstant s).pending = s.pending := by
  simp [State.activationInstant]

@[simp] theorem State.trialConfirm_pending (s : State) : (State.trialConfirm s).pending = s.pending := by
  simp [State.trialConfirm]

@[simp] theorem State.withFetchWord_pending (s : State) (nbits : Nat) (w : Nat) : (State.withFetchWord s nbits w).pending = s.pending := by rfl

@[simp] theorem State.arrived_pending (op : Nat) (t : Nat) (c : Cmd) (s : State) : (State.arrived op t c s).pending = s.pending := by
  simp [State.arrived]

end Sys2Proof.Machine
end

section
/-! PROOFS. Every command leaves the queue as it finds it, so a step takes the front command out and puts none in. -/

namespace Sys2Proof.Machine

/-- The outcome, where it is a next state, has the queue of the state before. -/
def KeepsQueue (s : State) : Host.Outcome State Fault Refusal → Prop
  | .next u => u.pending = s.pending
  | _ => True

theorem keepsQueue_next {s u : State} (h : u.pending = s.pending) : KeepsQueue s (.next u) := h

theorem keepsQueue_below {n k : Nat} {s u : State} (h : u.pending = s.pending) :
    KeepsQueue s (if n < k then .next u else .fault .noSuchResource) := by
  split <;> trivial

theorem keepsQueue_switch {n sw : Nat} {s u : State} (h : u.pending = s.pending) :
    KeepsQueue s (if n < 8 ∧ sw < 2 then .next u else .fault .noSuchResource) := by
  split <;> trivial

theorem keepsQueue_ptpBase {b : Nat} {s u : State} (h : u.pending = s.pending) :
    KeepsQueue s (if b = 1 ∨ b = 2 then .next u else .fault .noSuchResource) := by
  split <;> trivial

/-- A bound that is checked first. -/
theorem keepsQueue_unless {p : Prop} [Decidable p] {s u : State} (h : u.pending = s.pending) :
    KeepsQueue s (if p then .fault .noSuchResource else .next u) := by
  split <;> trivial

theorem execSvOvertemp_keepsQueue (t : Nat) (temp : Int) (s : State) : KeepsQueue s (execSvOvertemp t temp s) := by
  unfold execSvOvertemp
  dsimp only
  split
  · exact keepsQueue_next (by simp)
  · split <;> exact keepsQueue_next (by simp)

theorem execSvSelftestFail_keepsQueue (t test : Nat) (s : State) : KeepsQueue s (execSvSelftestFail t test s) := by
  unfold execSvSelftestFail
  dsimp only
  split <;> exact keepsQueue_next (by simp)

theorem execCouplerFrameOut_keepsQueue (t : Nat) (p : FrameOut) (s : State) : KeepsQueue s (execCouplerFrameOut t p s) := by
  refine keepsQueue_unless ?_
  split
  · simp
  · split <;> simp

theorem execCouplerFrameIn_keepsQueue (t : Nat) (f : FieldFrame) (bad : Bool) (s : State) : KeepsQueue s (execCouplerFrameIn t f bad s) := by
  refine keepsQueue_unless ?_
  split
  · simp
  · split <;> simp

theorem execExecutionEnd_keepsQueue (t i : Nat) (run : ExecRun) (ranges : List Nat) (mism : Bool) (s : State) :
    KeepsQueue s (execExecutionEnd t i run ranges mism s) :=
  keepsQueue_below (by simp)

theorem execControlFrame_keepsQueue (t : Nat) (m : CtlMsg) (s : State) : KeepsQueue s (execControlFrame t m s) :=
  keepsQueue_next ((State.controlFrame_pending specOf specOf_keepsQueue m _).trans (State.advance_pending t s))

theorem execAxisSegStartTime_keepsQueue (t n : Nat) (s : State) : KeepsQueue s (execAxisSegStartTime t n s) := by
  refine keepsQueue_below ?_
  have h := State.segStart_pending n .command (s.advance t)
  dsimp only
  split
  · simp
  · split
    · simp
    · split
      next s' heq => simpa [heq] using h
      · simp

/-- What HART_POLL_STALE does on the state of its instant: three poll intervals without a good reply make the variables stale. -/
def State.hartStale (n : Nat) (s : State) : State :=
  let h := (s.acOf n).hart
  if h.lastGood + 3 * s.param .hartPollMs n * 1000000 ≤ s.tb0 then s.setHart n { h with varsGood := false } else s

theorem execHartPollStale_eq (t n : Nat) (s : State) : execHartPollStale t n s = onResource n 32 s (fun s => State.hartStale n (s.advance t)) := rfl

theorem State.hartStale_pending (n : Nat) (s : State) : (State.hartStale n s).pending = s.pending := by
  unfold State.hartStale
  extract_lets h
  by_cases hc : h.lastGood + 3 * s.param .hartPollMs n * 1000000 ≤ s.tb0
  · rw [if_pos hc]
    rfl
  · rw [if_neg hc]

theorem execHartPollStale_keepsQueue (t n : Nat) (s : State) : KeepsQueue s (execHartPollStale t n s) := by
  rw [execHartPollStale_eq]
  unfold onResource
  beta_reduce
  exact keepsQueue_below ((State.hartStale_pending n _).trans (State.advance_pending t s))

/-- Every row keeps the queue: a row with more than one outcome, or whose effect branches on what it finds, by its branches. -/
theorem exec_keepsQueue (i : Instr) (s : State) : KeepsQueue s (exec i s) := by
  cases i
  case axisSegStartTime => exact execAxisSegStartTime_keepsQueue ..
  case controlFrame => exact execControlFrame_keepsQueue ..
  case couplerFrameIn => exact execCouplerFrameIn_keepsQueue ..
  case couplerFrameOut => exact execCouplerFrameOut_keepsQueue ..
  case executionEnd => exact execExecutionEnd_keepsQueue ..
  case hartPollStale => exact execHartPollStale_keepsQueue ..
  case svOvertemp => exact execSvOvertemp_keepsQueue ..
  case svSelftestFail => exact execSvSelftestFail_keepsQueue ..
  case soTestDue | soTestEnd | soTestRetry | soTestOverdue | soTestRepeat => exact keepsQueue_switch (by simp)
  case ptpAnnounceTimeout | holdoverExpiry | ptpSyncSend | ptpAnnounceSend | ptpDelayReqSend => exact keepsQueue_ptpBase (by simp)
  case connWatchdogExpiry | netPathSingle => exact keepsQueue_unless (by simp)
  case logicSupplyFail | pllLockTimeout | dcInputSelftest =>
    refine keepsQueue_below ?_
    dsimp only
    repeat' split
    all_goals simp
  case rtcHalt | calSubsecRead =>
    refine keepsQueue_next ?_
    dsimp only
    repeat' split
    all_goals simp
  case rtcHaltRelease | calDateRead | baseplateHot =>
    refine keepsQueue_next ?_
    repeat' split
    all_goals simp
  case
    commandDispatch | mgmtSessionIdle | ivpastoIdleTimeout | powerFailCommitEnd | forceExpiry | pairPresenceFrame |
    stationPresenceSend | supervisionSend | netStorm | ptpMessageReceived | tb3RtcWrite | rtcHaltTimeout | freezeTimeout |
    rtcTempMeasure | perstRelease | managementResetEnd =>
    refine keepsQueue_next ?_
    split <;> simp
  case
    bulkEn | bulkEntry | supplyWarning | pairSelftestEnd | pairSelftestDue | selftestSlice | selftestSkipped | hartTransactionEnd |
    hartModemLoopback | soOverload | soOvertemp | soSilenceTrip | ettLightPulse | soOpenCheck | degradedBudgetExpiry | pgFire |
    pgPulseEnd | cuPeriodicSelftest | cuSelftestRetry | burstDwellEnd | beStampLoRead | axisProfileUpdate | axisStall | axisHoldDelay
    | axisParkDelay | axisSilence | axisBridgeFault | axisThermal | axisFaultRetry | axisOpenPhase | axisChopperChange | piEdge |
    canFrameTransmitted | canArbitrationLost | canBusError | canIntegrationEnd | canRecoveryEnd | canReferenceDue | canReferenceLost |
    canSkipperResume | canDominantTimeout | beEdge | canTransceiverRetest | logicSupplyRecovery | fdSag | fdUndervoltage | fdRecovery
    | laneFailure | laneRetry | netLinkChange | portSelftest | portRetrain | railBrownOut | cocoonCommitEnd | taskRelease |
    taskDeadline | taskAbandon | safetyCommitMissing | aiPairDiscrepancy | agreeWindowEnd | compareWindowEnd | loopSample |
    acModeSwitchEnd | acSilenceTimeout | acDiagnostic | acThermal | acThermalRecovery | acReferenceCheck | acReadbackRecheck |
    acCalibrationEnd | hartPollDue | hartBurstFrame | dcModeSwitchEnd | dcLevelAccepted | dcSilenceTimeout | dcOverload | dcOlRetry |
    dcThermal | dcThermalRecovery | dcDiagnostic | dcSwitchRetest | dcDiscrepancy | acIsolatedSample | dcDiagnosticCheck |
    pairSilenceTimeout | memoryEccError | memoryEccCorrected | memoryMarchTestEnd | dbBulkTail | beClearBit | canFrameReceived |
    networkFrameReceived => exact keepsQueue_below (by simp)
  all_goals exact keepsQueue_next (by simp)

/-- A step runs the front command on the rest of the queue, and that command keeps the rest. -/
theorem step_pending {s u : State} (h : step s = .next u) : u.pending = s.pending.tail := by
  unfold step at h
  split at h
  next hnil =>
    cases h
    simp [hnil]
  next c r hcons =>
    have hkeep := exec_keepsQueue c { s with pending := r }
    rw [h] at hkeep
    exact hkeep.trans (congrArg List.tail hcons).symm

/-- The rest of a queue of well-formed commands is one. -/
theorem queueWf_tail {s u : State} (hwf : s.queueWf = true) (h : u.pending = s.pending.tail) : u.queueWf = true := by
  unfold State.queueWf at hwf ⊢
  rw [h]
  rw [List.all_eq_true] at hwf ⊢
  exact fun i hi => hwf i (List.mem_of_mem_tail hi)

/-- A queue of well-formed commands steps: its front command goes on whatever the state. -/
theorem step_next_of_queueWf {s : State} (hwf : s.queueWf = true) : ∃ u, step s = .next u := by
  unfold step
  split
  · exact ⟨s, rfl⟩
  next c r hcons =>
    have hc : c.wf = true := List.all_eq_true.1 hwf c (by simp [hcons])
    rcases exec_settles c { s with pending := r } with hnext | ⟨-, hill⟩
    · exact hnext
    · exact Bool.noConfusion (hc.symm.trans hill)

end Sys2Proof.Machine

open Sys2Proof Sys2Proof.Machine

/-- Settles O3: every command keeps the queue that it finds, so a step leaves the queue's rest, which is well-formed where the queue was. -/
theorem wellFormedQueuesRunOn : Obligations.WellFormedQueuesRunOn :=
  ⟨fun _ _ h => step_pending h, fun _ _ hwf h => queueWf_tail hwf (step_pending h), fun _ hwf => step_next_of_queueWf hwf⟩
end
